-- ==== Sys2Proof/Word.lean ====
section
/-!
DEFINITION. The word types of the device: every register is 32 bits wide (R5), memory is addressed in bytes.
-/
namespace Sys2Proof

/-- One register word (R5). -/
abbrev Word := BitVec 32

/-- One byte of memory, of a packet or of a record. -/
abbrev Byte := BitVec 8

end Sys2Proof
end

