-- ==== Sys2Proof/Machine/Store.lean ====
section
/-!
DEFINITION. Sparse stores: a list of (key, value) pairs with strictly rising keys. Used for register words,
counters, per-unit records and, with bytes, for the memories (DRAM, basin, flash).
-/
namespace Sys2Proof.Machine

/-- A sparse store: keys strictly rising; what an unlisted key holds is the reader's default. -/
abbrev SMap (α : Type) := List (Nat × α)

/-- The value listed at `k`, if any. -/
def SMap.find {α : Type} : SMap α → Nat → Option α
  | [], _ => none
  | (j, a) :: m, k => if k = j then some a else if k < j then none else SMap.find m k

/-- The store with `a` listed at `k`. -/
def SMap.insert {α : Type} : SMap α → Nat → α → SMap α
  | [], k, a => [(k, a)]
  | (j, b) :: m, k, a =>
    if k = j then (k, a) :: m else if k < j then (k, a) :: (j, b) :: m else (j, b) :: SMap.insert m k a

/-- The store with nothing listed at `k`. -/
def SMap.erase {α : Type} : SMap α → Nat → SMap α
  | [], _ => []
  | (j, b) :: m, k => if k = j then m else if k < j then (j, b) :: m else (j, b) :: SMap.erase m k

/-- The value at `k`, where an unlisted key holds `d`. -/
def SMap.get {α : Type} (d : α) (m : SMap α) (k : Nat) : α := (m.find k).getD d

/-- The store with `a` at `k`, where an unlisted key holds `d`: writing `d` removes the entry. -/
def SMap.put {α : Type} [DecidableEq α] (d : α) (m : SMap α) (k : Nat) (a : α) : SMap α :=
  if a = d then m.erase k else m.insert k a

/-- The store with the value at `k` changed by `f`. -/
def SMap.upd {α : Type} [DecidableEq α] (d : α) (m : SMap α) (k : Nat) (f : α → α) : SMap α :=
  m.put d k (f (m.get d k))

/-- All keys of `m` are above `lo`, strictly rising, and no listed value is `d`. -/
def SMap.wfFrom {α : Type} [DecidableEq α] (d : α) : Option Nat → SMap α → Bool
  | _, [] => true
  | lo, (j, a) :: m => (match lo with | none => true | some l => decide (l < j)) && decide (a ≠ d) && SMap.wfFrom d (some j) m

/-- The canonical form: keys strictly rising, and no entry equal to what an unlisted key holds. -/
def SMap.wf {α : Type} [DecidableEq α] (d : α) (m : SMap α) : Bool := SMap.wfFrom d none m

/-! ### Byte memories -/

/-- A byte memory: the canonical list of (address, byte) pairs. -/
abbrev Memory := List Host.Cell

/-- The byte at `a` of a memory whose unlisted bytes read `d`. -/
def Memory.byte (d : Byte) (m : Memory) (a : Nat) : Byte := SMap.get d m a

/-- The memory with byte `b` at `a`. -/
def Memory.setByte (d : Byte) (m : Memory) (a : Nat) (b : Byte) : Memory := SMap.put d m a b

/-- The memory with the bytes `bs` stored from `a` up. -/
def Memory.store (d : Byte) : Memory → Nat → List Byte → Memory
  | m, _, [] => m
  | m, a, b :: bs => Memory.store d (m.setByte d a b) (a + 1) bs

/-- The `n` bytes from `a` up. -/
def Memory.load (d : Byte) (m : Memory) (a : Nat) : Nat → List Byte
  | 0 => []
  | n + 1 => m.byte d a :: Memory.load d m (a + 1) n

/-- The canonical form of a byte memory whose unlisted bytes read `d`. -/
def Memory.wf (d : Byte) (m : Memory) : Bool := SMap.wf d m

end Sys2Proof.Machine
end

