-- ==== Sys2Proof/Machine/Bits.lean ====
section
/-!
DEFINITION. Bit fields, sign extension, byte order, rounding and clamping (the conventions of spec/00_scope.md:
bit 0 is the least significant; R5: the byte at the lowest address holds bits [7:0]), and the shape of one entry
of a register map (R3, R7, R20, R26).
-/
namespace Sys2Proof.Machine

/-- Bits [hi:lo] of a number. -/
def bitsOf (n hi lo : Nat) : Nat := (n >>> lo) % 2 ^ (hi + 1 - lo)

/-- Bits [hi:lo] of a register word. -/
def fld (w : Word) (hi lo : Nat) : Nat := bitsOf w.toNat hi lo

/-- Bit `b` of a register word. -/
def bit (w : Word) (b : Nat) : Bool := fld w b b == 1

/-- The word with bits [hi:lo] replaced by `v` (taken modulo the field's width). -/
def setFld (w : Word) (hi lo v : Nat) : Word :=
  BitVec.ofNat 32 (w.toNat - fld w hi lo * 2 ^ lo + (v % 2 ^ (hi + 1 - lo)) * 2 ^ lo)

/-- The word with bit `b` set or cleared. -/
def setBit (w : Word) (b : Nat) (v : Bool) : Word := setFld w b b (if v then 1 else 0)

/-- 1 for true, 0 for false. -/
def b2n (b : Bool) : Nat := if b then 1 else 0

/-- A number as a register word, modulo 2^32. -/
def word (n : Nat) : Word := BitVec.ofNat 32 n

/-- An integer as a register word in two's complement, modulo 2^32. -/
def wordI (i : Int) : Word := BitVec.ofInt 32 i

/-- A word made of fields, each given by its lowest bit and its value. -/
def pack (fs : List (Nat × Nat)) : Word := word (fs.foldl (fun acc f => acc ||| (f.2 <<< f.1)) 0)

/-- The low `n` bits of `v` read as a two's-complement number. -/
def sext (n v : Nat) : Int :=
  if v % 2 ^ n < 2 ^ (n - 1) then (v % 2 ^ n : Nat) else ((v % 2 ^ n : Nat) : Int) - (2 ^ n : Nat)

/-- An integer in `n` bits of two's complement. -/
def uint (n : Nat) (i : Int) : Nat := (i % (2 ^ n : Nat)).toNat

/-- `i` limited to lo..hi. -/
def clampI (lo hi i : Int) : Int := if i < lo then lo else if i > hi then hi else i

/-- `n` limited to lo..hi. -/
def clampN (lo hi n : Nat) : Nat := if n < lo then lo else if n > hi then hi else n

/-- `ceil (a / b)`. -/
def ceilDiv (a b : Nat) : Nat := (a + b - 1) / b

/-- Division by 2^n rounding to nearest, halves towards plus infinity. -/
def rndShift (i : Int) (n : Nat) : Int := if n = 0 then i else (i + (2 ^ (n - 1) : Nat)) / (2 ^ n : Nat)

/-- Floor division by 2^n (arithmetic shift right). -/
def asr (i : Int) (n : Nat) : Int := i / (2 ^ n : Nat)

/-- The `n` bytes of a number, lowest first. -/
def bytesLE (v : Nat) : Nat → List Byte
  | 0 => []
  | n + 1 => BitVec.ofNat 8 v :: bytesLE (v / 256) n

/-- The `n` bytes of a number, highest first. -/
def bytesBE (v n : Nat) : List Byte := (bytesLE v n).reverse

/-- The number whose bytes are given, lowest first. -/
def ofBytesLE : List Byte → Nat
  | [] => 0
  | b :: bs => b.toNat + 256 * ofBytesLE bs

/-- The number whose bytes are given, highest first. -/
def ofBytesBE (bs : List Byte) : Nat := ofBytesLE bs.reverse

/-- The little-endian words of a byte list (a short tail is filled with zero bytes). -/
def wordsOfBytes : List Byte → List Word
  | [] => []
  | [a] => [word a.toNat]
  | [a, b] => [word (ofBytesLE [a, b])]
  | [a, b, c] => [word (ofBytesLE [a, b, c])]
  | a :: b :: c :: d :: r => word (ofBytesLE [a, b, c, d]) :: wordsOfBytes r

/-- The bytes of words, each little-endian. -/
def bytesOfWords (ws : List Word) : List Byte := ws.flatMap fun w => bytesLE w.toNat 4

/-- The numbers below `n` for which `p` holds, rising. -/
def indicesWhere (n : Nat) (p : Nat → Bool) : List Nat := (List.range n).filter p

/-- A number whose bit k is `p k`, for k below n. -/
def maskOf (n : Nat) (p : Nat → Bool) : Nat := (List.range n).foldl (fun acc k => if p k then acc + 2 ^ k else acc) 0

/-- The number of one bits among the low `n`. -/
def popCount (n v : Nat) : Nat := ((List.range n).filter fun k => v.testBit k).length

/-- One entry of a register map: the block and offset (R19, R20), the repetition as (stride, count) pairs, outermost
first, the reset value, and masks of the bits that store a write (RW, RWS), that a written 1 clears (W1C), that
survive every reset but power-on (RWS), and of the bits of application class C, T, S and B (R26). `legal` lists, as
(msb, lsb, least, greatest), the fields for which R8 admits only some values. `cnt` marks the low register of a
48-bit counter (R7). -/
structure Reg where
  blk   : Nat
  off   : Nat
  dims  : List (Nat × Nat) := []
  rst   : Nat := 0
  rw    : Nat := 0
  w1c   : Nat := 0
  rws   : Nat := 0
  c     : Nat := 0
  t     : Nat := 0
  s     : Nat := 0
  b     : Nat := 0
  cnt   : Bool := false
  legal : List (Nat × Nat × Nat × Nat) := []
  deriving DecidableEq, Repr

/-- The offset that indexes select within a repeated register. -/
def dimOffset : List (Nat × Nat) → List Nat → Nat
  | (st, _) :: ds, i :: is => i * st + dimOffset ds is
  | _, _ => 0

/-- The control-space address of a copy of a register (R19, R20). -/
def Reg.at (r : Reg) (ix : List Nat := []) : Nat := r.blk * 0x100000 + r.off + dimOffset r.dims ix

/-- The indexes that an offset selects, if it lies exactly on a register. -/
def dimIndex : List (Nat × Nat) → Nat → Option (List Nat)
  | [], d => if d = 0 then some [] else none
  | (st, n) :: ds, d => if d / st < n then (dimIndex ds (d % st)).map (d / st :: ·) else none

/-- The copy of `r` that lies at control-space address `a`, if any. -/
def Reg.ixOf (r : Reg) (a : Nat) : Option (List Nat) :=
  let base := r.blk * 0x100000 + r.off
  if a < base then none else dimIndex r.dims (a - base)

end Sys2Proof.Machine
end

