-- ==== Sys2Proof/Machine/Aes.lean ====
section
/-!
DEFINITION. AES-256-GCM with a 128-bit tag and a 96-bit nonce, which R274 names: the cipher and the mode as their published standards
define them (assumption log 7).
-/
namespace Sys2Proof.Machine

/-- The substitution box of AES. -/
def aesBox : List Nat :=
  [0x63, 0x7C, 0x77, 0x7B, 0xF2, 0x6B, 0x6F, 0xC5, 0x30, 0x01, 0x67, 0x2B, 0xFE, 0xD7, 0xAB, 0x76] ++
  [0xCA, 0x82, 0xC9, 0x7D, 0xFA, 0x59, 0x47, 0xF0, 0xAD, 0xD4, 0xA2, 0xAF, 0x9C, 0xA4, 0x72, 0xC0] ++
  [0xB7, 0xFD, 0x93, 0x26, 0x36, 0x3F, 0xF7, 0xCC, 0x34, 0xA5, 0xE5, 0xF1, 0x71, 0xD8, 0x31, 0x15] ++
  [0x04, 0xC7, 0x23, 0xC3, 0x18, 0x96, 0x05, 0x9A, 0x07, 0x12, 0x80, 0xE2, 0xEB, 0x27, 0xB2, 0x75] ++
  [0x09, 0x83, 0x2C, 0x1A, 0x1B, 0x6E, 0x5A, 0xA0, 0x52, 0x3B, 0xD6, 0xB3, 0x29, 0xE3, 0x2F, 0x84] ++
  [0x53, 0xD1, 0x00, 0xED, 0x20, 0xFC, 0xB1, 0x5B, 0x6A, 0xCB, 0xBE, 0x39, 0x4A, 0x4C, 0x58, 0xCF] ++
  [0xD0, 0xEF, 0xAA, 0xFB, 0x43, 0x4D, 0x33, 0x85, 0x45, 0xF9, 0x02, 0x7F, 0x50, 0x3C, 0x9F, 0xA8] ++
  [0x51, 0xA3, 0x40, 0x8F, 0x92, 0x9D, 0x38, 0xF5, 0xBC, 0xB6, 0xDA, 0x21, 0x10, 0xFF, 0xF3, 0xD2] ++
  [0xCD, 0x0C, 0x13, 0xEC, 0x5F, 0x97, 0x44, 0x17, 0xC4, 0xA7, 0x7E, 0x3D, 0x64, 0x5D, 0x19, 0x73] ++
  [0x60, 0x81, 0x4F, 0xDC, 0x22, 0x2A, 0x90, 0x88, 0x46, 0xEE, 0xB8, 0x14, 0xDE, 0x5E, 0x0B, 0xDB] ++
  [0xE0, 0x32, 0x3A, 0x0A, 0x49, 0x06, 0x24, 0x5C, 0xC2, 0xD3, 0xAC, 0x62, 0x91, 0x95, 0xE4, 0x79] ++
  [0xE7, 0xC8, 0x37, 0x6D, 0x8D, 0xD5, 0x4E, 0xA9, 0x6C, 0x56, 0xF4, 0xEA, 0x65, 0x7A, 0xAE, 0x08] ++
  [0xBA, 0x78, 0x25, 0x2E, 0x1C, 0xA6, 0xB4, 0xC6, 0xE8, 0xDD, 0x74, 0x1F, 0x4B, 0xBD, 0x8B, 0x8A] ++
  [0x70, 0x3E, 0xB5, 0x66, 0x48, 0x03, 0xF6, 0x0E, 0x61, 0x35, 0x57, 0xB9, 0x86, 0xC1, 0x1D, 0x9E] ++
  [0xE1, 0xF8, 0x98, 0x11, 0x69, 0xD9, 0x8E, 0x94, 0x9B, 0x1E, 0x87, 0xE9, 0xCE, 0x55, 0x28, 0xDF] ++
  [0x8C, 0xA1, 0x89, 0x0D, 0xBF, 0xE6, 0x42, 0x68, 0x41, 0x99, 0x2D, 0x0F, 0xB0, 0x54, 0xBB, 0x16]

/-- A byte through the substitution box. -/
def aesSub (b : Nat) : Nat := aesBox.getD (b % 256) 0

/-- A byte times x in the field of AES. -/
def aesTwice (b : Nat) : Nat := if 128 ≤ b then (2 * b) ^^^ 0x11B else 2 * b

/-- The bytes of two strings, xored. -/
def xorBytes (a b : List Nat) : List Nat := List.zipWith (· ^^^ ·) a b

/-- The next 4-byte word of the key schedule: `i` is its index, `near` the word before it and `far` the one 8 before. -/
def aesNextWord (i rcon : Nat) (near far : List Nat) : List Nat :=
  let t := if i % 8 = 0 then xorBytes (((near.drop 1) ++ near.take 1).map aesSub) [rcon, 0, 0, 0]
    else if i % 8 = 4 then near.map aesSub else near
  xorBytes t far

/-- The key schedule of AES-256, newest word first: `n` more words. -/
def aesExpand : Nat → Nat → Nat → List (List Nat) → List (List Nat)
  | 0, _, _, ws => ws
  | n + 1, i, rcon, ws =>
    aesExpand n (i + 1) (if i % 8 = 0 then aesTwice rcon else rcon) (aesNextWord i rcon (ws.getD 0 []) (ws.getD 7 []) :: ws)

/-- The 15 round keys, 16 bytes each. -/
def aesKeys (key : List Byte) : List (List Nat) :=
  let k := key.map (·.toNat)
  let ws := (aesExpand 52 8 1 ((List.range 8).map fun j => (k.drop (4 * (7 - j))).take 4)).reverse
  (List.range 15).map fun r => ((ws.drop (4 * r)).take 4).flatten

/-- Rows shift: byte r of column c comes from column c + r. -/
def aesShift (b : List Nat) : List Nat := (List.range 16).map fun i => b.getD ((i + 4 * (i % 4)) % 16) 0

/-- One column mixed. -/
def aesMixCol (a b c d : Nat) : List Nat :=
  let t := a ^^^ b ^^^ c ^^^ d
  [a ^^^ t ^^^ aesTwice (a ^^^ b), b ^^^ t ^^^ aesTwice (b ^^^ c), c ^^^ t ^^^ aesTwice (c ^^^ d), d ^^^ t ^^^ aesTwice (d ^^^ a)]

/-- All columns mixed. -/
def aesMix : List Nat → List Nat
  | a :: b :: c :: d :: r => aesMixCol a b c d ++ aesMix r
  | _ => []

/-- One 16-byte block enciphered under the round keys. -/
def aesBlock (ks : List (List Nat)) (b : List Nat) : List Nat :=
  let s := (ks.drop 1).dropLast.foldl (fun s k => xorBytes (aesMix (aesShift (s.map aesSub))) k) (xorBytes b (ks.getD 0 []))
  xorBytes (aesShift (s.map aesSub)) (ks.getD 14 [])

/-- The number a block spells, its first byte highest; and back. -/
def blockNat (b : List Nat) : Nat := b.foldl (fun a x => a * 256 + x) 0
def natBlock (n : Nat) : List Nat := (List.range 16).map fun i => n / 2 ^ (8 * (15 - i)) % 256

/-- The product in the field of GCM, whose first bit is the highest of the number. -/
def ghashMul (x y : Nat) : Nat :=
  ((List.range 128).foldl (fun (z : Nat × Nat) i =>
    (if x.testBit (127 - i) then z.1 ^^^ z.2 else z.1,
     if z.2 % 2 = 1 then (z.2 / 2) ^^^ (0xE1 * 2 ^ 120) else z.2 / 2)) (0, y)).1

/-- A byte string cut into 16-byte blocks, the last filled with zeros; `n` at most. -/
def blocks16 : Nat → List Nat → List (List Nat)
  | 0, _ => []
  | n + 1, bs => if bs.isEmpty then [] else (bs.take 16 ++ List.replicate (16 - bs.length) 0) :: blocks16 n (bs.drop 16)

/-- GHASH of additional data and ciphertext. -/
def ghash (h : Nat) (aad ct : List Nat) : Nat :=
  let z := (blocks16 (aad.length + 1) aad ++ blocks16 (ct.length + 1) ct).foldl (fun z b => ghashMul (z ^^^ blockNat b) h) 0
  ghashMul (z ^^^ (8 * aad.length * 2 ^ 64 + 8 * ct.length)) h

/-- The counter block of a nonce. -/
def gcmBlock (nonce : List Nat) (i : Nat) : List Nat := nonce ++ [i / 2 ^ 24 % 256, i / 2 ^ 16 % 256, i / 256 % 256, i % 256]

/-- Data under the key stream, from counter 2 on. -/
def gcmStream (ks : List (List Nat)) (nonce data : List Nat) : List Nat :=
  ((blocks16 (data.length + 1) data).zipIdx.flatMap fun b => xorBytes b.1 (aesBlock ks (gcmBlock nonce (b.2 + 2)))).take data.length

/-- The tag of additional data and ciphertext. -/
def gcmTag (ks : List (List Nat)) (nonce aad ct : List Nat) : List Nat :=
  xorBytes (natBlock (ghash (blockNat (aesBlock ks (List.replicate 16 0))) aad ct)) (aesBlock ks (gcmBlock nonce 1))

/-- The bytes of a list of numbers. -/
def asBytes (l : List Nat) : List Byte := l.map fun n => BitVec.ofNat 8 n

/-- AES-256-GCM sealing (R274): ciphertext and tag from key, nonce, additional data and plaintext. -/
def gcmSeal (key nonce aad plain : List Byte) : List Byte × List Byte :=
  let ks := aesKeys key
  let n := nonce.map (·.toNat)
  let ct := gcmStream ks n (plain.map (·.toNat))
  (asBytes ct, asBytes (gcmTag ks n (aad.map (·.toNat)) ct))

/-- AES-256-GCM opening (R274): the plaintext, or none where the tag fails. -/
def gcmOpen (key nonce aad ct tag : List Byte) : Option (List Byte) :=
  let ks := aesKeys key
  let n := nonce.map (·.toNat)
  let c := ct.map (·.toNat)
  if asBytes (gcmTag ks n (aad.map (·.toNat)) c) = tag then some (asBytes (gcmStream ks n c)) else none

end Sys2Proof.Machine
end

