-- ==== Sys2Proof/Machine/TypesTopo.lean ====
section
/-!
DEFINITION. The structure that a configuration bitstream gives the device (R25, R34), as plain records: lanes and
ports, heads, laser map, basin regions, DRAM map, block set, trims and presets.
-/
namespace Sys2Proof.Machine

/-- One LANES port record (R34, R35): ingress has `egress = false`; `kind` is the peer kind 0 to 4. -/
structure PortCfg where
  port   : Nat
  first  : Nat
  count  : Nat
  egress : Bool
  kind   : Nat
  deriving DecidableEq, Repr, Inhabited

/-- The LANES section: the rate code of each of the 12 lane groups, and the port records (R34, R35). -/
structure LanesSec where
  rates : List Nat
  ports : List PortCfg
  deriving DecidableEq, Repr, Inhabited

/-- One array of a mirror head (R34). `rate` is its largest plane rate, in planes/s. -/
structure ArrayCfg where
  width  : Nat
  height : Nat
  rate   : Nat
  port   : Nat
  deriving DecidableEq, Repr, Inhabited

/-- One HEADS record (R34). -/
structure HeadCfg where
  en     : Bool := false
  mirror : Bool := false
  width  : Nat := 0
  height : Nat := 0
  arrays : List ArrayCfg := []
  rowPort  : Nat := 0
  colPorts : List Nat := []
  deriving DecidableEq, Repr, Inhabited

/-- One laser driver record (R34); `none` in the list of drivers: no such driver. -/
structure DriverCfg where
  head : Nat
  port : Nat
  deriving DecidableEq, Repr, Inhabited

/-- One colour-group record (R34). -/
structure GroupCfg where
  head  : Nat
  array : Nat
  deriving DecidableEq, Repr, Inhabited

/-- The LASER_MAP section: 16 driver records, up to 16 colour groups, and the group of each of 256 channels. -/
structure LaserSec where
  drivers : List (Option DriverCfg) := []
  groups  : List GroupCfg := []
  chans   : List (Option Nat) := []
  deriving DecidableEq, Repr, Inhabited

/-- A basin region of PARTITION (R34, R298): `user` is the code of DMC_BASIN_REGION.user. -/
structure RegionCfg where
  user  : Nat
  head  : Nat
  banks : Nat
  deriving DecidableEq, Repr, Inhabited

/-- A reserved region of DRAM_MAP, in 64 KiB pages. -/
structure ReservedCfg where
  first : Nat
  pages : Nat
  deriving DecidableEq, Repr, Inhabited

/-- The DRAM_MAP section (R34, R279, R280): `densities` are the codes of R279 by channel, `rate` the code of the starting rate. -/
structure DramSec where
  mask    : Nat := 0
  ranks   : Nat := 0
  densities : List Nat := []
  rate    : Nat := 0
  ecc     : Bool := false
  gran    : Nat := 0
  reserved : List ReservedCfg := []
  deriving DecidableEq, Repr, Inhabited

/-- One lane's equalisation at one rate (R240), already clamped. -/
structure EqSet where
  pre  : Nat := 0
  main : Nat := 0
  post : Nat := 0
  ctle : Nat := 0
  dfe1 : Int := 0
  dfe2 : Int := 0
  dfe3 : Int := 0
  deriving DecidableEq, Repr, Inhabited

/-- One lane's EQUALISATION record (R240). -/
structure EqLane where
  rxInv : Bool := false
  txInv : Bool := false
  clamped : Bool := false
  sets : List EqSet := []
  deriving DecidableEq, Repr, Inhabited

/-- A trim record of TRIMS (R321): the trim's identifier and its value byte. -/
structure TrimRec where
  kind : Nat
  lane : Nat
  value : Nat
  deriving DecidableEq, Repr, Inhabited

/-- The structure and starting values of an accepted container (R25, R34, R49). -/
structure Topo where
  applied : Bool := false
  rates   : List Nat := []
  ports   : List PortCfg := []
  eq      : List EqLane := []
  heads   : List HeadCfg := []
  laser   : LaserSec := {}
  basin   : List RegionCfg := []
  dram    : DramSec := {}
  blocks  : Nat := 0
  trims   : List TrimRec := []
  presets : List (Nat × Nat) := []
  deriving DecidableEq, Repr, Inhabited

/-- The port record of port `p`, if it is in the LANES section. -/
def Topo.port? (c : Topo) (p : Nat) : Option PortCfg := c.ports.find? fun r => r.port == p

/-- The port record that holds lane `n`. -/
def Topo.portOfLane? (c : Topo) (n : Nat) : Option PortCfg :=
  c.ports.find? fun r => decide (r.first ≤ n) && decide (n < r.first + r.count)

/-- The HEADS record of head `h`. -/
def Topo.head (c : Topo) (h : Nat) : HeadCfg := c.heads.getD h {}

/-- The lanes of a port, rising. -/
def PortCfg.lanes (r : PortCfg) : List Nat := (List.range r.count).map (r.first + ·)

/-- The driver that serves laser channel `c` (R15). -/
def Topo.driver? (t : Topo) (c : Nat) : Option DriverCfg := (t.laser.drivers.getD (c / 16) none)

/-- The colour group of laser channel `c`, unless it is unused. -/
def Topo.group? (t : Topo) (c : Nat) : Option Nat := t.laser.chans.getD c none

/-- The head of colour group `g`. -/
def Topo.groupHead? (t : Topo) (g : Nat) : Option Nat := (t.laser.groups[g]?).map (·.head)

/-- The head of laser channel `c`. -/
def Topo.chanHead? (t : Topo) (c : Nat) : Option Nat := (t.group? c).bind t.groupHead?

/-- The channels of colour group `g`, rising. -/
def Topo.chansOf (t : Topo) (g : Nat) : List Nat := (List.range 256).filter fun c => t.group? c == some g

/-- Whether the bitstream instantiates block `n` (R34, BLOCKS). -/
def Topo.inst (t : Topo) (n : Nat) : Bool := t.applied && t.blocks.testBit n

end Sys2Proof.Machine
end

