-- ==== Sys2Proof/Config.lean ====
section
/-!
DEFINITION. What the spec leaves to the part or does not state: each a constant with no body, so that no proof can
rest on a value of it. Assumption log: notes/assumptions/6.md (free values), 7.md (cryptography), 8.md (section layouts).
-/
namespace Sys2Proof.Config

open Sys2Proof.Machine

/-- The n-th free value drawn by the machine: a word that the spec leaves open. -/
opaque freeWord : Nat → Word

/-! ### Identity and keys (R33, R369 to R380): what is in the part and not in the spec -/

/-- The 16 bytes of the device serial, byte 0 first (R370, R373). -/
opaque serialByte : Nat → Byte
/-- The identity certificate, byte 0 first, padded to 2 KiB (R373). -/
opaque certByte : Nat → Byte
/-- Byte i of the ECDSA P-384 public key (X then Y, 96 bytes) and of the LMS public key (56 bytes) of vendor key set k (R369). -/
opaque vendorEcByte : Nat → Nat → Byte
opaque vendorLmsByte : Nat → Nat → Byte
/-- The private identity key that SEC derives from the device unique secret (R373). -/
opaque identityKey : Nat
/-- The n-th random number from the generator of R373, as a private key or as the random number of a signature. -/
opaque randomScalar : Nat → Nat
/-- The HSS signature over a report body by leaf q (R376), byte by byte: its keys derive from the device unique secret. -/
opaque hssByte : List Byte → Nat → Nat → Byte

/-! ### Section layouts of the container that the spec does not give byte by byte (R34) -/

/-- The records that the bytes of a LANES section hold. -/
opaque lanesOf : List Byte → LanesSec
/-- The records that the bytes of a HEADS section hold. -/
opaque headsOf : List Byte → List HeadCfg
/-- The records that the bytes of a LASER_MAP section hold. -/
opaque laserOf : List Byte → LaserSec
/-- The region list that the bytes of a PARTITION section hold. -/
opaque partitionOf : List Byte → List RegionCfg
/-- The map that the bytes of a DRAM_MAP section hold, but for its `rate`. -/
opaque dramOf : List Byte → DramSec
/-- The starting data rate in MT/s that the bytes of a DRAM_MAP section name (R36 admits four). -/
opaque dramRateOf : List Byte → Nat

/-! ### Figures of the memory devices fitted (R287, R288) -/

/-- tRPpb + tRFCpb + tRCD in ns at a density and rate code. -/
opaque splitBaseNs : Nat → Nat → Nat
/-- The per-bank refresh interval in ns at a density, a rate code and the device's temperature report (R279, R287). -/
opaque refiNs : Nat → Nat → Nat → Nat
/-- The initial and the maximum threshold of Refresh Management in a device's mode registers, by density (R279, R289). -/
opaque raaInitial : Nat → Nat
opaque raaMaximum : Nat → Nat

/-! ### The recorder's payload layout (R360 names the contents of an item and not their places) -/

/-- The bytes of an item's payload from its kind and its values. -/
opaque recPayload : Nat → List Nat → List Byte

/-! ### Others -/

/-- The bytes 8 to 11 of the CAPS the device sends, vendor and part code (R268). -/
opaque capsVendor : Nat → Byte

end Sys2Proof.Config
end

