-- ==== Sys2Proof/Machine/RegsA.lean ====
section
/-!
DEFINITION. The register maps of MGT, SEC, PWG, CAL: one entry per register, as the register maps
and field tables of spec/ give it (address, repetition, reset, access types, application classes of R26,
the values R8 admits). Written out from the tables of the spec.
-/
namespace Sys2Proof.Machine.Rg

/-- MGT_EVT_CTL: Ring enable and size (spec/18_errors_ordering_replay.md, register map). -/
def MGT_EVT_CTL : Reg := { blk := 0, off := 0x100, rst := 0xc0, rw := 0xf1, legal := [(7, 4, 4, 12)] }
/-- MGT_EVT_BASE: Ring location (spec/18_errors_ordering_replay.md, register map). -/
def MGT_EVT_BASE : Reg := { blk := 0, off := 0x104, rw := 0xfffff }
/-- MGT_EVT_WR: Write index (spec/18_errors_ordering_replay.md, register map). -/
def MGT_EVT_WR : Reg := { blk := 0, off := 0x108 }
/-- MGT_EVT_RD: Read index (spec/18_errors_ordering_replay.md, register map). -/
def MGT_EVT_RD : Reg := { blk := 0, off := 0x10c, rw := 0x1fff }
/-- MGT_EVT_STATUS: Queue occupancy, full and held (spec/18_errors_ordering_replay.md, register map). -/
def MGT_EVT_STATUS : Reg := { blk := 0, off := 0x110 }
/-- MGT_EVT_POP: Remove the oldest queued record (spec/18_errors_ordering_replay.md, register map). -/
def MGT_EVT_POP : Reg := { blk := 0, off := 0x114 }
/-- MGT_HEALTH: Degraded and failed blocks (spec/18_errors_ordering_replay.md, register map). -/
def MGT_HEALTH : Reg := { blk := 0, off := 0x118 }
/-- MGT_CNT_CLR: Counter clears (spec/18_errors_ordering_replay.md, register map). -/
def MGT_CNT_CLR : Reg := { blk := 0, off := 0x11c }
/-- MGT_EVT_SENT: LNK send index (spec/18_errors_ordering_replay.md, register map). -/
def MGT_EVT_SENT : Reg := { blk := 0, off := 0x120 }
/-- MGT_ABSENT: Absent-block events raised (R10) (spec/18_errors_ordering_replay.md, register map). -/
def MGT_ABSENT : Reg := { blk := 0, off := 0x124, w1c := 0xffff }
/-- MGT_EVT_CNT: Records accepted (spec/18_errors_ordering_replay.md, register map). -/
def MGT_EVT_CNT : Reg := { blk := 0, off := 0x140, cnt := true }
/-- MGT_EVT_LOST_CNT: Records dropped (spec/18_errors_ordering_replay.md, register map). -/
def MGT_EVT_LOST_CNT : Reg := { blk := 0, off := 0x148, cnt := true }
/-- MGT_EVT_HEAD: Oldest queued record, bytes 4w to 4w + 3 (spec/18_errors_ordering_replay.md, register map). -/
def MGT_EVT_HEAD : Reg := { blk := 0, off := 0x180, dims := [(0x4, 8)] }
/-- MGT_REC_CTL: Recorder settings (spec/18_errors_ordering_replay.md, register map). -/
def MGT_REC_CTL : Reg := { blk := 0, off := 0x200, rst := 0x783c0140, rw := 0xffff01cf }
/-- MGT_REC_BASE: Ring location (spec/18_errors_ordering_replay.md, register map). -/
def MGT_REC_BASE : Reg := { blk := 0, off := 0x204, rw := 0xfffff }
/-- MGT_REC_SIZE: Ring size (spec/18_errors_ordering_replay.md, register map). -/
def MGT_REC_SIZE : Reg := { blk := 0, off := 0x208, rst := 0x1, rw := 0x7f, legal := [(6, 0, 1, 64)] }
/-- MGT_REC_TRIG: Trigger match (spec/18_errors_ordering_replay.md, register map). -/
def MGT_REC_TRIG : Reg := { blk := 0, off := 0x20c, rst := 0xffff, rw := 0x8fffffff }
/-- MGT_REC_CMD: Commands (spec/18_errors_ordering_replay.md, register map). -/
def MGT_REC_CMD : Reg := { blk := 0, off := 0x210 }
/-- MGT_REC_STATUS: State and result (spec/18_errors_ordering_replay.md, register map). -/
def MGT_REC_STATUS : Reg := { blk := 0, off := 0x214 }
/-- MGT_REC_HEAD: Write offset (spec/18_errors_ordering_replay.md, register map). -/
def MGT_REC_HEAD : Reg := { blk := 0, off := 0x218 }
/-- MGT_REC_OLDEST: Oldest complete checkpoint (spec/18_errors_ordering_replay.md, register map). -/
def MGT_REC_OLDEST : Reg := { blk := 0, off := 0x21c }
/-- MGT_REC_FROM: Re-run start (spec/18_errors_ordering_replay.md, register map). -/
def MGT_REC_FROM : Reg := { blk := 0, off := 0x220, rw := 0x3ffffff }
/-- MGT_REC_UNTIL: Re-run end (spec/18_errors_ordering_replay.md, register map). -/
def MGT_REC_UNTIL : Reg := { blk := 0, off := 0x224, rw := 0x3ffffff }
/-- MGT_REC_MARK: Software mark (spec/18_errors_ordering_replay.md, register map). -/
def MGT_REC_MARK : Reg := { blk := 0, off := 0x228 }
/-- MGT_REC_DIFF: First mismatch (spec/18_errors_ordering_replay.md, register map). -/
def MGT_REC_DIFF : Reg := { blk := 0, off := 0x22c }
/-- MGT_REC_DIFF_FRAME: Frame of the first mismatch (spec/18_errors_ordering_replay.md, register map). -/
def MGT_REC_DIFF_FRAME : Reg := { blk := 0, off := 0x230 }
/-- MGT_REC_ITEM_CNT: Items written (spec/18_errors_ordering_replay.md, register map). -/
def MGT_REC_ITEM_CNT : Reg := { blk := 0, off := 0x240, cnt := true }
/-- MGT_REC_GAP_CNT: Items dropped (spec/18_errors_ordering_replay.md, register map). -/
def MGT_REC_GAP_CNT : Reg := { blk := 0, off := 0x248, cnt := true }
/-- MGT_REC_DIFF_CNT: Re-run mismatches (spec/18_errors_ordering_replay.md, register map). -/
def MGT_REC_DIFF_CNT : Reg := { blk := 0, off := 0x250, cnt := true }
/-- MGT_BOOT_STATUS: Boot stage and parallel steps (spec/20_bringup.md, register map). -/
def MGT_BOOT_STATUS : Reg := { blk := 0, off := 0x300 }
/-- MGT_BOOT_CTL: Boot options (spec/20_bringup.md, register map). -/
def MGT_BOOT_CTL : Reg := { blk := 0, off := 0x304, rst := 0x3, rw := 0x3 }
/-- MGT_RST_CMD: Software reset (spec/20_bringup.md, register map). -/
def MGT_RST_CMD : Reg := { blk := 0, off := 0x308 }
/-- MGT_RST_CAUSE: Causes of the last resets (spec/20_bringup.md, register map). -/
def MGT_RST_CAUSE : Reg := { blk := 0, off := 0x30c, rst := 0x1, rw := 0x1f, rws := 0x1f }
/-- MGT_I3C_PID_HI: Characteristics and provisional ID [47:32] (spec/20_bringup.md, register map). -/
def MGT_I3C_PID_HI : Reg := { blk := 0, off := 0x340, dims := [(0x8, 16)] }
/-- MGT_I3C_PID_LO: Provisional ID [31:0] (spec/20_bringup.md, register map). -/
def MGT_I3C_PID_LO : Reg := { blk := 0, off := 0x344, dims := [(0x8, 16)] }

/-- Every register of MGT beyond the common header. -/
def allMgt : List Reg := [
  MGT_EVT_CTL, MGT_EVT_BASE, MGT_EVT_WR, MGT_EVT_RD, MGT_EVT_STATUS, MGT_EVT_POP, MGT_HEALTH,
  MGT_CNT_CLR, MGT_EVT_SENT, MGT_ABSENT, MGT_EVT_CNT, MGT_EVT_LOST_CNT, MGT_EVT_HEAD,
  MGT_REC_CTL, MGT_REC_BASE, MGT_REC_SIZE, MGT_REC_TRIG, MGT_REC_CMD, MGT_REC_STATUS,
  MGT_REC_HEAD, MGT_REC_OLDEST, MGT_REC_FROM, MGT_REC_UNTIL, MGT_REC_MARK, MGT_REC_DIFF,
  MGT_REC_DIFF_FRAME, MGT_REC_ITEM_CNT, MGT_REC_GAP_CNT, MGT_REC_DIFF_CNT, MGT_BOOT_STATUS,
  MGT_BOOT_CTL, MGT_RST_CMD, MGT_RST_CAUSE, MGT_I3C_PID_HI, MGT_I3C_PID_LO]

/-- SEC_LOAD_STATUS: Outcome of this boot's load (spec/02_configuration_bitstream.md, register map). -/
def SEC_LOAD_STATUS : Reg := { blk := 1, off := 0x400 }
/-- SEC_LOAD_NEXT: Boot order for later resets (spec/02_configuration_bitstream.md, register map). -/
def SEC_LOAD_NEXT : Reg := { blk := 1, off := 0x404, rw := 0x3, rws := 0x3 }
/-- SEC_FLASH_CMD: Flash command (spec/02_configuration_bitstream.md, register map). -/
def SEC_FLASH_CMD : Reg := { blk := 1, off := 0x408 }
/-- SEC_FLASH_STATUS: Flash command state and result (spec/02_configuration_bitstream.md, register map). -/
def SEC_FLASH_STATUS : Reg := { blk := 1, off := 0x40c }
/-- SEC_FLASH_ADDR: Sector within the slot for PROGRAM (spec/02_configuration_bitstream.md, register map). -/
def SEC_FLASH_ADDR : Reg := { blk := 1, off := 0x410, rw := 0x7ff000 }
/-- SEC_LOAD_DIGEST: SHA-384 digest of the accepted container's signed range; word 0 holds the first four digest bytes, first byte in bits [31:24] (spec/02_configuration_bitstream.md, register map). -/
def SEC_LOAD_DIGEST : Reg := { blk := 1, off := 0x440, dims := [(0x4, 12)] }
/-- SEC_FLASH_WIN: 4 KiB program window, class I (spec/02_configuration_bitstream.md, register map). -/
def SEC_FLASH_WIN : Reg := { blk := 1, off := 0x1000, dims := [(0x4, 1024)], rw := 0xffffffff }
/-- SEC_STATUS: Lifecycle, debug, key sets (spec/19_security_and_attestation.md, register map). -/
def SEC_STATUS : Reg := { blk := 1, off := 0x100 }
/-- SEC_LOCK: Command source lock (spec/19_security_and_attestation.md, register map). -/
def SEC_LOCK : Reg := { blk := 1, off := 0x104, rw := 0x7f }
/-- SEC_SERIAL: Device serial (spec/19_security_and_attestation.md, register map). -/
def SEC_SERIAL : Reg := { blk := 1, off := 0x108, dims := [(0x4, 4)] }
/-- SEC_ROLLBACK: Anti-rollback value (spec/19_security_and_attestation.md, register map). -/
def SEC_ROLLBACK : Reg := { blk := 1, off := 0x118 }
/-- SEC_OTP_CMD: OTP commands (spec/19_security_and_attestation.md, register map). -/
def SEC_OTP_CMD : Reg := { blk := 1, off := 0x11c }
/-- SEC_OTP_STATUS: OTP command result (spec/19_security_and_attestation.md, register map). -/
def SEC_OTP_STATUS : Reg := { blk := 1, off := 0x120 }
/-- SEC_ATT_CTL: Attestation request (spec/19_security_and_attestation.md, register map). -/
def SEC_ATT_CTL : Reg := { blk := 1, off := 0x124 }
/-- SEC_ATT_STATUS: Attestation result (spec/19_security_and_attestation.md, register map). -/
def SEC_ATT_STATUS : Reg := { blk := 1, off := 0x128 }
/-- SEC_ATT_LEAF: Next leaf (spec/19_security_and_attestation.md, register map). -/
def SEC_ATT_LEAF : Reg := { blk := 1, off := 0x12c }
/-- SEC_ATT_REMAIN: Leaves remaining (spec/19_security_and_attestation.md, register map). -/
def SEC_ATT_REMAIN : Reg := { blk := 1, off := 0x130 }
/-- SEC_ATT_NONCE: Nonce; byte 0 in [31:24] of word 0 (spec/19_security_and_attestation.md, register map). -/
def SEC_ATT_NONCE : Reg := { blk := 1, off := 0x140, dims := [(0x4, 12)], rw := 0xffffffff }
/-- SEC_KEY_CMD: Key commands (spec/19_security_and_attestation.md, register map). -/
def SEC_KEY_CMD : Reg := { blk := 1, off := 0x180 }
/-- SEC_KEY_STATUS: Key command result (spec/19_security_and_attestation.md, register map). -/
def SEC_KEY_STATUS : Reg := { blk := 1, off := 0x184 }
/-- SEC_KEY_PEER: Peer public key, 0x0190 to 0x01EF (spec/19_security_and_attestation.md, register map). -/
def SEC_KEY_PEER : Reg := { blk := 1, off := 0x190, dims := [(0x4, 24)], rw := 0xffffffff }
/-- SEC_KEY_OFFER: Signed offer (spec/19_security_and_attestation.md, register map). -/
def SEC_KEY_OFFER : Reg := { blk := 1, off := 0x200, dims := [(0x4, 54)] }
/-- SEC_DEBUG_CMD: Debug unlock (spec/19_security_and_attestation.md, register map). -/
def SEC_DEBUG_CMD : Reg := { blk := 1, off := 0x300 }
/-- SEC_DEBUG_STATUS: Unlock result (spec/19_security_and_attestation.md, register map). -/
def SEC_DEBUG_STATUS : Reg := { blk := 1, off := 0x304 }
/-- SEC_CERT: Identity certificate (spec/19_security_and_attestation.md, register map). -/
def SEC_CERT : Reg := { blk := 1, off := 0x800, dims := [(0x4, 512)] }
/-- SEC_ATT_REPORT: Last report (spec/19_security_and_attestation.md, register map). -/
def SEC_ATT_REPORT : Reg := { blk := 1, off := 0x2000, dims := [(0x4, 781)] }
/-- SEC_LOAD_STREAM: Container stream window (spec/20_bringup.md, register map). -/
def SEC_LOAD_STREAM : Reg := { blk := 1, off := 0x420 }
/-- SEC_LOAD_COUNT: Bytes received (spec/20_bringup.md, register map). -/
def SEC_LOAD_COUNT : Reg := { blk := 1, off := 0x424 }

/-- Every register of SEC beyond the common header. -/
def allSec : List Reg := [
  SEC_LOAD_STATUS, SEC_LOAD_NEXT, SEC_FLASH_CMD, SEC_FLASH_STATUS, SEC_FLASH_ADDR,
  SEC_LOAD_DIGEST, SEC_FLASH_WIN, SEC_STATUS, SEC_LOCK, SEC_SERIAL, SEC_ROLLBACK,
  SEC_OTP_CMD, SEC_OTP_STATUS, SEC_ATT_CTL, SEC_ATT_STATUS, SEC_ATT_LEAF, SEC_ATT_REMAIN,
  SEC_ATT_NONCE, SEC_KEY_CMD, SEC_KEY_STATUS, SEC_KEY_PEER, SEC_KEY_OFFER, SEC_DEBUG_CMD,
  SEC_DEBUG_STATUS, SEC_CERT, SEC_ATT_REPORT, SEC_LOAD_STREAM, SEC_LOAD_COUNT]

/-- PWG_STATUS: Clock, power and thermal state; queue depth (spec/17_power_and_clocks.md, register map). -/
def PWG_STATUS : Reg := { blk := 2, off := 0x100 }
/-- PWG_BUDGET: Limit and transient reserve (spec/17_power_and_clocks.md, register map). -/
def PWG_BUDGET : Reg := { blk := 2, off := 0x104, rst := 0x1388ea60, rw := 0xffffffff }
/-- PWG_BASE: Base load and warm derating (spec/17_power_and_clocks.md, register map). -/
def PWG_BASE : Reg := { blk := 2, off := 0x108, rst := 0x177057e4, rw := 0xffffffff }
/-- PWG_LOAD: Standing and total load (spec/17_power_and_clocks.md, register map). -/
def PWG_LOAD : Reg := { blk := 2, off := 0x10c, rst := 0x57e457e4 }
/-- PWG_THERM_CTL: Thermal thresholds (spec/17_power_and_clocks.md, register map). -/
def PWG_THERM_CTL : Reg := { blk := 2, off := 0x110, rst := 0x1cc6917c, rw := 0x3fffffff }
/-- PWG_TEMP_MAX: Tmax and its sensor (spec/17_power_and_clocks.md, register map). -/
def PWG_TEMP_MAX : Reg := { blk := 2, off := 0x114 }
/-- PWG_FLAGS: Sticky flags (spec/17_power_and_clocks.md, register map). -/
def PWG_FLAGS : Reg := { blk := 2, off := 0x118, rw := 0x60, w1c := 0x1f, rws := 0x60 }
/-- PWG_CNT_CLR: Counter clears (spec/17_power_and_clocks.md, register map). -/
def PWG_CNT_CLR : Reg := { blk := 2, off := 0x11c }
/-- PWG_GRANT_CNT: Grants (spec/17_power_and_clocks.md, register map). -/
def PWG_GRANT_CNT : Reg := { blk := 2, off := 0x140, cnt := true }
/-- PWG_REFUSE_CNT: Refusals (spec/17_power_and_clocks.md, register map). -/
def PWG_REFUSE_CNT : Reg := { blk := 2, off := 0x148, cnt := true }
/-- PWG_TEMP: Sensor reading (spec/17_power_and_clocks.md, register map). -/
def PWG_TEMP : Reg := { blk := 2, off := 0x200, dims := [(0x4, 16)] }
/-- PWG_CLASS_CTL: Enable, deadline, allocation (spec/17_power_and_clocks.md, register map). -/
def PWG_CLASS_CTL : Reg := { blk := 2, off := 0x300, dims := [(0x10, 8)], rw := 0xffffffff }
/-- PWG_CLASS_STAT: Queue and grant state of the class (spec/17_power_and_clocks.md, register map). -/
def PWG_CLASS_STAT : Reg := { blk := 2, off := 0x304, dims := [(0x10, 8)] }

/-- Every register of PWG beyond the common header. -/
def allPwg : List Reg := [
  PWG_STATUS, PWG_BUDGET, PWG_BASE, PWG_LOAD, PWG_THERM_CTL, PWG_TEMP_MAX, PWG_FLAGS,
  PWG_CNT_CLR, PWG_GRANT_CNT, PWG_REFUSE_CNT, PWG_TEMP, PWG_CLASS_CTL, PWG_CLASS_STAT]

/-- CAL_CTL: Triggers (spec/16_calibration_and_trim.md, register map). -/
def CAL_CTL : Reg := { blk := 3, off := 0x100, rst := 0x2582003, rw := 0xffffff03 }
/-- CAL_RUN_CTL: Window, threshold, iterations, apply limit (spec/16_calibration_and_trim.md, register map). -/
def CAL_RUN_CTL : Reg := { blk := 3, off := 0x104, rst := 0x64080810, rw := 0xff0fff1f, legal := [(4, 0, 10, 20)] }
/-- CAL_UPTIME: ms since reset (spec/16_calibration_and_trim.md, register map). -/
def CAL_UPTIME : Reg := { blk := 3, off := 0x108, cnt := true }
/-- CAL_CNT_CLR: Counter clears (spec/16_calibration_and_trim.md, register map). -/
def CAL_CNT_CLR : Reg := { blk := 3, off := 0x110 }
/-- CAL_G_CMD: Start and stop (spec/16_calibration_and_trim.md, register map). -/
def CAL_G_CMD : Reg := { blk := 3, off := 0x200, dims := [(0x20, 12)] }
/-- CAL_G_STATUS: State, result, iteration (spec/16_calibration_and_trim.md, register map). -/
def CAL_G_STATUS : Reg := { blk := 3, off := 0x204, dims := [(0x20, 12)] }
/-- CAL_G_TEMP: Temperature now and at calibration (spec/16_calibration_and_trim.md, register map). -/
def CAL_G_TEMP : Reg := { blk := 3, off := 0x208, dims := [(0x20, 12)] }
/-- CAL_G_LAST: CAL_UPTIME at the end of the last counted calibration (spec/16_calibration_and_trim.md, register map). -/
def CAL_G_LAST : Reg := { blk := 3, off := 0x20c, dims := [(0x20, 12)], cnt := true }
/-- CAL_G_RUN_CNT: Counted calibrations (spec/16_calibration_and_trim.md, register map). -/
def CAL_G_RUN_CNT : Reg := { blk := 3, off := 0x214, dims := [(0x20, 12)], cnt := true }
/-- CAL_L_STATIC: Static trims (spec/16_calibration_and_trim.md, register map). -/
def CAL_L_STATIC : Reg := { blk := 3, off := 0x10000, dims := [(0x100, 96)], rw := 0x1f1f1f, b := 0x1f1f1f }
/-- CAL_L_DYN: Volatile trims, staged (spec/16_calibration_and_trim.md, register map). -/
def CAL_L_DYN : Reg := { blk := 3, off := 0x10004, dims := [(0x100, 96)], rw := 0x1f1f3f3f, b := 0x1f1f3f3f }
/-- CAL_L_FORCE: Volatile trims in force (spec/16_calibration_and_trim.md, register map). -/
def CAL_L_FORCE : Reg := { blk := 3, off := 0x10008, dims := [(0x100, 96)] }
/-- CAL_L_STATUS: Last result and pending values (spec/16_calibration_and_trim.md, register map). -/
def CAL_L_STATUS : Reg := { blk := 3, off := 0x1000c, dims := [(0x100, 96)] }
/-- CAL_L_DISAGREE_CNT: Disagreeing proposals (spec/16_calibration_and_trim.md, register map). -/
def CAL_L_DISAGREE_CNT : Reg := { blk := 3, off := 0x10010, dims := [(0x100, 96)], cnt := true }

/-- Every register of CAL beyond the common header. -/
def allCal : List Reg := [
  CAL_CTL, CAL_RUN_CTL, CAL_UPTIME, CAL_CNT_CLR, CAL_G_CMD, CAL_G_STATUS, CAL_G_TEMP,
  CAL_G_LAST, CAL_G_RUN_CNT, CAL_L_STATIC, CAL_L_DYN, CAL_L_FORCE, CAL_L_STATUS,
  CAL_L_DISAGREE_CNT]

end Sys2Proof.Machine.Rg
end

