-- ==== Sys2Proof/Machine/RegsB.lean ====
section
/-!
DEFINITION. The register maps of LNE, LNK, DMC, SFM: one entry per register, as the register maps
and field tables of spec/ give it (address, repetition, reset, access types, application classes of R26,
the values R8 admits). Written out from the tables of the spec.
-/
namespace Sys2Proof.Machine.Rg

/-- LNE_TRK_CTL: Offset tracker (spec/12_serial_lanes.md, register map). -/
def LNE_TRK_CTL : Reg := { blk := 4, off := 0x100, rst := 0x108, rw := 0x1ff }
/-- LNE_BRING_CTL: Detection and recovery limits (spec/12_serial_lanes.md, register map). -/
def LNE_BRING_CTL : Reg := { blk := 4, off := 0x104, rst := 0x64000800, rw := 0xff00ff00 }
/-- LNE_G_CTL: Rate and group commands (spec/12_serial_lanes.md, register map). -/
def LNE_G_CTL : Reg := { blk := 4, off := 0x200, dims := [(0x20, 12)], rw := 0x3, b := 0x3 }
/-- LNE_G_STATUS: Group state and counts (spec/12_serial_lanes.md, register map). -/
def LNE_G_STATUS : Reg := { blk := 4, off := 0x204, dims := [(0x20, 12)] }
/-- LNE_L_CTL: Lane commands and test mode (spec/12_serial_lanes.md, register map). -/
def LNE_L_CTL : Reg := { blk := 4, off := 0x10000, dims := [(0x100, 96)], rw := 0x70, legal := [(6, 4, 0, 4)] }
/-- LNE_L_STATUS: Lane state (spec/12_serial_lanes.md, register map). -/
def LNE_L_STATUS : Reg := { blk := 4, off := 0x10004, dims := [(0x100, 96)] }
/-- LNE_L_EQ: Equalisation in force (spec/12_serial_lanes.md, register map). -/
def LNE_L_EQ : Reg := { blk := 4, off := 0x10008, dims := [(0x100, 96)] }
/-- LNE_L_DFE: Decision-feedback taps in force (spec/12_serial_lanes.md, register map). -/
def LNE_L_DFE : Reg := { blk := 4, off := 0x1000c, dims := [(0x100, 96)] }
/-- LNE_L_OFFSET: Slicer offset trim (spec/12_serial_lanes.md, register map). -/
def LNE_L_OFFSET : Reg := { blk := 4, off := 0x10010, dims := [(0x100, 96)] }
/-- LNE_L_EYE_CTL: Eye scan point and dwell (spec/12_serial_lanes.md, register map). -/
def LNE_L_EYE_CTL : Reg := { blk := 4, off := 0x10014, dims := [(0x100, 96)], rst := 0x1e000000, rw := 0x3f7f003f, legal := [(29, 24, 10, 40)] }
/-- LNE_L_EYE_STATUS: Eye scan state (spec/12_serial_lanes.md, register map). -/
def LNE_L_EYE_STATUS : Reg := { blk := 4, off := 0x10018, dims := [(0x100, 96)] }
/-- LNE_L_FLAGS: Sticky flags (spec/12_serial_lanes.md, register map). -/
def LNE_L_FLAGS : Reg := { blk := 4, off := 0x1001c, dims := [(0x100, 96)], w1c := 0x3f }
/-- LNE_L_CNT_CLR: Counter clears (spec/12_serial_lanes.md, register map). -/
def LNE_L_CNT_CLR : Reg := { blk := 4, off := 0x10020, dims := [(0x100, 96)] }
/-- LNE_L_EYE_BITS: Bits compared in the last scan (spec/12_serial_lanes.md, register map). -/
def LNE_L_EYE_BITS : Reg := { blk := 4, off := 0x10040, dims := [(0x100, 96)], cnt := true }
/-- LNE_L_EYE_ERR: Disagreements in the last scan (spec/12_serial_lanes.md, register map). -/
def LNE_L_EYE_ERR : Reg := { blk := 4, off := 0x10048, dims := [(0x100, 96)], cnt := true }
/-- LNE_L_HDR_ERR_CNT: Invalid headers and types (spec/12_serial_lanes.md, register map). -/
def LNE_L_HDR_ERR_CNT : Reg := { blk := 4, off := 0x10050, dims := [(0x100, 96)], cnt := true }
/-- LNE_L_RECOVER_CNT: Successful recoveries (spec/12_serial_lanes.md, register map). -/
def LNE_L_RECOVER_CNT : Reg := { blk := 4, off := 0x10058, dims := [(0x100, 96)], cnt := true }
/-- LNE_L_PRBS_BITS: Pattern bits checked (spec/12_serial_lanes.md, register map). -/
def LNE_L_PRBS_BITS : Reg := { blk := 4, off := 0x10060, dims := [(0x100, 96)], cnt := true }
/-- LNE_L_PRBS_ERR: Pattern errors (spec/12_serial_lanes.md, register map). -/
def LNE_L_PRBS_ERR : Reg := { blk := 4, off := 0x10068, dims := [(0x100, 96)], cnt := true }

/-- Every register of LNE beyond the common header. -/
def allLne : List Reg := [
  LNE_TRK_CTL, LNE_BRING_CTL, LNE_G_CTL, LNE_G_STATUS, LNE_L_CTL, LNE_L_STATUS, LNE_L_EQ,
  LNE_L_DFE, LNE_L_OFFSET, LNE_L_EYE_CTL, LNE_L_EYE_STATUS, LNE_L_FLAGS, LNE_L_CNT_CLR,
  LNE_L_EYE_BITS, LNE_L_EYE_ERR, LNE_L_HDR_ERR_CNT, LNE_L_RECOVER_CNT, LNE_L_PRBS_BITS,
  LNE_L_PRBS_ERR]

/-- LNK_CTL: Event delivery (spec/13_ammos_link.md, register map). -/
def LNK_CTL : Reg := { blk := 5, off := 0x100, rst := 0x1f0000, rw := 0x1f0001 }
/-- LNK_TIMERS: Replay and idle timers (spec/13_ammos_link.md, register map). -/
def LNK_TIMERS : Reg := { blk := 5, off := 0x104, rst := 0x1404320a, rw := 0xff0fffff }
/-- LNK_P_CTL: Port commands and options (spec/13_ammos_link.md, register map). -/
def LNK_P_CTL : Reg := { blk := 5, off := 0x10000, dims := [(0x100, 24)], rst := 0x6, rw := 0x7 }
/-- LNK_P_STATUS: State, width, cause (spec/13_ammos_link.md, register map). -/
def LNK_P_STATUS : Reg := { blk := 5, off := 0x10004, dims := [(0x100, 24)] }
/-- LNK_P_CAPS: Peer CAPS bytes 4w to 4w + 3 (spec/13_ammos_link.md, register map). -/
def LNK_P_CAPS : Reg := { blk := 5, off := 0x10008, dims := [(0x100, 24), (0x4, 4)] }
/-- LNK_P_SEQ: Sequence state (spec/13_ammos_link.md, register map). -/
def LNK_P_SEQ : Reg := { blk := 5, off := 0x10018, dims := [(0x100, 24)] }
/-- LNK_P_KEY: Key slots (spec/13_ammos_link.md, register map). -/
def LNK_P_KEY : Reg := { blk := 5, off := 0x1001c, dims := [(0x100, 24)] }
/-- LNK_P_FLAGS: Sticky flags (spec/13_ammos_link.md, register map). -/
def LNK_P_FLAGS : Reg := { blk := 5, off := 0x10020, dims := [(0x100, 24)], w1c := 0x1f }
/-- LNK_P_CNT_CLR: Counter clears (spec/13_ammos_link.md, register map). -/
def LNK_P_CNT_CLR : Reg := { blk := 5, off := 0x10024, dims := [(0x100, 24)] }
/-- LNK_P_CRC_ERR_CNT: Packets discarded for CRC (spec/13_ammos_link.md, register map). -/
def LNK_P_CRC_ERR_CNT : Reg := { blk := 5, off := 0x10040, dims := [(0x100, 24)], cnt := true }
/-- LNK_P_REPLAY_CNT: Replays (spec/13_ammos_link.md, register map). -/
def LNK_P_REPLAY_CNT : Reg := { blk := 5, off := 0x10048, dims := [(0x100, 24)], cnt := true }
/-- LNK_P_AUTH_FAIL_CNT: Protected transactions refused (spec/13_ammos_link.md, register map). -/
def LNK_P_AUTH_FAIL_CNT : Reg := { blk := 5, off := 0x10050, dims := [(0x100, 24)], cnt := true }
/-- LNK_P_DROP_CNT: Transactions discarded (spec/13_ammos_link.md, register map). -/
def LNK_P_DROP_CNT : Reg := { blk := 5, off := 0x10058, dims := [(0x100, 24)], cnt := true }
/-- LNK_P_TX_PKT_CNT: Packets sent, replays included (spec/13_ammos_link.md, register map). -/
def LNK_P_TX_PKT_CNT : Reg := { blk := 5, off := 0x10060, dims := [(0x100, 24)], cnt := true }
/-- LNK_P_RX_PKT_CNT: Packets accepted (spec/13_ammos_link.md, register map). -/
def LNK_P_RX_PKT_CNT : Reg := { blk := 5, off := 0x10068, dims := [(0x100, 24)], cnt := true }

/-- Every register of LNK beyond the common header. -/
def allLnk : List Reg := [
  LNK_CTL, LNK_TIMERS, LNK_P_CTL, LNK_P_STATUS, LNK_P_CAPS, LNK_P_SEQ, LNK_P_KEY,
  LNK_P_FLAGS, LNK_P_CNT_CLR, LNK_P_CRC_ERR_CNT, LNK_P_REPLAY_CNT, LNK_P_AUTH_FAIL_CNT,
  LNK_P_DROP_CNT, LNK_P_TX_PKT_CNT, LNK_P_RX_PKT_CNT]

/-- DMC_CTL: Enables (spec/14_dram_controller.md, register map). -/
def DMC_CTL : Reg := { blk := 6, off := 0x100, rst := 0x1f, rw := 0x1f }
/-- DMC_MAP: DRAM_MAP in force (spec/14_dram_controller.md, register map). -/
def DMC_MAP : Reg := { blk := 6, off := 0x104 }
/-- DMC_CAP: Mapped capacity (spec/14_dram_controller.md, register map). -/
def DMC_CAP : Reg := { blk := 6, off := 0x108 }
/-- DMC_FREQ_CTL: Frequency change request (spec/14_dram_controller.md, register map). -/
def DMC_FREQ_CTL : Reg := { blk := 6, off := 0x10c, rst := 0x640000, rw := 0xff0003 }
/-- DMC_FREQ_STATUS: Frequency change state (spec/14_dram_controller.md, register map). -/
def DMC_FREQ_STATUS : Reg := { blk := 6, off := 0x110 }
/-- DMC_TRAIN_CTL: Drift tracking (spec/14_dram_controller.md, register map). -/
def DMC_TRAIN_CTL : Reg := { blk := 6, off := 0x114, rst := 0x10080400, rw := 0xffff0fff, b := 0xffff0fff }
/-- DMC_PM_CTL: Sleep and window guard (spec/14_dram_controller.md, register map). -/
def DMC_PM_CTL : Reg := { blk := 6, off := 0x118, rst := 0x1f414040, rw := 0xfffff0ff, b := 0xfffff0ff }
/-- DMC_RH_CTL: Hot-row limits (spec/14_dram_controller.md, register map). -/
def DMC_RH_CTL : Reg := { blk := 6, off := 0x11c, rst := 0x80003e8, rw := 0xffffffff, b := 0xffffffff }
/-- DMC_ERR_INFO: Last poisoned or refused request (spec/14_dram_controller.md, register map). -/
def DMC_ERR_INFO : Reg := { blk := 6, off := 0x120 }
/-- DMC_ERR_ADDR: Its address (spec/14_dram_controller.md, register map). -/
def DMC_ERR_ADDR : Reg := { blk := 6, off := 0x124 }
/-- DMC_CNT_CLR: Counter clears (spec/14_dram_controller.md, register map). -/
def DMC_CNT_CLR : Reg := { blk := 6, off := 0x128 }
/-- DMC_CE_CNT: Inline ECC corrections (spec/14_dram_controller.md, register map). -/
def DMC_CE_CNT : Reg := { blk := 6, off := 0x140, cnt := true }
/-- DMC_UE_CNT: Poisoned reads and refused requests (spec/14_dram_controller.md, register map). -/
def DMC_UE_CNT : Reg := { blk := 6, off := 0x148, cnt := true }
/-- DMC_RETRY_CNT: Successful retries (spec/14_dram_controller.md, register map). -/
def DMC_RETRY_CNT : Reg := { blk := 6, off := 0x150, cnt := true }
/-- DMC_LINK_CE_CNT: Link ECC corrections (spec/14_dram_controller.md, register map). -/
def DMC_LINK_CE_CNT : Reg := { blk := 6, off := 0x158, cnt := true }
/-- DMC_BASIN_CE_CNT: Basin corrections (spec/14_dram_controller.md, register map). -/
def DMC_BASIN_CE_CNT : Reg := { blk := 6, off := 0x160, cnt := true }
/-- DMC_BASIN_WORK: Working basin banks (spec/14_dram_controller.md, register map). -/
def DMC_BASIN_WORK : Reg := { blk := 6, off := 0x200, dims := [(0x4, 2)] }
/-- DMC_BASIN_REGION: Basin regions (spec/14_dram_controller.md, register map). -/
def DMC_BASIN_REGION : Reg := { blk := 6, off := 0x210, dims := [(0x4, 8)] }
/-- DMC_BASIN_CMD: Bulk command (spec/14_dram_controller.md, register map). -/
def DMC_BASIN_CMD : Reg := { blk := 6, off := 0x240 }
/-- DMC_BASIN_PAGE: DRAM page of LOAD and STORE (spec/14_dram_controller.md, register map). -/
def DMC_BASIN_PAGE : Reg := { blk := 6, off := 0x244, rw := 0xfffff }
/-- DMC_BASIN_STATUS: Bulk command state (spec/14_dram_controller.md, register map). -/
def DMC_BASIN_STATUS : Reg := { blk := 6, off := 0x248 }
/-- DMC_RT_PANIC_CNT: Panic assertions of head h (spec/14_dram_controller.md, register map). -/
def DMC_RT_PANIC_CNT : Reg := { blk := 6, off := 0x300, dims := [(0x8, 4)], cnt := true }
/-- DMC_CH_STATUS: State, debts, power states (spec/14_dram_controller.md, register map). -/
def DMC_CH_STATUS : Reg := { blk := 6, off := 0x10000, dims := [(0x100, 16)] }
/-- DMC_CH_TIMING: Split penalty, refresh interval, exit time (spec/14_dram_controller.md, register map). -/
def DMC_CH_TIMING : Reg := { blk := 6, off := 0x10004, dims := [(0x100, 16)] }
/-- DMC_CH_TRAIN: Drift tracking result (spec/14_dram_controller.md, register map). -/
def DMC_CH_TRAIN : Reg := { blk := 6, off := 0x10008, dims := [(0x100, 16)] }
/-- DMC_CH_FLAGS: Sticky flags (spec/14_dram_controller.md, register map). -/
def DMC_CH_FLAGS : Reg := { blk := 6, off := 0x1000c, dims := [(0x100, 16)], w1c := 0x1f }
/-- DMC_CH_CNT_CLR: Counter clears (spec/14_dram_controller.md, register map). -/
def DMC_CH_CNT_CLR : Reg := { blk := 6, off := 0x10010, dims := [(0x100, 16)] }
/-- DMC_CH_SPLIT_CNT: Bursts split by forced refresh (spec/14_dram_controller.md, register map). -/
def DMC_CH_SPLIT_CNT : Reg := { blk := 6, off := 0x10020, dims := [(0x100, 16)], cnt := true }
/-- DMC_CH_RFM_CNT: RFM for hot rows of real-time ports (spec/14_dram_controller.md, register map). -/
def DMC_CH_RFM_CNT : Reg := { blk := 6, off := 0x10028, dims := [(0x100, 16)], cnt := true }
/-- DMC_CH_THROTTLE_CNT: Throttle starts (spec/14_dram_controller.md, register map). -/
def DMC_CH_THROTTLE_CNT : Reg := { blk := 6, off := 0x10030, dims := [(0x100, 16)], cnt := true }
/-- DMC_CH_DRAIN_CNT: Drain mode entries (spec/14_dram_controller.md, register map). -/
def DMC_CH_DRAIN_CNT : Reg := { blk := 6, off := 0x10038, dims := [(0x100, 16)], cnt := true }
/-- DMC_CH_SR_CNT: Self-refresh entries (spec/14_dram_controller.md, register map). -/
def DMC_CH_SR_CNT : Reg := { blk := 6, off := 0x10040, dims := [(0x100, 16)], cnt := true }

/-- Every register of DMC beyond the common header. -/
def allDmc : List Reg := [
  DMC_CTL, DMC_MAP, DMC_CAP, DMC_FREQ_CTL, DMC_FREQ_STATUS, DMC_TRAIN_CTL, DMC_PM_CTL,
  DMC_RH_CTL, DMC_ERR_INFO, DMC_ERR_ADDR, DMC_CNT_CLR, DMC_CE_CNT, DMC_UE_CNT, DMC_RETRY_CNT,
  DMC_LINK_CE_CNT, DMC_BASIN_CE_CNT, DMC_BASIN_WORK, DMC_BASIN_REGION, DMC_BASIN_CMD,
  DMC_BASIN_PAGE, DMC_BASIN_STATUS, DMC_RT_PANIC_CNT, DMC_CH_STATUS, DMC_CH_TIMING,
  DMC_CH_TRAIN, DMC_CH_FLAGS, DMC_CH_CNT_CLR, DMC_CH_SPLIT_CNT, DMC_CH_RFM_CNT,
  DMC_CH_THROTTLE_CNT, DMC_CH_DRAIN_CNT, DMC_CH_SR_CNT]

/-- SFM_CTL: Guard mode (spec/03_surfaces_and_leases.md, register map). -/
def SFM_CTL : Reg := { blk := 7, off := 0x100, rst := 0x1, rw := 0x1 }
/-- SFM_PT_BASE: Page table location (spec/03_surfaces_and_leases.md, register map). -/
def SFM_PT_BASE : Reg := { blk := 7, off := 0x104, rw := 0xfffff }
/-- SFM_PT_INV: Translation invalidation (spec/03_surfaces_and_leases.md, register map). -/
def SFM_PT_INV : Reg := { blk := 7, off := 0x108 }
/-- SFM_STATUS: Last entry refusal (spec/03_surfaces_and_leases.md, register map). -/
def SFM_STATUS : Reg := { blk := 7, off := 0x10c }
/-- SFM_USAGE: Entry counts (spec/03_surfaces_and_leases.md, register map). -/
def SFM_USAGE : Reg := { blk := 7, off := 0x110 }
/-- SFM_FAULT_INFO: Last translation fault (spec/03_surfaces_and_leases.md, register map). -/
def SFM_FAULT_INFO : Reg := { blk := 7, off := 0x114, rst := 0xfff }
/-- SFM_FAULT_PAGE: Page of the last fault (spec/03_surfaces_and_leases.md, register map). -/
def SFM_FAULT_PAGE : Reg := { blk := 7, off := 0x118 }
/-- SFM_CNT_CLR: Counter clears (spec/03_surfaces_and_leases.md, register map). -/
def SFM_CNT_CLR : Reg := { blk := 7, off := 0x11c }
/-- SFM_EARLY_FREE_CNT: Early-free events (spec/03_surfaces_and_leases.md, register map). -/
def SFM_EARLY_FREE_CNT : Reg := { blk := 7, off := 0x140, cnt := true }
/-- SFM_XLATE_FAULT_CNT: Translation-fault events (spec/03_surfaces_and_leases.md, register map). -/
def SFM_XLATE_FAULT_CNT : Reg := { blk := 7, off := 0x148, cnt := true }
/-- SFM_PARK_CNT: Parked blocks and pixel-stream transactions (spec/03_surfaces_and_leases.md, register map). -/
def SFM_PARK_CNT : Reg := { blk := 7, off := 0x150, cnt := true }
/-- SFM_DISCARD_CNT: Discarded pixel-stream transactions (spec/03_surfaces_and_leases.md, register map). -/
def SFM_DISCARD_CNT : Reg := { blk := 7, off := 0x158, cnt := true }
/-- SFM_TL_LO: Timeline bits [31:0]; a write applies the value (R58); a read captures HI (R7) (spec/03_surfaces_and_leases.md, register map). -/
def SFM_TL_LO : Reg := { blk := 7, off := 0x800, dims := [(0x8, 256)], rw := 0xffffffff }
/-- SFM_TL_HI: [15:0]: write stages bits [47:32], read returns the captured bits; [31:16] Reserved (spec/03_surfaces_and_leases.md, register map). -/
def SFM_TL_HI : Reg := { blk := 7, off := 0x804, dims := [(0x8, 256)], rw := 0xffff }
/-- SFM_SURF_CTL: Entry state and control (spec/03_surfaces_and_leases.md, register map). -/
def SFM_SURF_CTL : Reg := { blk := 7, off := 0x10000, dims := [(0x20, 4096)], rw := 0x1 }
/-- SFM_SURF_BASE0: Plane 0 base (spec/03_surfaces_and_leases.md, register map). -/
def SFM_SURF_BASE0 : Reg := { blk := 7, off := 0x10004, dims := [(0x20, 4096)], rw := 0x3fffffff }
/-- SFM_SURF_BASE1: Plane 1 base (spec/03_surfaces_and_leases.md, register map). -/
def SFM_SURF_BASE1 : Reg := { blk := 7, off := 0x10008, dims := [(0x20, 4096)], rw := 0x3fffffff }
/-- SFM_SURF_PITCH: Pitches (spec/03_surfaces_and_leases.md, register map). -/
def SFM_SURF_PITCH : Reg := { blk := 7, off := 0x1000c, dims := [(0x20, 4096)], rw := 0xfff0fff }
/-- SFM_SURF_SIZE: Width and height (spec/03_surfaces_and_leases.md, register map). -/
def SFM_SURF_SIZE : Reg := { blk := 7, off := 0x10010, dims := [(0x20, 4096)], rw := 0x3fff3fff }
/-- SFM_SURF_FMT: Pixel format (spec/03_surfaces_and_leases.md, register map). -/
def SFM_SURF_FMT : Reg := { blk := 7, off := 0x10014, dims := [(0x20, 4096)], rw := 0xf, legal := [(3, 0, 0, 12)] }

/-- Every register of SFM beyond the common header. -/
def allSfm : List Reg := [
  SFM_CTL, SFM_PT_BASE, SFM_PT_INV, SFM_STATUS, SFM_USAGE, SFM_FAULT_INFO, SFM_FAULT_PAGE,
  SFM_CNT_CLR, SFM_EARLY_FREE_CNT, SFM_XLATE_FAULT_CNT, SFM_PARK_CNT, SFM_DISCARD_CNT,
  SFM_TL_LO, SFM_TL_HI, SFM_SURF_CTL, SFM_SURF_BASE0, SFM_SURF_BASE1, SFM_SURF_PITCH,
  SFM_SURF_SIZE, SFM_SURF_FMT]

end Sys2Proof.Machine.Rg
end

