-- ==== Sys2Proof/Machine/RegsC.lean ====
section
/-!
DEFINITION. The register maps of CMP, PXP, TGN, PSQ: one entry per register, as the register maps
and field tables of spec/ give it (address, repetition, reset, access types, application classes of R26,
the values R8 admits). Written out from the tables of the spec.
-/
namespace Sys2Proof.Machine.Rg

/-- CMP_H_BG_R: Background red, [17:0] (spec/04_layer_composition.md, register map). -/
def CMP_H_BG_R : Reg := { blk := 8, off := 0x10000, dims := [(0x10000, 4)], rw := 0x3ffff, c := 0x3ffff }
/-- CMP_H_BG_G: Background green, [17:0] (spec/04_layer_composition.md, register map). -/
def CMP_H_BG_G : Reg := { blk := 8, off := 0x10004, dims := [(0x10000, 4)], rw := 0x3ffff, c := 0x3ffff }
/-- CMP_H_BG_B: Background blue, [17:0] (spec/04_layer_composition.md, register map). -/
def CMP_H_BG_B : Reg := { blk := 8, off := 0x10008, dims := [(0x10000, 4)], rw := 0x3ffff, c := 0x3ffff }
/-- CMP_H_STATUS: Latched frame's not-ready and group-wait state (spec/04_layer_composition.md, register map). -/
def CMP_H_STATUS : Reg := { blk := 8, off := 0x10010, dims := [(0x10000, 4)] }
/-- CMP_H_CHK: Last commit-check refusal (spec/04_layer_composition.md, register map). -/
def CMP_H_CHK : Reg := { blk := 8, off := 0x10014, dims := [(0x10000, 4)] }
/-- CMP_H_CHK_W: Widths of the last line-buffer refusal (spec/04_layer_composition.md, register map). -/
def CMP_H_CHK_W : Reg := { blk := 8, off := 0x10018, dims := [(0x10000, 4)] }
/-- CMP_H_CNT_CLR: Counter clears (spec/04_layer_composition.md, register map). -/
def CMP_H_CNT_CLR : Reg := { blk := 8, off := 0x1001c, dims := [(0x10000, 4)] }
/-- CMP_H_NR_CNT: Not-ready layer-frames (spec/04_layer_composition.md, register map). -/
def CMP_H_NR_CNT : Reg := { blk := 8, off := 0x10020, dims := [(0x10000, 4)], cnt := true }
/-- CMP_H_SKIP_CNT: Suppressed layer-polder fetches (spec/04_layer_composition.md, register map). -/
def CMP_H_SKIP_CNT : Reg := { blk := 8, off := 0x10028, dims := [(0x10000, 4)], cnt := true }
/-- CMP_H_CLAMP_CNT: Clamped premultiplied results (spec/04_layer_composition.md, register map). -/
def CMP_H_CLAMP_CNT : Reg := { blk := 8, off := 0x10030, dims := [(0x10000, 4)], cnt := true }
/-- CMP_L_CTL: Enable and blend settings (spec/04_layer_composition.md, register map). -/
def CMP_L_CTL : Reg := { blk := 8, off := 0x11000, dims := [(0x10000, 4), (0x100, 9)], rst := 0xfff0202, rw := 0xfff037f, c := 0xfff037f, legal := [(9, 8, 0, 2), (2, 1, 0, 2)] }
/-- CMP_L_SURF: Surface and acquire timeline (spec/04_layer_composition.md, register map). -/
def CMP_L_SURF : Reg := { blk := 8, off := 0x11004, dims := [(0x10000, 4), (0x100, 9)], rw := 0xff0fff, c := 0xff0fff }
/-- CMP_L_ACQ_LO: Acquire fence value [31:0] (spec/04_layer_composition.md, register map). -/
def CMP_L_ACQ_LO : Reg := { blk := 8, off := 0x11008, dims := [(0x10000, 4), (0x100, 9)], rw := 0xffffffff, c := 0xffffffff }
/-- CMP_L_ACQ_HI: Acquire fence value [47:32] in [15:0] (spec/04_layer_composition.md, register map). -/
def CMP_L_ACQ_HI : Reg := { blk := 8, off := 0x1100c, dims := [(0x10000, 4), (0x100, 9)], rw := 0xffff, c := 0xffff }
/-- CMP_L_SRC_POS: Source x and y (spec/04_layer_composition.md, register map). -/
def CMP_L_SRC_POS : Reg := { blk := 8, off := 0x11010, dims := [(0x10000, 4), (0x100, 9)], rw := 0x3fff3fff, c := 0x3fff3fff }
/-- CMP_L_SRC_SIZE: Source size (spec/04_layer_composition.md, register map). -/
def CMP_L_SRC_SIZE : Reg := { blk := 8, off := 0x11014, dims := [(0x10000, 4), (0x100, 9)], rw := 0x3fff3fff, c := 0x3fff3fff }
/-- CMP_L_DST_POS: Destination x and y (spec/04_layer_composition.md, register map). -/
def CMP_L_DST_POS : Reg := { blk := 8, off := 0x11018, dims := [(0x10000, 4), (0x100, 9)], rw := 0x3fff3fff, c := 0x3fff3fff }
/-- CMP_L_DST_SIZE: Destination size; ignored for the cursor (spec/04_layer_composition.md, register map). -/
def CMP_L_DST_SIZE : Reg := { blk := 8, off := 0x1101c, dims := [(0x10000, 4), (0x100, 9)], rw := 0x1fff1fff, c := 0x1fff1fff }
/-- CMP_L_SPILL_R: Spillway red (spec/04_layer_composition.md, register map). -/
def CMP_L_SPILL_R : Reg := { blk := 8, off := 0x11020, dims := [(0x10000, 4), (0x100, 9)], rw := 0x3ffff, c := 0x3ffff }
/-- CMP_L_SPILL_G: Spillway green (spec/04_layer_composition.md, register map). -/
def CMP_L_SPILL_G : Reg := { blk := 8, off := 0x11024, dims := [(0x10000, 4), (0x100, 9)], rw := 0x3ffff, c := 0x3ffff }
/-- CMP_L_SPILL_B: Spillway blue and alpha (spec/04_layer_composition.md, register map). -/
def CMP_L_SPILL_B : Reg := { blk := 8, off := 0x11028, dims := [(0x10000, 4), (0x100, 9)], rst := 0xfff00000, rw := 0xfff3ffff, c := 0xfff3ffff }
/-- CMP_L_STATE: State in force for the latched frame (spec/04_layer_composition.md, register map). -/
def CMP_L_STATE : Reg := { blk := 8, off := 0x1102c, dims := [(0x10000, 4), (0x100, 9)], rst := 0x20000000 }
/-- CMP_L_HCOEF: Horizontal coefficients (spec/04_layer_composition.md, register map). -/
def CMP_L_HCOEF : Reg := { blk := 8, off := 0x14000, dims := [(0x10000, 4), (0x800, 8), (0x4, 192)], rw := 0xfff0fff, c := 0xfff0fff }
/-- CMP_L_VCOEF: Vertical coefficients (spec/04_layer_composition.md, register map). -/
def CMP_L_VCOEF : Reg := { blk := 8, off := 0x14400, dims := [(0x10000, 4), (0x800, 8), (0x4, 192)], rw := 0xfff0fff, c := 0xfff0fff }

/-- Every register of CMP beyond the common header. -/
def allCmp : List Reg := [
  CMP_H_BG_R, CMP_H_BG_G, CMP_H_BG_B, CMP_H_STATUS, CMP_H_CHK, CMP_H_CHK_W, CMP_H_CNT_CLR,
  CMP_H_NR_CNT, CMP_H_SKIP_CNT, CMP_H_CLAMP_CNT, CMP_L_CTL, CMP_L_SURF, CMP_L_ACQ_LO,
  CMP_L_ACQ_HI, CMP_L_SRC_POS, CMP_L_SRC_SIZE, CMP_L_DST_POS, CMP_L_DST_SIZE, CMP_L_SPILL_R,
  CMP_L_SPILL_G, CMP_L_SPILL_B, CMP_L_STATE, CMP_L_HCOEF, CMP_L_VCOEF]

/-- PXP_H_CTL: Stage enables and bank selection (spec/05_colour_pipeline.md, register map). -/
def PXP_H_CTL : Reg := { blk := 9, off := 0x10000, dims := [(0x10000, 4)], rw := 0x10f, c := 0x10f }
/-- PXP_H_STATUS: Bank in force (spec/05_colour_pipeline.md, register map). -/
def PXP_H_STATUS : Reg := { blk := 9, off := 0x10004, dims := [(0x10000, 4)] }
/-- PXP_H_TBL_ADDR: Table load address (spec/05_colour_pipeline.md, register map). -/
def PXP_H_TBL_ADDR : Reg := { blk := 9, off := 0x10008, dims := [(0x10000, 4)], rst := 0x80000000, rw := 0x8c00ffff, legal := [(27, 26, 0, 2)] }
/-- PXP_H_TBL_D0: Red entry component (spec/05_colour_pipeline.md, register map). -/
def PXP_H_TBL_D0 : Reg := { blk := 9, off := 0x1000c, dims := [(0x10000, 4)], rw := 0x3ffff }
/-- PXP_H_TBL_D1: Green entry component (spec/05_colour_pipeline.md, register map). -/
def PXP_H_TBL_D1 : Reg := { blk := 9, off := 0x10010, dims := [(0x10000, 4)], rw := 0x3ffff }
/-- PXP_H_TBL_D2: Blue entry component; a write stores the entry (spec/05_colour_pipeline.md, register map). -/
def PXP_H_TBL_D2 : Reg := { blk := 9, off := 0x10014, dims := [(0x10000, 4)], rw := 0x3ffff }
/-- PXP_H_GMTX: Gamut matrix (spec/05_colour_pipeline.md, register map). -/
def PXP_H_GMTX : Reg := { blk := 9, off := 0x10020, dims := [(0x10000, 4), (0x4, 9)], rw := 0x1fffff, c := 0x1fffff }
/-- PXP_H_WP: White point gains (spec/05_colour_pipeline.md, register map). -/
def PXP_H_WP : Reg := { blk := 9, off := 0x10050, dims := [(0x10000, 4), (0x4, 3)], rst := 0x20000, rw := 0x3ffff, c := 0x3ffff }
/-- PXP_L_CTL: Decode and linearisation (spec/05_colour_pipeline.md, register map). -/
def PXP_L_CTL : Reg := { blk := 9, off := 0x11000, dims := [(0x10000, 4), (0x100, 9)], rw := 0x377, c := 0x377, legal := [(5, 4, 0, 1), (2, 0, 0, 4)] }
/-- PXP_L_MTX: Layer matrix to blend space (spec/05_colour_pipeline.md, register map). -/
def PXP_L_MTX : Reg := { blk := 9, off := 0x11004, dims := [(0x10000, 4), (0x100, 9), (0x4, 9)], rw := 0x1fffff, c := 0x1fffff }

/-- Every register of PXP beyond the common header. -/
def allPxp : List Reg := [
  PXP_H_CTL, PXP_H_STATUS, PXP_H_TBL_ADDR, PXP_H_TBL_D0, PXP_H_TBL_D1, PXP_H_TBL_D2,
  PXP_H_GMTX, PXP_H_WP, PXP_L_CTL, PXP_L_MTX]

/-- TGN_RATE_SUM: Sum of the R99 head rates (spec/06_scanout_timing.md, register map). -/
def TGN_RATE_SUM : Reg := { blk := 10, off := 0x100 }
/-- TGN_H_CTL: Enable, hold frames, retire events (spec/06_scanout_timing.md, register map). -/
def TGN_H_CTL : Reg := { blk := 10, off := 0x10000, dims := [(0x10000, 4)], rst := 0x120, rw := 0x1f1 }
/-- TGN_H_STATE: Head state (spec/06_scanout_timing.md, register map). -/
def TGN_H_STATE : Reg := { blk := 10, off := 0x10004, dims := [(0x10000, 4)] }
/-- TGN_H_COMMIT: Commit submission (spec/06_scanout_timing.md, register map). -/
def TGN_H_COMMIT : Reg := { blk := 10, off := 0x10008, dims := [(0x10000, 4)] }
/-- TGN_H_RETIRE_LO: Retire value [31:0] (spec/06_scanout_timing.md, register map). -/
def TGN_H_RETIRE_LO : Reg := { blk := 10, off := 0x1000c, dims := [(0x10000, 4)], rw := 0xffffffff }
/-- TGN_H_RETIRE_HI: Retire value [47:32] in [15:0] (spec/06_scanout_timing.md, register map). -/
def TGN_H_RETIRE_HI : Reg := { blk := 10, off := 0x10010, dims := [(0x10000, 4)], rw := 0xffff }
/-- TGN_H_COMMIT_STATUS: Last acceptance or refusal (spec/06_scanout_timing.md, register map). -/
def TGN_H_COMMIT_STATUS : Reg := { blk := 10, off := 0x10014, dims := [(0x10000, 4)] }
/-- TGN_H_FRAME: Frame boundaries since enable (spec/06_scanout_timing.md, register map). -/
def TGN_H_FRAME : Reg := { blk := 10, off := 0x10018, dims := [(0x10000, 4)], cnt := true }
/-- TGN_H_POS: Raster position (spec/06_scanout_timing.md, register map). -/
def TGN_H_POS : Reg := { blk := 10, off := 0x10020, dims := [(0x10000, 4)] }
/-- TGN_H_FLAGS: Sticky flags (spec/06_scanout_timing.md, register map). -/
def TGN_H_FLAGS : Reg := { blk := 10, off := 0x10024, dims := [(0x10000, 4)], w1c := 0x7f }
/-- TGN_H_HTIME: Horizontal totals (spec/06_scanout_timing.md, register map). -/
def TGN_H_HTIME : Reg := { blk := 10, off := 0x10040, dims := [(0x10000, 4)], rw := 0x3fff3fff, t := 0x3fff3fff }
/-- TGN_H_HSYNC: Horizontal sync (spec/06_scanout_timing.md, register map). -/
def TGN_H_HSYNC : Reg := { blk := 10, off := 0x10044, dims := [(0x10000, 4)], rw := 0x3fff3fff, t := 0x3fff3fff }
/-- TGN_H_VTIME: Vertical totals (spec/06_scanout_timing.md, register map). -/
def TGN_H_VTIME : Reg := { blk := 10, off := 0x10048, dims := [(0x10000, 4)], rw := 0x3fff3fff, t := 0x3fff3fff }
/-- TGN_H_VSYNC: Vertical sync (spec/06_scanout_timing.md, register map). -/
def TGN_H_VSYNC : Reg := { blk := 10, off := 0x1004c, dims := [(0x10000, 4)], rw := 0x3fff3fff, t := 0x3fff3fff }
/-- TGN_H_PIX_INC: Pixel increment (spec/06_scanout_timing.md, register map). -/
def TGN_H_PIX_INC : Reg := { blk := 10, off := 0x10050, dims := [(0x10000, 4)], rw := 0x3fffffff, t := 0x3fffffff }
/-- TGN_H_SLUICE: Window close (spec/06_scanout_timing.md, register map). -/
def TGN_H_SLUICE : Reg := { blk := 10, off := 0x10054, dims := [(0x10000, 4)], rst := 0x10, rw := 0x3fff }
/-- TGN_H_FB_CTL: Panic threshold (spec/06_scanout_timing.md, register map). -/
def TGN_H_FB_CTL : Reg := { blk := 10, off := 0x10058, dims := [(0x10000, 4)], rst := 0x3e8, rw := 0xffff }
/-- TGN_H_FB_STAT: Freeboard now and minimum (spec/06_scanout_timing.md, register map). -/
def TGN_H_FB_STAT : Reg := { blk := 10, off := 0x1005c, dims := [(0x10000, 4)], rst := 0xffffffff }
/-- TGN_H_GL_CTL: Genlock control (spec/06_scanout_timing.md, register map). -/
def TGN_H_GL_CTL : Reg := { blk := 10, off := 0x10060, dims := [(0x10000, 4)], rst := 0x64190fa, rw := 0xffffffff, t := 0x80000000 }
/-- TGN_H_GL_RATE: Frame rate num / den (spec/06_scanout_timing.md, register map). -/
def TGN_H_GL_RATE : Reg := { blk := 10, off := 0x10064, dims := [(0x10000, 4)], rst := 0x10003c, rw := 0xffffffff, t := 0xffffffff }
/-- TGN_H_GL_OFFSET: Phase offset (spec/06_scanout_timing.md, register map). -/
def TGN_H_GL_OFFSET : Reg := { blk := 10, off := 0x10068, dims := [(0x10000, 4)], rw := 0x3fffffff, t := 0x3fffffff }
/-- TGN_H_GL_KP: Proportional gain (spec/06_scanout_timing.md, register map). -/
def TGN_H_GL_KP : Reg := { blk := 10, off := 0x1006c, dims := [(0x10000, 4)], rst := 0x340000, rw := 0xffffff }
/-- TGN_H_GL_KI: Integral gain (spec/06_scanout_timing.md, register map). -/
def TGN_H_GL_KI : Reg := { blk := 10, off := 0x10070, dims := [(0x10000, 4)], rst := 0xd000, rw := 0xffffff }
/-- TGN_H_GL_STATUS: Lock state (spec/06_scanout_timing.md, register map). -/
def TGN_H_GL_STATUS : Reg := { blk := 10, off := 0x10074, dims := [(0x10000, 4)] }
/-- TGN_H_GL_ERR: Last phase error (spec/06_scanout_timing.md, register map). -/
def TGN_H_GL_ERR : Reg := { blk := 10, off := 0x10078, dims := [(0x10000, 4)] }
/-- TGN_H_CRC_STAT: Last compare per rectangle (spec/06_scanout_timing.md, register map). -/
def TGN_H_CRC_STAT : Reg := { blk := 10, off := 0x1007c, dims := [(0x10000, 4)] }
/-- TGN_H_CNT_CLR: Counter clears (spec/06_scanout_timing.md, register map). -/
def TGN_H_CNT_CLR : Reg := { blk := 10, off := 0x10080, dims := [(0x10000, 4)] }
/-- TGN_H_BREACH_CNT: Aborted frames (spec/06_scanout_timing.md, register map). -/
def TGN_H_BREACH_CNT : Reg := { blk := 10, off := 0x10088, dims := [(0x10000, 4)], cnt := true }
/-- TGN_H_LATE_CNT: Late commits (spec/06_scanout_timing.md, register map). -/
def TGN_H_LATE_CNT : Reg := { blk := 10, off := 0x10090, dims := [(0x10000, 4)], cnt := true }
/-- TGN_H_CRC_FAIL_CNT: Rectangle mismatches (spec/06_scanout_timing.md, register map). -/
def TGN_H_CRC_FAIL_CNT : Reg := { blk := 10, off := 0x10098, dims := [(0x10000, 4)], cnt := true }
/-- TGN_H_REFUSE_CNT: Refused commits and enables (R102) (spec/06_scanout_timing.md, register map). -/
def TGN_H_REFUSE_CNT : Reg := { blk := 10, off := 0x100a0, dims := [(0x10000, 4)], cnt := true }
/-- TGN_R_CTL: Enable and tap (spec/06_scanout_timing.md, register map). -/
def TGN_R_CTL : Reg := { blk := 10, off := 0x10200, dims := [(0x10000, 4), (0x20, 8)], rw := 0x7, c := 0x7, legal := [(2, 1, 0, 2)] }
/-- TGN_R_POS: x and y (spec/06_scanout_timing.md, register map). -/
def TGN_R_POS : Reg := { blk := 10, off := 0x10204, dims := [(0x10000, 4), (0x20, 8)], rw := 0x3fff3fff, c := 0x3fff3fff }
/-- TGN_R_SIZE: Size (spec/06_scanout_timing.md, register map). -/
def TGN_R_SIZE : Reg := { blk := 10, off := 0x10208, dims := [(0x10000, 4), (0x20, 8)], rw := 0x3fff3fff, c := 0x3fff3fff }
/-- TGN_R_EXP: Expected CRC (spec/06_scanout_timing.md, register map). -/
def TGN_R_EXP : Reg := { blk := 10, off := 0x1020c, dims := [(0x10000, 4), (0x20, 8)], rw := 0xffffffff, c := 0xffffffff }
/-- TGN_R_RESULT: Last computed CRC (spec/06_scanout_timing.md, register map). -/
def TGN_R_RESULT : Reg := { blk := 10, off := 0x10210, dims := [(0x10000, 4), (0x20, 8)] }

/-- Every register of TGN beyond the common header. -/
def allTgn : List Reg := [
  TGN_RATE_SUM, TGN_H_CTL, TGN_H_STATE, TGN_H_COMMIT, TGN_H_RETIRE_LO, TGN_H_RETIRE_HI,
  TGN_H_COMMIT_STATUS, TGN_H_FRAME, TGN_H_POS, TGN_H_FLAGS, TGN_H_HTIME, TGN_H_HSYNC,
  TGN_H_VTIME, TGN_H_VSYNC, TGN_H_PIX_INC, TGN_H_SLUICE, TGN_H_FB_CTL, TGN_H_FB_STAT,
  TGN_H_GL_CTL, TGN_H_GL_RATE, TGN_H_GL_OFFSET, TGN_H_GL_KP, TGN_H_GL_KI, TGN_H_GL_STATUS,
  TGN_H_GL_ERR, TGN_H_CRC_STAT, TGN_H_CNT_CLR, TGN_H_BREACH_CNT, TGN_H_LATE_CNT,
  TGN_H_CRC_FAIL_CNT, TGN_H_REFUSE_CNT, TGN_R_CTL, TGN_R_POS, TGN_R_SIZE, TGN_R_EXP,
  TGN_R_RESULT]

/-- PSQ_POLDER_ADDR: Polder context window address (spec/07_weighted_light_planes.md, register map). -/
def PSQ_POLDER_ADDR : Reg := { blk := 11, off := 0x100, rw := 0xffff }
/-- PSQ_POLDER_DATA: Polder context words (spec/07_weighted_light_planes.md, register map). -/
def PSQ_POLDER_DATA : Reg := { blk := 11, off := 0x104, dims := [(0x4, 11)] }
/-- PSQ_H_CTL: Components per array, table bank (spec/07_weighted_light_planes.md, register map). -/
def PSQ_H_CTL : Reg := { blk := 11, off := 0x10000, dims := [(0x10000, 4)], rst := 0x24, rw := 0x13f, c := 0x13f, legal := [(5, 4, 0, 2), (3, 2, 0, 2), (1, 0, 0, 2)] }
/-- PSQ_H_STATUS: Sequence and bank in force (spec/07_weighted_light_planes.md, register map). -/
def PSQ_H_STATUS : Reg := { blk := 11, off := 0x10004, dims := [(0x10000, 4)] }
/-- PSQ_H_CHK: Last commit-check refusal (spec/07_weighted_light_planes.md, register map). -/
def PSQ_H_CHK : Reg := { blk := 11, off := 0x10008, dims := [(0x10000, 4)] }
/-- PSQ_H_BUF: Plane buffer size and placement (spec/07_weighted_light_planes.md, register map). -/
def PSQ_H_BUF : Reg := { blk := 11, off := 0x1000c, dims := [(0x10000, 4)], rst := 0x32, rw := 0xff, t := 0xff, legal := [(7, 0, 1, 166)] }
/-- PSQ_H_PLANE_BASE: DRAM plane buffer location (spec/07_weighted_light_planes.md, register map). -/
def PSQ_H_PLANE_BASE : Reg := { blk := 11, off := 0x10010, dims := [(0x10000, 4)], rw := 0xfffff, t := 0xfffff }
/-- PSQ_H_DITHER: Residue step (spec/07_weighted_light_planes.md, register map). -/
def PSQ_H_DITHER : Reg := { blk := 11, off := 0x10014, dims := [(0x10000, 4)], rst := 0x9e3, rw := 0xfff, c := 0xfff }
/-- PSQ_H_TBL_ADDR: Mapping table load address (spec/07_weighted_light_planes.md, register map). -/
def PSQ_H_TBL_ADDR : Reg := { blk := 11, off := 0x10018, dims := [(0x10000, 4)], rst := 0x80000000, rw := 0x8f00007f }
/-- PSQ_H_TBL_LO: Mask bits [31:0] (spec/07_weighted_light_planes.md, register map). -/
def PSQ_H_TBL_LO : Reg := { blk := 11, off := 0x1001c, dims := [(0x10000, 4)], rw := 0xffffffff }
/-- PSQ_H_TBL_HI: Mask bits [63:32]; a write stores the entry (spec/07_weighted_light_planes.md, register map). -/
def PSQ_H_TBL_HI : Reg := { blk := 11, off := 0x10020, dims := [(0x10000, 4)], rw := 0xffffffff }
/-- PSQ_H_CNT_CLR: Counter clears (spec/07_weighted_light_planes.md, register map). -/
def PSQ_H_CNT_CLR : Reg := { blk := 11, off := 0x10024, dims := [(0x10000, 4)] }
/-- PSQ_H_CLASS_CNT: Polder class changes (spec/07_weighted_light_planes.md, register map). -/
def PSQ_H_CLASS_CNT : Reg := { blk := 11, off := 0x10030, dims := [(0x10000, 4)], cnt := true }
/-- PSQ_H_CODED_CNT: Frames whose polder updates were committed (spec/07_weighted_light_planes.md, register map). -/
def PSQ_H_CODED_CNT : Reg := { blk := 11, off := 0x10038, dims := [(0x10000, 4)], cnt := true }
/-- PSQ_R_CTL: Depth and mapping per class (spec/07_weighted_light_planes.md, register map). -/
def PSQ_R_CTL : Reg := { blk := 11, off := 0x10100, dims := [(0x10000, 4), (0x10, 8)], rst := 0x12084210, rw := 0x1f0fffff, c := 0x1f0fffff, legal := [(28, 24, 8, 18)] }
/-- PSQ_R_THR_A: Thresholds t1, t2 (spec/07_weighted_light_planes.md, register map). -/
def PSQ_R_THR_A : Reg := { blk := 11, off := 0x10104, dims := [(0x10000, 4), (0x10, 8)], rst := 0x4000100, rw := 0xffffffff, c := 0xffffffff }
/-- PSQ_R_THR_B: Threshold t3, hysteresis (spec/07_weighted_light_planes.md, register map). -/
def PSQ_R_THR_B : Reg := { blk := 11, off := 0x10108, dims := [(0x10000, 4), (0x10, 8)], rst := 0x401000, rw := 0xffffffff, c := 0xffffffff }
/-- PSQ_H_RECT_A: Ring rectangle tile range (spec/07_weighted_light_planes.md, register map). -/
def PSQ_H_RECT_A : Reg := { blk := 11, off := 0x10200, dims := [(0x10000, 4), (0x8, 16)], rw := 0xffffffff, c := 0xffffffff }
/-- PSQ_H_RECT_B: Ring rectangle enable and ring (spec/07_weighted_light_planes.md, register map). -/
def PSQ_H_RECT_B : Reg := { blk := 11, off := 0x10204, dims := [(0x10000, 4), (0x8, 16)], rw := 0x80000007, c := 0x80000007 }
/-- PSQ_SLOT_CTL: Sequence entries (spec/07_weighted_light_planes.md, register map). -/
def PSQ_SLOT_CTL : Reg := { blk := 11, off := 0x10400, dims := [(0x10000, 4), (0x4, 166)], rw := 0xdf71ffff, c := 0xdf71ffff }

/-- Every register of PSQ beyond the common header. -/
def allPsq : List Reg := [
  PSQ_POLDER_ADDR, PSQ_POLDER_DATA, PSQ_H_CTL, PSQ_H_STATUS, PSQ_H_CHK, PSQ_H_BUF,
  PSQ_H_PLANE_BASE, PSQ_H_DITHER, PSQ_H_TBL_ADDR, PSQ_H_TBL_LO, PSQ_H_TBL_HI, PSQ_H_CNT_CLR,
  PSQ_H_CLASS_CNT, PSQ_H_CODED_CNT, PSQ_R_CTL, PSQ_R_THR_A, PSQ_R_THR_B, PSQ_H_RECT_A,
  PSQ_H_RECT_B, PSQ_SLOT_CTL]

end Sys2Proof.Machine.Rg
end

