-- ==== Sys2Proof/Machine/RegsD.lean ====
section
/-!
DEFINITION. The register maps of LTE, LSC, PNL, TIM: one entry per register, as the register maps
and field tables of spec/ give it (address, repetition, reset, access types, application classes of R26,
the values R8 admits). Written out from the tables of the spec.
-/
namespace Sys2Proof.Machine.Rg

/-- LTE_P_CAL: Calibration start and status (spec/08_mirror_and_light_timing.md, register map). -/
def LTE_P_CAL : Reg := { blk := 12, off := 0x8000, dims := [(0x10, 24)] }
/-- LTE_P_LAT: Latency measured and in force (spec/08_mirror_and_light_timing.md, register map). -/
def LTE_P_LAT : Reg := { blk := 12, off := 0x8004, dims := [(0x10, 24)] }
/-- LTE_P_ASYM: Path asymmetry correction (spec/08_mirror_and_light_timing.md, register map). -/
def LTE_P_ASYM : Reg := { blk := 12, off := 0x8008, dims := [(0x10, 24)], rw := 0xffff }
/-- LTE_P_OFFSET: Last verify offset and spread (spec/08_mirror_and_light_timing.md, register map). -/
def LTE_P_OFFSET : Reg := { blk := 12, off := 0x800c, dims := [(0x10, 24)] }
/-- LTE_H_FRONT: Settle and front berm (spec/08_mirror_and_light_timing.md, register map). -/
def LTE_H_FRONT : Reg := { blk := 12, off := 0x10000, dims := [(0x10000, 4)], rst := 0x5001e00, rw := 0xffffffff, t := 0xffffffff }
/-- LTE_H_BACK: Lit interval and back berm (spec/08_mirror_and_light_timing.md, register map). -/
def LTE_H_BACK : Reg := { blk := 12, off := 0x10004, dims := [(0x10000, 4)], rst := 0xd20500, rw := 0xffffff, t := 0xffffff }
/-- LTE_H_RESET: Reset mode and stagger (spec/08_mirror_and_light_timing.md, register map). -/
def LTE_H_RESET : Reg := { blk := 12, off := 0x10008, dims := [(0x10000, 4)], rw := 0xff01, t := 0xff01 }
/-- LTE_H_PULSE: Command lead and placement (spec/08_mirror_and_light_timing.md, register map). -/
def LTE_H_PULSE : Reg := { blk := 12, off := 0x1000c, dims := [(0x10000, 4)], rst := 0xf000001, rw := 0xffff0003, c := 0x3, t := 0xffff0000, legal := [(1, 0, 0, 2)] }
/-- LTE_H_CHK: Last commit-check refusal (spec/08_mirror_and_light_timing.md, register map). -/
def LTE_H_CHK : Reg := { blk := 12, off := 0x10010, dims := [(0x10000, 4)] }
/-- LTE_H_STATUS: Values in force and output state (spec/08_mirror_and_light_timing.md, register map). -/
def LTE_H_STATUS : Reg := { blk := 12, off := 0x10014, dims := [(0x10000, 4)] }
/-- LTE_H_TLOAD: Largest plane load time (spec/08_mirror_and_light_timing.md, register map). -/
def LTE_H_TLOAD : Reg := { blk := 12, off := 0x10018, dims := [(0x10000, 4)] }
/-- LTE_H_CNT_CLR: Counter clears (spec/08_mirror_and_light_timing.md, register map). -/
def LTE_H_CNT_CLR : Reg := { blk := 12, off := 0x1001c, dims := [(0x10000, 4)] }
/-- LTE_H_LATE_CNT: Late commands reported (spec/08_mirror_and_light_timing.md, register map). -/
def LTE_H_LATE_CNT : Reg := { blk := 12, off := 0x10020, dims := [(0x10000, 4)], cnt := true }
/-- LTE_H_INCOMPLETE_CNT: Incomplete planes reported (spec/08_mirror_and_light_timing.md, register map). -/
def LTE_H_INCOMPLETE_CNT : Reg := { blk := 12, off := 0x10028, dims := [(0x10000, 4)], cnt := true }
/-- LTE_H_DARK_CNT: Minimum slots darkened by plane-stream breach (spec/08_mirror_and_light_timing.md, register map). -/
def LTE_H_DARK_CNT : Reg := { blk := 12, off := 0x10030, dims := [(0x10000, 4)], cnt := true }

/-- Every register of LTE beyond the common header. -/
def allLte : List Reg := [
  LTE_P_CAL, LTE_P_LAT, LTE_P_ASYM, LTE_P_OFFSET, LTE_H_FRONT, LTE_H_BACK, LTE_H_RESET,
  LTE_H_PULSE, LTE_H_CHK, LTE_H_STATUS, LTE_H_TLOAD, LTE_H_CNT_CLR, LTE_H_LATE_CNT,
  LTE_H_INCOMPLETE_CNT, LTE_H_DARK_CNT]

/-- LSC_CTL: Engine enable (spec/09_light_source_loops.md, register map). -/
def LSC_CTL : Reg := { blk := 13, off := 0x100, rw := 0x1 }
/-- LSC_STATUS: Engine state, refusal, queue peak (spec/09_light_source_loops.md, register map). -/
def LSC_STATUS : Reg := { blk := 13, off := 0x104 }
/-- LSC_COEF_ADDR: Coefficient window address (spec/09_light_source_loops.md, register map). -/
def LSC_COEF_ADDR : Reg := { blk := 13, off := 0x108, rst := 0x1000, rw := 0xff137f }
/-- LSC_COEF_DATA: Coefficient window data (spec/09_light_source_loops.md, register map). -/
def LSC_COEF_DATA : Reg := { blk := 13, off := 0x10c, rw := 0xf03ffff }
/-- LSC_CTX_ADDR: Context window address (spec/09_light_source_loops.md, register map). -/
def LSC_CTX_ADDR : Reg := { blk := 13, off := 0x110, rw := 0xff0007 }
/-- LSC_CTX_DATA: Context words (spec/09_light_source_loops.md, register map). -/
def LSC_CTX_DATA : Reg := { blk := 13, off := 0x114, dims := [(0x4, 6)] }
/-- LSC_CNT_CLR: Counter clears (spec/09_light_source_loops.md, register map). -/
def LSC_CNT_CLR : Reg := { blk := 13, off := 0x130 }
/-- LSC_H_CTL: Drive lag (spec/09_light_source_loops.md, register map). -/
def LSC_H_CTL : Reg := { blk := 13, off := 0x200, dims := [(0x10, 4)], rst := 0x3200, rw := 0xffff, c := 0xffff }
/-- LSC_H_SMP: Sample request per tier (spec/09_light_source_loops.md, register map). -/
def LSC_H_SMP : Reg := { blk := 13, off := 0x204, dims := [(0x10, 4)], rst := 0xb6db6d, rw := 0xffffff, c := 0xffffff, legal := [(2, 0, 0, 5), (5, 3, 0, 5), (8, 6, 0, 5), (11, 9, 0, 5), (14, 12, 0, 5), (17, 15, 0, 5), (20, 18, 0, 5), (23, 21, 0, 5)] }
/-- LSC_H_CHK: Last commit-check refusal (spec/09_light_source_loops.md, register map). -/
def LSC_H_CHK : Reg := { blk := 13, off := 0x208, dims := [(0x10, 4)] }
/-- LSC_G_STATUS: Group counts and short flag (spec/09_light_source_loops.md, register map). -/
def LSC_G_STATUS : Reg := { blk := 13, off := 0x400, dims := [(0x8, 16)] }
/-- LSC_G_TAKEUP: Take-up factor k_g (spec/09_light_source_loops.md, register map). -/
def LSC_G_TAKEUP : Reg := { blk := 13, off := 0x404, dims := [(0x8, 16)], rst := 0x10000 }
/-- LSC_CH_DL_CNT: Missed deadlines (spec/09_light_source_loops.md, register map). -/
def LSC_CH_DL_CNT : Reg := { blk := 13, off := 0x2000, dims := [(0x8, 256)], cnt := true }
/-- LSC_CH_HOLD_CNT: Hold entries (spec/09_light_source_loops.md, register map). -/
def LSC_CH_HOLD_CNT : Reg := { blk := 13, off := 0x2800, dims := [(0x8, 256)], cnt := true }
/-- LSC_CH_CTL: Enable, closing, bank, restore (spec/09_light_source_loops.md, register map). -/
def LSC_CH_CTL : Reg := { blk := 13, off := 0x10000, dims := [(0x80, 256)], rw := 0x13, s := 0x12 }
/-- LSC_CH_STATUS: State, cause, flags (spec/09_light_source_loops.md, register map). -/
def LSC_CH_STATUS : Reg := { blk := 13, off := 0x10004, dims := [(0x80, 256)], w1c := 0x1000 }
/-- LSC_CH_SP: Set-point (spec/09_light_source_loops.md, register map). -/
def LSC_CH_SP : Reg := { blk := 13, off := 0x10008, dims := [(0x80, 256)], rw := 0xfffff, s := 0xfffff }
/-- LSC_CH_SPMAX: Set-point headroom (spec/09_light_source_loops.md, register map). -/
def LSC_CH_SPMAX : Reg := { blk := 13, off := 0x1000c, dims := [(0x80, 256)], rst := 0xfffff, rw := 0xfffff, s := 0xfffff }
/-- LSC_CH_UMAX: Drive limit (spec/09_light_source_loops.md, register map). -/
def LSC_CH_UMAX : Reg := { blk := 13, off := 0x10010, dims := [(0x80, 256)], rw := 0x3ffff, s := 0x3ffff }
/-- LSC_CH_SUP: Freeze threshold, hold time (spec/09_light_source_loops.md, register map). -/
def LSC_CH_SUP : Reg := { blk := 13, off := 0x10014, dims := [(0x80, 256)], rst := 0x1000500, rw := 0xffffff00, s := 0xffffff00 }
/-- LSC_CH_FE: Following-error supervision (spec/09_light_source_loops.md, register map). -/
def LSC_CH_FE : Reg := { blk := 13, off := 0x10018, dims := [(0x80, 256)], rst := 0x400800, rw := 0xffffffff, s := 0xffffffff }
/-- LSC_CH_REGION: Tier-to-region map (spec/09_light_source_loops.md, register map). -/
def LSC_CH_REGION : Reg := { blk := 13, off := 0x1001c, dims := [(0x80, 256)], rst := 0xfa50, rw := 0xffff, s := 0xffff }
/-- LSC_CH_LAST: Last valid sample (spec/09_light_source_loops.md, register map). -/
def LSC_CH_LAST : Reg := { blk := 13, off := 0x10020, dims := [(0x80, 256)] }
/-- LSC_CH_AUX: Last out[7] (spec/09_light_source_loops.md, register map). -/
def LSC_CH_AUX : Reg := { blk := 13, off := 0x10024, dims := [(0x80, 256)] }
/-- LSC_CH_DRIVE: Drive code per tier (spec/09_light_source_loops.md, register map). -/
def LSC_CH_DRIVE : Reg := { blk := 13, off := 0x10040, dims := [(0x80, 256), (0x4, 8)], rw := 0x3ffff }
/-- LSC_O_CTL: Mode, test, dividers (spec/10_colour_constancy.md, register map). -/
def LSC_O_CTL : Reg := { blk := 13, off := 0x600, dims := [(0x40, 4)], rst := 0x3c010000, rw := 0xffff0013, legal := [(1, 0, 0, 2)] }
/-- LSC_O_STATUS: Phase, skip, misses, settle count (spec/10_colour_constancy.md, register map). -/
def LSC_O_STATUS : Reg := { blk := 13, off := 0x604, dims := [(0x40, 4)] }
/-- LSC_O_DIM: Dimming input (spec/10_colour_constancy.md, register map). -/
def LSC_O_DIM : Reg := { blk := 13, off := 0x608, dims := [(0x40, 4)], rst := 0x10000, rw := 0x1ffff, c := 0x1ffff }
/-- LSC_O_GAIN: ki_f, ki_s (spec/10_colour_constancy.md, register map). -/
def LSC_O_GAIN : Reg := { blk := 13, off := 0x60c, dims := [(0x40, 4)], rst := 0x80002000, rw := 0xffffffff }
/-- LSC_O_BAND: Recovery and settle bands (spec/10_colour_constancy.md, register map). -/
def LSC_O_BAND : Reg := { blk := 13, off := 0x610, dims := [(0x40, 4)], rst := 0xccd028f, rw := 0xffffffff }
/-- LSC_O_QLIM: Limits of q (spec/10_colour_constancy.md, register map). -/
def LSC_O_QLIM : Reg := { blk := 13, off := 0x614, dims := [(0x40, 4)], rst := 0x20000800, rw := 0xffffffff }
/-- LSC_O_TIME: Read window, settle and miss counts (spec/10_colour_constancy.md, register map). -/
def LSC_O_TIME : Reg := { blk := 13, off := 0x618, dims := [(0x40, 4)], rst := 0x80407d0, rw := 0xf0fffff }
/-- LSC_O_FLAGS: Sticky flags (spec/10_colour_constancy.md, register map). -/
def LSC_O_FLAGS : Reg := { blk := 13, off := 0x61c, dims := [(0x40, 4)], w1c := 0x1f }
/-- LSC_O_BAL: Balance factor (spec/10_colour_constancy.md, register map). -/
def LSC_O_BAL : Reg := { blk := 13, off := 0x620, dims := [(0x40, 4)], rst := 0x10000 }
/-- LSC_O_CNT_CLR: Counter clears (spec/10_colour_constancy.md, register map). -/
def LSC_O_CNT_CLR : Reg := { blk := 13, off := 0x624, dims := [(0x40, 4)] }
/-- LSC_O_SKIP_CNT: Skipped samples (spec/10_colour_constancy.md, register map). -/
def LSC_O_SKIP_CNT : Reg := { blk := 13, off := 0x628, dims := [(0x40, 4)], cnt := true }
/-- LSC_O_SMP_CNT: Outer samples (spec/10_colour_constancy.md, register map). -/
def LSC_O_SMP_CNT : Reg := { blk := 13, off := 0x630, dims := [(0x40, 4)], cnt := true }
/-- LSC_G_TGT: Target at full brightness (spec/10_colour_constancy.md, register map). -/
def LSC_G_TGT : Reg := { blk := 13, off := 0x800, dims := [(0x20, 16)], rw := 0xfffff }
/-- LSC_G_MAN: Manual factor qm (spec/10_colour_constancy.md, register map). -/
def LSC_G_MAN : Reg := { blk := 13, off := 0x804, dims := [(0x20, 16)], rst := 0x10000, rw := 0xfffff }
/-- LSC_G_Q: Integrated factor q (spec/10_colour_constancy.md, register map). -/
def LSC_G_Q : Reg := { blk := 13, off := 0x808, dims := [(0x20, 16)], rst := 0x10000 }
/-- LSC_G_MEAS: Last m (spec/10_colour_constancy.md, register map). -/
def LSC_G_MEAS : Reg := { blk := 13, off := 0x80c, dims := [(0x20, 16)] }
/-- LSC_G_OERR: Last r (spec/10_colour_constancy.md, register map). -/
def LSC_G_OERR : Reg := { blk := 13, off := 0x810, dims := [(0x20, 16)] }
/-- LSC_S_CFG: Slot enable, head, address (spec/10_colour_constancy.md, register map). -/
def LSC_S_CFG : Reg := { blk := 13, off := 0xc00, dims := [(0x80, 8)], rw := 0xb000017f }
/-- LSC_S_STATUS: Last read outcome (spec/10_colour_constancy.md, register map). -/
def LSC_S_STATUS : Reg := { blk := 13, off := 0xc04, dims := [(0x80, 8)] }
/-- LSC_S_RAW0: c1, c0 (spec/10_colour_constancy.md, register map). -/
def LSC_S_RAW0 : Reg := { blk := 13, off := 0xc08, dims := [(0x80, 8)] }
/-- LSC_S_RAW1: c3, c2 (spec/10_colour_constancy.md, register map). -/
def LSC_S_RAW1 : Reg := { blk := 13, off := 0xc0c, dims := [(0x80, 8)] }
/-- LSC_S_MTX: Sensor matrix (spec/10_colour_constancy.md, register map). -/
def LSC_S_MTX : Reg := { blk := 13, off := 0xc40, dims := [(0x80, 8), (0x4, 16)], rw := 0x1fffff }
/-- LSC_CH_SPBASE: Base set-point (spec/10_colour_constancy.md, register map). -/
def LSC_CH_SPBASE : Reg := { blk := 13, off := 0x10028, dims := [(0x80, 256)], rw := 0xfffff }

/-- Every register of LSC beyond the common header. -/
def allLsc : List Reg := [
  LSC_CTL, LSC_STATUS, LSC_COEF_ADDR, LSC_COEF_DATA, LSC_CTX_ADDR, LSC_CTX_DATA, LSC_CNT_CLR,
  LSC_H_CTL, LSC_H_SMP, LSC_H_CHK, LSC_G_STATUS, LSC_G_TAKEUP, LSC_CH_DL_CNT,
  LSC_CH_HOLD_CNT, LSC_CH_CTL, LSC_CH_STATUS, LSC_CH_SP, LSC_CH_SPMAX, LSC_CH_UMAX,
  LSC_CH_SUP, LSC_CH_FE, LSC_CH_REGION, LSC_CH_LAST, LSC_CH_AUX, LSC_CH_DRIVE, LSC_O_CTL,
  LSC_O_STATUS, LSC_O_DIM, LSC_O_GAIN, LSC_O_BAND, LSC_O_QLIM, LSC_O_TIME, LSC_O_FLAGS,
  LSC_O_BAL, LSC_O_CNT_CLR, LSC_O_SKIP_CNT, LSC_O_SMP_CNT, LSC_G_TGT, LSC_G_MAN, LSC_G_Q,
  LSC_G_MEAS, LSC_G_OERR, LSC_S_CFG, LSC_S_STATUS, LSC_S_RAW0, LSC_S_RAW1, LSC_S_MTX,
  LSC_CH_SPBASE]

/-- PNL_POLDER_ADDR: Polder context window address (spec/11_panel_drive.md, register map). -/
def PNL_POLDER_ADDR : Reg := { blk := 14, off := 0x100, rw := 0xffff }
/-- PNL_POLDER_DATA: Polder context words (spec/11_panel_drive.md, register map). -/
def PNL_POLDER_DATA : Reg := { blk := 14, off := 0x104, dims := [(0x4, 2)] }
/-- PNL_P_CAL: Calibration start and status (spec/11_panel_drive.md, register map). -/
def PNL_P_CAL : Reg := { blk := 14, off := 0x8000, dims := [(0x10, 24)] }
/-- PNL_P_LAT: Latency measured and in force (spec/11_panel_drive.md, register map). -/
def PNL_P_LAT : Reg := { blk := 14, off := 0x8004, dims := [(0x10, 24)] }
/-- PNL_P_ASYM: Path asymmetry correction (spec/11_panel_drive.md, register map). -/
def PNL_P_ASYM : Reg := { blk := 14, off := 0x8008, dims := [(0x10, 24)], rw := 0xffff }
/-- PNL_H_CTL: Stage enables, depth, dither step (spec/11_panel_drive.md, register map). -/
def PNL_H_CTL : Reg := { blk := 14, off := 0x10000, dims := [(0x10000, 4)], rst := 0x9e30a02, rw := 0xfff0f37, c := 0xfff0027, t := 0xf00, legal := [(11, 8, 6, 12)] }
/-- PNL_H_STATUS: Values in force and self-refresh state (spec/11_panel_drive.md, register map). -/
def PNL_H_STATUS : Reg := { blk := 14, off := 0x10004, dims := [(0x10000, 4)] }
/-- PNL_H_CHK: Last check refusal (spec/11_panel_drive.md, register map). -/
def PNL_H_CHK : Reg := { blk := 14, off := 0x10008, dims := [(0x10000, 4)] }
/-- PNL_H_LEAD: Command lead (spec/11_panel_drive.md, register map). -/
def PNL_H_LEAD : Reg := { blk := 14, off := 0x1000c, dims := [(0x10000, 4)], rst := 0x800, rw := 0xffff, t := 0xffff }
/-- PNL_H_SR: Self-refresh control (spec/11_panel_drive.md, register map). -/
def PNL_H_SR : Reg := { blk := 14, off := 0x10010, dims := [(0x10000, 4)], rst := 0x3c00, rw := 0xff31, c := 0x30 }
/-- PNL_H_BLANK_A: Blank level, red and green (spec/11_panel_drive.md, register map). -/
def PNL_H_BLANK_A : Reg := { blk := 14, off := 0x10014, dims := [(0x10000, 4)], rw := 0xffffff, c := 0xffffff }
/-- PNL_H_BLANK_B: Blank level, blue (spec/11_panel_drive.md, register map). -/
def PNL_H_BLANK_B : Reg := { blk := 14, off := 0x10018, dims := [(0x10000, 4)], rw := 0xfff, c := 0xfff }
/-- PNL_H_STORE_BASE: DRAM store location (spec/11_panel_drive.md, register map). -/
def PNL_H_STORE_BASE : Reg := { blk := 14, off := 0x1001c, dims := [(0x10000, 4)], rw := 0xfffff }
/-- PNL_H_STORE: Store size and placement (spec/11_panel_drive.md, register map). -/
def PNL_H_STORE : Reg := { blk := 14, off := 0x10020, dims := [(0x10000, 4)] }
/-- PNL_H_DMR_BASE: Demura plane location (spec/11_panel_drive.md, register map). -/
def PNL_H_DMR_BASE : Reg := { blk := 14, off := 0x10024, dims := [(0x10000, 4)], rw := 0xfffff, c := 0xfffff }
/-- PNL_H_DMR_CTL: Demura block size (spec/11_panel_drive.md, register map). -/
def PNL_H_DMR_CTL : Reg := { blk := 14, off := 0x10028, dims := [(0x10000, 4)], rw := 0x3, c := 0x3, legal := [(1, 0, 0, 2)] }
/-- PNL_H_TEMP_CFG: Temperature sensor (spec/11_panel_drive.md, register map). -/
def PNL_H_TEMP_CFG : Reg := { blk := 14, off := 0x1002c, dims := [(0x10000, 4)], rst := 0x8000000, rw := 0x8f00017f }
/-- PNL_H_TEMP: Temperature in force (spec/11_panel_drive.md, register map). -/
def PNL_H_TEMP : Reg := { blk := 14, off := 0x10030, dims := [(0x10000, 4)] }
/-- PNL_H_OD_T01: Table temperatures T0, T1 (spec/11_panel_drive.md, register map). -/
def PNL_H_OD_T01 : Reg := { blk := 14, off := 0x10034, dims := [(0x10000, 4)], rst := 0x1400000, rw := 0xffffffff, c := 0xffffffff }
/-- PNL_H_OD_T23: Table temperatures T2, T3 (spec/11_panel_drive.md, register map). -/
def PNL_H_OD_T23 : Reg := { blk := 14, off := 0x10038, dims := [(0x10000, 4)], rst := 0x3c00280, rw := 0xffffffff, c := 0xffffffff }
/-- PNL_H_TBL_ADDR: Overdrive table load address (spec/11_panel_drive.md, register map). -/
def PNL_H_TBL_ADDR : Reg := { blk := 14, off := 0x1003c, dims := [(0x10000, 4)], rst := 0x80000000, rw := 0x8c0001ff }
/-- PNL_H_TBL_D0: Red entry component (spec/11_panel_drive.md, register map). -/
def PNL_H_TBL_D0 : Reg := { blk := 14, off := 0x10040, dims := [(0x10000, 4)], rw := 0x3ffff }
/-- PNL_H_TBL_D1: Green entry component (spec/11_panel_drive.md, register map). -/
def PNL_H_TBL_D1 : Reg := { blk := 14, off := 0x10044, dims := [(0x10000, 4)], rw := 0x3ffff }
/-- PNL_H_TBL_D2: Blue entry component; a write stores the entry (spec/11_panel_drive.md, register map). -/
def PNL_H_TBL_D2 : Reg := { blk := 14, off := 0x10048, dims := [(0x10000, 4)], rw := 0x3ffff }
/-- PNL_H_FLAGS: Sticky flags (spec/11_panel_drive.md, register map). -/
def PNL_H_FLAGS : Reg := { blk := 14, off := 0x1004c, dims := [(0x10000, 4)], w1c := 0x3f }
/-- PNL_H_BW: Line and slice times (spec/11_panel_drive.md, register map). -/
def PNL_H_BW : Reg := { blk := 14, off := 0x10050, dims := [(0x10000, 4)] }
/-- PNL_H_CNT_CLR: Counter clears (spec/11_panel_drive.md, register map). -/
def PNL_H_CNT_CLR : Reg := { blk := 14, off := 0x10054, dims := [(0x10000, 4)] }
/-- PNL_H_LATE_CNT: Late reports (spec/11_panel_drive.md, register map). -/
def PNL_H_LATE_CNT : Reg := { blk := 14, off := 0x10058, dims := [(0x10000, 4)], cnt := true }
/-- PNL_H_INCOMPLETE_CNT: Incomplete reports (spec/11_panel_drive.md, register map). -/
def PNL_H_INCOMPLETE_CNT : Reg := { blk := 14, off := 0x10060, dims := [(0x10000, 4)], cnt := true }
/-- PNL_H_SR_FRAME_CNT: Frames scanned from the store (spec/11_panel_drive.md, register map). -/
def PNL_H_SR_FRAME_CNT : Reg := { blk := 14, off := 0x10068, dims := [(0x10000, 4)], cnt := true }

/-- Every register of PNL beyond the common header. -/
def allPnl : List Reg := [
  PNL_POLDER_ADDR, PNL_POLDER_DATA, PNL_P_CAL, PNL_P_LAT, PNL_P_ASYM, PNL_H_CTL,
  PNL_H_STATUS, PNL_H_CHK, PNL_H_LEAD, PNL_H_SR, PNL_H_BLANK_A, PNL_H_BLANK_B,
  PNL_H_STORE_BASE, PNL_H_STORE, PNL_H_DMR_BASE, PNL_H_DMR_CTL, PNL_H_TEMP_CFG, PNL_H_TEMP,
  PNL_H_OD_T01, PNL_H_OD_T23, PNL_H_TBL_ADDR, PNL_H_TBL_D0, PNL_H_TBL_D1, PNL_H_TBL_D2,
  PNL_H_FLAGS, PNL_H_BW, PNL_H_CNT_CLR, PNL_H_LATE_CNT, PNL_H_INCOMPLETE_CNT,
  PNL_H_SR_FRAME_CNT]

/-- TIM_CTL: Port, primary domain, VLAN (spec/15_network_time.md, register map). -/
def TIM_CTL : Reg := { blk := 15, off := 0x100, rw := 0xe3010fff, legal := [(25, 24, 0, 1)] }
/-- TIM_STATUS: Clock state, selection, queue (spec/15_network_time.md, register map). -/
def TIM_STATUS : Reg := { blk := 15, off := 0x104 }
/-- TIM_TIME_NS: Nanoseconds; a read captures the words below (spec/15_network_time.md, register map). -/
def TIM_TIME_NS : Reg := { blk := 15, off := 0x108 }
/-- TIM_TIME_SEC_LO: Seconds [31:0] (spec/15_network_time.md, register map). -/
def TIM_TIME_SEC_LO : Reg := { blk := 15, off := 0x10c }
/-- TIM_TIME_SEC_HI: Seconds [47:32] in [15:0] (spec/15_network_time.md, register map). -/
def TIM_TIME_SEC_HI : Reg := { blk := 15, off := 0x110 }
/-- TIM_TIME_FRAC: Fraction in [15:0] (spec/15_network_time.md, register map). -/
def TIM_TIME_FRAC : Reg := { blk := 15, off := 0x114 }
/-- TIM_ADDEND_LO: Addend [31:0]; a read captures HI (spec/15_network_time.md, register map). -/
def TIM_ADDEND_LO : Reg := { blk := 15, off := 0x118, rst := 0x40000000 }
/-- TIM_ADDEND_HI: Addend [39:32] in [7:0] (spec/15_network_time.md, register map). -/
def TIM_ADDEND_HI : Reg := { blk := 15, off := 0x11c, rst := 0x1 }
/-- TIM_SERVO_KP: kp in [23:0] (spec/15_network_time.md, register map). -/
def TIM_SERVO_KP : Reg := { blk := 15, off := 0x120, rst := 0xa000, rw := 0xffffff }
/-- TIM_SERVO_KI: ki in [23:0] (spec/15_network_time.md, register map). -/
def TIM_SERVO_KI : Reg := { blk := 15, off := 0x124, rst := 0x400, rw := 0xffffff }
/-- TIM_LIMITS: agree_ns, slew_ppm (spec/15_network_time.md, register map). -/
def TIM_LIMITS : Reg := { blk := 15, off := 0x128, rst := 0x3e80064, rw := 0xffffffff }
/-- TIM_STEP_THR: step_thr in ns (spec/15_network_time.md, register map). -/
def TIM_STEP_THR : Reg := { blk := 15, off := 0x12c, rst := 0x186a0, rw := 0xffffffff }
/-- TIM_STEP_PERMIT: Step permit (spec/15_network_time.md, register map). -/
def TIM_STEP_PERMIT : Reg := { blk := 15, off := 0x130 }
/-- TIM_REVERT: revert_s in [7:0] (spec/15_network_time.md, register map). -/
def TIM_REVERT : Reg := { blk := 15, off := 0x134, rst := 0x3c, rw := 0xff }
/-- TIM_LAT: PHY latencies (spec/15_network_time.md, register map). -/
def TIM_LAT : Reg := { blk := 15, off := 0x138, rw := 0xffffffff }
/-- TIM_MAC_LO: MAC address: HI [15:0] bytes 0 to 1, LO bytes 2 to 5 (spec/15_network_time.md, register map). -/
def TIM_MAC_LO : Reg := { blk := 15, off := 0x13c, rw := 0xffffffff }
/-- TIM_MAC_HI: MAC address: HI [15:0] bytes 0 to 1, LO bytes 2 to 5 (spec/15_network_time.md, register map). -/
def TIM_MAC_HI : Reg := { blk := 15, off := 0x140, rw := 0xffff }
/-- TIM_IPV4: IPv4 address (spec/15_network_time.md, register map). -/
def TIM_IPV4 : Reg := { blk := 15, off := 0x144, rw := 0xffffffff }
/-- TIM_IPV6: IPv6 address, bytes 4w to 4w + 3 (spec/15_network_time.md, register map). -/
def TIM_IPV6 : Reg := { blk := 15, off := 0x148, dims := [(0x4, 4)], rw := 0xffffffff }
/-- TIM_CLKID_HI: clockIdentity bytes 0 to 3, 4 to 7 (spec/15_network_time.md, register map). -/
def TIM_CLKID_HI : Reg := { blk := 15, off := 0x158, rw := 0xffffffff }
/-- TIM_CLKID_LO: clockIdentity bytes 0 to 3, 4 to 7 (spec/15_network_time.md, register map). -/
def TIM_CLKID_LO : Reg := { blk := 15, off := 0x15c, rw := 0xffffffff }
/-- TIM_FLAGS: Sticky flags (spec/15_network_time.md, register map). -/
def TIM_FLAGS : Reg := { blk := 15, off := 0x160, w1c := 0x7f }
/-- TIM_CNT_CLR: Counter clears (spec/15_network_time.md, register map). -/
def TIM_CNT_CLR : Reg := { blk := 15, off := 0x164 }
/-- TIM_TSQ_DROP_CNT: Dropped queue entries (spec/15_network_time.md, register map). -/
def TIM_TSQ_DROP_CNT : Reg := { blk := 15, off := 0x180, cnt := true }
/-- TIM_RX_DISCARD_CNT: Discarded frames and messages (spec/15_network_time.md, register map). -/
def TIM_RX_DISCARD_CNT : Reg := { blk := 15, off := 0x188, cnt := true }
/-- TIM_SWITCH_CNT: Domain switches (spec/15_network_time.md, register map). -/
def TIM_SWITCH_CNT : Reg := { blk := 15, off := 0x190, cnt := true }
/-- TIM_D_CTL: Enable, transport, domainNumber (spec/15_network_time.md, register map). -/
def TIM_D_CTL : Reg := { blk := 15, off := 0x200, dims := [(0x40, 2)], rw := 0x8c00ff00, legal := [(27, 26, 0, 2)] }
/-- TIM_D_STATUS: Domain state (spec/15_network_time.md, register map). -/
def TIM_D_STATUS : Reg := { blk := 15, off := 0x204, dims := [(0x40, 2)] }
/-- TIM_D_ASYM: Static asymmetry, ns, two's complement (spec/15_network_time.md, register map). -/
def TIM_D_ASYM : Reg := { blk := 15, off := 0x208, dims := [(0x40, 2)], rw := 0xffffffff }
/-- TIM_D_PATH: Path threshold and hold-off (spec/15_network_time.md, register map). -/
def TIM_D_PATH : Reg := { blk := 15, off := 0x20c, dims := [(0x40, 2)], rst := 0x200c8, rw := 0xffffff }
/-- TIM_D_OFFSET: Last o, ns, two's complement, saturating (spec/15_network_time.md, register map). -/
def TIM_D_OFFSET : Reg := { blk := 15, off := 0x210, dims := [(0x40, 2)] }
/-- TIM_D_MPD: mpd_ref, ns, two's complement, saturating (spec/15_network_time.md, register map). -/
def TIM_D_MPD : Reg := { blk := 15, off := 0x214, dims := [(0x40, 2)] }
/-- TIM_D_STEER: s, two's complement (spec/15_network_time.md, register map). -/
def TIM_D_STEER : Reg := { blk := 15, off := 0x218, dims := [(0x40, 2)] }
/-- TIM_D_GM_HI: grandmasterIdentity bytes 0 to 3, 4 to 7 (spec/15_network_time.md, register map). -/
def TIM_D_GM_HI : Reg := { blk := 15, off := 0x21c, dims := [(0x40, 2)] }
/-- TIM_D_GM_LO: grandmasterIdentity bytes 0 to 3, 4 to 7 (spec/15_network_time.md, register map). -/
def TIM_D_GM_LO : Reg := { blk := 15, off := 0x220, dims := [(0x40, 2)] }
/-- TIM_D_PATH_CNT: Path events (spec/15_network_time.md, register map). -/
def TIM_D_PATH_CNT : Reg := { blk := 15, off := 0x228, dims := [(0x40, 2)], cnt := true }
/-- TIM_D_SUSPECT_CNT: Entries into SUSPECT (spec/15_network_time.md, register map). -/
def TIM_D_SUSPECT_CNT : Reg := { blk := 15, off := 0x230, dims := [(0x40, 2)], cnt := true }
/-- TIM_P_CTL: Enable, polarity (spec/15_network_time.md, register map). -/
def TIM_P_CTL : Reg := { blk := 15, off := 0x400, dims := [(0x20, 8)], rw := 0xc0000000 }
/-- TIM_P_SEC: Start seconds [31:0] (spec/15_network_time.md, register map). -/
def TIM_P_SEC : Reg := { blk := 15, off := 0x404, dims := [(0x20, 8)], rw := 0xffffffff }
/-- TIM_P_NS: Start ns in [29:0] (spec/15_network_time.md, register map). -/
def TIM_P_NS : Reg := { blk := 15, off := 0x408, dims := [(0x20, 8)], rw := 0x3fffffff }
/-- TIM_P_PERIOD: Period in ns; 0 single pulse; 1 to 99 act as 100 (spec/15_network_time.md, register map). -/
def TIM_P_PERIOD : Reg := { blk := 15, off := 0x40c, dims := [(0x20, 8)], rw := 0xffffffff }
/-- TIM_P_WIDTH: Width in ns; 0 acts as one tick; a width at or above a non-zero period acts as half the period, rounded down (spec/15_network_time.md, register map). -/
def TIM_P_WIDTH : Reg := { blk := 15, off := 0x410, dims := [(0x20, 8)], rw := 0xffffffff }
/-- TIM_P_STATUS: Missed targets, active (spec/15_network_time.md, register map). -/
def TIM_P_STATUS : Reg := { blk := 15, off := 0x414, dims := [(0x20, 8)] }

/-- Every register of TIM beyond the common header. -/
def allTim : List Reg := [
  TIM_CTL, TIM_STATUS, TIM_TIME_NS, TIM_TIME_SEC_LO, TIM_TIME_SEC_HI, TIM_TIME_FRAC,
  TIM_ADDEND_LO, TIM_ADDEND_HI, TIM_SERVO_KP, TIM_SERVO_KI, TIM_LIMITS, TIM_STEP_THR,
  TIM_STEP_PERMIT, TIM_REVERT, TIM_LAT, TIM_MAC_LO, TIM_MAC_HI, TIM_IPV4, TIM_IPV6,
  TIM_CLKID_HI, TIM_CLKID_LO, TIM_FLAGS, TIM_CNT_CLR, TIM_TSQ_DROP_CNT, TIM_RX_DISCARD_CNT,
  TIM_SWITCH_CNT, TIM_D_CTL, TIM_D_STATUS, TIM_D_ASYM, TIM_D_PATH, TIM_D_OFFSET, TIM_D_MPD,
  TIM_D_STEER, TIM_D_GM_HI, TIM_D_GM_LO, TIM_D_PATH_CNT, TIM_D_SUSPECT_CNT, TIM_P_CTL,
  TIM_P_SEC, TIM_P_NS, TIM_P_PERIOD, TIM_P_WIDTH, TIM_P_STATUS]

end Sys2Proof.Machine.Rg
end

