-- ==== Sys2Proof/Machine/RegMap.lean ====
section
/-!
DEFINITION. The control space as a map: which register lies at an address (R19, R20, R22), and what it holds at reset.
-/
namespace Sys2Proof.Machine

/-- PFX_BLK_SCRATCH of block n (R22). -/
def hdrScratch (n : Nat) : Reg := { blk := n, off := 0xC, rw := 0xFFFFFFFF }

/-- The registers of block n beyond its header. -/
def blockRegs (n : Nat) : List Reg :=
  match n with
  | 0 => Rg.allMgt
  | 1 => Rg.allSec
  | 2 => Rg.allPwg
  | 3 => Rg.allCal
  | 4 => Rg.allLne
  | 5 => Rg.allLnk
  | 6 => Rg.allDmc
  | 7 => Rg.allSfm
  | 8 => Rg.allCmp
  | 9 => Rg.allPxp
  | 10 => Rg.allTgn
  | 11 => Rg.allPsq
  | 12 => Rg.allLte
  | 13 => Rg.allLsc
  | 14 => Rg.allPnl
  | 15 => Rg.allTim
  | _ => []

/-- The first register of a list with a copy at `a`, with that copy's indexes. -/
def findReg : List Reg → Nat → Option (Reg × List Nat)
  | [], _ => none
  | r :: rs, a => match r.ixOf a with
    | some ix => some (r, ix)
    | none => findReg rs a

/-- The register at control-space address `a`, if a register map lists one there. The high register of a counter is
not listed by itself (R7). -/
def lookupReg (a : Nat) : Option (Reg × List Nat) :=
  if a % 0x100000 < 0x100 then
    if a % 0x100000 = 0xC then some (hdrScratch (a / 0x100000), []) else none
  else findReg (blockRegs (a / 0x100000)) a

/-- A FULL entry of PSQ_SLOT_CTL: code bit and length (R119, R122). -/
def slotFull (b len : Nat) : Nat := 0x40010000 + b * 0x1000000 + len

/-- A PART entry of one minimum slot: code bit, tier and pulse fraction (R119, R122). -/
def slotPart (b tier pf : Nat) : Nat := 0x80000001 + b * 0x1000000 + tier * 0x100000 + pf * 0x100

/-- A DARK entry (R119). -/
def slotDark (len : Nat) : Nat := 0xC0000000 + len

/-- The standard sequence, entries 0 to 27 (R122). -/
def slotsLow : List Nat :=
  [slotFull 17 8, slotFull 16 4, slotFull 13 1, slotPart 10 0 128, slotFull 15 2, slotFull 14 1, slotDark 4,
   slotFull 17 8, slotFull 16 4, slotFull 12 1, slotPart 9 0 64, slotFull 15 2, slotFull 14 1, slotDark 4,
   slotFull 17 8, slotFull 16 4, slotFull 13 1, slotPart 8 0 32, slotFull 15 2, slotFull 14 1, slotDark 4,
   slotFull 17 8, slotFull 16 4, slotFull 11 1, slotPart 7 2 32, slotFull 15 2, slotFull 14 1, slotDark 4]

/-- The standard sequence, entries 28 to 56 (R122). -/
def slotsHigh : List Nat :=
  [slotFull 17 8, slotFull 16 4, slotFull 13 1, slotPart 6 4 32, slotPart 5 6 32, slotFull 15 2, slotFull 14 1, slotDark 3,
   slotFull 17 8, slotFull 16 4, slotFull 12 1, slotPart 4 7 32, slotPart 3 7 16, slotFull 15 2, slotFull 14 1, slotDark 3,
   slotFull 17 8, slotFull 16 4, slotFull 13 1, slotPart 2 7 8, slotFull 15 2, slotFull 14 1, slotDark 4,
   slotFull 17 8, slotFull 16 4, slotPart 1 7 4, slotPart 0 7 2, slotFull 15 2, slotFull 14 1]

/-- PSQ_SLOT_CTL[h][e] at reset: the standard sequence, 0 from entry 57 (R122, R138). -/
def slotReset (e : Nat) : Nat := (slotsLow ++ slotsHigh).getD e 0

/-- CMP_L_HCOEF and CMP_L_VCOEF at reset: tap 2 of phase p is 1024 − 16p and tap 3 is 16p, every other tap 0; word k
holds taps 2 (k mod 3) and 2 (k mod 3) + 1 of phase k / 3 (R83, register map and coefficient table). -/
def bilinearReset (k : Nat) : Nat := if k % 3 = 1 then (1024 - 16 * (k / 3)) + 0x10000 * (16 * (k / 3)) else 0

/-- The reset word of copy `ix` of a register (the Reset columns of the register maps). -/
def Reg.resetAt (r : Reg) (ix : List Nat) : Nat :=
  match r.blk, r.off, ix with
  | 8, 0x14000, [_, _, i] => bilinearReset i
  | 8, 0x14400, [_, _, i] => bilinearReset i
  | 9, 0x10020, [_, k] => if k % 4 = 0 then 0x10000 else 0
  | 9, 0x11004, [_, _, k] => if k % 4 = 0 then 0x10000 else 0
  | 11, 0x10400, [_, e] => slotReset e
  | 13, 0xC40, [_, k] => if k % 5 = 0 then 0x10000 else 0
  | 2, 0x300, [k] => [0x800100C8, 0x806405DC, 0x83E804E2, 0xA7100FA0, 0xA71005DC, 0x83E80320, 0xF5301388, 0xF530012C].getD k 0
  | _, _, _ => r.rst

/-- What the register word at `a` holds at reset; 0 where no map lists one (R4). -/
def resetWord (a : Nat) : Word :=
  match lookupReg a with
  | some (r, ix) => BitVec.ofNat 32 (r.resetAt ix)
  | none => 0

end Sys2Proof.Machine
end

