-- ==== Sys2Proof/Machine/TypesSys.lean ====
section
/-!
DEFINITION. State of the management complex, power governor, security block and the boot (MGT, PWG, SEC: R41 to R48,
R332 to R355, R369 to R396), and what leaves the device on its ports.
-/
namespace Sys2Proof.Machine


/-- A 48-bit counter: its value and its sticky overflow bit (R7), the core clock of its last increments and how many
that clock brought (R355). -/
structure Counter where
  val : Nat := 0
  ovf : Bool := false
  clk : Nat := 0
  inc : Nat := 0
  deriving DecidableEq, Repr

/-- An event record (R346). -/
structure EvRec where
  stamp : Nat
  seq   : Nat
  sub   : Nat
  kind  : Nat
  unit  : Nat
  reg   : Nat
  val   : Word
  arg0  : Nat
  arg1  : Nat
  deriving DecidableEq, Repr

/-- A record as a block presents it: without its number; `val` is filled in the clock after its stamp (R346). -/
structure Presented where
  stamp : Nat
  sub   : Nat
  kind  : Nat
  unit  : Nat
  reg   : Nat
  arg0  : Nat
  arg1  : Nat
  val   : Word := 0
  deriving DecidableEq, Repr

/-- The collector, its hold buffers and the event ring (R348 to R354). `fresh` holds the records of the control clock
in progress, `late` those that found no place in their clock and wait for the next (R187, R350), `waiting` the completed
batches, oldest first; `drained` is the control clock of the last drain. -/
structure Mgt where
  fresh    : List Presented := []
  late     : List Presented := []
  waiting  : List (List Presented) := []
  queue    : List EvRec := []
  nextSeq  : Nat := 0
  dropped  : Nat := 0
  dropStamp : Nat := 0
  dropSeq  : Nat := 0
  qPeak    : Nat := 0
  ringEn   : Bool := false
  ringSize : Nat := 0
  ringPage : Nat := 0
  wr       : Nat := 0
  rd       : Nat := 0
  sent     : Nat := 0
  sending  : Bool := false
  full     : Bool := false
  writer   : List EvRec := []
  drained  : Option Nat := none
  deriving DecidableEq, Repr

/-- A request to PWG (R335): class, unit, allocation in mW, deadline in µs from arrival, and the instant of its arrival or, after
that, of PWG's decision. -/
structure GrantReq where
  cls   : Nat
  unit  : Nat
  alloc : Nat
  dlUs  : Nat
  at'   : Nat := 0
  deriving DecidableEq, Repr

/-- PWG (R332 to R345). `queue` is in arrival order; `decided` are grants that have not reached their requester; `held`
are grants in force that have reached it; `refused` are refusals on their way (class, unit, reason). `ramp` is the
standing grant whose power ramp is in progress. -/
structure Pwg where
  run     : Bool := false
  pllLock : Bool := false
  therm   : Nat := 0
  queue   : List GrantReq := []
  decided : List GrantReq := []
  ramped  : List GrantReq := []
  held    : List GrantReq := []
  refused : List (GrantReq × Nat) := []
  ramp    : Option GrantReq := none
  deriving DecidableEq, Repr

/-- The thermal sensors, trip comparator and release timer, which no reset clears (R343, R387): the readings in 1/4 °C
with their validity, whether a thermal-trip reset is held, the t_hot captured at the trip, and the run of samples
below its release point. -/
structure Thermal where
  temps  : List (Int × Bool) := []
  tripped : Bool := false
  tHot   : Nat := 0
  cool   : Nat := 0
  deriving DecidableEq, Repr

/-- The fuses that commands blow (R370): revocation mask, lifecycle fuses, anti-rollback fuses and attestation
reservation fuses as bit masks; `attBad` marks reservation fuses whose read-back failed (R375). -/
structure Otp where
  revoked  : Nat := 0
  life     : Nat := 0
  rollback : Nat := 0
  att      : Nat := 0
  attBad   : Nat := 0
  deriving DecidableEq, Repr

/-- What the OTP programmer is doing (R370, R382): blowing the counter fuses `next` to `last`, one revocation fuse, one
lifecycle fuse, or the reservation fuse of a block. -/
inductive OtpJob where
  | advance (next last : Nat)
  | revoke (k : Nat)
  | lock
  | ret
  | reserve (block : Nat)
  deriving DecidableEq, Repr

/-- What the public-key engine is doing (R382). -/
inductive EngineJob where
  | attest
  | offer (port epoch : Nat)
  | install (port epoch : Nat) (peer : List Byte)
  | unlock (token : List Byte)
  deriving DecidableEq, Repr

/-- A flash command in progress (R46): 1 ERASE, 2 PROGRAM, 3 VERIFY, 4 COMMIT. PROGRAM carries its window; VERIFY the slot's bytes as
its staging copy holds them when `staged`, else the digest of its first read of the flash. -/
structure FlashJob where
  cmd    : Nat
  slot   : Nat
  sector : Nat
  data   : List Byte
  staged : Bool := false
  copy   : Memory := []
  digest : List Byte := []
  deriving DecidableEq, Repr

/-- The open key offer (R377): port, epoch and the number of the draw that made its key pair. -/
structure Offer where
  port  : Nat
  epoch : Nat
  draw  : Nat
  deriving DecidableEq, Repr

/-- SEC (R41 to R48, R369 to R384). `verified` are the slots that passed VERIFY since their last ERASE or PROGRAM, `passed`
those that passed it in this boot. `attNonce` is the nonce of the attestation in progress, and `attSign` tells that it signs. -/
structure Sec where
  secVer    : Nat := 0
  src       : Nat := 0
  lastReject : Nat := 0
  status    : Nat := 0
  keySet    : Nat := 0
  digest    : List Byte := []
  buildId   : List Byte := []
  flashJob  : Option FlashJob := none
  flashResult : Nat := 0
  lastCmd   : Nat := 0
  lastSlot  : Nat := 0
  verified  : List Nat := []
  passed    : List Nat := []
  lock      : Bool := false
  lockSpi   : Bool := false
  engine    : Option EngineJob := none
  otpJob    : Option OtpJob := none
  otpResult : Nat := 0
  attResult : Nat := 0
  attReason : Nat := 0
  attLeaf   : Nat := 0
  attLast   : Option Nat := none
  attArrived : Nat := 0
  attFails  : Nat := 0
  attNonce  : List Byte := []
  attSign   : Bool := false
  attReport : List Byte := []
  keyResult : Nat := 0
  offer     : Option Offer := none
  offerBytes : List Byte := []
  dbgResult : Nat := 0
  deriving DecidableEq, Repr

/-- Debug open, and debug opened since power-on: both end only with a power-on reset (R380, R376 byte 139). -/
structure Debug where
  isOpen : Bool := false
  wasOpen : Bool := false
  scope  : Nat := 0
  deriving DecidableEq, Repr

/-- The sources a boot may load from, in the order of R39. -/
inductive LoadSrc where
  | slot (n : Nat)
  | spi
  deriving DecidableEq, Repr

/-- The boot (R387 to R396). `held` is true from a reset's cause to its release. `porHeld`
tells that power-on reset is among its causes. `staged` is the structure of the accepted container until APPLY puts it in force; `stream` the container bytes
received in the attempt in progress, `copy` the bytes of the slot being loaded, by offset, in the staging area (R40). `norLines` and
`norMhz` are the SPI-NOR data lines and clock in use (R31, R38). `bootsel` is what the last release of power-on reset sampled. `tested` says whether the boot's SELF_TEST of basin or polders is running. -/
structure Boot where
  held     : Bool := false
  porHeld  : Bool := false
  bootsel  : Nat := 0
  stage    : Nat := 0
  testing  : Bool := false
  sources  : List LoadSrc := [.slot 0, .slot 1]
  stream   : List Byte := []
  copy     : Memory := []
  norLines : Nat := 1
  norMhz   : Nat := 25
  staged   : Topo := {}
  streaming : Bool := false
  dram     : Bool := false
  lanes    : Bool := false
  i3c      : Bool := false
  i3cCount : Nat := 0
  i3cEn    : Bool := false
  autoIngress : Bool := false
  rstoutN  : Bool := false
  spiStatus : Nat := 0
  deriving DecidableEq, Repr

/-- One item of the recorder ring (R359, R360): header fields and the values of its payload, in the order R360 gives
them. `offset` is its place in the ring in bytes. -/
structure RecItem where
  stamp : Nat
  kind  : Nat
  head  : Nat
  unit  : Nat
  num   : Nat
  vals  : List Nat
  offset : Nat
  deriving DecidableEq, Repr

/-- The recorder (R359 to R366). `ctl` is MGT_REC_CTL as read at RECORD or REPLAY; `heads` the recorded heads.
`ckptAt` is how many items the checkpoint in
progress has written; `ckptWait` tells that the first checkpoint waits for a latch (1) or that the latch has come (2). Of a re-run: the items still to apply, the live and the recorded stamp of its start, the fence values it has read, the
genlock error and holdover flag of the last BOUNDARY item, and the drive digests (frame, channel, count, CRC-32) it formed. -/
structure Recorder where
  state    : Nat := 0
  result   : Nat := 0
  ctl      : Word := 0
  base     : Nat := 0
  sizeMib  : Nat := 0
  items    : List RecItem := []
  nextNum  : Nat := 0
  head     : Nat := 0
  dropped  : Nat := 0
  sinceCkpt : Nat := 0
  postLeft : Nat := 0
  replayAt : List RecItem := []
  diffKind : Nat := 0
  diffHead : Nat := 0
  diffChan : Nat := 0
  diffRects : Nat := 0
  diffFrame : Nat := 0
  diffSeen : Bool := false
  ckptAt   : Nat := 0
  ckptWait : Nat := 0
  clock0   : Nat := 0
  stamp0   : Nat := 0
  fences   : SMap Nat := []
  glErr    : Int := 0
  holdover : Bool := false
  drives   : List (Nat × Nat × Nat × Nat) := []
  deriving DecidableEq, Repr

/-- Something the device puts out on a pin, lane, port or bus: the model's own transcript of its output, newest first.
Link packets carry type, stream, sequence, body bytes and the flags of END (R262); `block` is a block as a lane puts it on the
line, its first header bit as bit 1 (R237). -/
inductive Sent where
  | packet (port type stream seq : Nat) (body : List Byte) (prot : Bool) (epoch : Nat) (retrans : Bool)
  | caps (port : Nat) (body : List Byte)
  | ack (port seq : Nat)
  | nak (port seq reason : Nat)
  | credit (port cls hdr data : Nat)
  | width (port mask : Nat)
  | lanePm (lane code : Nat)
  | block (lane hdr payload : Nat)
  | spi (bytes : List Byte)
  | norRead (offset len lines mhz : Nat)
  | sensorRead (legacy : Bool) (addr len : Nat)
  | eth (frame : List Byte)
  | ethAdvertise (fullDuplex pause : Bool)
  deriving DecidableEq, Repr

end Sys2Proof.Machine
end

