-- ==== Sys2Proof/Machine/TypesLink.lean ====
section
/-!
DEFINITION. State of the serial lanes (R235 to R257), of the Ammos Link ports (R258 to R278) and of trims and their
calibration (R320 to R331).
-/
namespace Sys2Proof.Machine

/-- A block of 66 bits before scrambling: its sync header (1 data, 2 control) and its payload (R237). -/
abbrev Block := Nat × Nat

/-- One lane (R237 to R255). `phase` is what a lane in RECOVER is doing: 0 training, 1 synchronising. `scr` is the
descrambler's history, the last 58 received payload bits, newest in bit 0 (R238), and `txScr` the scrambler's, of the
bits sent. `pmOut` are the LANE_PM blocks still to send before electrical idle, `txWake` the start of the exit from a
transmitter power state (R249). In TEST, `prbsTx` is the pattern generator, `acks` the loop acknowledgements sent and `loopBuf` the
recovered blocks still to retransmit (R255). -/
structure Lane where
  state    : Nat := 0
  phase    : Nat := 0
  attempts : Nat := 0
  cause    : Nat := 0
  waiting  : Bool := false
  cdrLock  : Bool := false
  commaRun : Nat := 0
  commaLock : Bool := false
  ownRun   : Nat := 0
  badIdxRun : Nat := 0
  readyRun : Nat := 0
  hdrRun   : Nat := 0
  blkLock  : Bool := false
  idleRun  : Nat := 0
  trainRun : Nat := 0
  scr      : Nat := 0
  badHdrs  : List Nat := []
  rxPm     : Nat := 0
  txPm     : Nat := 0
  txScr    : Nat := 0
  pmOut    : Nat := 0
  txWake   : Option Nat := none
  pmRun    : Nat := 0
  pmCode   : Nat := 0
  waking   : Bool := false
  trim     : Int := 0
  frozen   : Bool := false
  winN     : Nat := 0
  winOnes  : Nat := 0
  budget   : Nat := 0
  test     : Nat := 0
  looping  : Bool := false
  ackRun   : Nat := 0
  prbs     : Bool := false
  prbsHist : List Bool := []
  prbsTx   : Nat := 1
  acks     : Nat := 0
  loopBuf  : List Block := []
  eyeBusy  : Bool := false
  eyeDone  : Bool := false
  eyeInc   : Bool := false
  deriving DecidableEq, Repr

/-- One lane group (R242, R236): its state, the rate code in force and the last refusal reason. -/
structure LaneGroup where
  state  : Nat := 0
  rate   : Nat := 0
  reason : Nat := 0
  deriving DecidableEq, Repr

/-- A sequenced packet in a replay buffer (R264). -/
structure TxPkt where
  seq    : Nat
  type   : Nat
  stream : Nat
  body   : List Byte
  prot   : Bool
  epoch  : Nat
  deriving DecidableEq, Repr

/-- A transaction that waits to be sent, or that has been accepted and not yet acted on: type, stream and the bytes of
its header block and payload (R270). -/
structure Txn where
  type   : Nat
  stream : Nat
  header : List Byte
  payload : List Byte
  deriving DecidableEq, Repr

/-- One content key slot (R275, R377): the key, and the last counter accepted (receive) or the next to send (transmit). -/
structure KeySlot where
  key : List Byte
  ctr : Option Nat
  deriving DecidableEq, Repr

/-- Credit of one class (R266): cumulative limits and use, in headers and in data units of 64 bytes. -/
structure Credit where
  limH : Nat := 0
  limD : Nat := 0
  useH : Nat := 0
  useD : Nat := 0
  deriving DecidableEq, Repr

/-- One Ammos Link port (R258 to R276). `mask` holds the lane indices in the width in force;
`markers` the number of the last marker of each lane; `aligned` tells that they met in one stripe. `sentMask` is the mask sent in
WIDTH and `peerMask` the one received, in REBOND (R261). `rxErr` notes an error indication from LNE inside the packet that is arriving
(R237, R263), `replayClk` the core clock of the last replay (R277). What waits for stripes (R258): `line` the chosen packets, `cur` the rest of the
packet in progress, `ctl` single-block link controls; `stripes` counts since the last ALIGN and `marker` is the next marker's number
(R259). `budgeted` is the mask that the time budgets of the port's heads were last computed for (R153, R228). -/
structure Port where
  state    : Nat := 0
  cause    : Nat := 0
  mask     : Nat := 0
  caps     : List Byte := []
  capsOk   : Bool := false
  fresh    : Bool := true
  txNext   : Nat := 0
  rxExp    : Nat := 0
  nakSent  : Bool := false
  replay   : List TxPkt := []
  replays  : Nat := 0
  waiting  : List Txn := []
  accepted : List Txn := []
  txCredit : SMap Credit := []
  rxCredit : SMap Credit := []
  markers  : SMap Nat := []
  aligned  : Bool := false
  rxKey    : List (Option KeySlot) := []
  txKey    : List (Option KeySlot) := []
  txEpoch  : Nat := 0
  rxEpoch  : Nat := 0
  authTime : Option Nat := none
  sentMask : Option Nat := none
  peerMask : Option Nat := none
  rxErr    : Bool := false
  replayClk : Option Nat := none
  line     : List (List Block) := []
  cur      : List Block := []
  ctl      : List Block := []
  stripes  : Nat := 0
  marker   : Nat := 0
  budgeted : Nat := 0
  deriving DecidableEq, Repr

/-- Trim values of one lane (R320), by trim kind 0x01 to 0x07 (RX_OFS in force is LNE's `Lane.trim`). -/
structure Trims where
  txImp  : Int := 16
  rxTerm : Int := 16
  txDcd  : Int := 0
  rxOfs  : Int := 0
  eyeOfs : Int := 0
  rxDcd  : Int := 0
  piCtr  : Int := 0
  deriving DecidableEq, Repr

/-- The calibration state of one lane (R320 to R328): staged and in-force trims, which trims (by kind) have a software
value waiting, which are ramping since an application boundary, the proposals of run A (in trim order EYE_OFS, RX_DCD,
PI_CTR) and those made so far in the run in progress, and the last result. -/
structure CalLane where
  staged  : Trims := {}
  force   : Trims := {}
  softPend : List Nat := []
  ramping : List Nat := []
  ofsPend : Bool := false
  taking  : Bool := false
  runA    : List Int := []
  runNow  : List Int := []
  res     : Nat := 0
  deriving DecidableEq, Repr

/-- The calibration state of one lane group (R322 to R326). `runB` is true in the second run of an iteration, `sub` is
the sub-window in progress. -/
structure CalGroup where
  state   : Nat := 0
  result  : Nat := 0
  iter    : Nat := 0
  pending : Bool := false
  runB    : Bool := false
  sub     : Nat := 0
  temp    : Int := 0
  startTemp : Int := 0
  calTemp : Option Int := none
  last    : Nat := 0
  deriving DecidableEq, Repr

end Sys2Proof.Machine
end

