-- ==== Sys2Proof/Machine/TypesMem.lean ====
section
/-!
DEFINITION. State of the DRAM controller and basin (R279 to R301) and of the surface manager (R50 to R67).
-/
namespace Sys2Proof.Machine

/-- Where a DRAM address lies (R280). -/
structure DramPlace where
  channel : Nat
  rank    : Nat
  bank    : Nat
  row     : Nat
  column  : Nat
  deriving DecidableEq, Repr

/-- One DRAM channel (R286 to R297). `wq` counts the writes that the queue, or a requester before it, held at `wqAt` (R286). `rows` are the open rows by bank
(rank × 16 + bank), `raa` the rolling activation counts (R289), `round` the banks that each rank's refresh round has refreshed (R287). `pm` are the power-state codes of R296, `debt` the refresh debts of R287. `burst`: a
capture burst runs, and `burstReq` that one has asked for its grant. `applyDue`: new delays wait for an apply pause.
`hot`: the hot-row tables, as (rank × 16 + bank, row, activations). `bootSteps` are the rate codes still to train at boot,
`stepOn` that a boot training step runs; `trained` the rates trained. The words are the class B settings in force. -/
structure DramCh where
  state    : Nat := 0
  pm       : List Nat := [0, 0]
  debt     : List Nat := [0, 0]
  drain    : Bool := false
  wq       : Nat := 0
  wqAt     : Nat := 0
  rows     : SMap Nat := []
  raa      : SMap Nat := []
  round    : List (List Nat) := [[], []]
  splitNs  : Nat := 0
  refiNs   : Nat := 0
  srExitNs : Nat := 0
  osc      : Nat := 0
  drift    : Int := 0
  fails    : Nat := 0
  discarded : Bool := false
  applied  : Bool := false
  burst    : Bool := false
  burstReq : Bool := false
  applyDue : Bool := false
  exiting  : Bool := false
  hot      : List (Nat × Nat × Nat) := []
  bootSteps : List Nat := []
  bootFails : Nat := 0
  stepOn   : Bool := false
  trained  : List Nat := []
  trainCtl : Word := 0x10080400
  pmCtl    : Word := 0x1F414040
  rhCtl    : Word := 0x080003E8
  deriving DecidableEq, Repr

/-- A basin bulk command (R299): 0 CLEAR, 1 LOAD, 2 STORE. -/
structure BasinJob where
  op     : Nat
  region : Nat
  page   : Nat
  granted : Bool
  deriving DecidableEq, Repr

/-- DMC (R279 to R301). `working` is the list of working channels once the map is formed; `capMib` is W × Cm.
`poison` lists the 64-byte blocks (by DRAM block number) that every later read reports as uncorrectable; `badReads` the blocks that a
requester's last read found uncorrectable, DRAM blocks and, from `basinBlock0` up, basin blocks: they reach it as zeros (R293, R298). -/
structure Dmc where
  formed   : Bool := false
  working  : List Nat := []
  density  : Nat := 0
  capMib   : Nat := 0
  rate     : Nat := 0
  avail    : Nat := 0
  fstate   : Nat := 0
  fresult  : Nat := 0
  freason  : Nat := 0
  ftarget  : Nat := 0
  basinWork : List Nat := []
  regions  : List (Option (List Nat)) := []
  reservedOk : List Bool := []
  basinJob : Option BasinJob := none
  basinResult : Nat := 0
  basinReason : Nat := 0
  errKind  : Nat := 0
  errUnit  : Nat := 0
  errReq   : Nat := 0
  errAddr  : Nat := 0
  poison   : List Nat := []
  badReads : List (Nat × Nat) := []
  scrubPos : Nat := 0
  panic    : List Bool := [false, false, false, false]
  deriving DecidableEq, Repr

/-- One surface table entry (R54): its state (0 FREE, 1 VALID, 2 DRAINING) and its live leases. -/
structure SurfEntry where
  state  : Nat := 0
  leases : Nat := 0
  deriving DecidableEq, Repr

/-- A host block or transaction held in an ordered stream (R64), or waiting behind one: a block of a surface write with
its surface address; a pixel-stream transaction; a fence signal; or the end of a transaction whose buffer then frees. -/
inductive HostOp where
  | block (addr : Nat) (last : Bool) (data : List Byte)
  | pixels (surface plane line offset : Nat) (data : List Byte)
  | fence (timeline value : Nat)
  | free (units : Nat)
  deriving DecidableEq, Repr

/-- SFM (R50 to R67). `table` is the DRAM address of the page table in use (none until the first invalidation after a
reset has completed), `next` the one an invalidation in progress will use, `cache` the entries kept since. `streams`
holds, per ordered stream (8 × port + stream), what is held or waits behind a held block; `parkSeen` marks streams
whose head has been counted as parked. -/
structure Sfm where
  table    : Option Nat := none
  invBusy  : Bool := false
  next     : Nat := 0
  cache    : SMap Nat := []
  entries  : SMap SurfEntry := []
  tl       : SMap Nat := []
  tlHi     : SMap Nat := []
  tlCap    : SMap Nat := []
  refuse   : Nat := 0
  refuseIdx : Nat := 0
  faultKind : Nat := 0
  faultHead : Nat := 0
  faultLayer : Nat := 0
  faultSurface : Nat := 0xFFF
  faultPage : Nat := 0
  streams  : SMap (List HostOp) := []
  deriving DecidableEq, Repr

end Sys2Proof.Machine
end

