-- ==== Sys2Proof/Machine/TypesHead.lean ====
section
/-!
DEFINITION. State of the heads: timing generators and commits (TGN, R97 to R115), the latched layer state and the tables
of composition and colour (CMP, PXP, R68 to R96), polder contexts and planes (PSQ, R116 to R140), driver-port calibration
and the plane stream (LTE, R141 to R163), and panel drive (PNL, R207 to R234).
-/
namespace Sys2Proof.Machine

/-- A pixel: red, green, blue. -/
abbrev Px := Nat × Nat × Nat

/-- An accepted commit that waits for its boundary (R103, R104). `words` are the captured class C and class T words of the
head, as words in force would hold them; `moved` tells that its transition has entered HOLD. -/
structure Commit where
  seq    : Nat
  words  : SMap Word
  retEn  : Bool
  retTl  : Nat
  retVal : Nat
  target : Nat
  late   : Bool
  trans  : Bool
  reacq  : Bool
  moved  : Bool := false
  deriving DecidableEq, Repr

/-- What one layer shows in a frame (R77, R78): mode 0 nothing, 1 its surface, 2 its spillway colour. `regs` is the layer
state it carries (CMP_L and PXP_L words); `spill` the words its spillway display takes; `fault` the index of the tile from
which a fetch was abandoned (R65, R82). -/
structure LayerShow where
  mode  : Nat := 0
  prev  : Bool := false
  regs  : SMap Word := []
  spill : SMap Word := []
  fault : Option Nat := none
  deriving DecidableEq, Repr

/-- One composed line: the blended pixels, the head-stage output, and the panel-drive output where there is one (R112). -/
structure TapLine where
  cmp : List Px := []
  pxp : List Px := []
  out : List Px := []
  deriving DecidableEq, Repr

/-- A polder context (R127, R214): PSQ's fields, and `od` for PNL's od_valid. -/
structure Polder where
  ring   : Nat := 0
  cls    : Nat := 0
  primed : Bool := false
  res    : List Nat := [0, 0, 0]
  blk    : List Nat := []
  od     : Bool := false
  deriving DecidableEq, Repr

/-- A latched frame (R105, R106, R121). `view` the words in force for it; `rets` are the retire timelines and values of the commits applied at its latch, in
order; `staged` the polder contexts staged while it is composed; `rows` the store rows staged for the panel, by row,
and `latched` the rows whose LINE_LATCH was issued; `touched` tells that a host block landed in a plane range of a named surface during the frame (R220), `self` and `held` tell of
self-refresh (R221, R222); `pages` the page table entries that each tile row of each layer was fetched with (R51, R65). -/
structure Frame where
  num     : Nat := 0
  view    : SMap Word := []
  rets    : List (Nat × Nat) := []
  applied : Bool := false
  late    : Bool := false
  seq     : Option Nat := none
  aborted : Bool := false
  leases  : List Nat := []
  shows   : List LayerShow := []
  taps    : SMap TapLine := []
  staged  : SMap Polder := []
  rows    : SMap (List Byte) := []
  latched : List Nat := []
  touched : Bool := false
  self    : Bool := false
  held    : Bool := false
  crc     : Bool := false
  pages   : SMap (SMap (SMap Nat)) := []
  deriving DecidableEq, Repr

/-- The raster frame that ended at the last boundary (R209): the words in force for it, whether it was a latched frame, and whether it was
held (R222). -/
structure Ended where
  view  : SMap Word := []
  frame : Bool := false
  held  : Bool := false
  deriving DecidableEq, Repr

/-- A frame on its way through its display period (R120, R121, R154): the words in force for it, the plane whose load window
is open, the minimum slot from which a plane-stream breach darkens it, whether it is an aborted frame that shows zero light
in every slot (R109), the slot issued last with its start, and the start of the period. -/
structure Disp where
  num    : Nat := 0
  view   : SMap Word := []
  window : Option Nat := none
  dark   : Option Nat := none
  zero   : Bool := false
  issued : Option (Nat × Nat) := none
  start  : Nat := 0
  deriving DecidableEq, Repr

/-- One head (R97 to R115). `state` is the code of R100; `start` the instant of the last boundary; `nextSeq` the number the
next accepted commit takes; `shows` the layer state carried from latch to latch; `cur` the frame being scanned and `past`
the frames that await their retire, oldest first; `ended` the raster frame before this one; `stopped` tells that a STOPPING head has passed its stop boundary.
`fbDram` is the freeboard over the buffers that DRAM feeds (R284), `acc0` what the pixel
accumulator held at the last boundary, in 2^−28 pixel (R97). The genlock loop holds acc, adj, the increment in use, its lock, the runs in and out of the bound, the out-of-range
state and the last error; `acquire` tells that the transition in HOLD acquires phase. `disp` is the frame whose slots are issued, from
cmd_lead ahead of its display period, until whose start `lastDisp` is the frame in display; `litEnd` is the end of the last minimum slot
whose PULSE was issued (R156). -/
structure TgnHead where
  state    : Nat := 0
  reason   : Nat := 0
  start    : Nat := 0
  holdLeft : Nat := 0
  pend     : List Commit := []
  nextSeq  : Nat := 0
  lastSeq  : Option Nat := none
  stSeq    : Nat := 0
  stLate   : Bool := false
  stBlk    : Nat := 0
  stCode   : Nat := 0
  shows    : List LayerShow := []
  cur      : Option Frame := none
  past     : List Frame := []
  stopped  : Bool := false
  ended    : Option Ended := none
  fbNow    : Nat := 65535
  fbMin    : Nat := 65535
  fbDram   : Nat := 65535
  acc0     : Nat := 0
  glAcc    : Int := 0
  glAdj    : Int := 0
  incUsed  : Nat := 0
  glLocked : Bool := false
  glIn     : Nat := 0
  glOut    : Nat := 0
  glOor    : Bool := false
  glErr    : Int := 0
  acquire  : Bool := false
  disp     : Option Disp := none
  lastDisp : Option Disp := none
  litEnd   : Nat := 0
  nextDisp : Option Disp := none
  tablesLut : SMap Nat := []
  masks    : SMap Nat := []
  maskLo   : Nat := 0
  tblStage : List Nat := [0, 0]
  odTables : SMap Nat := []
  odStage  : List Nat := [0, 0]
  planeLoc : Bool := false
  planeAt  : Nat := 0
  planeMib : Nat := 0
  planeP   : Nat := 0
  lateSeen : Bool := false
  incSeen  : Bool := false
  deriving DecidableEq, Repr

/-- The calibration of a driver port (R143, R144, R207). `clean` holds the round trips of the clean exchanges so far;
`verify` the verify exchanges still to make; `echo` the id of the echo that waits for its reply; `deferred` a calibration
that goes on from the TIME_SET step when its heads enter HOLD or OFF; `newMeas`, `newOff` and `newSpread` what the calibration in
progress has found so far, and `newAsym` the asym it uses; `mapped` that its units are out for this reason. -/
structure PortCal where
  busy    : Bool := false
  status  : Nat := 0
  meas    : Int := 0
  force   : Int := 0
  offset  : Int := 0
  spread  : Nat := 0
  newMeas : Int := 0
  newOff  : Int := 0
  newSpread : Nat := 0
  newAsym : Int := 0
  tries   : Nat := 0
  clean   : List Int := []
  verify  : Nat := 0
  echo    : Nat := 0
  deferred : Bool := false
  mapped  : Bool := false
  deriving DecidableEq, Repr

/-- Panel drive of a head (R207 to R234). `sr` is the code of R220; `srFrame` the number of the frame within the SELF period;
`exitAt` the boundary an exit trigger targets; `idle` the idle count; `temp` the last fresh reading, its sequence number, and the stale run;
`tempAt` the reading in force for the frame; the store's placement. -/
structure PnlHead where
  sr      : Nat := 0
  srFrame : Nat := 0
  exitAt  : Nat := 0
  idle    : Nat := 0
  theta   : Int := 0
  seen    : Bool := false
  seq     : Option Nat := none
  stale   : Nat := 0
  got     : Bool := false
  asked   : Bool := false
  thetaF  : Option Int := none
  storeLoc : Bool := false
  storeAt  : Nat := 0
  storeMib : Nat := 0
  granted  : Bool := false
  lateSeen : Bool := false
  incSeen  : Bool := false
  deriving DecidableEq, Repr

end Sys2Proof.Machine
end

