-- ==== Sys2Proof/Machine/TypesLoop.lean ====
section
/-!
DEFINITION. State of the light-source loops and of the outer loop (LSC, R164 to R206).
-/
namespace Sys2Proof.Machine

/-- A tier context: observer states x0 to x3 and the integrator z (R164). -/
structure LscCtx where
  x : List Int := [0, 0, 0, 0]
  z : Int := 0
  deriving DecidableEq, Repr

/-- A pulse given to a channel: its start and end in LTE time, and its tier (R149, R161). -/
structure Pulse where
  start : Nat
  fin   : Nat
  tier  : Nat
  deriving DecidableEq, Repr

/-- A sample point of a pulse given to a channel (R150, R167): its instant, the tier of its pulse, and whether it is expected. -/
structure Point where
  ts   : Nat
  tier : Nat
  exp  : Bool := true
  deriving DecidableEq, Repr

/-- A SET_DRIVE sent: tier, instant at which it acts, code (R161). -/
structure DriveSet where
  tier : Nat
  t    : Nat
  code : Nat
  deriving DecidableEq, Repr

/-- A valid sample queued for computation (R169): its channel, point, tier, the drive code in force there, and the monitor
and temperature codes; the control clock it arrived in, whether the expected point before it was missing (R182), and the
multiply-accumulate lane that has taken it. -/
structure Sample where
  chan : Nat
  ts   : Nat
  tier : Nat
  w4   : Nat
  y1   : Nat
  y2   : Nat
  clk  : Nat := 0
  gap  : Bool := false
  lane : Nat := 0
  deriving DecidableEq, Repr

/-- One laser channel (R164 to R186). `state` is the code of R178 for a channel that LASER_MAP uses; `back` the state that
STANDBY returns to; `expect` the sequence number expected; `points` the points without a record; `pulses` and
`sent` LSC's record of pulses and of SET_DRIVE commands; `codes` the code last sent per tier; `preset` the tiers whose
next computation presets z; `missRun`, `feRun` and `good` the runs of R181 and R182; `frz` the drive codes in force at the
consecutive samples of one monitor code (that of the sample's tier, then all eight), and `frzMon` that code; `uHold` the
codes in force at entry into RAMP; `ramp` the steps made; `frameCodes` the codes sent
in the display period in progress (R360). -/
structure LscChan where
  state  : Nat := 1
  back   : Nat := 2
  cause  : Nat := 0
  expect : Option Nat := none
  points : List Point := []
  pulses : List Pulse := []
  sent   : List DriveSet := []
  codes  : List Nat := [0, 0, 0, 0, 0, 0, 0, 0]
  ctx    : SMap LscCtx := []
  preset : List Nat := []
  missRun : Nat := 0
  frz    : List (Nat × List Nat) := []
  frzMon : Nat := 0
  feRun  : Nat := 0
  good   : Nat := 0
  uHold  : List Nat := []
  ramp   : Nat := 0
  dl     : Bool := false
  sat    : Bool := false
  lastSeq : Nat := 0
  lastMon : Nat := 0
  aux    : Int := 0
  frameCodes : List Nat := []
  deriving DecidableEq, Repr

/-- One colour group (R184, R198): base count N, take-up factor k, the ramp that moves it and its channel, the short flag,
and the outer loop's q, m and r. -/
structure LscGroup where
  base  : Nat := 0
  k     : Nat := 65536
  kOld  : Nat := 65536
  kNew  : Nat := 65536
  mover : Option Nat := none
  short : Bool := false
  q     : Nat := 65536
  m     : Nat := 0
  r     : Int := 0
  deriving DecidableEq, Repr

/-- The outer loop of a head (R197 to R204). `since` counts the latching boundaries since the last outer sample (none: the next one is a sample); `asked` the
slots whose reply is awaited, and `fresh` those that gave a fresh reading in this sample; `waiting` that a sample awaits
its computation; `reasons` the skip reasons of R200 that hold since the previous outer sample, and `why` those of the sample that waits, with `samplePhase` the phase in which it began; `dim` the dimming value of
the previous sample and `dimNow` the one in force since the last look; `recRun` the consecutive samples beyond the recovery band. -/
structure Outer where
  phase   : Nat := 0
  skip    : Nat := 0
  miss    : Nat := 0
  settled : Nat := 0
  recRun  : Nat := 0
  since   : Option Nat := none
  asked   : List Nat := []
  fresh   : List Nat := []
  waiting : Bool := false
  reasons : List Nat := []
  why     : List Nat := []
  samplePhase : Nat := 0
  dim     : Option Nat := none
  dimNow  : Option Nat := none
  a       : Nat := 65536
  deriving DecidableEq, Repr

/-- A colour sensor slot (R196, R206). -/
structure Slot where
  status : Nat := 0
  seq    : Option Nat := none
  stale  : Nat := 0
  state  : Nat := 0
  codes  : List Nat := [0, 0, 0, 0]
  deriving DecidableEq, Repr

/-- LSC. `eng` is the engine's code of R191; `queue` the sample queue, oldest first; `jobs` the computations in progress,
oldest first; `coefs` the coefficients other than 0, by key. -/
structure Lsc where
  eng    : Nat := 0
  reason : Nat := 0
  queue  : List Sample := []
  jobs   : List Sample := []
  qPeak  : Nat := 0
  coefs  : SMap Nat := []
  chans  : SMap LscChan := []
  groups : SMap LscGroup := []
  outer  : SMap Outer := []
  slots  : SMap Slot := []
  deriving DecidableEq, Repr

end Sys2Proof.Machine
end

