-- ==== Sys2Proof/Machine/TypesTim.lean ====
section
/-!
DEFINITION. State of network time (TIM, R302 to R319).
-/
namespace Sys2Proof.Machine

/-- A foreign master of a domain (R309): its identity, the instants of its last Announce messages, their interval as a
power of two of seconds, and the data set compared. -/
structure Foreign where
  source : Nat
  times  : List Nat
  interval : Int
  p1     : Nat
  cls    : Nat
  acc    : Nat
  var    : Nat
  p2     : Nat
  gm     : Nat
  steps  : Nat
  deriving DecidableEq, Repr

/-- A Sync that waits for its Follow_Up (R309): sequence number, t2 in 2^−16 ns, correction, and when it came. -/
structure SyncWait where
  seq  : Nat
  t2   : Int
  corr : Int
  at'  : Nat
  deriving DecidableEq, Repr

/-- A completed pair: t1 and t2 in 2^−16 ns, and c_S in ns. -/
structure TimPair where
  t1 : Int
  t2 : Int
  cs : Int
  deriving DecidableEq, Repr

/-- An entry of the transmit timestamp queue (R308), with the last pair before its t3. -/
structure TsqEntry where
  dom  : Nat
  seq  : Nat
  t3   : Int
  pair : Option TimPair
  deriving DecidableEq, Repr

/-- A PTP domain (R309 to R312). `dnum` and `transport` as read at enable; `raws` the last 8 mpd_raw, newest last; `delays` and
`pairs` count what UNCALIBRATED has seen; `nextSeq` the sequence number of the next Delay_Req; `good` the run of
offsets that ends SUSPECT. -/
structure TimDom where
  state    : Nat := 0
  transport : Nat := 0
  dnum     : Nat := 0
  foreign  : List Foreign := []
  master   : Option Nat := none
  group    : Nat := 0
  syncs    : List SyncWait := []
  pair     : Option TimPair := none
  raws     : List Int := []
  delays   : List Int := []
  pairs    : Nat := 0
  mpd      : Int := 0
  o        : Int := 0
  acc      : Int := 0
  s        : Int := 0
  pathN    : Nat := 0
  pathUp   : Bool := false
  good     : Nat := 0
  holdEnd  : Nat := 0
  nextSeq  : Nat := 0
  gm       : Nat := 0
  deriving DecidableEq, Repr

/-- A pulse output (R315, R316): whether it is armed, its next target in 2^−32 ns of clock time, its period in the same unit
(0: single), its width in ticks, whether it is active and its missed targets. -/
structure PulseOut where
  on     : Bool := false
  next   : Option Int := none
  period : Nat := 0
  width  : Nat := 0
  active : Bool := false
  missed : Nat := 0
  deriving DecidableEq, Repr

/-- TIM. The local clock reads `base` + (ticks since tick `tick0`) × `addend`, in 2^−32 ns (R305). `run`, `vlan` are the port as
read at its enable; `stepTick` the tick of the last step (R318); the last four are the words captured by a read of a low word. -/
structure Tim where
  run     : Bool := false
  eth     : Nat := 0
  vlan    : Option Nat := none
  link    : Bool := false
  base    : Int := 0
  tick0   : Nat := 0
  addend  : Nat := 5368709120
  state   : Nat := 0
  sel     : Nat := 0
  stepDone : Bool := false
  stepTick : Option Nat := none
  armed   : Bool := false
  tsq     : List TsqEntry := []
  doms    : SMap TimDom := []
  outs    : SMap PulseOut := []
  capSecLo : Nat := 0
  capSecHi : Nat := 0
  capFrac : Nat := 0
  capAdd  : Nat := 1
  deriving DecidableEq, Repr

end Sys2Proof.Machine
end

