-- ==== Sys2Proof/Machine/TypesRec.lean ====
section
/-!
DEFINITION. A checkpoint of the replay recorder as the state it holds (R362). The spec gives its contents and not their places
in the CKPT_DATA items.
-/
namespace Sys2Proof.Machine

/-- A checkpoint (R362): for the recorded heads, staged words and words in force, tables, polder contexts, pending commits and
the running frame; for their laser channels, registers, coefficients, contexts, drive codes, outer loop and take-up; with
payload = 1, the planes of the surfaces, as surface ranges (`planes`), and as DRAM ranges and their bytes. `tls` are the fence values that the recorded heads find until a FENCE item
changes them. -/
structure Ckpt where
  digest  : List Byte := []
  stamp   : Nat := 0
  mask    : Nat := 0
  regs    : SMap Word := []
  force   : SMap Word := []
  tgn     : SMap TgnHead := []
  pnl     : SMap PnlHead := []
  polders : SMap Polder := []
  chans   : SMap LscChan := []
  coefs   : SMap Nat := []
  groups  : SMap LscGroup := []
  outer   : SMap Outer := []
  slots   : SMap Slot := []
  planes  : List (Nat × Nat) := []
  ranges  : List (Nat × Nat) := []
  cells   : Memory := []
  tls     : SMap Nat := []
  deriving DecidableEq, Repr

end Sys2Proof.Machine
end

