-- ==== Sys2Proof/Syntax.lean ====
section
/-!
DEFINITION. The commands of the device: register writes with their source, transactions and blocks that arrive on its
ports, and the events that the rows of the opcode table name.
-/
namespace Sys2Proof

/-- Where a register access comes from (R21): the management firmware, culvert channel 4p + c, or the SPI target port. -/
inductive Source where
  | firmware
  | culvert (chan : Fin 96)
  | spi
  deriving DecidableEq, Repr

/-- A device that won arbitration in ENTDAA (R393): provisional ID, bus and device characteristics. -/
structure I3cDevice where
  pid : Nat
  bcr : Nat
  dcr : Nat
  deriving DecidableEq, Repr

/-- A CULVERT_REQ as its header and payload give it (R270): `count` is the word count, header field + 1. -/
structure CulvertReq where
  op    : Nat
  be    : Nat
  tag   : Nat
  addr  : Nat
  count : Nat
  words : List Word
  deriving DecidableEq, Repr

/-- A PIXEL_STREAM transaction as its header and payload give it (R270). -/
structure PixelTxn where
  surface : Nat
  plane   : Nat
  line    : Nat
  offset  : Nat
  data    : List Byte
  deriving DecidableEq, Repr

/-- A link packet as it arrives (R262): the fields of START and END, and the data blocks as bytes, the header block
first. `err` tells of an error indication from LNE inside the packet. -/
structure LinkPkt where
  type    : Nat
  stream  : Nat
  unseq   : Bool
  seq     : Nat
  blocks  : Nat
  body    : List Byte
  prot    : Bool
  epoch   : Nat
  retrans : Bool
  seq2    : Nat
  crc     : Nat
  err     : Bool
  deriving DecidableEq, Repr

/-- A MON_SAMPLE record (R160, R168). -/
structure MonRec where
  chan   : Nat
  seq    : Nat
  flags  : Nat
  mon    : Nat
  aux    : Nat
  stamp  : Nat
  deriving DecidableEq, Repr

/-- A DRAM or basin read that returns (R289, R293, R298): its requester, the 64-byte block it names, what it found and the
row activations it made. `outcome` is 0 clean, 1 corrected inline, 2 good after retry, 3 still uncorrectable; `link` tells
of a corrected link error; `kind` is 1 inline ECC, 2 link ECC, 3 basin. A layer fetch of a head names its layer slot and
polder; any other read has layer 9. `merge` marks the read of a read-modify-write. -/
structure ReadDone where
  requester : Nat
  block     : Nat
  outcome   : Nat
  link      : Bool
  kind      : Nat
  layer     : Nat
  polder    : Nat
  merge     : Bool
  acts      : Nat
  deriving DecidableEq, Repr

/-- What the port sees of the frame that carries a PTP message (R303): its destination MAC address, the VLAN IDs of its 802.1Q
tags, its ethertype; of an IP packet the destination address, the IHL, whether it is a fragment, whether it has an extension
header and its UDP port; and whether the FCS is right. -/
structure EthHead where
  dest   : Nat
  tags   : List Nat
  etype  : Nat
  ipDest : Nat
  ihl    : Nat
  frag   : Bool
  ext    : Bool
  port   : Nat
  fcs    : Bool
  deriving DecidableEq, Repr

/-- A PTP message as TIM receives it (R303, R304, R309): its frame, its domainNumber, the identity of its sender (clockIdentity and
port number as one number), its sequence number, twoStepFlag, versions, correctionField in 2^−16 ns, the timestamp it carries
(originTimestamp, preciseOriginTimestamp or receiveTimestamp), logMessageInterval, requestingPortIdentity, and the data set of an
Announce. -/
structure PtpMsg where
  frame    : EthHead
  dnum     : Nat
  source   : Nat
  seq      : Nat
  twoStep  : Bool
  version  : Nat
  minor    : Nat
  corr     : Int
  sec      : Nat
  ns       : Nat
  interval : Int
  requesting : Nat
  p1       : Nat
  cls      : Nat
  acc      : Nat
  var      : Nat
  p2       : Nat
  gm       : Nat
  steps    : Nat
  deriving DecidableEq, Repr

/-- What one lane counted in a sub-window of a calibration run, which ends when W blocks qualify (R322): the difference d; `low`
tells that 16 × W blocks passed before W qualified. -/
structure SubWindow where
  d   : Int
  low : Bool
  deriving DecidableEq, Repr

/-- The commands of the device: one constructor for each row of the opcode table. -/
inductive Instr where
  /-- REGISTER_WRITE (R26). -/
  | registerWrite (src : Source) (be : Nat) (addr : Nat) (v : Word)
  /-- MGT_ABSENT_REARM (R10). -/
  | mgtAbsentRearm (src : Source) (v : Word)
  /-- COUNTER_LOW_READ (R7). -/
  | counterLowRead (src : Source) (addr : Nat)
  /-- TIME_CAPTURE_READ (R319). -/
  | timeCaptureRead (src : Source) (addend : Bool)
  /-- SFM_CNT_CLR (R67). -/
  | sfmCntClr (src : Source) (v : Word)
  /-- CMP_H_CNT_CLR (R83). -/
  | cmpHCntClr (src : Source) (h : Fin 4) (v : Word)
  /-- TGN_H_CNT_CLR (R115). -/
  | tgnHCntClr (src : Source) (h : Fin 4) (v : Word)
  /-- PSQ_H_CNT_CLR (R138). -/
  | psqHCntClr (src : Source) (h : Fin 4) (v : Word)
  /-- LTE_H_CNT_CLR (R163). -/
  | lteHCntClr (src : Source) (h : Fin 4) (v : Word)
  /-- LSC_CNT_CLR (R191). -/
  | lscCntClr (src : Source) (v : Word)
  /-- LSC_O_CNT_CLR (R206). -/
  | lscOCntClr (src : Source) (h : Fin 4) (v : Word)
  /-- PNL_H_CNT_CLR (R232). -/
  | pnlHCntClr (src : Source) (h : Fin 4) (v : Word)
  /-- LNE_L_CNT_CLR (R257). -/
  | lneLCntClr (src : Source) (n : Fin 96) (v : Word)
  /-- LNK_P_CNT_CLR (R278). -/
  | lnkPCntClr (src : Source) (p : Fin 24) (v : Word)
  /-- DMC_CNT_CLR (R301). -/
  | dmcCntClr (src : Source) (v : Word)
  /-- DMC_CH_CNT_CLR (R301). -/
  | dmcChCntClr (src : Source) (c : Fin 16) (v : Word)
  /-- TIM_CNT_CLR (R319). -/
  | timCntClr (src : Source) (v : Word)
  /-- CAL_CNT_CLR (R331). -/
  | calCntClr (src : Source) (v : Word)
  /-- PWG_CNT_CLR (R345). -/
  | pwgCntClr (src : Source) (v : Word)
  /-- MGT_CNT_CLR (R368). -/
  | mgtCntClr (src : Source) (v : Word)
  /-- POWER_ON_RESET (R387). -/
  | powerOnReset
  /-- WARM_RESET (R387). -/
  | warmReset
  /-- SOFTWARE_RESET (R396). -/
  | softwareReset (src : Source) (v : Word)
  /-- CLOCK_FAULT_RESET (R333). -/
  | clockFaultReset
  /-- RESET_RELEASE (R387). -/
  | resetRelease (bootsel : Fin 4)
  /-- THERMAL_TRIP_RELEASE (R343). -/
  | thermalTripRelease
  /-- PLL_LOCK (R333). -/
  | pllLock
  /-- PLL_LOCK_TIMEOUT (R388). -/
  | pllLockTimeout
  /-- BASIN_TEST_DONE (R389). -/
  | basinTestDone (bad : List (Fin 64))
  /-- SLOT_LOAD_DONE (R41). -/
  | slotLoadDone (io : Bool)
  /-- LOAD_STREAM_WRITE (R395). -/
  | loadStreamWrite (src : Source) (v : Word)
  /-- LOAD_STREAM_STALL (R43). -/
  | loadStreamStall
  /-- POLDER_SELF_TEST_DONE (R389). -/
  | polderSelfTestDone (bad : List (Fin 40960))
  /-- FIRMWARE_START (R389). -/
  | firmwareStart
  /-- DRAM_TRAIN_STEP_DONE (R391). -/
  | dramTrainStepDone (c : Fin 16) (ok : Bool)
  /-- I3C_ENTDAA_DONE (R393). -/
  | i3cEntdaaDone (devs : List I3cDevice)
  /-- SPI_WRITE (R395). -/
  | spiWrite (addr : Nat) (words : List Word)
  /-- SPI_READ (R395). -/
  | spiRead (addr : Nat) (count : Nat)
  /-- SPI_STATUS (R395). -/
  | spiStatus
  /-- FLASH_ERASE (R46). -/
  | flashErase (src : Source) (slot : Fin 2)
  /-- FLASH_PROGRAM (R46). -/
  | flashProgram (src : Source) (slot : Fin 2)
  /-- FLASH_VERIFY (R46). -/
  | flashVerify (src : Source) (slot : Fin 2)
  /-- FLASH_COMMIT (R46). -/
  | flashCommit (src : Source) (slot : Fin 2)
  /-- FLASH_CMD_DONE (R47). -/
  | flashCmdDone (io : Bool)
  /-- CULVERT_READ (R271). -/
  | culvertRead (p : Fin 24) (c : Fin 4) (r : CulvertReq)
  /-- CULVERT_WRITE (R271). -/
  | culvertWrite (p : Fin 24) (c : Fin 4) (r : CulvertReq)
  /-- SURFACE_WRITE (R52). -/
  | surfaceWrite (p : Fin 24) (st : Fin 8) (addr : Nat) (data : List Byte)
  /-- PIXEL_STREAM (R53). -/
  | pixelStream (p : Fin 24) (st : Fin 8) (x : PixelTxn)
  /-- PARK_RELEASE (R64). -/
  | parkRelease (p : Fin 24) (st : Fin 8)
  /-- DOORBELL (R59). -/
  | doorbell (p : Fin 24) (st : Fin 8) (tl : Fin 256) (value : Nat)
  /-- TIMELINE_WRITE (R58). -/
  | timelineWrite (src : Source) (n : Fin 256) (v : Word)
  /-- PT_INVALIDATE (R51). -/
  | ptInvalidate (src : Source)
  /-- PT_INVALIDATE_DONE (R51). -/
  | ptInvalidateDone
  /-- SURFACE_DESCRIPTOR_WRITE (R55). -/
  | surfaceDescriptorWrite (src : Source) (n : Fin 4096) (r : Fin 5) (v : Word)
  /-- SURFACE_VALIDATE (R55). -/
  | surfaceValidate (src : Source) (n : Fin 4096)
  /-- SURFACE_FREE (R63). -/
  | surfaceFree (src : Source) (n : Fin 4096)
  /-- FETCH_TRANSLATION_FAULT (R65). -/
  | fetchTranslationFault (h : Fin 4) (l : Fin 9) (polder : Nat) (page : Nat)
  /-- FRAME_BOUNDARY (R97). -/
  | frameBoundary (h : Fin 4)
  /-- HOLD_END (R107). -/
  | holdEnd (h : Fin 4)
  /-- COMMIT_SUBMIT (R102). -/
  | commitSubmit (src : Source) (h : Fin 4) (v : Word)
  /-- FRAME_RETIRE (R106). -/
  | frameRetire (h : Fin 4)
  /-- HEAD_ENABLE (R100). -/
  | headEnable (src : Source) (h : Fin 4) (v : Word)
  /-- HEAD_DISABLE (R100). -/
  | headDisable (src : Source) (h : Fin 4) (v : Word)
  /-- HEAD_GRANT (R100). -/
  | headGrant (h : Fin 4)
  /-- HEAD_GRANT_REFUSAL (R100). -/
  | headGrantRefusal (h : Fin 4)
  /-- HEAD_STOP_COMPLETE (R100). -/
  | headStopComplete (h : Fin 4)
  /-- BREACH (R110). -/
  | breach (h : Fin 4) (buf : Fin 16)
  /-- FREEBOARD_PANIC (R111). -/
  | freeboardPanic (h : Fin 4) (ns : Nat)
  /-- CRC_CHECK (R112). -/
  | crcCheck (h : Fin 4)
  /-- COMPOSE_TILE_ROW (R130). -/
  | composeTileRow (h : Fin 4) (ty : Nat)
  /-- PXP_TABLE_STORE (R95). -/
  | pxpTableStore (src : Source) (h : Fin 4) (v : Word)
  /-- PSQ_MASK_STORE (R139). -/
  | psqMaskStore (src : Source) (h : Fin 4) (v : Word)
  /-- PORT_CALIBRATE (R143). -/
  | portCalibrate (src : Source) (p : Fin 24)
  /-- ECHO_REPLY (R143). -/
  | echoReply (p : Fin 24) (tag : Nat) (t0 : Nat) (t1 : Nat) (counter : Nat) (replayed : Bool)
  /-- ECHO_NO_REPLY (R143). -/
  | echoNoReply (p : Fin 24)
  /-- PLANE_LOAD_WINDOW_OPEN (R152). -/
  | planeLoadWindowOpen (h : Fin 4) (j : Nat)
  /-- LOAD_WINDOW_CLOSE (R154). -/
  | loadWindowClose (h : Fin 4) (j : Nat) (sent : Bool)
  /-- PULSE_ISSUE (R152). -/
  | pulseIssue (h : Fin 4) (j : Nat)
  /-- PERIPHERAL_EVENT (R162). -/
  | peripheralEvent (p : Fin 24) (opcode : Nat) (code : Nat) (detail : Nat) (counter : Nat)
  /-- MON_SAMPLE (R168). -/
  | monSample (p : Fin 24) (x : MonRec)
  /-- SAMPLE_ARRIVAL_TIMEOUT (R168). -/
  | sampleArrivalTimeout (c : Fin 256)
  /-- SAMPLE_BOUNDARY (R169). -/
  | sampleBoundary
  /-- LOOP_COMPUTE_COMMIT (R173): of a channel, in the lane that has taken its sample. -/
  | loopComputeCommit (c : Fin 256) (lane : Fin 4)
  /-- HOLD_TIMER_EXPIRY (R183). -/
  | holdTimerExpiry (c : Fin 256)
  /-- RAMP_STEP (R183). -/
  | rampStep (c : Fin 256)
  /-- CHANNEL_ENABLE (R178). -/
  | channelEnable (src : Source) (c : Fin 256) (v : Word)
  /-- CHANNEL_DISABLE (R178). -/
  | channelDisable (src : Source) (c : Fin 256) (v : Word)
  /-- CHANNEL_RESTORE (R186). -/
  | channelRestore (src : Source) (c : Fin 256) (v : Word)
  /-- DRIVE_WRITE (R191). -/
  | driveWrite (src : Source) (c : Fin 256) (t : Fin 8) (v : Word)
  /-- COEF_STORE (R192). -/
  | coefStore (src : Source) (v : Word)
  /-- ENGINE_START (R188). -/
  | engineStart (src : Source)
  /-- ENGINE_STOP (R188). -/
  | engineStop (src : Source)
  /-- ENGINE_GRANT (R188). -/
  | engineGrant
  /-- ENGINE_GRANT_REFUSAL (R188). -/
  | engineGrantRefusal
  /-- SENSOR_REPLY (R196). -/
  | sensorReply (slot : Fin 8) (reply : Option (List Byte))
  /-- OUTER_READ_WINDOW_EXPIRY (R197). -/
  | outerReadWindowExpiry (h : Fin 4)
  /-- OUTER_MODE_DIRECT (R201). -/
  | outerModeDirect (src : Source) (h : Fin 4) (v : Word)
  /-- OUTER_MODE_MANUAL (R202). -/
  | outerModeManual (src : Source) (h : Fin 4) (v : Word)
  /-- OUTER_MODE_AUTO (R202). -/
  | outerModeAuto (src : Source) (h : Fin 4) (v : Word)
  /-- OUTER_TEST (R201). -/
  | outerTest (src : Source) (h : Fin 4) (v : Word)
  /-- PANEL_PORT_CALIBRATE (R207). -/
  | panelPortCalibrate (src : Source) (p : Fin 24)
  /-- ROW_ISSUE (R210). -/
  | rowIssue (h : Fin 4) (line : Nat)
  /-- LINE_DATA_SEND (R210). -/
  | lineDataSend (h : Fin 4) (line : Nat)
  /-- LINE_LATCH_DUE (R225). -/
  | lineLatchDue (h : Fin 4) (row : Nat) (sent : Bool)
  /-- PANEL_TEMP_REPLY (R216). -/
  | panelTempReply (h : Fin 4) (reply : Option (List Byte))
  /-- SELF_REQUEST (R220). -/
  | selfRequest (src : Source) (h : Fin 4) (v : Word)
  /-- SELF_EXIT_REQUEST (R223). -/
  | selfExitRequest (src : Source) (h : Fin 4) (v : Word)
  /-- OD_TABLE_STORE (R233). -/
  | odTableStore (src : Source) (h : Fin 4) (v : Word)
  /-- GROUP_GO (R242). -/
  | groupGo (src : Source) (g : Fin 12) (v : Word)
  /-- GROUP_DOWN (R242). -/
  | groupDown (src : Source) (g : Fin 12) (v : Word)
  /-- GROUP_GRANT (R242). -/
  | groupGrant (g : Fin 12)
  /-- GROUP_GRANT_REFUSAL (R242). -/
  | groupGrantRefusal (g : Fin 12)
  /-- DETECT_TEST (R245). -/
  | detectTest (n : Fin 96) (term : Bool)
  /-- DETECT_TIMEOUT (R243). -/
  | detectTimeout (n : Fin 96)
  /-- TRAIN_TIMEOUT (R243). -/
  | trainTimeout (n : Fin 96)
  /-- SYNC_TIMEOUT (R243). -/
  | syncTimeout (n : Fin 96)
  /-- ATTEMPT_WAIT_END (R244). -/
  | attemptWaitEnd (n : Fin 96)
  /-- RECOVER_TIMEOUT (R251). -/
  | recoverTimeout (n : Fin 96)
  /-- RECOVER_BUDGET_DECAY (R251). -/
  | recoverBudgetDecay (n : Fin 96)
  /-- TRAIN_BLOCK_RECEIVE (R245). -/
  | trainBlockReceive (n : Fin 96) (raw : (BitVec 64))
  /-- IDLE_BLOCK_RECEIVE (R246). -/
  | idleBlockReceive (n : Fin 96) (raw : (BitVec 64))
  /-- DATA_BLOCK_RECEIVE (R237). -/
  | dataBlockReceive (n : Fin 96) (hdr : Fin 4) (raw : (BitVec 64)) (eye : Nat)
  /-- LANE_PM_RECEIVE (R249). -/
  | lanePmReceive (n : Fin 96) (raw : (BitVec 64)) (idle : Bool)
  /-- LANE_WAKE (R249). -/
  | laneWake (n : Fin 96)
  /-- LANE_WAKE_TIMEOUT (R249). -/
  | laneWakeTimeout (n : Fin 96)
  /-- LANE_DROPOUT (R250). -/
  | laneDropout (n : Fin 96)
  /-- LANE_RETRY (R243). -/
  | laneRetry (src : Source) (n : Fin 96) (v : Word)
  /-- LANE_STOP (R243). -/
  | laneStop (src : Source) (n : Fin 96) (v : Word)
  /-- LANE_TEST_MODE (R255). -/
  | laneTestMode (src : Source) (n : Fin 96) (v : Word)
  /-- LOOPBACK_SIGNAL_LOSS (R255). -/
  | loopbackSignalLoss (n : Fin 96)
  /-- EYE_GO (R254). -/
  | eyeGo (src : Source) (n : Fin 96) (v : Word)
  /-- EYE_STOP (R254). -/
  | eyeStop (src : Source) (n : Fin 96) (v : Word)
  /-- EYE_SCAN_COMPLETE (R254). -/
  | eyeScanComplete (n : Fin 96) (errs : Nat)
  /-- TRACKER_WINDOW_END (R247). -/
  | trackerWindowEnd (n : Fin 96)
  /-- ALIGN_RECEIVE (R259). -/
  | alignReceive (n : Fin 96) (number : Nat) (inStripe : Bool)
  /-- BOND_TIMEOUT (R260). -/
  | bondTimeout (p : Fin 24)
  /-- CAPS_SEND (R268). -/
  | capsSend (p : Fin 24)
  /-- CAPS_RECEIVE (R269). -/
  | capsReceive (p : Fin 24) (body : List Byte)
  /-- CAPS_TIMEOUT (R260). -/
  | capsTimeout (p : Fin 24)
  /-- LINK_PACKET_RECEIVE (R263). -/
  | linkPacketReceive (p : Fin 24) (k : LinkPkt)
  /-- ACK_RECEIVE (R264). -/
  | ackReceive (p : Fin 24) (q : Nat)
  /-- NAK_RECEIVE (R264). -/
  | nakReceive (p : Fin 24) (q : Nat)
  /-- CREDIT_RECEIVE (R266). -/
  | creditReceive (p : Fin 24) (cls : Nat) (hdr : Nat) (data : Nat)
  /-- WIDTH_RECEIVE (R261). -/
  | widthReceive (p : Fin 24) (mask : Nat)
  /-- CREDIT_SEND (R266). -/
  | creditSend (p : Fin 24)
  /-- REPLAY_TIMEOUT (R264). -/
  | replayTimeout (p : Fin 24)
  /-- PORT_RETRAIN (R260). -/
  | portRetrain (src : Source) (p : Fin 24) (v : Word)
  /-- PORT_QUIET_IDLE (R276). -/
  | portQuietIdle (p : Fin 24)
  /-- PORT_DORMANT_IDLE (R276). -/
  | portDormantIdle (p : Fin 24)
  /-- EVENT_DELIVERY_CTL (R353). -/
  | eventDeliveryCtl (src : Source) (v : Word)
  /-- EVENT_TRANSACTION_SEND (R272). -/
  | eventTransactionSend
  /-- DRAM_READ_COMPLETE (R293). -/
  | dramReadComplete (x : ReadDone)
  /-- REFRESH_INTERVAL (R287). -/
  | refreshInterval (c : Fin 16) (issued : List Nat) (split : Bool)
  /-- HOT_ROW_CLEAR (R289). -/
  | hotRowClear
  /-- CAPTURE_BURST_START (R290). -/
  | captureBurstStart (c : Fin 16)
  /-- CAPTURE_BURST_END (R290). -/
  | captureBurstEnd (c : Fin 16) (result : Option (Nat × Int))
  /-- APPLY_PAUSE (R290). -/
  | applyPause (c : Fin 16)
  /-- PATROL_SCRUB (R294). -/
  | patrolScrub (corrected : Bool)
  /-- FREQ_CHANGE_REQUEST (R292). -/
  | freqChangeRequest (src : Source) (v : Word)
  /-- FREQ_CHANGE_CANCEL (R292). -/
  | freqChangeCancel (src : Source) (v : Word)
  /-- FREQ_GRANT (R292). -/
  | freqGrant
  /-- FREQ_CHANGE_START (R292). -/
  | freqChangeStart
  /-- FREQ_WINDOW_TIMEOUT (R292). -/
  | freqWindowTimeout
  /-- FREQ_CHANGE_DONE (R292). -/
  | freqChangeDone (captures : List (Option (Nat × Int)))
  /-- DRAM_SELF_REFRESH_ENTRY (R296). -/
  | dramSelfRefreshEntry (c : Fin 16)
  /-- DRAM_SELF_REFRESH_EXIT (R296). -/
  | dramSelfRefreshExit (c : Fin 16)
  /-- POWER_DOWN_ENTRY (R296). -/
  | powerDownEntry (c : Fin 16) (rank : Fin 2)
  /-- BASIN_CLEAR (R299). -/
  | basinClear (src : Source) (v : Word)
  /-- BASIN_LOAD (R299). -/
  | basinLoad (src : Source) (v : Word)
  /-- BASIN_STORE (R299). -/
  | basinStore (src : Source) (v : Word)
  /-- BASIN_CMD_DONE (R299). -/
  | basinCmdDone (poisoned : List Nat)
  /-- TIM_PORT_ENABLE (R302). -/
  | timPortEnable (src : Source) (v : Word)
  /-- ETH_LINK_CHANGE (R302). -/
  | ethLinkChange (up : Bool) (supported : Bool)
  /-- ETH_FRAME_DISCARD (R303). -/
  | ethFrameDiscard
  /-- SYNC_RECEIVE (R309). -/
  | syncReceive (d : Fin 2) (m : PtpMsg)
  /-- FOLLOW_UP_RECEIVE (R309). -/
  | followUpReceive (d : Fin 2) (m : PtpMsg)
  /-- ANNOUNCE_RECEIVE (R309). -/
  | announceReceive (d : Fin 2) (m : PtpMsg)
  /-- DELAY_RESP_RECEIVE (R309). -/
  | delayRespReceive (d : Fin 2) (m : PtpMsg)
  /-- DELAY_REQ_SEND (R309). -/
  | delayReqSend (d : Fin 2)
  /-- TSQ_ENTRY_EXPIRY (R308). -/
  | tsqEntryExpiry
  /-- ANNOUNCE_TIMEOUT (R310). -/
  | announceTimeout (d : Fin 2)
  /-- SYNC_PAIR_TIMEOUT (R310). -/
  | syncPairTimeout (d : Fin 2)
  /-- PATH_HOLDOFF_EXPIRY (R312). -/
  | pathHoldoffExpiry (d : Fin 2)
  /-- REVERT_TIMER (R313). -/
  | revertTimer
  /-- STEP_ARM (R314). -/
  | stepArm (src : Source)
  /-- STEP_DISARM (R314). -/
  | stepDisarm (src : Source)
  /-- DOMAIN_ENABLE (R310). -/
  | domainEnable (src : Source) (d : Fin 2) (v : Word)
  /-- DOMAIN_DISABLE (R310). -/
  | domainDisable (src : Source) (d : Fin 2) (v : Word)
  /-- PULSE_OUTPUT_ENABLE (R315). -/
  | pulseOutputEnable (src : Source) (k : Fin 8) (v : Word)
  /-- PULSE_OUTPUT_FIRE (R315). -/
  | pulseOutputFire (k : Fin 8)
  /-- PULSE_WIDTH_END (R315). -/
  | pulseWidthEnd (k : Fin 8)
  /-- CAL_GO (R325). -/
  | calGo (src : Source) (g : Fin 12)
  /-- CAL_STOP (R326). -/
  | calStop (src : Source) (g : Fin 12)
  /-- CAL_TEMP_READ (R325). -/
  | calTempRead (g : Fin 12)
  /-- CAL_PERIOD_EXPIRY (R325). -/
  | calPeriodExpiry (g : Fin 12)
  /-- CAL_SUBWINDOW_END (R322). -/
  | calSubwindowEnd (n : Fin 96) (x : SubWindow)
  /-- CAL_TRIM_APPLY (R327). -/
  | calTrimApply (p : Fin 24)
  /-- TRIM_RAMP_STEP (R327). -/
  | trimRampStep (n : Fin 96) (kind : Fin 8)
  /-- CAL_APPLY_TIMEOUT (R326). -/
  | calApplyTimeout (g : Fin 12)
  /-- DYN_TRIM_WRITE (R328). -/
  | dynTrimWrite (src : Source) (n : Fin 96) (v : Word)
  /-- STATIC_TRIM_WRITE (R327). -/
  | staticTrimWrite (src : Source) (n : Fin 96) (v : Word)
  /-- GRANT_DECISION (R338). -/
  | grantDecision
  /-- GRANT_DEADLINE (R338). -/
  | grantDeadline (cls : Fin 8) (unit : Nat)
  /-- STANDING_RAMP_DONE (R338). -/
  | standingRampDone
  /-- THERMAL_SAMPLE (R342). -/
  | thermalSample (readings : List (Int × Bool))
  /-- BUDGET_WRITE (R339). -/
  | budgetWrite (src : Source) (base : Bool) (v : Word)
  /-- BATCH_ACCEPT (R350). -/
  | batchAccept
  /-- COLLECTOR_DRAIN (R350). -/
  | collectorDrain
  /-- RING_WRITE (R352). -/
  | ringWrite
  /-- EVENT_RING_ENABLE (R352). -/
  | eventRingEnable (src : Source) (v : Word)
  /-- EVENT_RING_DISABLE (R352). -/
  | eventRingDisable (src : Source) (v : Word)
  /-- EVENT_RING_CONSUME (R353). -/
  | eventRingConsume (src : Source) (v : Word)
  /-- EVENT_POP (R354). -/
  | eventPop (src : Source) (v : Word)
  /-- REC_RECORD (R361). -/
  | recRecord (src : Source)
  /-- REC_STOP (R361). -/
  | recStop (src : Source)
  /-- REC_REPLAY (R364). -/
  | recReplay (src : Source)
  /-- REC_MARK (R360). -/
  | recMark (src : Source) (v : Word)
  /-- CHECKPOINT_END (R362). -/
  | checkpointEnd
  /-- CHECKPOINT_PERIODIC (R362). -/
  | checkpointPeriodic
  /-- POST_FRAMES_END (R361). -/
  | postFramesEnd
  /-- GAP_ITEM_WRITE (R359). -/
  | gapItemWrite (n : Nat)
  /-- REPLAY_END (R366). -/
  | replayEnd
  /-- OTP_ADVANCE (R371). -/
  | otpAdvance (src : Source) (v : Word)
  /-- OTP_REVOKE (R372). -/
  | otpRevoke (src : Source) (v : Word)
  /-- OTP_LOCK (R379). -/
  | otpLock (src : Source)
  /-- OTP_RETURN (R379). -/
  | otpReturn (src : Source)
  /-- OTP_PROGRAM_DONE (R370). -/
  | otpProgramDone (ok : Bool)
  /-- ATTEST_REQUEST (R374). -/
  | attestRequest (src : Source)
  /-- ATTEST_GRANT (R374). -/
  | attestGrant
  /-- ATTEST_SIGN_DONE (R376). -/
  | attestSignDone
  /-- KEY_OFFER (R377). -/
  | keyOffer (src : Source) (p : Fin 32) (e : Fin 2)
  /-- KEY_INSTALL (R377). -/
  | keyInstall (src : Source) (p : Fin 32) (e : Fin 2)
  /-- KEY_SELECT (R378). -/
  | keySelect (src : Source) (p : Fin 32) (e : Fin 2)
  /-- KEY_CLEAR (R378). -/
  | keyClear (src : Source) (p : Fin 32)
  /-- PK_ENGINE_DONE (R382). -/
  | pkEngineDone
  /-- DEBUG_UNLOCK (R380). -/
  | debugUnlock (src : Source)
  /-- SOURCE_LOCK (R381). -/
  | sourceLock (src : Source) (v : Word)
  /-- SPI_LOCK (R381). -/
  | spiLock (src : Source) (v : Word)
  /-- DRAM_TRAIN_GRANT (R290). -/
  | dramTrainGrant (c : Fin 16)
  /-- BASIN_BULK_GRANT (R299). -/
  | basinBulkGrant
  /-- SELF_TEST_GRANT (R389). -/
  | selfTestGrant
  /-- SELF_REFRESH_EXIT_DONE (R296). -/
  | selfRefreshExitDone (c : Fin 16)
  deriving DecidableEq, Repr

end Sys2Proof
end

