-- ==== Sys2Proof/Machine/State.lean ====
section
/-!
DEFINITION. The state of the device and its state right after reset.
-/
namespace Sys2Proof.Machine

/-- Why the device stops with a fault. No command of the table has such a meaning. -/
inductive Fault where
  /-- Raised by no meaning: every command of the spec has an effect. Safe. -/
  | none
  deriving DecidableEq, Repr

/-- Why a command is refused by the model. -/
inductive Refusal where
  /-- Raised by the dispatch for a command that has no meaning yet. Safe: the model stops. -/
  | notModelled (mnemonic : String)
  deriving DecidableEq, Repr

/-- The whole device. `now` counts core clock periods since the reset that last cleared MGT; `order` notes, per unit whose
happenings of one clock have an order (R66, R155, R185, R256, R277, R300, R318, R367), the clock of its last one and its place. -/
structure State where
  now      : Nat := 0
  order    : SMap (Nat × Nat) := []
  free     : Nat := 0
  regs     : SMap Word := []
  force    : SMap Word := []
  counters : SMap Counter := []
  hiCap    : SMap Nat := []
  dram     : Memory := []
  basin    : Memory := []
  flash    : Memory := []
  cfg      : Topo := {}
  blkState : SMap Nat := []
  unitsOut : SMap (List Nat) := []
  thermal  : Thermal := {}
  otp      : Otp := {}
  dbg      : Debug := {}
  boot     : Boot := {}
  mgt      : Mgt := {}
  recd     : Recorder := {}
  pwg      : Pwg := {}
  sec      : Sec := {}
  lanes    : SMap Lane := []
  groups   : SMap LaneGroup := []
  ports    : SMap Port := []
  calLanes : SMap CalLane := []
  calGroups : SMap CalGroup := []
  dramCh   : SMap DramCh := []
  dmc      : Dmc := {}
  sfm      : Sfm := {}
  tgn      : SMap TgnHead := []
  headPolders : SMap (List Nat) := []
  polders  : SMap Polder := []
  cals     : SMap PortCal := []
  pnl      : SMap PnlHead := []
  lsc      : Lsc := {}
  tim      : Tim := {}
  ckpts    : SMap Ckpt := []
  wire     : List Sent := []
  pending  : List Instr := []
  deriving DecidableEq, Repr

/-- The device right after the release of a power-on reset: stage ROM, nothing loaded. -/
def State.reset : State := {}

end Sys2Proof.Machine
end

