-- ==== Sys2Proof/Machine/Ops.lean ====
section
/-!
DEFINITION. The operations every family shares: register words, counters, event records, block and unit states, and
the gate every register write passes.
-/
namespace Sys2Proof.Machine

/-! ### Register words (R3, R4, R7, R8, R26, R27) -/

/-- The stored word at a control-space address: the last value stored, or the reset value. -/
def State.word (s : State) (a : Nat) : Word := (s.regs.find a).getD (resetWord a)

/-- The state with a stored word replaced; a word equal to its reset value is not listed. -/
def State.setWord (s : State) (a : Nat) (w : Word) : State :=
  { s with regs := if w = resetWord a then s.regs.erase a else s.regs.insert a w }

/-- The stored word of a register copy. -/
def State.rd (s : State) (r : Reg) (ix : List Nat := []) : Word := s.word (r.at ix)

/-- The state with the stored word of a register copy replaced. -/
def State.wr (s : State) (r : Reg) (ix : List Nat) (w : Word) : State := s.setWord (r.at ix) w

/-- Bits [hi:lo] of the stored word of a register copy. -/
def State.fd (s : State) (r : Reg) (ix : List Nat) (hi lo : Nat) : Nat := fld (s.rd r ix) hi lo

/-- The word in force at an address: what the last point of effect took from the staged word (R27). -/
def State.inForce (s : State) (a : Nat) : Word := (s.force.find a).getD (resetWord a)

/-- The state with the word in force at an address replaced. -/
def State.setForce (s : State) (a : Nat) (w : Word) : State :=
  { s with force := if w = resetWord a then s.force.erase a else s.force.insert a w }

/-- Bits [hi:lo] of the word in force of a register copy. -/
def State.ff (s : State) (r : Reg) (ix : List Nat) (hi lo : Nat) : Nat := fld (s.inForce (r.at ix)) hi lo

/-! ### Time (R332, R346): one unit of `now` is one core clock period, 0.78125 ns; a control clock is two -/

/-- The control clock in which something happening now is presented (R348). -/
def State.stamp (s : State) : Nat := (s.now + 1) / 2

/-- Core clock periods in one microsecond and in one millisecond. -/
def usCore : Nat := 1280
def msCore : Nat := 1280000

/-! ### Heads that the recorder records or re-runs (R360, R365) -/

/-- The head whose output a register of CMP, PXP, TGN, PSQ, LTE, LSC or PNL determines (R360), if one. -/
def State.headOfAddr (s : State) (a : Nat) : Option Nat :=
  let blk := a / 0x100000
  let off := a % 0x100000
  if blk == 13 then
    if 0x200 ≤ off && off < 0x240 then some ((off - 0x200) / 0x10)
    else if 0x600 ≤ off && off < 0x700 then some ((off - 0x600) / 0x40)
    else if 0x800 ≤ off && off < 0xA00 then s.cfg.groupHead? ((off - 0x800) / 0x20)
    else if 0x10000 ≤ off && off < 0x18000 then s.cfg.chanHead? ((off - 0x10000) / 0x80)
    else none
  else if blk == 8 || blk == 9 || blk == 10 || blk == 11 || blk == 12 || blk == 14 then
    if 0x10000 ≤ off && off < 0x50000 then some (off / 0x10000 - 1) else none
  else none

/-- Whether the recorder records head h (R360). -/
def State.recording (s : State) (h : Nat) : Bool :=
  (s.recd.state == 1 || s.recd.state == 2 || s.recd.state == 3) && s.recd.ckptWait == 0 && bit s.recd.ctl h

/-- Whether a deterministic re-run holds head h (R365). -/
def State.replaying (s : State) (h : Nat) : Bool := s.recd.state == 5 && bit s.recd.ctl h

/-! ### Events (R346 to R349) -/

/-- Presents one event record in the current control clock. -/
def present (sub kind unit reg arg0 arg1 : Nat) (s : State) : State :=
  { s with mgt := { s.mgt with fresh := s.mgt.fresh ++
    [{ stamp := s.stamp, sub := sub, kind := kind, unit := unit, reg := reg,
       arg0 := arg0 % 2 ^ 32, arg1 := arg1 % 2 ^ 32 }] } }

/-- An event of a block. What happens to a head under a re-run raises none (R365). -/
def raise (sub kind unit reg arg0 arg1 : Nat) (s : State) : State :=
  if (match s.headOfAddr reg with | some h => s.replaying h | none => false) then s
  else present sub kind unit reg arg0 arg1 s

/-- The unit of a block-level event (R346). -/
def noUnit : Nat := 0xFFFF

/-- A state field changed (R347, kind STATE). -/
def raiseState (sub unit reg prev cause : Nat) (s : State) : State := raise sub 0x01 unit reg prev cause s

/-- A sticky flag set (R347, kind FLAG). -/
def raiseFlag (sub unit reg b arg1 : Nat) (s : State) : State := raise sub 0x03 unit reg b arg1 s

/-- A command or check refused (R347, kind REFUSAL). -/
def raiseRefusal (sub unit reg code index : Nat) (s : State) : State := raise sub 0x05 unit reg code index s

/-- A command completed (R347, kind DONE). -/
def raiseDone (sub unit reg result cmd : Nat) (s : State) : State := raise sub 0x08 unit reg result cmd s

/-- Any other event a chapter names (R347, kind REPORT). -/
def raiseReport (sub unit reg a0 a1 : Nat) (s : State) : State := raise sub 0x0A unit reg a0 a1 s

/-- The unit a register's address concerns: the first index of a register repeated per unit (R346). -/
def unitOfAddr (a : Nat) : Nat :=
  match lookupReg a with
  | some (_, i :: _) => if a / 0x100000 < 2 then noUnit else i
  | _ => noUnit

/-- The invalid-write event of the block that holds address `a` (R8, R347 kind INVALID). -/
def invalidWrite (a : Nat) (s : State) : State := raise (a / 0x100000) 0x06 (unitOfAddr a) a 0 0 s

/-- A software write of a register of a head under a re-run: ignored, with an invalid-write event (R365). -/
def rerunRefuses (a : Nat) (s : State) : State := present (a / 0x100000) 0x06 (unitOfAddr a) a 0 0 s

/-! ### Counters (R7, R355) -/

/-- The largest value of a counter. -/
def cntMax : Nat := 2 ^ 48 - 1

/-- The counter whose low register lies at `a`. -/
def State.cnt (s : State) (a : Nat) : Counter := s.counters.get {} a

/-- The increments that a core clock has brought to a counter so far. -/
def Counter.incAt (c : Counter) (now : Nat) : Nat := if c.clk = now then c.inc else 0

/-- Adds `n` to the counter at `a`: it saturates, and reaching the largest value sets the overflow bit and raises one
COUNTER record (R7, R347). -/
def count (r : Reg) (ix : List Nat) (n : Nat) (s : State) : State :=
  if n = 0 then s else
  let a := r.at ix
  let c := s.cnt a
  let v := if c.val + n < cntMax then c.val + n else cntMax
  let s1 := { s with counters := s.counters.put {} a { val := v, ovf := c.ovf || v == cntMax, clk := s.now, inc := c.incAt s.now + n } }
  if v == cntMax && !c.ovf then raise r.blk 0x04 (unitOfAddr a) a 0 0 s1 else s1

/-- Adds 1 to a counter. -/
def count1 (r : Reg) (ix : List Nat) (s : State) : State := count r ix 1 s

/-- What a clear leaves of a counter: the increments of its own clock, which come after it (R355). -/
def Counter.afterClear (c : Counter) (now : Nat) : Counter :=
  if c.incAt now = 0 then {} else { val := min (c.incAt now) cntMax, clk := now, inc := c.incAt now }

/-- Clears a counter and its overflow bit (R7, R355). -/
def clearCnt (r : Reg) (ix : List Nat) (s : State) : State :=
  { s with counters := s.counters.upd {} (r.at ix) fun c => c.afterClear s.now }

/-- Applies one clear for each (bit, action) whose bit is 1 in the written word. -/
def onBits (v : Word) : List (Nat × (State → State)) → State → State
  | [], s => s
  | (b, f) :: r, s => onBits v r (if bit v b then f s else s)

/-! ### Storing a write (R3, R4, R8, R27) -/

/-- The written word with every field that R8 does not admit put back to its stored value. -/
def keepIllegal (old : Word) : List (Nat × Nat × Nat × Nat) → Word → Word
  | [], v => v
  | (hi, lo, mn, mx) :: r, v =>
    keepIllegal old r (if fld v hi lo < mn || mx < fld v hi lo then setFld v hi lo (fld old hi lo) else v)

/-- Whether some field of the written word holds a value that R8 does not admit. -/
def anyIllegal (legal : List (Nat × Nat × Nat × Nat)) (v : Word) : Bool :=
  legal.any fun (hi, lo, mn, mx) => decide (fld v hi lo < mn) || decide (mx < fld v hi lo)

/-- The word a register holds after a write: RW and RWS bits take the value, W1C bits clear where 1 is written. -/
def Reg.merge (r : Reg) (old v : Word) : Word :=
  let kept := old.toNat &&& (0xFFFFFFFF ^^^ r.rw)
  word ((kept &&& (0xFFFFFFFF ^^^ (r.w1c &&& v.toNat))) ||| (v.toNat &&& r.rw))

/-- A write to a register without behaviour of its own (R3, R8, R27): stored or staged; a field with a value that has
no meaning keeps its previous value and one invalid-write event is raised. Class I, S-free and B-free fields need no
more; class C, T, S and B fields are staged by this and taken at their points of effect. -/
def storeWrite (r : Reg) (ix : List Nat) (v : Word) (s : State) : State :=
  let a := r.at ix
  let old := s.word a
  let s1 := s.setWord a (r.merge old (keepIllegal old r.legal v))
  if anyIllegal r.legal v then invalidWrite a s1 else s1

/-! ### Blocks and units (R9, R22 to R24, R416) -/

/-- Whether block n is absent: the structure is applied and does not instantiate it (R10, R23). -/
def State.absent (s : State) (n : Nat) : Bool := s.cfg.applied && !s.cfg.inst n

/-- PFX_BLK_STATE.state of block n (R23). -/
def State.bst (s : State) (n : Nat) : Nat := if s.absent n then 0 else s.blkState.get 1 n

/-- The principal units that the bitstream configures in block n (R416). -/
def State.cfgUnits (s : State) (n : Nat) : Nat :=
  if !s.cfg.inst n then 0 else
  match n with
  | 4 => (s.cfg.ports.map (·.count)).sum
  | 5 => s.cfg.ports.length
  | 6 => popCount 16 s.cfg.dram.mask
  | 7 => 4096
  | 8 => 40960
  | 9 => (s.cfg.heads.filter (·.en)).length
  | 10 => (s.cfg.heads.filter (·.en)).length
  | 11 => (s.cfg.heads.filter fun h => h.en && h.mirror).length
  | 12 => ((s.cfg.heads.filter fun h => h.en && h.mirror).map (·.arrays.length)).sum
  | 13 => (s.cfg.laser.chans.filter (·.isSome)).length
  | 14 => (s.cfg.heads.filter fun h => h.en && !h.mirror).length
  | 15 => 2
  | _ => 0

/-- The principal units of block n that are out (R17, R416). -/
def State.outUnits (s : State) (n : Nat) : List Nat := s.unitsOut.get [] n

/-- The principal units of block n that work (R416). -/
def State.workUnits (s : State) (n : Nat) : Nat := s.cfgUnits n - (s.outUnits n).length

/-- The state a started block takes by its unit counts (R23): 3 ACTIVE, 4 DEGRADED, 5 FAILED. -/
def stateByUnits (cfg work : Nat) : Nat := if work = cfg then 3 else if work = 0 then 5 else 4

/-- PFX_BLK_UNITS and PFX_BLK_STATE addresses. -/
def blkUnitsAddr (n : Nat) : Nat := n * 0x100000 + 8
def blkStateAddr (n : Nat) : Nat := n * 0x100000 + 4

/-- Takes block n, once started, to the state of its unit counts. -/
def settleBlock (n : Nat) (s : State) : State :=
  if s.blkState.get 1 n < 3 then s
  else { s with blkState := s.blkState.put 1 n (stateByUnits (s.cfgUnits n) (s.workUnits n)) }

/-- Maps unit u of block n out (R17), with its UNITS record (R24, R347). -/
def unitOut (n u : Nat) (s : State) : State :=
  if (s.outUnits n).contains u then s else
  let s1 := settleBlock n { s with unitsOut := s.unitsOut.put [] n (s.outUnits n ++ [u]) }
  raise n 0x02 u (blkUnitsAddr n) 0 (s1.bst n) s1

/-- Returns unit u of block n to service (R17, R24). -/
def unitBack (n u : Nat) (s : State) : State :=
  if !(s.outUnits n).contains u then s else
  let s1 := settleBlock n { s with unitsOut := s.unitsOut.put [] n ((s.outUnits n).erase u) }
  raise n 0x02 u (blkUnitsAddr n) 1 (s1.bst n) s1

/-- Maps several units of block n out in one clock, in ascending index (R24). -/
def unitsOutAll (n : Nat) (us : List Nat) (s : State) : State := us.foldl (fun s u => unitOut n u s) s

/-- Block n leaves LOADED at the end of its bring-up step (R390): its state follows its unit counts, and an entry into
DEGRADED or FAILED raises one event (R24). -/
def startBlock (n : Nat) (s : State) : State :=
  if s.absent n || s.blkState.get 1 n != 2 then s else
  let st := stateByUnits (s.cfgUnits n) (s.workUnits n)
  let s1 := { s with blkState := s.blkState.put 1 n st }
  if st = 3 then s1 else raiseState n noUnit (blkStateAddr n) 2 0 s1

/-! ### Who may write (R10, R21, R42, R365, R381) -/

/-- The registers whose writes a frozen command channel guards (R381). -/
def lockedAddrs : List Nat :=
  [Rg.SEC_OTP_CMD.at, Rg.SEC_ATT_CTL.at, Rg.SEC_KEY_CMD.at, Rg.SEC_DEBUG_CMD.at]

/-- Whether R381 denies a write of address `a` from a source. -/
def State.denied (s : State) (src : Source) (a : Nat) : Bool :=
  (s.sec.lock && lockedAddrs.contains a &&
    match src with
    | .culvert c => c.val != s.fd Rg.SEC_LOCK [] 6 0
    | _ => true) ||
  (s.sec.lockSpi && src == .spi && a % 0x100000 ≥ 0x10)

/-- Registers of MGT that the SPI target port reaches before APPLY (R42). -/
def spiEarly (a : Nat) : Bool :=
  a == Rg.MGT_BOOT_STATUS.at || a == Rg.MGT_RST_CAUSE.at || a == Rg.MGT_EVT_STATUS.at || (Rg.MGT_EVT_HEAD.ixOf a).isSome ||
  a == Rg.MGT_EVT_POP.at

/-- Whether the SPI target port reaches an address (R42, R388): in ROM the block headers and MGT_BOOT_STATUS; until APPLY, SEC,
the headers and a few registers of MGT; from then on everything. -/
def State.spiReach (s : State) (a : Nat) : Bool :=
  decide (a % 0x100000 < 0x10) ||
  if s.boot.held || s.boot.stage == 0 then a == Rg.MGT_BOOT_STATUS.at
  else if s.boot.stage == 1 || s.boot.stage == 2 || s.boot.stage == 6 then a / 0x100000 == 1 || spiEarly a
  else true

/-- The source code of a write in a REG item: the channel, 96 for the SPI target port, 97 for the firmware. -/
def sourceCode : Source → Nat
  | .culvert c => c.val
  | .spi => 96
  | .firmware => 97

/-- The number of bytes an item's payload takes in the ring, and those bytes (R359). -/
def padded (n : Nat) : Nat := (n + 15) / 16 * 16

/-- Where the next item's bytes go, and what stays of the items when the ring is full (R359, R362). -/
def dropOldest (cap : Nat) (newEnd : Nat) : List RecItem → List RecItem
  | [] => []
  | i :: r => if i.offset + cap < newEnd then dropOldest cap newEnd r else i :: r

/-- Bytes 0 to 15 of an item (R359). -/
def recHeader (i : RecItem) (len : Nat) : List Byte :=
  bytesLE i.stamp 8 ++ bytesLE i.kind 1 ++ bytesLE i.head 1 ++ bytesLE i.unit 2 ++ bytesLE len 2 ++ bytesLE i.num 2

/-- The ring's capacity in bytes. -/
def Recorder.cap (r : Recorder) : Nat := r.sizeMib * 1048576

/-- Writes an item's bytes into the ring in DRAM, wrapping at its end. -/
def ringStore (base cap : Nat) : Memory → Nat → List Byte → Memory
  | m, _, [] => m
  | m, o, b :: bs => ringStore base cap (Memory.setByte 0 m (base + o % cap) b) (o + 1) bs

/-- Writes one item into the recorder ring (R359): the header, the payload padded to 16 bytes, the item count. With
wrap = 0 a ring without room freezes the recorder, FULL (R361). -/
def recItem (kind head unit : Nat) (vals : List Nat) (s : State) : State :=
  let r := s.recd
  let pay := Config.recPayload kind vals
  let size := 16 + padded pay.length
  if !bit r.ctl 6 && r.cap < r.head + size then
    if r.state == 2 then
      raiseState 0 noUnit Rg.MGT_REC_STATUS.at 2 0 { s with recd := { r with state := 4, result := 3 } }
    else s
  else
    let i : RecItem := { stamp := s.stamp, kind := kind, head := head, unit := unit, num := r.nextNum % 65536, vals := vals,
                         offset := r.head }
    let bytes := recHeader i pay.length ++ pay ++ List.replicate (padded pay.length - pay.length) 0
    count1 Rg.MGT_REC_ITEM_CNT []
      { s with
        dram := ringStore r.base r.cap s.dram r.head bytes
        recd := { r with items := dropOldest r.cap (r.head + size) r.items ++ [i], nextNum := r.nextNum + 1, head := r.head + size } }

/-- Records an item for head h while the recorder records it (R360). -/
def recFor (kind h unit : Nat) (vals : List Nat) (s : State) : State :=
  if s.recording h then recItem kind h unit vals s else s

/-- The REG item of a write that concerns a recorded head (R360). -/
def recReg (src : Source) (a : Nat) (v : Word) (s : State) : State :=
  match s.headOfAddr a with
  | some h => recFor 0x10 h (unitOfAddr a) [a, v.toNat, sourceCode src] s
  | none => s

/-- The write of an address in an absent block (R10): ignored; the first one raises the absent-block event and sets
the block's bit in MGT_ABSENT. Header registers respond, and SCRATCH ignores the write (R22). -/
def absentWrite (a : Nat) (s : State) : State :=
  let n := a / 0x100000
  if a % 0x100000 < 0x10 || bit (s.rd Rg.MGT_ABSENT) n then s
  else present 0 0x06 noUnit a 2 n (s.wr Rg.MGT_ABSENT [] (setBit (s.rd Rg.MGT_ABSENT) n true))

/-- Every register write passes here: a device held in reset, a denied source (R381), an SPI write beyond its reach (R42), an absent block (R10) and a head
under a re-run (R365) take no write; otherwise the write is recorded (R360) and has its effect. -/
def gatedWrite (src : Source) (a : Nat) (v : Word) (eff : State → State) (s : State) : State :=
  if s.boot.held || s.denied src a || (src == .spi && !s.spiReach a) then s
  else if s.absent (a / 0x100000) then absentWrite a s
  else match s.headOfAddr a with
    | some h => if s.replaying h then rerunRefuses a s else eff (recReg src a v s)
    | none => eff s

/-- What a command does while the device is not held in reset; held in reset, nothing. -/
def live (f : State → State) (s : State) : Host.Outcome State Fault Refusal :=
  .next (if s.boot.held then s else f s)

/-- A free value: the next word of the open constant, and the state with the draw counted. -/
def State.draw (s : State) : Word × State := (Config.freeWord s.free, { s with free := s.free + 1 })

end Sys2Proof.Machine
end

