-- ==== Sys2Proof/Machine/Reset.lean ====
section
/-!
DEFINITION. The five resets and their release (R386, R387, R396), and the boot stage (R389).
-/
namespace Sys2Proof.Machine

/-- The next leaf at the release of a reset (R375): past the highest reserved block. A reservation fuse whose read-back
failed counts as blown. -/
def nextLeafOf (o : Otp) : Nat :=
  if (o.att ||| o.attBad) = 0 then 0 else 256 * (Nat.log2 (o.att ||| o.attBad) + 1)

/-- A flash command that a reset interrupts leaves its slot without a complete magic (R47). VERIFY changes nothing. -/
def interruptFlash (s : State) : Memory :=
  match s.sec.flashJob with
  | some j => if j.cmd = 3 then s.flash else Memory.setByte 0xFF s.flash (j.slot * 0x800000) 0xFF
  | none => s.flash

/-- The RWS bits of a register that a reset other than power-on keeps (R3, R387). -/
def rwsWord (s : State) (r : Reg) : Word := word (((s.rd r).toNat &&& r.rws) ||| (r.rst &&& (0xFFFFFFFF ^^^ r.rws)))

/-- The registers with RWS fields (R48, R345, R396). -/
def rwsRegs : List Reg := [Rg.SEC_LOAD_NEXT, Rg.PWG_FLAGS, Rg.MGT_RST_CAUSE]

/-- Every reset clears all sixteen blocks and holds them (R387). The fuses, the flash, the thermal sensors and the trip
comparator stay; RWS fields stay unless it is a power-on reset. What waits in the queue and the transcript of what was
sent are not state of the device. -/
def clearAll (por : Bool) (s : State) : State :=
  let s0 : State := { State.reset with
    flash := interruptFlash s, otp := s.otp, thermal := s.thermal, dbg := if por then {} else s.dbg,
    boot := { held := true, porHeld := por || (s.boot.held && s.boot.porHeld), bootsel := s.boot.bootsel },
    free := s.free, wire := s.wire, pending := s.pending }
  if por then s0 else rwsRegs.foldl (fun t r => t.wr r [] (rwsWord s r)) s0

/-- Records a cause in MGT_RST_CAUSE (R387, R396). -/
def setCause (b : Nat) (s : State) : State := s.wr Rg.MGT_RST_CAUSE [] (setBit (s.rd Rg.MGT_RST_CAUSE) b true)

/-- A reset of the kind whose cause bit is `b` (R387): 0 power-on, 1 warm, 2 software, 3 clock fault, 4 thermal trip. -/
def applyReset (b : Nat) (s : State) : State :=
  if b = 0 then (clearAll true s).wr Rg.MGT_RST_CAUSE [] 1 else setCause b (clearAll false s)

/-- A change of the boot stage, with its STATE record (R389). -/
def setStage (n : Nat) (s : State) : State :=
  if s.boot.stage = n then s
  else raiseState 0 noUnit Rg.MGT_BOOT_STATUS.at s.boot.stage 0 { s with boot := { s.boot with stage := n } }

/-- The sources of a boot, in order (R39): SEC_LOAD_NEXT names those of the resets after its write, else BOOTSEL does. -/
def State.loadOrder (s : State) (bootsel : Nat) : List LoadSrc :=
  match s.fd Rg.SEC_LOAD_NEXT [] 1 0 with
  | 1 => [.slot 0, .slot 1]
  | 2 => [.slot 1, .slot 0]
  | 3 => [.spi]
  | _ => if bootsel = 1 then [.slot 1, .slot 0] else if bootsel = 2 then [.spi] else [.slot 0, .slot 1]

/-- The release of a reset: the boot begins at ROM, and every time counts from here (R387). BOOTSEL is sampled only at
the release of a power-on reset (R386). -/
def releaseReset (bootsel : Nat) (s : State) : State :=
  let sel := if s.boot.porHeld then bootsel else s.boot.bootsel
  { s with
    now := 0
    boot := { s.boot with held := false, porHeld := false, bootsel := sel, sources := s.loadOrder sel }
    sec := { s.sec with attLeaf := nextLeafOf s.otp } }

/-- POWER_ON_RESET (R387): PORST_N low. -/
def execPowerOnReset (s : State) : Host.Outcome State Fault Refusal := .next (applyReset 0 s)

/-- WARM_RESET (R387): RESET_N low. -/
def execWarmReset (s : State) : Host.Outcome State Fault Refusal := .next (applyReset 1 s)

/-- The write of MGT_RST_CMD (R396): key 0xA5 with go starts a software reset; any other key is an invalid write. -/
def softwareResetOp (v : Word) (s : State) : State :=
  if fld v 31 24 ≠ 0xA5 then invalidWrite Rg.MGT_RST_CMD.at s
  else if bit v 0 then applyReset 2 s else s

/-- SOFTWARE_RESET (R396). -/
def doSoftwareReset (src : Source) (v : Word) (s : State) : Host.Outcome State Fault Refusal :=
  .next (gatedWrite src Rg.MGT_RST_CMD.at v (softwareResetOp v) s)

/-- CLOCK_FAULT_RESET (R333): the root PLL loses lock in RUN; clk_fault is set and the clock-fault reset applies. -/
def execClockFaultReset (s : State) : Host.Outcome State Fault Refusal :=
  live (fun s => if s.pwg.run then applyReset 3 (s.wr Rg.PWG_FLAGS [] (setBit (s.rd Rg.PWG_FLAGS) 5 true)) else s) s

/-- RESET_RELEASE (R387): the boot begins once the last cause has ended; a thermal trip holds its reset (R343). -/
def execResetRelease (bootsel : Fin 4) (s : State) : Host.Outcome State Fault Refusal :=
  .next (if s.boot.held && !s.thermal.tripped then releaseReset bootsel.val s else s)

/-- THERMAL_TRIP_RELEASE (R343): 4,000 samples of 250 µs in a row, 1 s, below the captured t_hot − 2 °C end the hold.
The reset is then released as RESET_RELEASE releases it. -/
def execThermalTripRelease (s : State) : Host.Outcome State Fault Refusal :=
  .next (if s.thermal.tripped && decide (4000 ≤ s.thermal.cool)
    then { s with thermal := { s.thermal with tripped := false, cool := 0 } } else s)

/-- PLL_LOCK (R333): REF to RUN. The boot leaves ROM for BASIN_TEST, which asks PWG for a SELF_TEST grant (R389);
`ask` is that request. -/
def pllLockOp (ask : State → State) (s : State) : State :=
  if s.pwg.run then s
  else ask (setStage 1 { s with pwg := { s.pwg with run := true, pllLock := true } })

/-- PLL_LOCK_TIMEOUT (R388): PWG restarts the PLL; the stage stays at ROM. -/
def execPllLockTimeout (s : State) : Host.Outcome State Fault Refusal :=
  live (fun s => if s.pwg.run then s else { s with pwg := { s.pwg with pllLock := false } }) s

end Sys2Proof.Machine
end

