-- ==== Sys2Proof/Machine/Pwg.lean ====
section
/-!
DEFINITION. PWG: the live budget, admission of heavy operations, and thermal sensing (R332 to R345).
-/
namespace Sys2Proof.Machine

/-- Classes 2 LANE_GROUP, 3 HEAD_ENABLE and 4 LOOP_START are standing; the others transient (R334). -/
def isStanding (cls : Nat) : Bool := cls == 2 || cls == 3 || cls == 4

/-- t_grant in core clock periods (R334): 8 µs, 500 µs and 150 µs for the standing classes, else the decision time of 150 ns, in
which every refusal reaches its requester too (R341). -/
def decisionTime : Nat := 192
def tGrant (cls : Nat) : Nat := if cls = 2 then 10240 else if cls = 3 then 640000 else if cls = 4 then 192000 else decisionTime

/-- Every grant in force: decided, ramped or in use (R336). -/
def Pwg.inForce (p : Pwg) : List GrantReq := p.decided ++ p.ramped ++ p.held

/-- The allocations of the grants of one kind, in mW. -/
def allocOf (standing : Bool) (gs : List GrantReq) : Nat :=
  ((gs.filter fun g => isStanding g.cls == standing).map (·.alloc)).sum

/-- S, the standing load (R336). -/
def State.loadS (s : State) : Nat := s.fd Rg.PWG_BASE [] 15 0 + allocOf true s.pwg.inForce

/-- T, the total load (R336). -/
def State.loadT (s : State) : Nat := s.loadS + allocOf false s.pwg.inForce

/-- E, the effective limit (R336, R345): values above 60,000 act as 60,000. -/
def State.limitE (s : State) : Int :=
  ((min 60000 (s.fd Rg.PWG_BUDGET [] 15 0) : Nat) : Int) - (if s.pwg.therm = 1 then (s.fd Rg.PWG_BASE [] 31 16 : Int) else 0)

/-- reserve_mw (R345). -/
def State.reserveMw (s : State) : Nat := s.fd Rg.PWG_BUDGET [] 31 16

/-- Whether the thermal state refuses a class (R343). -/
def thermRefuses (therm cls : Nat) : Bool := (therm == 2 && cls != 0) || (therm == 1 && cls == 6)

/-- Whether a request can never fit while S stays as it is (R337, test 3). -/
def State.neverFits (s : State) (cls alloc : Nat) : Bool :=
  if isStanding cls then decide (s.limitE - (s.reserveMw : Int) < ((s.loadS + alloc : Nat) : Int))
  else decide (s.limitE < ((s.loadS + alloc : Nat) : Int))

/-- Decides a refusal (R341): recorded in the class, counted, the flag set, and on its way to the requester. -/
def refuse (g : GrantReq) (reason : Nat) (s : State) : State :=
  let s1 := count1 Rg.PWG_REFUSE_CNT [] { s with pwg := { s.pwg with refused := s.pwg.refused ++ [({ g with at' := s.now }, reason)] } }
  let s2 := s1.wr Rg.PWG_CLASS_STAT [g.cls] (setFld (s1.rd Rg.PWG_CLASS_STAT [g.cls]) 31 24 reason)
  s2.wr Rg.PWG_FLAGS [] (setBit (s2.rd Rg.PWG_FLAGS) 0 true)

/-- The tests of R337 that also apply to a queued request (R339): the reason of the first that fails. -/
def State.refusal? (s : State) (cls alloc : Nat) : Option Nat :=
  if !bit (s.rd Rg.PWG_CLASS_CTL [cls]) 31 then some 5
  else if thermRefuses s.pwg.therm cls then some 3
  else if s.neverFits cls alloc then some 1
  else none

/-- A request arrives (R335, R337): its allocation and deadline are those of PWG_CLASS_CTL now. -/
def request (cls unit : Nat) (s : State) : State :=
  let g : GrantReq := { cls := cls, unit := unit, alloc := s.fd Rg.PWG_CLASS_CTL [cls] 15 0,
                        dlUs := max 1 (s.fd Rg.PWG_CLASS_CTL [cls] 30 16), at' := s.now }
  match s.refusal? cls g.alloc with
  | some r => refuse g r s
  | none =>
    if 32 ≤ s.pwg.queue.length then refuse g 4 s
    else { s with pwg := { s.pwg with queue := s.pwg.queue ++ [g] } }

/-- Whether a request or grant is that of a class and unit. -/
def GrantReq.isFor (cls unit : Nat) (g : GrantReq) : Bool := g.cls == cls && g.unit == unit

/-- Removes the first entry of a class and unit. -/
def dropReq (cls unit : Nat) (l : List GrantReq) : List GrantReq := l.eraseP (GrantReq.isFor cls unit)

/-- The end of the operation a grant was given for: its allocation leaves S or T (R334, R336). -/
def release (cls unit : Nat) (s : State) : State :=
  { s with pwg := { s.pwg with held := dropReq cls unit s.pwg.held } }

/-- A withdrawal before the grant reaches its requester (R340): no grant and no refusal follows, and a ramp in progress
for it stops. -/
def withdraw (cls unit : Nat) (s : State) : State :=
  { s with pwg := { s.pwg with
      queue := dropReq cls unit s.pwg.queue
      decided := dropReq cls unit s.pwg.decided
      ramped := dropReq cls unit s.pwg.ramped
      refused := s.pwg.refused.eraseP (fun x => GrantReq.isFor cls unit x.1)
      ramp := match s.pwg.ramp with
        | some g => if GrantReq.isFor cls unit g then none else some g
        | none => none } }

/-- The grant of a class and unit reaches its requester, once it has been decided for t_grant (R338; for a standing class, once its ramp
has ended): the state with the grant in use. -/
def takeGrant (cls unit : Nat) (s : State) : Option State :=
  let pool := if isStanding cls then s.pwg.ramped else s.pwg.decided
  match pool.find? fun g => g.isFor cls unit && (isStanding cls || decide (g.at' + decisionTime ≤ s.now)) with
  | none => none
  | some g =>
    let p := if isStanding cls then { s.pwg with ramped := dropReq cls unit s.pwg.ramped }
      else { s.pwg with decided := dropReq cls unit s.pwg.decided }
    some { s with pwg := { p with held := p.held ++ [g] } }

/-- The refusal of a class and unit reaches its requester 150 ns after its decision, with its reason (R341). -/
def takeRefusal (cls unit : Nat) (s : State) : Option (Nat × State) :=
  match s.pwg.refused.find? (fun x => GrantReq.isFor cls unit x.1 && decide (x.1.at' + decisionTime ≤ s.now)) with
  | none => none
  | some (_, r) => some (r, { s with pwg := { s.pwg with refused := s.pwg.refused.eraseP (fun x => GrantReq.isFor cls unit x.1) } })

/-- The queued request whose turn it is: the lowest class code, the earliest of it (R338). -/
def nextInLine : List GrantReq → Option GrantReq
  | [] => none
  | g :: r => match nextInLine r with
    | some h => if h.cls < g.cls then some h else some g
    | none => some g

/-- Whether a request fits now (R338). -/
def State.fits (s : State) (g : GrantReq) : Bool :=
  decide (((s.loadT + g.alloc : Nat) : Int) ≤ s.limitE) &&
  (!isStanding g.cls || (decide (((s.loadS + g.alloc : Nat) : Int) ≤ s.limitE - (s.reserveMw : Int)) && s.pwg.ramp.isNone))

/-- The decision of one grant (R338). -/
def grantDecisionOp (s : State) : State :=
  match nextInLine s.pwg.queue with
  | none => s
  | some g =>
    if !s.fits g then s else
    count1 Rg.PWG_GRANT_CNT [] { s with pwg := { s.pwg with
      queue := dropReq g.cls g.unit s.pwg.queue
      decided := s.pwg.decided ++ [{ g with at' := s.now }]
      ramp := if isStanding g.cls then some { g with at' := s.now } else s.pwg.ramp } }

/-- GRANT_DECISION (R338). -/
def doGrantDecision (s : State) : Host.Outcome State Fault Refusal := live grantDecisionOp s

/-- GRANT_DEADLINE (R338): a request still queued at its deadline is refused with DEADLINE. -/
def grantDeadlineOp (cls unit : Nat) (s : State) : State :=
  match s.pwg.queue.find? fun g => g.isFor cls unit && decide (g.at' + g.dlUs * 1280 ≤ s.now) with
  | none => s
  | some g => refuse g 2 { s with pwg := { s.pwg with queue := dropReq cls unit s.pwg.queue } }

def doGrantDeadline (cls : Fin 8) (unit : Nat) (s : State) : Host.Outcome State Fault Refusal :=
  live (grantDeadlineOp cls.val unit) s

/-- STANDING_RAMP_DONE (R335, R338): t_grant after the decision the ramp ends, the grant can reach its requester, and the next ramp may
start. -/
def standingRampDoneOp (s : State) : State :=
  match s.pwg.ramp with
  | none => s
  | some g => if s.now < g.at' + tGrant g.cls then s else { s with pwg := { s.pwg with
      ramp := none, decided := dropReq g.cls g.unit s.pwg.decided, ramped := s.pwg.ramped ++ [g] } }

def execStandingRampDone (s : State) : Host.Outcome State Fault Refusal := live standingRampDoneOp s

/-- R337 applied afresh to every queued request, in queue order (R339, R343). -/
def retestQueue : List GrantReq → State → State
  | [], s => s
  | g :: r, s =>
    match s.refusal? g.cls g.alloc with
    | some reason => retestQueue r (refuse g reason { s with pwg := { s.pwg with queue := dropReq g.cls g.unit s.pwg.queue } })
    | none => retestQueue r s

/-- Sets a sticky flag of PWG with its FLAG record. -/
def pwgFlag (b arg1 : Nat) (s : State) : State :=
  raiseFlag 2 noUnit Rg.PWG_FLAGS.at b arg1 (s.wr Rg.PWG_FLAGS [] (setBit (s.rd Rg.PWG_FLAGS) b true))

/-- A change that leaves S or T above what the limits allow sets over_budget, with one event (R339). -/
def overBudget (s : State) : State :=
  if decide (s.limitE - (s.reserveMw : Int) < (s.loadS : Int)) || decide (s.limitE < (s.loadT : Int)) then pwgFlag 1 0 s else s

/-- The write of PWG_BUDGET or PWG_BASE (R339). -/
def budgetWriteOp (base : Bool) (v : Word) (s : State) : State :=
  let r := if base then Rg.PWG_BASE else Rg.PWG_BUDGET
  let s1 := storeWrite r [] v s
  let tighter := decide (s1.fd Rg.PWG_BUDGET [] 15 0 < s.fd Rg.PWG_BUDGET [] 15 0) ||
    decide (s.fd Rg.PWG_BUDGET [] 31 16 < s1.fd Rg.PWG_BUDGET [] 31 16) || decide (s.fd Rg.PWG_BASE [] 15 0 < s1.fd Rg.PWG_BASE [] 15 0)
  let s2 := if tighter then overBudget s1 else s1
  retestQueue s2.pwg.queue s2

/-- BUDGET_WRITE (R339). -/
def doBudgetWrite (src : Source) (base : Bool) (v : Word) (s : State) : Host.Outcome State Fault Refusal :=
  .next (gatedWrite src (if base then Rg.PWG_BASE.at else Rg.PWG_BUDGET.at) v (budgetWriteOp base v) s)

/-- PWG_CNT_CLR (R345). -/
def pwgCntClrOp (v : Word) (s : State) : State :=
  onBits v [(0, clearCnt Rg.PWG_GRANT_CNT []), (1, clearCnt Rg.PWG_REFUSE_CNT [])] s

def doPwgCntClr (src : Source) (v : Word) (s : State) : Host.Outcome State Fault Refusal :=
  .next (gatedWrite src Rg.PWG_CNT_CLR.at v (pwgCntClrOp v) s)

/-! ### Thermal sensing (R342, R343) -/

/-- The t_hot in force in 1/4 °C: the one captured at the trip while a thermal-trip reset holds (R343). -/
def State.tHot (s : State) : Nat := if s.thermal.tripped then s.thermal.tHot else s.fd Rg.PWG_THERM_CTL [] 19 10

/-- The t_warn in force: a value above t_hot acts as t_hot (R345). -/
def State.tWarn (s : State) : Nat := min (s.fd Rg.PWG_THERM_CTL [] 9 0) s.tHot

/-- The t_trip in force: at most 115 °C (R343, R345). -/
def State.tTrip (s : State) : Nat := min 460 (s.fd Rg.PWG_THERM_CTL [] 29 20)

/-- What a sensor counts as: its reading, or t_hot when it has failed its check (R342). -/
def countedTemp (tHot : Nat) (x : Int × Bool) : Int := if x.2 then x.1 else (tHot : Int)

/-- The largest of the counted readings and the lowest sensor that gives it. -/
def maxTemp (tHot : Nat) (ts : List (Int × Bool)) : Int × Nat :=
  (List.range ts.length).foldl (fun acc i =>
    let t := countedTemp tHot (ts.getD i (0, true))
    if i = 0 || acc.1 < t then (t, i) else acc) (0, 0)

/-- The thermal state after a sample (R343): a threshold is left when Tmax has fallen 2 °C below it. -/
def nextTherm (cur : Nat) (tmax : Int) (warn hot : Nat) : Nat :=
  if (hot : Int) ≤ tmax then 2
  else if cur = 2 && decide ((hot : Int) - 8 < tmax) then 2
  else if (warn : Int) ≤ tmax then 1
  else if cur ≠ 0 && decide ((warn : Int) - 8 < tmax) then 1
  else 0

/-- The samples in order: a reading for each of the 16 sensors, the previous one where none is given. -/
def takeReadings (old new : List (Int × Bool)) : List (Int × Bool) :=
  (List.range 16).map fun i => new.getD i (old.getD i (0, true))

/-- A sensor that newly fails its check sets sensor_fault with one event (R342). -/
def sensorFaults (old new : List (Int × Bool)) (s : State) : State :=
  (List.range 16).foldl (fun s i =>
    if (old.getD i (0, true)).2 && !(new.getD i (0, true)).2 then
      raiseFlag 2 i Rg.PWG_FLAGS.at 4 i (s.wr Rg.PWG_FLAGS [] (setBit (s.rd Rg.PWG_FLAGS) 4 true))
    else s) s

/-- The change of the thermal state: its flag and event on an entry into WARM or HOT, the budget check of R339 and the
refusals of R343. -/
def changeTherm (n : Nat) (s : State) : State :=
  if n = s.pwg.therm then s else
  let prev := s.pwg.therm
  let s1 := { s with pwg := { s.pwg with therm := n } }
  let s2 := if n = 0 then s1 else
    raiseState 2 noUnit Rg.PWG_STATUS.at prev 0 (s1.wr Rg.PWG_FLAGS [] (setBit (s1.rd Rg.PWG_FLAGS) (n + 1) true))
  let s3 := overBudget s2
  retestQueue s3.pwg.queue s3

/-- One thermal sample (R342, R343). The sensors and the trip comparator work in every reset. -/
def thermalSampleOp (readings : List (Int × Bool)) (s : State) : State :=
  let ts := takeReadings s.thermal.temps readings
  let tmax := (maxTemp s.tHot ts).1
  if s.thermal.tripped then
    { s with thermal := { s.thermal with temps := ts, cool := if tmax < (s.thermal.tHot : Int) - 8 then s.thermal.cool + 1 else 0 } }
  else
    let s0 := { s with thermal := { s.thermal with temps := ts } }
    let s1 := if s.boot.held then s0 else sensorFaults s.thermal.temps ts s0
    if (s.tTrip : Int) ≤ tmax then
      let s2 := s1.wr Rg.PWG_FLAGS [] (setBit (s1.rd Rg.PWG_FLAGS) 6 true)
      applyReset 4 { s2 with thermal := { s2.thermal with tripped := true, tHot := s.tHot, cool := 0 } }
    else if s.boot.held then s1
    else changeTherm (nextTherm s.pwg.therm tmax s.tWarn s.tHot) s1

/-- THERMAL_SAMPLE (R342): the sensors lie outside every reset, so they are read while a reset is held too. -/
def doThermalSample (readings : List (Int × Bool)) (s : State) : Host.Outcome State Fault Refusal :=
  .next (thermalSampleOp readings s)

/-! ### PWG registers that report state (R345) -/

/-- The word a report register of PWG reads. -/
def readPwg (a : Nat) (s : State) : Option Word :=
  if a = Rg.PWG_STATUS.at then
    some (pack [(31, b2n s.pwg.pllLock), (16, s.pwg.queue.length), (8, s.pwg.therm), (0, b2n s.pwg.run)])
  else if a = Rg.PWG_LOAD.at then some (pack [(16, min 65535 s.loadS), (0, min 65535 s.loadT)])
  else if a = Rg.PWG_TEMP_MAX.at then
    let m := maxTemp s.tHot s.thermal.temps
    some (pack [(16, m.2), (0, uint 16 m.1)])
  else match Rg.PWG_TEMP.ixOf a with
    | some [i] =>
      let x := s.thermal.temps.getD i (0, true)
      some (pack [(31, b2n (!x.2)), (0, uint 16 x.1)])
    | _ => match Rg.PWG_CLASS_STAT.ixOf a with
      | some [k] => some (pack [(24, s.fd Rg.PWG_CLASS_STAT [k] 31 24),
          (16, (s.pwg.queue.filter fun g => g.cls == k).length),
          (8, min 255 (s.pwg.inForce.filter fun g => g.cls == k).length),
          (0, b2n (match s.pwg.ramp with | some g => g.cls == k | none => false))])
      | _ => none

end Sys2Proof.Machine
end

