-- ==== Sys2Proof/Machine/Lnk.lean ====
section
/-!
DEFINITION. Ammos Link ports: bonding states, link packets, replay, credits, content keys, transactions to send
(R258 to R278).
-/
namespace Sys2Proof.Machine

/-- The state of port p. -/
def State.port (s : State) (p : Nat) : Port := s.ports.get {} p

/-- The state with port p replaced. -/
def State.setPort (s : State) (p : Nat) (x : Port) : State := { s with ports := s.ports.put {} p x }

/-- The state with port p changed by `f`. -/
def State.modPort (s : State) (p : Nat) (f : Port → Port) : State := s.setPort p (f (s.port p))

/-- The state of lane n. -/
def State.lane (s : State) (n : Nat) : Lane := s.lanes.get {} n

/-- The state with lane n replaced. -/
def State.setLane (s : State) (n : Nat) (x : Lane) : State := { s with lanes := s.lanes.put {} n x }

/-- The state with lane n changed by `f`. -/
def State.modLane (s : State) (n : Nat) (f : Lane → Lane) : State := s.setLane n (f (s.lane n))

/-- The state of lane group g. -/
def State.group (s : State) (g : Nat) : LaneGroup := s.groups.get {} g

/-- The state with lane group g changed by `f`. -/
def State.modGroup (s : State) (g : Nat) (f : LaneGroup → LaneGroup) : State :=
  { s with groups := s.groups.upd {} g f }

/-- The number of ones among a mask's low 16 bits. -/
def maskCount (m : Nat) : Nat := popCount 16 m

/-- The width n in force of port p (R258). -/
def State.width (s : State) (p : Nat) : Nat := maskCount (s.port p).mask

/-- The lanes of port p that are ACTIVE (R243 code 5). -/
def State.activeLanes (s : State) (r : PortCfg) : List Nat := r.lanes.filter fun n => (s.lane n).state == 5

/-- The mask of lane indices a port can bond now: its ACTIVE lanes whose group runs at the rate of the group of the
lowest ACTIVE one (R14, R261). -/
def State.bondMask (s : State) (r : PortCfg) : Nat :=
  match s.activeLanes r with
  | [] => 0
  | n0 :: _ => maskOf r.count fun i => (s.lane (r.first + i)).state == 5 &&
      (s.group ((r.first + i) / 8)).rate == (s.group (n0 / 8)).rate

/-- The line rate code of a port: that of the group of its lowest lane in the width, or of its first lane. -/
def State.portRate (s : State) (r : PortCfg) : Nat :=
  match (List.range r.count).find? fun i => (s.port r.port).mask.testBit i with
  | some i => (s.group ((r.first + i) / 8)).rate
  | none => (s.group (r.first / 8)).rate

/-- The heads a port serves: as an array's formatter, a laser driver, a row driver or a column driver (R276, R327). -/
def State.portHeads (s : State) (p : Nat) : List Nat :=
  (List.range 4).filter fun h =>
    let c := s.cfg.head h
    c.en && (c.arrays.any (·.port == p) && c.mirror ||
      !c.mirror && (c.rowPort == p || c.colPorts.contains p) ||
      s.cfg.laser.drivers.any fun d => match d with | some d => d.head == h && d.port == p | none => false)

/-- The laser driver that port p serves, if one. -/
def State.portDriver? (s : State) (p : Nat) : Option Nat :=
  (List.range 16).find? fun i => match s.cfg.laser.drivers.getD i none with | some d => d.port == p | none => false

/-- Whether head h is in a state other than OFF and UNAVAILABLE (R276). -/
def State.headUp (s : State) (h : Nat) : Bool := decide (2 ≤ (s.tgn.get {} h).state) && !s.replaying h

/-- Whether port p is an ingress port (R35). -/
def State.ingress (s : State) (p : Nat) : Bool := match s.cfg.port? p with | some r => !r.egress | none => false

/-- Sets a sticky flag of a port. -/
def portFlag (p b : Nat) (s : State) : State :=
  s.wr Rg.LNK_P_FLAGS [p] (setBit (s.rd Rg.LNK_P_FLAGS [p]) b true)

/-- Sends something: it joins the transcript. -/
def emit (x : Sent) (s : State) : State := { s with wire := x :: s.wire }

/-- What a port has queued for its stripes is gone: it leaves the state in which it may send (R260, R261). -/
def Port.cut (x : Port) : Port := { x with line := [], cur := [], ctl := [], rxErr := false }

/-- The port starts to bond: its markers count from 0 (R259), no WIDTH has gone or come, and the packet in progress is cut. -/
def Port.bonding (x : Port) : Port :=
  { x with markers := [], aligned := false, sentMask := none, peerMask := none, cur := [], ctl := [], rxErr := false, stripes := 0, marker := 0 }

/-- Puts something out for a head; a head under a re-run puts nothing out (R365). -/
def emitFor (h : Nat) (x : Sent) (s : State) : State := if s.replaying h then s else emit x s

/-- A calibration in progress on a port that leaves ACTIVE is abandoned, one that waits for its TIME_SET step included (R143, R207): the next
one starts when the port is active again. -/
def calAbandon (p : Nat) (s : State) : State :=
  { s with cals := s.cals.upd {} p fun k => { k with busy := false, deferred := false, verify := 0, clean := [], tries := 0 } }

/-- A transition of a port's state raises one event carrying the port and the cause (R261). -/
def portTo (p st cause : Nat) (s : State) : State :=
  let prev := (s.port p).state
  raiseState 5 p (Rg.LNK_P_STATUS.at [p]) prev cause
    ((if prev = 4 ∧ st ≠ 4 then calAbandon p s else s).modPort p fun x => { x with state := st, cause := cause })

/-- Number of transactions that a port entering FAILED discards (R273): posted and driver transactions. -/
def dropWaiting (ts : List Txn) : Nat := (ts.filter fun t => t.type == 8 || t.type == 1 || t.type == 2 || t.type == 5).length

/-- Entry of a port into FAILED (R260, R261, R273, R378): mapped out, sequence, replay and credits discarded, waiting
posted and driver transactions discarded and counted, key slots invalid. -/
def portFail (p cause : Nat) (s : State) : State :=
  let n := dropWaiting (s.port p).waiting
  let s1 := portTo p 6 cause (portFlag p 0 s)
  let s2 := s1.modPort p fun x => { x with
    fresh := true, txNext := 0, rxExp := 0, nakSent := false, replay := [], replays := 0, capsOk := false, mask := 0,
    waiting := x.waiting.filter fun t => !(t.type == 8 || t.type == 1 || t.type == 2 || t.type == 5),
    txCredit := [], rxCredit := [], rxKey := [], txKey := [] }
  unitOut 5 p (count Rg.LNK_P_DROP_CNT [p] n (s2.modPort p fun x => x.bonding.cut))

/-- A port in DOWN bonds once every lane of it is ACTIVE or FAILED, at least one ACTIVE (R260). -/
def portTryBond (p : Nat) (s : State) : State :=
  match s.cfg.port? p with
  | none => s
  | some r =>
    if (s.port p).state = 1 && (r.lanes.all fun n => (s.lane n).state == 5 || (s.lane n).state == 8) && (s.activeLanes r).length != 0 then
      portTo p 2 0 (s.modPort p Port.bonding)
    else s

/-- A port in REBOND with every lane FAILED has no lane left (R260). -/
def portTryRebond (p : Nat) (s : State) : State :=
  match s.cfg.port? p with
  | none => s
  | some r =>
    if (s.port p).state = 5 && (r.lanes.all fun n => (s.lane n).state == 8) then portFail p 6 s else s

/-- Entry into REBOND (R260, R261). -/
def portRebond (p : Nat) (s : State) : State :=
  portTryRebond p (portTo p 5 0 (portFlag p 1 (s.modPort p Port.bonding)))

/-- What LNK does in the clock in which lane n enters ACTIVE (R244, R260, R261). -/
def lnkLaneUp (n : Nat) (s : State) : State :=
  match s.cfg.portOfLane? n with
  | none => s
  | some r =>
    let x := s.port r.port
    if x.state = 1 then portTryBond r.port s
    else if x.state = 4 && !x.mask.testBit (n - r.first) && (s.bondMask r).testBit (n - r.first) then portRebond r.port s
    else s

/-- What LNK does in the clock in which lane n leaves ACTIVE, or enters FAILED (R260, R261): in REBOND the lanes bond and exchange WIDTH
anew. -/
def lnkLaneDown (n : Nat) (s : State) : State :=
  match s.cfg.portOfLane? n with
  | none => s
  | some r =>
    let x := s.port r.port
    if x.state = 4 && x.mask.testBit (n - r.first) then portRebond r.port s
    else if x.state = 1 then portTryBond r.port s
    else if x.state = 5 then
      portTryRebond r.port (s.modPort r.port fun x => { x with markers := x.markers.erase (n - r.first), aligned := false, sentMask := none })
    else s

/-! ### Credits (R266, R267) -/

/-- The class of a transaction type on a stream (R266). -/
def txnClass (type stream : Nat) : Nat :=
  if type = 3 then 8 else if type = 4 then 9 else if type = 8 then 10 else if type = 6 then 11 else stream

/-- Data credits of a payload: units of 64 bytes, rounded up. -/
def dataUnits (bytes : Nat) : Nat := (bytes + 63) / 64

/-- Whether a use of credits stays within cumulative limits, taken modulo (R266). -/
def Credit.admits (c : Credit) (units : Nat) : Bool :=
  decide ((c.limH + 65536 - (c.useH + 1) % 65536) % 65536 < 32768) &&
  decide ((c.limD + 16777216 - (c.useD + units) % 16777216) % 16777216 < 8388608)

/-- The credits of a transaction used. -/
def Credit.use (c : Credit) (units : Nat) : Credit :=
  { c with useH := (c.useH + 1) % 65536, useD := (c.useD + units) % 16777216 }

/-- What the device advertises at a fresh start (R267): 16 and 512 per posted stream of an ingress port, and 16 and 64 for culvert
requests; it accepts culvert responses, driver commands and events without limit. -/
def firstCredit (ingress : Bool) (cls : Nat) : Credit :=
  if 9 ≤ cls then { limH := 32767, limD := 8388607 }
  else if cls = 8 then { limH := 16, limD := 64 }
  else if ingress then { limH := 16, limD := 512 } else {}

/-- The receive credit of class `cls` on port p. -/
def State.rxCred (s : State) (p cls : Nat) : Credit := ((s.port p).rxCredit.find cls).getD (firstCredit (s.ingress p) cls)

/-- Stores the receive credit of a class. -/
def setRxCred (p cls : Nat) (c : Credit) (s : State) : State :=
  s.modPort p fun x => { x with rxCredit := x.rxCredit.insert cls c }

/-! ### Sending transactions (R262 to R264, R270, R273, R274) -/

/-- A payload padded with zero bytes to whole blocks (R270). -/
def padBlock (bs : List Byte) : List Byte := bs ++ List.replicate ((8 - bs.length % 8) % 8) 0

/-- START bytes 1 to 7 (R262). -/
def startBytes (type stream : Nat) (unseq : Bool) (seq d : Nat) : List Byte :=
  [BitVec.ofNat 8 (type + stream * 16 + b2n unseq * 128)] ++ bytesLE seq 2 ++ bytesLE d 2 ++ [0, 0]

/-- END bytes 1 to 3 (R262). -/
def endBytes (prot : Bool) (epoch : Nat) (retrans : Bool) (seq : Nat) : List Byte :=
  [BitVec.ofNat 8 (b2n prot + epoch * 2 + b2n retrans * 4)] ++ bytesLE seq 2

/-- The CRC of a link packet (R262). -/
def packetCrc (type stream : Nat) (unseq : Bool) (seq d : Nat) (body : List Byte) (prot : Bool) (epoch : Nat) (retrans : Bool)
    (seq2 : Nat) : Nat :=
  crc32 (startBytes type stream unseq seq d ++ body ++ endBytes prot epoch retrans seq2)

/-- The link controls of R262, 8 bytes each. -/
def ackBytes (q : Nat) : List Byte := [0xA0, 0] ++ bytesLE q 2 ++ [0, 0, 0, 0]
def nakBytes (q reason : Nat) : List Byte := [0xA1, 0] ++ bytesLE q 2 ++ [BitVec.ofNat 8 reason, 0, 0, 0]
def creditBytes (cls hdr data : Nat) : List Byte := [0xA2, BitVec.ofNat 8 cls] ++ bytesLE hdr 2 ++ bytesLE data 4
def widthBytes (mask : Nat) : List Byte := [0xA3, 0] ++ bytesLE mask 2 ++ [0, 0, 0, 0]

/-- The data blocks of a packet's body, `d` of them. -/
def dataBlocks : Nat → List Byte → List Block
  | 0, _ => []
  | d + 1, bs => (1, ofBytesLE (bs.take 8)) :: dataBlocks d (bs.drop 8)

/-- The blocks of a packet: START, its data blocks, END with the CRC (R262). -/
def packetBlocks (type stream : Nat) (unseq : Bool) (seq : Nat) (body : List Byte) (prot : Bool) (epoch : Nat) (retrans : Bool) : List Block :=
  let d := body.length / 8
  (2, ofBytesLE (0x90 :: startBytes type stream unseq seq d)) ::
    (dataBlocks d body ++ [(2, ofBytesLE (0x91 :: endBytes prot epoch retrans seq ++
      bytesLE (packetCrc type stream unseq seq d body prot epoch retrans seq) 4))])

/-- A single-block link control joins those that wait for a stripe (R258, R262). -/
def sendCtl (p : Nat) (bytes : List Byte) (x : Sent) (s : State) : State :=
  emit x (s.modPort p fun y => { y with ctl := y.ctl ++ [(2, ofBytesLE bytes)] })

/-- Bytes a packet takes in the replay buffer: its START, data and END blocks. -/
def TxPkt.bytes (k : TxPkt) : Nat := k.body.length + 16

/-- Whether a packet of `n` data bytes fits the replay buffer (R264): 16 KiB per working lane, at most 2,047 packets. -/
def State.replayRoom (s : State) (p n : Nat) : Bool :=
  let x := s.port p
  decide (x.replay.length < 2047) && decide ((x.replay.map TxPkt.bytes).sum + n + 16 ≤ 16384 * s.width p)

/-- Whether the payload of a transaction is of a protected kind when sent (R274): PLANE_DATA and LINE_DATA. -/
def protectedKind (t : Txn) : Bool :=
  t.type == 8 && match t.payload with | op :: _ => op == 0x01#8 || op == 0x31#8 | [] => false

/-- The GCM nonce of port, direction, epoch and counter (R274). -/
def gcmNonce (p dir epoch ctr : Nat) : List Byte :=
  [BitVec.ofNat 8 p, BitVec.ofNat 8 dir, BitVec.ofNat 8 epoch, 0] ++ bytesLE ctr 8

/-- The body of a packet, with content protection when the selected transmit slot is valid (R274, R378): bytes,
protected or not, epoch, and the port afterwards. -/
def packetBody (p : Nat) (x : Port) (t : Txn) : List Byte × Bool × Nat × Port :=
  let pay := padBlock t.payload
  let plain := (t.header ++ pay, false, 0, x)
  if !protectedKind t then plain else
  match (x.txKey.getD x.txEpoch none) with
  | none => plain
  | some k =>
    let ctr := k.ctr.getD 0
    let d := (t.header.length + pay.length) / 8 + 3
    let ct := gcmSeal k.key (gcmNonce p 1 x.txEpoch ctr) (startBytes t.type t.stream false x.txNext d ++ t.header) pay
    (t.header ++ ct.1 ++ bytesLE ctr 8 ++ ct.2, true, x.txEpoch,
      { x with txKey := x.txKey.set x.txEpoch (some { k with ctr := some (ctr + 1) }) })

/-- Sends one transaction as the next packet: it enters the replay buffer and uses its credits (R264, R266). -/
def sendPacket (p : Nat) (t : Txn) (s : State) : State :=
  let x := s.port p
  let (body, prot, ep, x1) := packetBody p x t
  let cls := txnClass t.type t.stream
  let k : TxPkt := { seq := x.txNext, type := t.type, stream := t.stream, body := body, prot := prot, epoch := ep }
  let x2 := { x1 with
    txNext := (x.txNext + 1) % 4096, replay := x1.replay ++ [k]
    line := x1.line ++ [packetBlocks t.type t.stream false k.seq body prot ep false]
    txCredit := x1.txCredit.insert cls ((x1.txCredit.get {} cls).use (dataUnits t.payload.length)) }
  emit (.packet p t.type t.stream k.seq body prot ep false)
    (count1 Rg.LNK_P_TX_PKT_CNT [p] (s.setPort p x2))

/-- Whether a waiting transaction can be sent now: credits and replay room (R264, R266). -/
def State.sendable (s : State) (p : Nat) (t : Txn) : Bool :=
  ((s.port p).txCredit.get {} (txnClass t.type t.stream)).admits (dataUnits t.payload.length) &&
  s.replayRoom p (packetBody p (s.port p) t).1.length

/-- The first waiting transaction of a type. -/
def firstOf (type : Nat) (ts : List Txn) : Option Txn := ts.find? (·.type == type)

/-- The transaction R273 chooses next: culvert responses, culvert requests, driver commands in issue order, events. -/
def State.chooseTxn (s : State) (p : Nat) : Option Txn :=
  ([4, 3, 8, 6].filterMap fun ty => match firstOf ty (s.port p).waiting with
    | some t => if s.sendable p t then some t else none
    | none => none).head?

/-- Core clocks from the first transition to block lock, by power state and rate code (R249). -/
def exitBound (pm rate : Nat) : Nat :=
  if pm = 1 then (match rate with | 0 => 2560 | 1 => 1920 | _ => 1280)
  else match rate with | 0 => 20480 | 1 => 17920 | _ => 16640

/-- The power state of a lane's transmit direction: it is active again once its exit has ended (R249). -/
def Lane.txPmAt (l : Lane) (rate now : Nat) : Nat :=
  match l.txWake with
  | some t => if t + exitBound l.txPm rate ≤ now then 0 else l.txPm
  | none => l.txPm

/-- The power state of lane n's transmit direction. -/
def State.laneTxPm (s : State) (n : Nat) : Nat := (s.lane n).txPmAt (s.group (n / 8)).rate s.now

/-- Whether every working lane of a port can carry packets (R276). -/
def State.awake (s : State) (p : Nat) : Bool :=
  match s.cfg.port? p with
  | none => true
  | some r => r.lanes.all fun n => !(s.port p).mask.testBit (n - r.first) || s.laneTxPm n == 0

/-- Sends waiting transactions while the port is ACTIVE, its lanes are awake and some can go; at most `fuel` of them. -/
def drainPort (p : Nat) : Nat → State → State
  | 0, s => s
  | f + 1, s =>
    if (s.port p).state ≠ 4 || !s.awake p then s else
    match s.chooseTxn p with
    | none => s
    | some t => drainPort p f (sendPacket p t (s.modPort p fun x => { x with waiting := x.waiting.erase t }))

/-- Sends what can be sent on port p. -/
def pump (p : Nat) (s : State) : State := drainPort p ((s.port p).waiting.length) s

/-- The exit of a lane's transmit direction from its power state starts, or has ended (R249). -/
def laneWakeTx (n : Nat) (s : State) : State :=
  if (s.lane n).txPm = 0 then s
  else if s.laneTxPm n = 0 then s.modLane n fun l => { l with txPm := 0, txWake := none, pmOut := 0 }
  else if (s.lane n).txWake.isSome then s
  else s.modLane n fun l => { l with txWake := some s.now, pmOut := 0 }

/-- A transaction queued for a port wakes its lanes (R276). -/
def wakeLanes (p : Nat) (s : State) : State :=
  match s.cfg.port? p with
  | none => s
  | some r => r.lanes.foldl (fun s n => laneWakeTx n s) s

/-- Queues a transaction on a port and sends what can be sent; while the port is not ACTIVE it waits (R273). An UNUSED port takes
nothing. -/
def sendTxn (p : Nat) (t : Txn) (s : State) : State :=
  if (s.port p).state = 0 then s
  else pump p (wakeLanes p (s.modPort p fun x => { x with waiting := x.waiting ++ [t] }))

/-- Sends one command or response of the command sets as a DRIVER_CMD (R270); a head under a re-run sends none (R365). -/
def sendCmd (p : Nat) (bytes : List Byte) (s : State) : State :=
  if (s.portHeads p).any s.replaying then s else
  sendTxn p { type := 8, stream := 0, header := List.replicate 8 0, payload := bytes } s

/-! ### Replay (R264) -/

/-- Resends every packet of the replay buffer, in order, with retransmitted = 1, behind the packet in progress and ahead of every new
one (R264, R273). -/
def resendAll (p : Nat) (s : State) : State :=
  let ks := (s.port p).replay
  (s.port p).replay.foldl (fun s k =>
    emit (.packet p k.type k.stream k.seq k.body k.prot k.epoch true) (count1 Rg.LNK_P_TX_PKT_CNT [p] s))
    (s.modPort p fun x => { x with line := ks.map fun k => packetBlocks k.type k.stream false k.seq k.body k.prot k.epoch true })

/-- A replay is called for (R264): it is made and counted, once in a clock (R277); when rep_lim replays in a row have already passed
without ACK progress, the port goes to DOWN instead. -/
def replayOrDown (p : Nat) (s : State) : State :=
  let x := s.port p
  if x.replay = [] || x.replayClk == some s.now then s
  else if max 1 (s.fd Rg.LNK_TIMERS [] 19 16) ≤ x.replays then
    portTryBond p (portTo p 1 7 (portFlag p 2 (s.modPort p fun x => { x.cut with replays := 0, fresh := false, mask := 0, capsOk := false })))
  else resendAll p (count1 Rg.LNK_P_REPLAY_CNT [p] (s.modPort p fun x => { x with replays := x.replays + 1, replayClk := some s.now }))

/-- Packets up to sequence q are acknowledged: they leave the replay buffer (R264). -/
def freeAcked (q : Nat) (ks : List TxPkt) : List TxPkt := ks.filter fun k => decide (2048 ≤ (q + 4096 - k.seq) % 4096)

/-- ACK progress: acknowledged packets are freed and the count of replays in a row restarts. -/
def ackTo (p q : Nat) (s : State) : State :=
  let x := s.port p
  let left := freeAcked (q % 4096) x.replay
  s.setPort p { x with replay := left, replays := if left.length < x.replay.length then 0 else x.replays }

/-- ACK_RECEIVE (R264). -/
def doAckReceive (p : Fin 24) (q : Nat) (s : State) : Host.Outcome State Fault Refusal :=
  live (fun s => if (s.port p.val).state = 4 then pump p.val (ackTo p.val q s) else s) s

/-- NAK_RECEIVE (R264): every packet after the one named is resent, and what waited for room goes. -/
def doNakReceive (p : Fin 24) (q : Nat) (s : State) : Host.Outcome State Fault Refusal :=
  live (fun s => if (s.port p.val).state = 4 then pump p.val (replayOrDown p.val (ackTo p.val q s)) else s) s

/-- REPLAY_TIMEOUT (R264): ACK progress has stalled while packets are unacknowledged. -/
def doReplayTimeout (p : Fin 24) (s : State) : Host.Outcome State Fault Refusal :=
  live (fun s => if (s.port p.val).state = 4 then replayOrDown p.val s else s) s

/-- CREDIT_RECEIVE (R266): the cumulative limits of a class; what waited for them goes. -/
def doCreditReceive (p : Fin 24) (cls hdr data : Nat) (s : State) : Host.Outcome State Fault Refusal :=
  live (fun s =>
    if (s.port p.val).state = 0 || 12 ≤ cls then s else
    pump p.val (s.modPort p.val fun x => { x with
      txCredit := x.txCredit.insert cls { (x.txCredit.get {} cls) with limH := hdr % 65536, limD := data % 16777216 } })) s

/-- The classes a port of the device serves as a receiver (R266, R267). -/
def servedClasses (ingress : Bool) : List Nat := (if ingress then List.range 8 else []) ++ [8, 9, 10, 11]

/-- Sends the CREDIT block of a class (R266). -/
def sendCredit (p cls : Nat) (s : State) : State :=
  let c := s.rxCred p cls
  let c1 := if 9 ≤ cls then { c with limH := (c.useH + 32767) % 65536, limD := (c.useD + 8388607) % 16777216 } else c
  sendCtl p (creditBytes cls c1.limH c1.limD) (.credit p cls c1.limH c1.limD) (setRxCred p cls c1 s)

/-- CREDIT_SEND (R266): CREDIT for every class the port serves. -/
def creditSendOp (p : Nat) (s : State) : State :=
  if (s.port p).state = 4 then (servedClasses (s.ingress p)).foldl (fun s c => sendCredit p c s) s else s

def execCreditSend (p : Fin 24) (s : State) : Host.Outcome State Fault Refusal := live (creditSendOp p.val) s

/-- A buffer of class `cls` frees (R266, R267): its limits advance, and a CREDIT goes out where the port is ACTIVE. -/
def freeBuffer (p cls units : Nat) (s : State) : State :=
  let c := s.rxCred p cls
  let s1 := setRxCred p cls { c with limH := (c.limH + 1) % 65536, limD := (c.limD + units) % 16777216 } s
  if (s.port p).state = 4 then sendCredit p cls s1 else s1

/-- Takes the oldest accepted transaction that satisfies `f`, if there is one. -/
def takeTxn (p : Nat) (f : Txn → Bool) (s : State) : Option Txn × State :=
  match (s.port p).accepted.find? f with
  | none => (none, s)
  | some t => (some t, s.modPort p fun x => { x with accepted := x.accepted.erase t })

/-- Takes the oldest accepted response of a peripheral whose opcode satisfies `f`, as its bytes (R162, R270). -/
def takeResponse (p : Nat) (f : Nat → Bool) (s : State) : Option (List Byte) × State :=
  let r := takeTxn p (fun t => t.type == 8 && match t.payload with | b :: _ => f b.toNat | [] => false) s
  (r.1.map (·.payload), r.2)

/-- The field at byte `i`, `n` bytes, of a response. -/
def byteField (bs : List Byte) (i n : Nat) : Nat := ofBytesLE ((bs.drop i).take n)

/-- A transaction's buffer frees. -/
def freeTxn (p : Nat) (t : Txn) (s : State) : State := freeBuffer p (txnClass t.type t.stream) (dataUnits t.payload.length) s

/-- The field of a transaction header at byte `i`, `n` bytes (R270). -/
def Txn.field (t : Txn) (i n : Nat) : Nat := ofBytesLE ((t.header.drop i).take n)

/-! ### Receiving packets (R263, R265, R266, R270, R274, R275) -/

/-- Whether a transaction type exists (R270). CAPS is received unsequenced. -/
def knownType (ty : Nat) : Bool := ty == 1 || ty == 2 || ty == 3 || ty == 4 || ty == 5 || ty == 6 || ty == 8

/-- Whether the header block of a transaction agrees with its payload length (R270). -/
def wellCounted (ty : Nat) (hdr pay : List Byte) : Bool :=
  let f := fun i n => ofBytesLE ((hdr.drop i).take n)
  if ty = 1 then decide (1 ≤ f 4 2 ∧ f 4 2 ≤ 128 ∧ pay.length = 64 * f 4 2)
  else if ty = 2 then decide (1 ≤ f 6 2 ∧ f 6 2 ≤ 8192 ∧ pay.length = (f 6 2 + 7) / 8 * 8)
  else if ty = 4 then pay.isEmpty || decide (pay.length = (4 * (f 1 1 + 1) + 7) / 8 * 8)
  else if ty = 5 then decide (f 0 1 = 1) && pay.isEmpty
  else if ty = 6 then decide (pay.length = 32)
  else true

/-- A transaction that is not acted on is counted and raises one event (R270). -/
def dropTxn (p ty : Nat) (s : State) : State :=
  raiseReport 5 p (Rg.LNK_P_DROP_CNT.at [p]) ty 0 (count1 Rg.LNK_P_DROP_CNT [p] s)

/-- A protected transaction refused (R275): counted, with one event per port per millisecond at most. -/
def authFail (p : Nat) (s : State) : State :=
  let s1 := count1 Rg.LNK_P_AUTH_FAIL_CNT [p] (portFlag p 3 s)
  let due := match (s.port p).authTime with | none => true | some t => decide (t + msCore ≤ s.now)
  if due then raiseFlag 5 p (Rg.LNK_P_FLAGS.at [p]) 3 0 (s1.modPort p fun x => { x with authTime := some s.now }) else s1

/-- Opens a protected payload (R274, R275): the plain payload and the port with the counter accepted, or none. -/
def openPayload (p : Nat) (x : Port) (k : LinkPkt) : Option (List Byte × Port) :=
  match x.rxKey.getD k.epoch none with
  | none => none
  | some slot =>
    let hdr := k.body.take 8
    let rest := k.body.drop 8
    if rest.length < 24 then none else
    let ct := rest.take (rest.length - 24)
    let ctr := ofBytesLE ((rest.drop (rest.length - 24)).take 8)
    let newer := match slot.ctr with | none => true | some last => decide (last < ctr)
    if !newer then none else
    match gcmOpen slot.key (gcmNonce p 0 k.epoch ctr) (startBytes k.type k.stream k.unseq k.seq k.blocks ++ hdr) ct
        (rest.drop (rest.length - 16)) with
    | none => none
    | some pt => some (pt, { x with rxEpoch := k.epoch, rxKey := x.rxKey.set k.epoch (some { slot with ctr := some ctr }) })

/-- Whether a type is of a protected kind when received on port p (R274). -/
def State.protectedIn (s : State) (p type : Nat) : Bool := (type == 1 || type == 2) && s.ingress p

/-- Whether prot_req refuses an unprotected transaction of a type (R275). -/
def State.unprotRefused (s : State) (p type : Nat) : Bool := s.protectedIn p type && bit (s.rd Rg.LNK_P_CTL [p]) 0

/-- The transaction of a packet whose credits are used: it joins those to be acted on, or content protection or its header refuses it,
and its buffer then frees (R267, R270, R275). -/
def landTxn (p : Nat) (k : LinkPkt) (units : Nat) (s : State) : State :=
  let free := freeBuffer p (txnClass k.type k.stream) units
  let queue := fun (pay : List Byte) (s : State) =>
    if !wellCounted k.type (k.body.take 8) pay then free (dropTxn p k.type s)
    else s.modPort p fun x =>
      { x with accepted := x.accepted ++ [{ type := k.type, stream := k.stream, header := k.body.take 8, payload := pay }] }
  if k.prot && s.protectedIn p k.type then
    match openPayload p (s.port p) k with
    | none => free (authFail p s)
    | some (pt, x1) => queue pt (s.setPort p x1)
  else if s.unprotRefused p k.type then free (authFail p s)
  else queue (k.body.drop 8) s

/-- The payload bytes of a packet: without its header block, and without counter and tag where it is protected (R270, R274). -/
def payBytes (k : LinkPkt) (prot : Bool) : Nat := k.body.length - 8 - if prot then 24 else 0

/-- The transaction of an accepted packet (R266, R270): one of an unused type is dropped; one that exceeds its credits is not served;
every other one uses them. -/
def acceptTxn (p : Nat) (k : LinkPkt) (s : State) : State :=
  let cls := txnClass k.type k.stream
  let c := s.rxCred p cls
  let units := dataUnits (payBytes k (k.prot && s.protectedIn p k.type))
  if !knownType k.type then dropTxn p k.type s
  else if !(c.admits units) then raiseFlag 5 p (Rg.LNK_P_FLAGS.at [p]) 4 0 (portFlag p 4 s)
  else landTxn p k units (setRxCred p cls (c.use units) s)

/-- Sends one NAK, and no further one until a packet is accepted (R263). -/
def sendNak (p reason : Nat) (s : State) : State :=
  let x := s.port p
  if x.nakSent then s
  else sendCtl p (nakBytes ((x.rxExp + 4095) % 4096) reason) (.nak p ((x.rxExp + 4095) % 4096) reason) (s.setPort p { x with nakSent := true })

/-- Sends ACK with the last sequence accepted (R262, R263). -/
def sendAck (p q : Nat) (s : State) : State := sendCtl p (ackBytes q) (.ack p q) s

/-- A sequenced packet arrives on an ACTIVE port (R263); an error indication that LNE gave inside it is used up. -/
def packetIn (p : Nat) (k : LinkPkt) (s0 : State) : State :=
  let s := s0.modPort p fun x => { x with rxErr := false }
  let x := s.port p
  if k.err || (s0.port p).rxErr || decide (k.body.length ≠ 8 * k.blocks) || k.blocks = 0 || decide (1040 < k.blocks) then sendNak p 3 s
  else if k.crc ≠ packetCrc k.type k.stream k.unseq k.seq k.blocks k.body k.prot k.epoch k.retrans k.seq2 then
    sendNak p 1 (count1 Rg.LNK_P_CRC_ERR_CNT [p] s)
  else if k.seq ≠ k.seq2 then sendNak p 3 s
  else if k.seq = x.rxExp then
    let x1 := { x with rxExp := (x.rxExp + 1) % 4096, nakSent := false }
    sendAck p k.seq (acceptTxn p k (count1 Rg.LNK_P_RX_PKT_CNT [p] (s.setPort p x1)))
  else if 1 ≤ (x.rxExp + 4096 - k.seq) % 4096 ∧ (x.rxExp + 4096 - k.seq) % 4096 ≤ 2047 then
    sendAck p ((x.rxExp + 4095) % 4096) s
  else sendNak p 2 s

/-! ### Capability exchange (R268, R269) -/

/-- The 16 bytes of the device's CAPS (R268). -/
def capsBytes (r : PortCfg) (x : Port) : List Byte :=
  [0x01, 0x05, BitVec.ofNat 8 r.count, 0x0F] ++ bytesLE 1040 2 ++ bytesLE x.rxExp 2 ++
  [Config.capsVendor 8, Config.capsVendor 9, Config.capsVendor 10, Config.capsVendor 11,
   0x0F, BitVec.ofNat 8 (b2n x.capsOk + 2 * b2n x.fresh), 0, 0]

/-- CAPS_SEND (R262, R268): type 0xF, unsequenced, a header block and two more. -/
def capsSendOp (p : Nat) (s : State) : State :=
  match s.cfg.port? p with
  | none => s
  | some r =>
    if (s.port p).state ≠ 3 then s else
    let body := capsBytes r (s.port p)
    emit (.caps p body) (count1 Rg.LNK_P_TX_PKT_CNT [p] (s.modPort p fun x =>
      { x with line := x.line ++ [packetBlocks 15 0 true 0 (List.replicate 8 0 ++ body) false 0 false] }))

def execCapsSend (p : Fin 24) (s : State) : Host.Outcome State Fault Refusal := live (capsSendOp p.val) s

/-- The refusal of a peer CAPS (R269): a cause code of LNK_P_STATUS. -/
def capsRefusal (r : PortCfg) (body : List Byte) : Option Nat :=
  let f := fun i n => ofBytesLE ((body.drop i).take n)
  if f 0 1 ≠ 1 then some 3 else if f 1 1 ≠ r.kind then some 4
  else if f 4 2 < 1040 ∨ f 2 1 ≠ r.count then some 5 else none

/-- Acceptance of the first peer CAPS (R269): with fresh = 1 on either side both start at sequence 0 with empty
buffers; otherwise packets before the peer's E are freed. -/
def capsAccept (body : List Byte) (x : Port) : Port :=
  let peerE := ofBytesLE ((body.drop 6).take 2)
  let peerFresh := bitsOf (ofBytesLE ((body.drop 13).take 1)) 1 1 == 1
  if peerFresh || x.fresh then
    { x with capsOk := true, txNext := 0, rxExp := 0, nakSent := false, replay := [], replays := 0, txCredit := [], rxCredit := [] }
  else { x with capsOk := true, replay := freeAcked ((peerE + 4095) % 4096) x.replay }

/-- What is still unacknowledged at the acceptance of a peer CAPS is replayed (R264, R269). -/
def capsReplay (p : Nat) (s : State) : State :=
  if (s.port p).replay = [] then s else resendAll p (count1 Rg.LNK_P_REPLAY_CNT [p] s)

/-- The port becomes ACTIVE (R260): waiting transactions go. -/
def portActivate (p : Nat) (s : State) : State :=
  pump p (creditSendOp p (portTo p 4 0 (s.modPort p fun x => { x with fresh := false })))

/-- A peer CAPS arrives (R260, R269): its bytes are kept; the first one after entry into CAPS is accepted or refused; a later one with
caps_ack makes the port ACTIVE. `up` is what else happens when a port becomes ACTIVE. -/
def capsReceiveOp (up : Nat → State → State) (p : Nat) (body : List Byte) (s0 : State) : State :=
  match s0.cfg.port? p with
  | none => s0
  | some r =>
    if (s0.port p).state ≠ 3 then s0 else
    let s := s0.modPort p fun x => { x with caps := body }
    if !(s.port p).capsOk then
      match capsRefusal r body with
      | some c => portFail p c s
      | none => capsReplay p (s.modPort p (capsAccept body))
    else if (capsRefusal r body).isNone && bitsOf (ofBytesLE ((body.drop 13).take 1)) 0 0 == 1 then up p (portActivate p s)
    else s

/-- CAPS_TIMEOUT (R260): no acknowledging peer CAPS within 1 ms. -/
def capsTimeoutOp (p : Nat) (s : State) : State := if (s.port p).state = 3 then portFail p 2 s else s

def doCapsTimeout (p : Fin 24) (s : State) : Host.Outcome State Fault Refusal := live (capsTimeoutOp p.val) s

/-! ### Widths (R261) -/

/-- The end of REBOND (R261): once WIDTH has gone and come, the lanes in both masks bond, and the port returns to ACTIVE. `changed` is
what else a new width brings. -/
def rebondEnd (changed : Nat → State → State) (p : Nat) (s : State) : State :=
  let x := s.port p
  match x.sentMask, x.peerMask with
  | some mine, some theirs =>
    if x.state ≠ 5 || mine &&& theirs = 0 then s
    else changed p (pump p (portTo p 4 0 (s.setPort p { x with mask := mine &&& theirs })))
  | _, _ => s

/-- A WIDTH block in REBOND (R261). -/
def widthReceiveOp (changed : Nat → State → State) (p mask : Nat) (s : State) : State :=
  if (s.cfg.port? p).isNone || (s.port p).state != 5 then s else rebondEnd changed p (s.modPort p fun x => { x with peerMask := some mask })

/-- The power states a peer reports in its CAPS (R268, byte 12). -/
def Port.peerReports (x : Port) (b : Nat) : Bool := bitsOf (ofBytesLE ((x.caps.drop 12).take 1)) b b == 1

/-- Whether a port may sleep (R276): it serves no head that is up, and no engine in RUN feeds its lasers. -/
def State.maySleep (s : State) (engineRun : Bool) (p : Nat) : Bool :=
  !(s.portHeads p).any s.headUp && !((s.portDriver? p).isSome && engineRun)

/-- Orders the transmit direction of every working lane into a power state (R249, R276): 4 LANE_PM blocks and then
electrical idle. A lane that is not ACTIVE takes no order (R256). -/
def orderPm (p code : Nat) (s : State) : State :=
  match s.cfg.port? p with
  | none => s
  | some r => (s.activeLanes r).foldl (fun s n =>
      if (s.port p).mask.testBit (n - r.first) then emit (.lanePm n code) (s.modLane n fun l => { l with txPm := code, txWake := none, pmOut := 4 }) else s) s

/-- Whether the port has nothing to send and no packet unacknowledged (R276). -/
def Port.idle (x : Port) : Bool :=
  x.state == 4 && x.waiting.isEmpty && x.replay.isEmpty && x.line.isEmpty && x.cur.isEmpty && x.ctl.isEmpty

/-- Clears of LNK_P_CNT_CLR (R278). -/
def lnkPCntClrOp (p : Nat) (v : Word) (s : State) : State :=
  if (s.cfg.port? p).isNone then s else
  onBits v [(0, clearCnt Rg.LNK_P_CRC_ERR_CNT [p]), (1, clearCnt Rg.LNK_P_REPLAY_CNT [p]), (2, clearCnt Rg.LNK_P_AUTH_FAIL_CNT [p]),
    (3, clearCnt Rg.LNK_P_DROP_CNT [p]), (4, clearCnt Rg.LNK_P_TX_PKT_CNT [p]), (5, clearCnt Rg.LNK_P_RX_PKT_CNT [p])] s

/-- LNK_P_CNT_CLR (R278). -/
def doLnkPCntClr (src : Source) (p : Fin 24) (v : Word) (s : State) : Host.Outcome State Fault Refusal :=
  .next (gatedWrite src (Rg.LNK_P_CNT_CLR.at [p.val]) v (lnkPCntClrOp p.val v) s)

/-- The word a report register of LNK reads (R278); an UNUSED port's registers read 0. -/
def readLnk (a : Nat) (s : State) : Option Word :=
  let off := a % 0x100000
  if off < 0x10000 || 0x11800 ≤ off then none else
  let p := (off - 0x10000) / 0x100
  match s.cfg.port? p with
  | none => some 0
  | some r =>
    let x := s.port p
    if a = Rg.LNK_P_STATUS.at [p] then
      some (pack [(24, x.cause), (16, maskCount x.mask), (8, r.kind), (0, x.state)])
    else if a = Rg.LNK_P_SEQ.at [p] then some (pack [(16, x.rxExp), (0, x.txNext)])
    else if a = Rg.LNK_P_KEY.at [p] then
      some (pack [(9, x.txEpoch), (8, x.rxEpoch), (0, b2n (x.rxKey.getD 0 none).isSome), (1, b2n (x.rxKey.getD 1 none).isSome),
        (2, b2n (x.txKey.getD 0 none).isSome), (3, b2n (x.txKey.getD 1 none).isSome)])
    else match Rg.LNK_P_CAPS.ixOf a with
      | some [_, w] => some (word (ofBytesLE ((x.caps.drop (4 * w)).take 4)))
      | _ => none

end Sys2Proof.Machine
end

