-- ==== Sys2Proof/Machine/Bring.lean ====
section
/-!
DEFINITION. The parallel steps of BRINGUP: when dram, lanes and i3c are set, which blocks leave LOADED with them, and
the entry into READY (R389 to R393).
-/
namespace Sys2Proof.Machine

/-- The lane groups that hold a lane of an ingress port, rising (R392). -/
def State.ingressGroups (s : State) : List Nat :=
  (List.range 12).filter fun g => s.cfg.ports.any fun r => !r.egress && r.lanes.any fun n => n / 8 == g

/-- The stages in which the parallel steps go on: BRINGUP, and DRAM_HALT, in which LNE and LNK keep working (R391). -/
def State.bringing (s : State) : Bool := s.boot.stage == 4 || s.boot.stage == 7

/-- Sets lanes, whose blocks LNE and LNK then leave LOADED (R390, R392). -/
def setLanes (s : State) : State :=
  startBlock 5 (startBlock 4 { s with boot := { s.boot with lanes := true } })

/-- READY is entered when dram, lanes and i3c are set and every instantiated block has left LOADED (R389). -/
def readyCheck (s : State) : State :=
  if s.boot.stage == 4 && s.boot.dram && s.boot.lanes && s.boot.i3c &&
    (List.range 16).all (fun n => s.absent n || s.blkState.get 1 n != 2) then setStage 5 s else s

/-- What a group that came UP, or the start of BRINGUP, brings: lanes is set when every ingress group is UP, or at once
where auto_ingress was 0 (R392). -/
def lanesCheck (s : State) : State :=
  if s.bringing && !s.boot.lanes && (!s.boot.autoIngress || s.ingressGroups.all fun g => (s.group g).state == 4)
  then readyCheck (setLanes s) else s

/-- Sets i3c (R393). -/
def setI3c (s : State) : State := readyCheck { s with boot := { s.boot with i3c := true } }

/-- DMC without a working channel is FAILED (R297), also where the bitstream enables none. -/
def dmcLives (s : State) : State :=
  if s.workUnits 6 = 0 && s.blkState.get 1 6 != 5 then
    raiseState 6 noUnit (blkStateAddr 6) 2 0 { s with blkState := s.blkState.put 1 6 5 }
  else s

/-- dram is set (R391): DMC leaves LOADED, and blocks 7 to 15 too unless DMC is FAILED; then the stage is DRAM_HALT. -/
def setDram (s : State) : State :=
  let s1 := dmcLives (startBlock 6 { s with boot := { s.boot with dram := true } })
  if s1.bst 6 = 5 then setStage 7 s1
  else readyCheck ([7, 8, 9, 10, 11, 12, 13, 14, 15].foldl (fun s n => startBlock n s) s1)

/-- A write that R394 holds back until READY. -/
def fromReady (a : Nat) (f : State → State) (s : State) : State := if s.boot.stage = 5 then f s else invalidWrite a s

/-- A write that R394 accepts from BRINGUP onwards. -/
def fromBringup (a : Nat) (f : State → State) (s : State) : State :=
  if s.boot.stage = 4 ∨ s.boot.stage = 5 ∨ s.boot.stage = 7 then f s else invalidWrite a s

end Sys2Proof.Machine
end

