-- ==== Sys2Proof/Machine/Cal.lean ====
section
/-!
DEFINITION. CAL: trims, where they take effect, and their calibration from scrambled data (R320 to R331).
-/
namespace Sys2Proof.Machine

/-- The calibration state of lane n. -/
def State.calLane (s : State) (n : Nat) : CalLane := s.calLanes.get {} n

/-- The state with the calibration state of lane n changed. -/
def State.modCalLane (s : State) (n : Nat) (f : CalLane → CalLane) : State := { s with calLanes := s.calLanes.upd {} n f }

/-- The calibration state of group g. -/
def State.calGroup (s : State) (g : Nat) : CalGroup := s.calGroups.get {} g

/-- The state with the calibration state of group g changed. -/
def State.modCalGroup (s : State) (g : Nat) (f : CalGroup → CalGroup) : State := { s with calGroups := s.calGroups.upd {} g f }

/-- The value of a trim by its kind (R320). -/
def Trims.get (t : Trims) : Nat → Int
  | 1 => t.txImp
  | 2 => t.rxTerm
  | 3 => t.txDcd
  | 4 => t.rxOfs
  | 5 => t.eyeOfs
  | 6 => t.rxDcd
  | 7 => t.piCtr
  | _ => 0

/-- The trims with one of them replaced. -/
def Trims.put (t : Trims) (k : Nat) (v : Int) : Trims :=
  match k with
  | 1 => { t with txImp := v }
  | 2 => { t with rxTerm := v }
  | 3 => { t with txDcd := v }
  | 4 => { t with rxOfs := v }
  | 5 => { t with eyeOfs := v }
  | 6 => { t with rxDcd := v }
  | 7 => { t with piCtr := v }
  | _ => t

/-- The least and greatest value of a trim (R320). -/
def trimLo (k : Nat) : Int := if k = 1 ∨ k = 2 then 0 else if k = 4 ∨ k = 5 then -32 else -16
def trimHi (k : Nat) : Int := if k = 1 ∨ k = 2 then 31 else if k = 4 ∨ k = 5 then 31 else 15

/-- Whether a trim is one of the transmitter (R320): TX_IMP and TX_DCD. -/
def txTrim (k : Nat) : Bool := k == 1 || k == 3

/-- Whether a lane carries link blocks in the direction of a trim (R327): an ACTIVE lane whose direction is active. A lane in SYNC
carries none (assumption log 41). -/
def carriesFor (l : Lane) (k : Nat) : Bool := l.state == 5 && (if txTrim k then l.txPm == 0 else l.rxPm == 0)

/-- Puts a trim in force at its staged value. -/
def forceTrim (n k : Nat) (s : State) : State :=
  s.modCalLane n fun c => { c with
    force := c.force.put k (c.staged.get k), softPend := c.softPend.filter (· != k), ramping := c.ramping.filter (· != k) }

/-- RX_OFS belongs to LNE's tracker (R328): a staged value loads the lane's trim in OFF, DETECT and FAILED, and waits
otherwise. -/
def settleOfs (n : Nat) (s : State) : State :=
  let c := s.calLane n
  let l := s.lane n
  if c.ofsPend && (l.state == 1 || l.state == 2 || l.state == 8) then
    (s.modLane n fun l => { l with trim := c.staged.rxOfs }).modCalLane n fun c => { c with ofsPend := false }
  else s

/-- Staged trims that take effect at once do so (R327): EYE_OFS unless a scan is busy, and every trim of a lane that does
not carry link blocks in its direction. -/
def settleTrims (n : Nat) (s : State) : State :=
  settleOfs n ([1, 2, 3, 5, 6, 7].foldl (fun s k =>
    let free := if k = 5 then !(s.lane n).eyeBusy else !(carriesFor (s.lane n) k)
    if free && decide ((s.calLane n).staged.get k ≠ (s.calLane n).force.get k) then forceTrim n k s else s) s)

/-- Whether every staged step of a lane's calibrated trims is in force (R326). -/
def CalLane.applied (c : CalLane) : Bool := [5, 6, 7].all fun k => decide (c.staged.get k = c.force.get k)

/-- The lanes of group g that the LANES section assigns. -/
def State.groupLanes (s : State) (g : Nat) : List Nat :=
  ((List.range 8).map (8 * g + ·)).filter fun n => (s.cfg.portOfLane? n).isSome

/-- CAL_UPTIME in ms (R331). -/
def State.uptimeMs (s : State) : Nat := s.now / msCore

/-- The start of a calibration (R322, R324, R326): the ACTIVE lanes take part, but for those whose eye scan is busy.
`ended` handles a calibration that ends at once. -/
def calBegin (g : Nat) (s : State) : State :=
  let act := (s.groupLanes g).filter fun n => (s.lane n).state == 5
  let s1 := (s.groupLanes g).foldl (fun s n =>
    let busy := (s.lane n).eyeBusy
    let on := (s.lane n).state == 5
    s.modCalLane n fun c => { c with
      taking := on && !busy, runA := [], runNow := [], res := if on && busy then 4 else c.res }) s
  if act.isEmpty then s1.modCalGroup g fun c => { c with state := 1, result := 5, iter := 0 }
  else s1.modCalGroup g fun c => { c with state := 2, iter := 1, runB := false, sub := 0, startTemp := c.temp }

/-- The event of a calibration that ends (R326). -/
def calEvent (g : Nat) (s : State) : State := raiseDone 3 g (Rg.CAL_G_STATUS.at [g]) (s.calGroup g).result 0 s

/-- The lanes of a group that take part in its calibration. -/
def State.taking (s : State) (g : Nat) : List Nat := (s.groupLanes g).filter fun n => (s.calLane n).taking

/-- A calibration is over (R326): its result and event; CONVERGED and ITER_LIMIT count and set θ_cal and CAL_G_LAST. A stop discards
every run, so it gives the lanes no result. -/
def calFinish (g result : Nat) (s : State) : State :=
  let counted := result == 1 || result == 2
  let s1 := s.modCalGroup g fun c => { c with
    state := 1, result := result, last := if counted then s.uptimeMs else c.last, calTemp := if counted then some c.startTemp else c.calTemp }
  let s2 := (s1.groupLanes g).foldl (fun s n => s.modCalLane n fun c => { c with res := if c.taking && result != 3 then 1 else c.res, taking := false, runA := [], runNow := [] }) s1
  calEvent g (if counted then count1 Rg.CAL_G_RUN_CNT [g] s2 else s2)

/-- A trigger (R325): starts a calibration in IDLE, waits in RUN and APPLY, and does nothing in OFF. A calibration in which no
lane takes part takes no step and so ends CONVERGED at once (R323). DEDUCED: log entry 41. -/
def calTrigger (g : Nat) (s : State) : State :=
  match (s.calGroup g).state with
  | 1 =>
    let s1 := calBegin g s
    if (s1.calGroup g).state = 1 then calEvent g s1 else if (s1.taking g).isEmpty then calFinish g 1 s1 else s1
  | 2 => s.modCalGroup g fun c => { c with pending := true }
  | 3 => s.modCalGroup g fun c => { c with pending := true }
  | _ => s

/-- A calibration ends (R325, R326): a pending trigger then starts the next. -/
def calEnd (g result : Nat) (s : State) : State :=
  let s3 := calFinish g result s
  if (s3.calGroup g).pending then calTrigger g (s3.modCalGroup g fun c => { c with pending := false }) else s3

/-- Whether every staged step of the lanes of a group is in force. -/
def State.calApplied (s : State) (g : Nat) : Bool := (s.groupLanes g).all fun n => (s.calLane n).applied

/-- A group in APPLY whose steps are all applied goes on to its next iteration, or ends with ITER_LIMIT after the last
(R323, R326). -/
def calCheckApply (g : Nat) (s : State) : State :=
  let c := s.calGroup g
  if c.state = 3 && s.calApplied g then
    if max 1 (s.fd Rg.CAL_RUN_CTL [] 19 16) ≤ c.iter then calEnd g 2 s
    else
      let s1 := (s.groupLanes g).foldl (fun s n => s.modCalLane n fun c => { c with runA := [], runNow := [] })
        (s.modCalGroup g fun c => { c with state := 2, iter := c.iter + 1, runB := false, sub := 0 })
      if (s1.taking g).isEmpty then calEnd g 1 s1 else s1
  else s

/-- The step decisions of run B for one lane and one trim (R323): the same non-zero step in both runs is staged unless a
software value is pending for the trim or it would leave its range; differing proposals count once. Answers whether a
step was taken. -/
def calDecide (n : Nat) (i : Nat) (s : State) : Bool × State :=
  let c := s.calLane n
  let a := c.runA.getD i 0
  let b := c.runNow.getD i 0
  let k := 5 + i
  if a ≠ b then (false, count1 Rg.CAL_L_DISAGREE_CNT [n] s)
  else if a = 0 then (false, s)
  else
    let v := c.staged.get k + a
    if c.softPend.contains k || decide (v < trimLo k) || decide (trimHi k < v) then (false, s)
    else (true, s.modCalLane n fun c => { c with staged := c.staged.put k v })

/-- The step decisions of run B for the lanes taking part, in ascending lane. -/
def calDecideAll (ns : List Nat) (s : State) : Bool × State :=
  ns.foldl (fun acc n => [0, 1, 2].foldl (fun acc i =>
    let r := calDecide n i acc.2
    (acc.1 || r.1, r.2)) acc) (false, s)

/-- When every lane taking part has measured three sub-windows the run ends (R322, R323); with no lane left, so does the calibration. -/
def calProgress (g : Nat) (s : State) : State :=
  let ns := s.taking g
  if (s.calGroup g).state ≠ 2 || !(ns.all fun n => (s.calLane n).runNow.length == 3) then s
  else if ns.isEmpty then calEnd g 1 s
  else if !(s.calGroup g).runB then
    ns.foldl (fun s n => s.modCalLane n fun c => { c with runA := c.runNow, runNow := [] }) (s.modCalGroup g fun c => { c with runB := true, sub := 0 })
  else
    let r := calDecideAll ns s
    if !r.1 then calEnd g 1 r.2
    else
      let s2 := ns.foldl (fun s n => settleTrims n s) (r.2.modCalGroup g fun c => { c with state := 3 })
      calCheckApply g s2

/-- A lane leaves a calibration in progress, in RUN or APPLY (R324). -/
def calLeave (n result : Nat) (s : State) : State :=
  if (s.calLane n).taking && ((s.calGroup (n / 8)).state == 2 || (s.calGroup (n / 8)).state == 3) then
    calProgress (n / 8) (s.modCalLane n fun c => { c with taking := false, runA := [], runNow := [], res := result })
  else s

/-- The end of a lane's sub-window (R322): it proposes a step; a run without enough data ends LOW_DATA for the lane. -/
def calSubwindowOp (n : Nat) (x : SubWindow) (s : State) : State :=
  let c := s.calLane n
  if !c.taking || (s.calGroup (n / 8)).state ≠ 2 || 3 ≤ c.runNow.length then s
  else if x.low then calProgress (n / 8) (s.modCalLane n fun c => { c with taking := false, runA := [], runNow := [], res := 2 })
  else
    let thr : Int := max 1 (s.fd Rg.CAL_RUN_CTL [] 15 8)
    let bits : Int := 64 * 2 ^ s.fd Rg.CAL_RUN_CTL [] 4 0
    let step : Int := if thr * bits < x.d * 4096 then 1 else if thr * bits < -x.d * 4096 then -1 else 0
    calProgress (n / 8) (s.modCalLane n fun c => { c with runNow := c.runNow ++ [step] })

/-- CAL_SUBWINDOW_END (R322). -/
def doCalSubwindowEnd (n : Fin 96) (x : SubWindow) (s : State) : Host.Outcome State Fault Refusal :=
  live (calSubwindowOp n.val x) s

/-- The group reaches UP (R325, R326). -/
def calGroupUp (g : Nat) (s : State) : State :=
  let s1 := s.modCalGroup g fun c => { c with state := 1 }
  if bit (s.rd Rg.CAL_CTL) 0 then calTrigger g s1 else s1

/-- The group goes down (R324, R326): a calibration ends STOPPED, every run is discarded. -/
def calGroupDown (g : Nat) (s : State) : State :=
  let was := (s.calGroup g).state
  let s1 := s.modCalGroup g fun c => { c with state := 0, pending := false, result := if was = 2 ∨ was = 3 then 3 else c.result }
  let s2 := (s1.groupLanes g).foldl (fun s n => s.modCalLane n fun c => { c with taking := false, runA := [], runNow := [] }) s1
  if was = 2 ∨ was = 3 then calEvent g s2 else s2

/-- CAL_GO (R325): ignored with an invalid-write event in OFF. -/
def calGoOp (g : Nat) (s : State) : State :=
  if (s.calGroup g).state = 0 then invalidWrite (Rg.CAL_G_CMD.at [g]) s else calTrigger g s

def doCalGo (src : Source) (g : Fin 12) (s : State) : Host.Outcome State Fault Refusal :=
  .next (gatedWrite src (Rg.CAL_G_CMD.at [g.val]) 1 (calGoOp g.val) s)

/-- CAL_STOP (R325, R326): a calibration ends STOPPED and pending clears. -/
def calStopOp (g : Nat) (s : State) : State :=
  let s1 := s.modCalGroup g fun c => { c with pending := false }
  if (s.calGroup g).state = 2 ∨ (s.calGroup g).state = 3 then calEnd g 3 s1 else s1

def doCalStop (src : Source) (g : Fin 12) (s : State) : Host.Outcome State Fault Refusal :=
  .next (gatedWrite src (Rg.CAL_G_CMD.at [g.val]) 2 (calStopOp g.val) s)

/-- CAL_G_CMD (R331): go and stop in one write act as go, then stop, in the order of the fields' bits from 0 up. -/
def calCmdOp (g : Nat) (v : Word) (s : State) : State := onBits v [(0, calGoOp g), (1, calStopOp g)] s

/-- The 1 ms temperature read (R325): the group's sensor, which counts as t_hot while it fails its check. -/
def calTempOp (g : Nat) (s : State) : State :=
  let t := countedTemp s.tHot (s.thermal.temps.getD g (0, true))
  let s1 := s.modCalGroup g fun c => { c with temp := t }
  match (s.calGroup g).calTemp with
  | none => s1
  | some t0 =>
    if bit (s.rd Rg.CAL_CTL) 1 && decide ((max 1 (s.fd Rg.CAL_CTL [] 15 8) : Int) ≤ ((t - t0).natAbs : Int)) then calTrigger g s1 else s1

/-- CAL_TEMP_READ (R325). -/
def execCalTempRead (g : Fin 12) (s : State) : Host.Outcome State Fault Refusal := live (calTempOp g.val) s

/-- CAL_PERIOD_EXPIRY (R325): off when period_s is 0. -/
def execCalPeriodExpiry (g : Fin 12) (s : State) : Host.Outcome State Fault Refusal :=
  live (fun s => if s.fd Rg.CAL_CTL [] 31 16 = 0 then s else calTrigger g.val s) s

/-- CAL_APPLY_TIMEOUT (R326): NO_BOUNDARY, with the steps still staged. -/
def execCalApplyTimeout (g : Fin 12) (s : State) : Host.Outcome State Fault Refusal :=
  live (fun s => if (s.calGroup g.val).state = 3 then calEnd g.val 4 s else s) s

/-- One step of a trim from its value in force towards its staged value (R327). -/
def trimStep (n k : Nat) (s : State) : State :=
  let c := s.calLane n
  let a := c.force.get k
  let b := c.staged.get k
  let v := if a < b then a + 1 else if b < a then a - 1 else a
  let s1 := s.modCalLane n fun c => { c with
    force := c.force.put k v,
    ramping := if v = b then c.ramping.filter (· != k) else if c.ramping.contains k then c.ramping else c.ramping ++ [k],
    softPend := if v = b then c.softPend.filter (· != k) else c.softPend }
  calCheckApply (n / 8) s1

/-- Whether the clock in progress is the application boundary of port p for its transmit or its receive trims (R327): the frame boundary of
a head in HOLD or RUN that the port serves; for any other port, nothing left to send and no packet unacknowledged, or the 64th IDLE
stripe in a row. -/
def State.applyBoundary (s : State) (p : Nat) (r : PortCfg) (tx : Bool) : Bool :=
  let hs := (s.portHeads p).filter fun h => (s.tgn.get {} h).state == 3 || (s.tgn.get {} h).state == 4
  let x := s.port p
  let up := r.lanes.filter fun n => (s.lane n).state == 5
  if !hs.isEmpty then hs.any fun h => (s.tgn.get {} h).start == s.now
  else if tx then x.waiting.isEmpty && x.replay.isEmpty && x.line.isEmpty && x.cur.isEmpty && x.ctl.isEmpty
  else !up.isEmpty && up.all fun n => decide (64 ≤ (s.lane n).idleRun)

/-- CAL_TRIM_APPLY (R327): at a port's application boundary every staged trim of its lanes starts to move; EYE_OFS is
not in the data path and waits for no boundary. -/
def calTrimApplyOp (p : Nat) (s : State) : State :=
  match s.cfg.port? p with
  | none => s
  | some r => r.lanes.foldl (fun s n => ([1, 2, 3, 6, 7].filter fun k => s.applyBoundary p r (txTrim k)).foldl (fun s k =>
      if carriesFor (s.lane n) k && decide ((s.calLane n).staged.get k ≠ (s.calLane n).force.get k) then trimStep n k s else s) s) s

def doCalTrimApply (p : Fin 24) (s : State) : Host.Outcome State Fault Refusal := live (calTrimApplyOp p.val) s

/-- TRIM_RAMP_STEP (R327): after 64 blocks a ramping trim moves one more step. -/
def doTrimRampStep (n : Fin 96) (kind : Fin 8) (s : State) : Host.Outcome State Fault Refusal :=
  live (fun s => if (s.calLane n.val).ramping.contains kind.val then trimStep n.val kind.val s else s) s

/-- The write of CAL_L_DYN (R327, R328): volatile trims are staged; those that can take effect at once do. -/
def dynTrimOp (n : Nat) (v : Word) (s : State) : State :=
  if (s.cfg.portOfLane? n).isNone then s else
  let s1 := s.modCalLane n fun c => { c with
    staged := { c.staged with rxOfs := sext 6 (fld v 5 0), eyeOfs := sext 6 (fld v 13 8), rxDcd := sext 5 (fld v 20 16), piCtr := sext 5 (fld v 28 24) },
    ofsPend := true, softPend := [5, 6, 7] }
  let s2 := s1.modCalLane n fun c => { c with softPend := [5, 6, 7].filter fun k => decide (c.staged.get k ≠ c.force.get k) }
  calCheckApply (n / 8) (settleTrims n s2)

/-- DYN_TRIM_WRITE (R328). -/
def doDynTrimWrite (src : Source) (n : Fin 96) (v : Word) (s : State) : Host.Outcome State Fault Refusal :=
  .next (gatedWrite src (Rg.CAL_L_DYN.at [n.val]) v (fromBringup (Rg.CAL_L_DYN.at [n.val]) (dynTrimOp n.val v)) s)

/-- The write of CAL_L_STATIC (R327). -/
def staticTrimOp (n : Nat) (v : Word) (s : State) : State :=
  if (s.cfg.portOfLane? n).isNone then s else
  settleTrims n (s.modCalLane n fun c => { c with
    staged := { c.staged with txImp := fld v 4 0, rxTerm := fld v 12 8, txDcd := sext 5 (fld v 20 16) } })

/-- STATIC_TRIM_WRITE (R327). -/
def doStaticTrimWrite (src : Source) (n : Fin 96) (v : Word) (s : State) : Host.Outcome State Fault Refusal :=
  .next (gatedWrite src (Rg.CAL_L_STATIC.at [n.val]) v (fromBringup (Rg.CAL_L_STATIC.at [n.val]) (staticTrimOp n.val v)) s)

/-- Clears of CAL_CNT_CLR (R331). -/
def calCntClrOp (v : Word) (s : State) : State :=
  let s1 := onBits v ((List.range 12).map fun g => (g, clearCnt Rg.CAL_G_RUN_CNT [g])) s
  if bit v 31 then (List.range 96).foldl (fun s n => clearCnt Rg.CAL_L_DISAGREE_CNT [n] s) s1 else s1

/-- CAL_CNT_CLR (R331). -/
def doCalCntClr (src : Source) (v : Word) (s : State) : Host.Outcome State Fault Refusal :=
  .next (gatedWrite src Rg.CAL_CNT_CLR.at v (calCntClrOp v) s)

/-- The word of CAL_L_DYN or CAL_L_FORCE from trims and the RX_OFS value to show (R331). -/
def dynWord (t : Trims) (ofs : Int) : Word :=
  pack [(24, uint 5 t.piCtr), (16, uint 5 t.rxDcd), (8, uint 6 t.eyeOfs), (0, uint 6 ofs)]

/-- The word a CAL register that reports state reads (R331); an unassigned lane's registers read 0. -/
def readCal (a : Nat) (s : State) : Option Word :=
  let off := a % 0x100000
  if 0x10000 ≤ off then
    let n := (off - 0x10000) / 0x100
    if (s.cfg.portOfLane? n).isNone then some 0 else
    let c := s.calLane n
    let diff := fun k => b2n (decide (c.staged.get k ≠ c.force.get k))
    if a = Rg.CAL_L_STATIC.at [n] then
      some (pack [(16, uint 5 c.staged.txDcd), (8, uint 5 c.staged.rxTerm), (0, uint 5 c.staged.txImp)])
    else if a = Rg.CAL_L_DYN.at [n] then some (dynWord c.staged (if c.ofsPend then c.staged.rxOfs else (s.lane n).trim))
    else if a = Rg.CAL_L_FORCE.at [n] then some (dynWord c.force (s.lane n).trim)
    else if a = Rg.CAL_L_STATUS.at [n] then
      some (pack [(11, if diff 1 + diff 2 + diff 3 = 0 then 0 else 1), (10, b2n c.ofsPend), (7, diff 5), (8, diff 6), (9, diff 7), (0, c.res)])
    else none
  else match Rg.CAL_G_STATUS.ixOf a with
    | some [g] =>
      let c := s.calGroup g
      some (pack [(16, c.iter), (8, c.result), (3, b2n c.pending), (0, c.state)])
    | _ => match Rg.CAL_G_TEMP.ixOf a with
      | some [g] => some (pack [(16, uint 16 ((s.calGroup g).calTemp.getD 0)), (0, uint 16 (s.calGroup g).temp)])
      | _ => none

end Sys2Proof.Machine
end

