-- ==== Sys2Proof/Machine/Lne.lean ====
section
/-!
DEFINITION. LNE: serial lanes and lane groups: line coding, bring-up, power states, drop-out and recovery, slicer
tracking, eye scan, loopback and pattern test (R235 to R257).
-/
namespace Sys2Proof.Machine

/-! ### Blocks on the line (R237 to R239, R245) -/

/-- A 64-bit payload descrambled, and the history afterwards (R238). `hist` holds the last 58 received payload bits, the
newest in bit 0. -/
def descramble (hist : Nat) (raw : Nat) : Nat × Nat :=
  (List.range 64).foldl (fun acc i =>
    let b := b2n (raw.testBit i)
    let d := (b + b2n (acc.2.testBit 38) + b2n (acc.2.testBit 57)) % 2
    (acc.1 + d * 2 ^ i, (acc.2 * 2 + b) % 2 ^ 58)) (0, hist)

/-- Whether a raw payload is a TRAIN block's (R245). -/
def isTrain (raw : Nat) : Bool :=
  bitsOf raw 7 0 == 0x2D && bitsOf raw 27 8 == 0xFFFFF && bitsOf raw 47 28 == 0 && bitsOf raw 55 55 == 0 && bitsOf raw 63 60 == 0

/-- The index of lane n within its port (R243, LNE_L_STATUS.idx). -/
def State.laneIdx (s : State) (n : Nat) : Nat := match s.cfg.portOfLane? n with | some r => n - r.first | none => 0

/-- Whether lane n is assigned to a port. -/
def State.assigned (s : State) (n : Nat) : Bool := (s.cfg.portOfLane? n).isSome

/-- Sets a sticky flag of a lane. -/
def laneFlag (n b : Nat) (s : State) : State :=
  s.wr Rg.LNE_L_FLAGS [n] (setBit (s.rd Rg.LNE_L_FLAGS [n]) b true)

/-- Sets a sticky flag of a lane with its FLAG record. -/
def laneFlagEvent (n b : Nat) (s : State) : State := raiseFlag 4 n (Rg.LNE_L_FLAGS.at [n]) b 0 (laneFlag n b s)

/-! ### State changes (R242 to R251) -/

/-- The locks and runs of a lane that starts to train anew. -/
def Lane.fresh (l : Lane) : Lane :=
  { l with cdrLock := false, commaRun := 0, commaLock := false, ownRun := 0, badIdxRun := 0, readyRun := 0, hdrRun := 0, blkLock := false,
           idleRun := 0, trainRun := 0, badHdrs := [], winN := 0, winOnes := 0, rxPm := 0, txPm := 0, txWake := none,
           pmOut := 0, pmRun := 0, pmCode := 0, waking := false }

/-- Stops a running eye scan: partial counts stay, and one event is raised (R254). -/
def eyeHalt (n : Nat) (s : State) : State :=
  if (s.lane n).eyeBusy then
    laneFlagEvent n 3 (s.modLane n fun l => { l with eyeBusy := false, eyeInc := true })
  else s

/-- A group in BRINGUP whose assigned lanes are all ACTIVE or FAILED is UP (R242); CAL and the boot learn of it. -/
def groupCheck (g : Nat) (s : State) : State :=
  if (s.group g).state = 3 && (s.groupLanes g).all fun n => (s.lane n).state == 5 || (s.lane n).state == 8 then
    lanesCheck (calGroupUp g (s.modGroup g fun x => { x with state := 4 }))
  else s

/-- What every change of a lane's state brings with it: an eye scan and a calibration that it ends (R254, R324), the trims
that can now take effect (R327, R328), and LNK's notice of a lane that leaves ACTIVE or fails (R244). -/
def laneLeft (n was : Nat) (s : State) : State :=
  let st := (s.lane n).state
  let s1 := if st = 1 ∨ st = 6 ∨ st = 8 then calLeave n 3 (eyeHalt n s) else s
  let s2 := calCheckApply (n / 8) (settleTrims n s1)
  if (was = 5 && st ≠ 5) || st = 8 then lnkLaneDown n s2 else s2

/-- A lane enters a state other than ACTIVE and FAILED. -/
def laneTo (n st : Nat) (s : State) : State :=
  laneLeft n (s.lane n).state (s.modLane n fun l => { l.fresh with state := st, phase := 0 })

/-- A lane enters FAILED: it is mapped out (R17, R244, R251). -/
def laneFail (n cause : Nat) (s : State) : State :=
  let was := (s.lane n).state
  let s1 := s.modLane n fun l => { l.fresh with state := 8, phase := 0, cause := cause, waiting := false }
  groupCheck (n / 8) (laneLeft n was (unitOut 4 n s1))

/-- A failed attempt (R244): the third enters FAILED; else the lane waits 1 ms in DETECT. -/
def attemptFail (n cause : Nat) (s : State) : State :=
  let s1 := s.modLane n fun l => { l with attempts := l.attempts + 1, cause := cause }
  if 3 ≤ (s1.lane n).attempts then laneFail n cause s1
  else (laneTo n 2 s1).modLane n fun l => { l with waiting := true }

/-- rec_lim (R251, R257). -/
def State.recLim (s : State) : Nat := max 1 (s.fd Rg.LNE_BRING_CTL [] 15 8)

/-- An entry into RECOVER (R246, R250, R251): it adds to the recovery budget; an entry that brings it to rec_lim sends the
lane to FAILED instead. -/
def enterRecover (n : Nat) (s : State) : State :=
  let b := (s.lane n).budget + 1
  let s1 := s.modLane n fun l => { l with budget := b }
  if s.recLim ≤ b then laneFail n 6 (laneFlag n 2 s1) else laneTo n 6 s1

/-- A drop-out (R250). -/
def dropOut (n : Nat) (s : State) : State := enterRecover n (laneFlagEvent n 0 s)

/-- A lane enters ACTIVE from SYNC or RECOVER (R243, R251). -/
def laneUp (n : Nat) (s : State) : State :=
  let was := (s.lane n).state
  let s1 := s.modLane n fun l => { l with state := 5, phase := 0, trainRun := 0, idleRun := 0, badHdrs := [], winN := 0, winOnes := 0 }
  let s2 := if was = 6 then count1 Rg.LNE_L_RECOVER_CNT [n] (laneFlag n 1 s1) else s1
  groupCheck (n / 8) (lnkLaneUp n s2)

/-! ### Receiving blocks -/

/-- A TRAIN block while training: comma lock after 64, the run with the own index, and ready blocks (R243, R245). -/
def trainLocks (l : Lane) (idx raw : Nat) : Lane :=
  let own := bitsOf raw 59 56 == idx
  let run := min 64 (l.commaRun + 1)
  { l with
    cdrLock := true, commaRun := run, commaLock := l.commaLock || run == 64
    ownRun := if own then min 64 (l.ownRun + 1) else 0
    badIdxRun := if l.commaLock && !own then l.badIdxRun + 1 else 0
    readyRun := if l.commaLock && bitsOf raw 54 48 == 1 then l.readyRun + 1 else l.readyRun }

/-- A block that is no TRAIN block, or a broken comma, while training: the run of commas starts again, or the run of
locked blocks with a wrong index ends (R243). -/
def trainBroken (l : Lane) : Lane := if l.commaLock then { l with badIdxRun := 0 } else { l with commaRun := 0, ownRun := 0 }

/-- The step of R243 out of training, after a block. -/
def trainStep (n : Nat) (s : State) : State :=
  let l := s.lane n
  if l.state = 3 then
    if 64 ≤ l.badIdxRun then attemptFail n 4 s
    else if l.cdrLock && l.commaLock && decide (16 ≤ l.readyRun) then
      s.modLane n fun l => { l with state := 4, hdrRun := 0, blkLock := false, idleRun := 0, trainRun := 0 }
    else s
  else if l.state = 6 && l.phase = 0 && l.cdrLock && l.commaLock && decide (16 ≤ l.readyRun) then
    s.modLane n fun l => { l with phase := 1, hdrRun := 0, blkLock := false, idleRun := 0, trainRun := 0 }
  else s

/-- A block while synchronising (R246): 64 valid headers give block lock, then 16 correct IDLE blocks in a row; 4 TRAIN
blocks in a row show a recovering peer. -/
def syncLocks (l : Lane) (valid train goodIdle : Bool) : Lane :=
  let run := if valid then min 64 (l.hdrRun + 1) else 0
  { l with
    hdrRun := run, blkLock := (l.blkLock && valid) || run == 64
    idleRun := if l.blkLock && goodIdle then l.idleRun + 1 else 0
    trainRun := if train then l.trainRun + 1 else 0 }

/-- The step of R243 out of synchronisation, after a block. -/
def syncStep (n : Nat) (s : State) : State :=
  let l := s.lane n
  if 16 ≤ l.idleRun then laneUp n s
  else if 4 ≤ l.trainRun then
    if l.state = 4 then enterRecover n s else s.modLane n fun l => { l.fresh with phase := 0 }
  else s

/-- A receiver that wakes from quiet holds block lock over 64 blocks; from dormant it trains to comma lock and then
synchronises (R249). -/
def wakeLocks (l : Lane) (idx raw : Nat) (valid train goodIdle : Bool) : Lane :=
  if l.rxPm = 2 && !l.commaLock then if train then trainLocks l idx raw else trainBroken l
  else syncLocks l valid train goodIdle

/-- The end of a wake: block lock, from dormant with the 16 IDLE blocks of SYNC. -/
def wakeDone (l : Lane) : Bool := l.blkLock && (l.rxPm == 1 || decide (16 ≤ l.idleRun))

/-- The link control types that R262 uses. -/
def linkType (t : Nat) : Bool := t == 0x80 || t == 0x90 || t == 0x91 || t == 0xA0 || t == 0xA1 || t == 0xA2 || t == 0xA3

/-- Whether a control block's type is handled (R239, R262); LANE_PM needs code 1 or 2. -/
def typeUsed (plain : Nat) : Bool :=
  let t := bitsOf plain 7 0
  let pm := bitsOf plain 15 8
  t == 0x1E || t == 0x2D || t == 0x4B || (t == 0x55 && (pm == 1 || pm == 2)) || linkType t

/-- A block on an ACTIVE lane: the invalid headers of the last 1,024 blocks, the tracker's window while it is enabled, and LANE_PM,
TRAIN and IDLE runs (R246, R247, R249, R250, R327). -/
def activeLocks (track : Bool) (l : Lane) (hdr raw plain : Nat) (valid train : Bool) : Lane :=
  let isPm := hdr == 2 && !train && bitsOf plain 7 0 == 0x55 && (bitsOf plain 15 8 == 1 || bitsOf plain 15 8 == 2)
  let code := bitsOf plain 15 8
  { l with
    badHdrs := ((l.badHdrs.map (· + 1)).filter fun k => decide (k < 1024)) ++ (if valid then [] else [0])
    winN := if !track then 0 else if hdr = 1 then l.winN + 1 else l.winN
    winOnes := if !track then 0 else if hdr = 1 then l.winOnes + popCount 64 raw else l.winOnes
    trainRun := if train then l.trainRun + 1 else 0
    idleRun := if hdr == 2 && !train && plain == 0x1E then min 64 (l.idleRun + 1) else 0
    pmRun := if isPm then (if l.pmCode = code then l.pmRun + 1 else 1) else 0
    pmCode := if isPm then code else 0 }

/-- The step of R250 and R246 on an ACTIVE lane, after a block. -/
def activeStep (n : Nat) (s : State) : State :=
  let l := s.lane n
  if 16 ≤ l.badHdrs.length then dropOut n s else if 4 ≤ l.trainRun then enterRecover n s else s

/-- Pattern bits reach the checker (R255): it takes its first 31 as they come and then predicts each from bits 28 and 31
back. Bits compared and errors, and the history, newest first. -/
def prbsCheck (hist : List Bool) (bits : List Bool) : Nat × Nat × List Bool :=
  bits.foldl (fun acc b =>
    let h := acc.2.2
    if h.length < 31 then (acc.1, acc.2.1, b :: h)
    else
      let p := xor (h.getD 27 false) (h.getD 30 false)
      (acc.1 + 1, acc.2.1 + b2n (p != b), p :: h.take 30)) (0, 0, hist)

/-- The 66 line bits of a block, in the order sent (R237). -/
def lineBits (hdr raw : Nat) : List Bool := [hdr.testBit 1, hdr.testBit 0] ++ (List.range 64).map raw.testBit

/-- The loop acknowledgements that a lane sends before it retransmits (R255; assumption log 51). -/
def loopAcks : Nat := 16

/-- A block on a lane in TEST (R255). A lane in near-end loopback receives its own bits and not the line's. -/
def testBlock (n hdr raw : Nat) (train : Bool) (s : State) : State :=
  let l := s.lane n
  if l.test = 1 ∨ l.test = 2 then s
  else if l.prbs then
    let r := prbsCheck l.prbsHist (lineBits hdr raw)
    count Rg.LNE_L_PRBS_ERR [n] r.2.1 (count Rg.LNE_L_PRBS_BITS [n] r.1 (s.modLane n fun l => { l with prbsHist := r.2.2 }))
  else if l.looping then s.modLane n fun l => if l.acks < loopAcks then l else { l with loopBuf := l.loopBuf ++ [(hdr, raw)] }
  else if !train then s.modLane n trainBroken
  else if l.test = 4 && bitsOf raw 54 48 == 3 then
    s.modLane n fun l => { l with ackRun := l.ackRun + 1, prbs := decide (16 ≤ l.ackRun + 1), prbsHist := [] }
  else if l.test = 3 then
    s.modLane n fun l => if bitsOf raw 54 48 == 2
      then { l with commaRun := min 64 (l.commaRun + 1), commaLock := l.commaLock || l.commaRun + 1 == 64,
                    looping := l.commaLock || l.commaRun + 1 == 64 }
      else trainBroken l
  else s

/-- A scan that has compared 2^dwell bits completes (R254), and an EYE_OFS that waited for its end takes effect (R327). -/
def eyeDone (n : Nat) (s : State) : State :=
  if decide (2 ^ s.fd Rg.LNE_L_EYE_CTL [n] 29 24 ≤ (s.cnt (Rg.LNE_L_EYE_BITS.at [n])).val) then
    calCheckApply (n / 8) (settleTrims n (s.modLane n fun l => { l with eyeBusy := false, eyeDone := true }))
  else s

/-- Adds a block's bits to a running scan, at most up to 2^dwell. Where the command does not carry the disagreements, they are a free
value from 0 to the bits compared. -/
def eyeBlock (n : Nat) (dis : Option Nat) (s : State) : State :=
  if !(s.lane n).eyeBusy || (s.lane n).rxPm != 0 then s else
  let m := min 66 (2 ^ s.fd Rg.LNE_L_EYE_CTL [n] 29 24 - (s.cnt (Rg.LNE_L_EYE_BITS.at [n])).val)
  let q := match dis with
    | some d => (min d m, s)
    | none => (s.draw.1.toNat % (m + 1), s.draw.2)
  eyeDone n (count Rg.LNE_L_EYE_ERR [n] q.1 (count Rg.LNE_L_EYE_BITS [n] m q.2))

/-- The port of lane n, while packets can arrive on that lane: the port is ACTIVE and the lane in its width. -/
def State.servedPort? (s : State) (n : Nat) : Option Nat :=
  match s.cfg.portOfLane? n with
  | some r => if (s.port r.port).state = 4 && (s.port r.port).mask.testBit (n - r.first) then some r.port else none
  | none => none

/-- What LNK learns of a block on an ACTIVE lane (R237, R239, R262, R263): an error indication falls into the packet that is arriving; an
IDLE block tells that none is; an unused link control type is a framing error. -/
def lnkBlock (n : Nat) (bad idle unusedLink : Bool) (s : State) : State :=
  match s.servedPort? n with
  | none => s
  | some p =>
    if unusedLink then sendNak p 3 s
    else if bad then s.modPort p fun x => { x with rxErr := true }
    else if idle then s.modPort p fun x => { x with rxErr := false }
    else s

/-- A discarded block counts (R237, R239). -/
def headerCheck (n : Nat) (bad : Bool) (s : State) : State := if bad then count1 Rg.LNE_L_HDR_ERR_CNT [n] s else s

/-- A receiver that wakes from quiet and sees 4 TRAIN blocks in a row treats its peer as recovering (R246). -/
def wakeStep (n pm : Nat) (s : State) : State := if pm = 1 && decide (4 ≤ (s.lane n).trainRun) then enterRecover n s else s

/-- A 66-bit block arrives (R237, R239, R243, R246): `hdr` is its sync header with the bit sent first as bit 1, `raw` its
payload as sliced, `dis` the bits on which the offset sampler disagreed, where they are known. -/
def blockIn (n hdr raw : Nat) (dis : Option Nat) (s0 : State) : State :=
  let s := eyeBlock n dis s0
  let l := s.lane n
  let idx := s.laneIdx n
  let valid := hdr == 1 || hdr == 2
  let train := hdr == 2 && isTrain raw
  let d := descramble l.scr raw
  let s1 := s.modLane n fun l => { l with scr := d.2 }
  let goodIdle := hdr == 2 && !train && d.1 == 0x1E
  let bad := !valid || (hdr == 2 && !train && !typeUsed d.1)
  match l.state with
  | 3 =>
    trainStep n ((headerCheck n (!valid) s1).modLane n fun l => if train then trainLocks l idx raw else trainBroken l)
  | 4 =>
    syncStep n ((headerCheck n bad s1).modLane n fun l => syncLocks l valid train goodIdle)
  | 5 =>
    if l.rxPm ≠ 0 then
      if l.waking then
        wakeStep n l.rxPm ((headerCheck n (if l.blkLock then bad else !valid) s1).modLane n fun l =>
          let w := wakeLocks l idx raw valid train goodIdle
          if wakeDone w then { w with waking := false, rxPm := 0, trainRun := 0, badHdrs := [] } else w)
      else s0
    else
      let unusedLink := hdr == 2 && !train && decide (0x80 ≤ d.1 % 256) && !linkType (d.1 % 256)
      activeStep n (lnkBlock n bad goodIdle unusedLink ((headerCheck n bad s1).modLane n fun l =>
        activeLocks (bit (s.rd Rg.LNE_TRK_CTL) 8) l hdr raw d.1 valid train))
  | 6 =>
    if l.phase = 0 then trainStep n ((headerCheck n (!valid) s1).modLane n fun l => if train then trainLocks l idx raw else trainBroken l)
    else
      syncStep n ((headerCheck n bad s1).modLane n fun l => syncLocks l valid train goodIdle)
  | 7 => testBlock n hdr raw train s
  | _ => s0

/-- TRAIN_BLOCK_RECEIVE (R245): a control block whose payload is as given. -/
def doTrainBlockReceive (n : Fin 96) (raw : BitVec 64) (s : State) : Host.Outcome State Fault Refusal :=
  live (blockIn n.val 2 raw.toNat none) s

/-- IDLE_BLOCK_RECEIVE (R246): a scrambled control block. -/
def doIdleBlockReceive (n : Fin 96) (raw : BitVec 64) (s : State) : Host.Outcome State Fault Refusal :=
  live (blockIn n.val 2 raw.toNat none) s

/-- DATA_BLOCK_RECEIVE (R237): a block with any header. -/
def doDataBlockReceive (n : Fin 96) (hdr : Fin 4) (raw : BitVec 64) (eye : Nat) (s : State) : Host.Outcome State Fault Refusal :=
  live (blockIn n.val hdr.val raw.toNat (some eye)) s

/-- The line goes to electrical idle (R249): after two LANE_PM blocks with one code the receiver enters that state. -/
def lineIdle (n : Nat) (s : State) : State :=
  let l := s.lane n
  if l.state = 5 && l.rxPm = 0 && decide (2 ≤ l.pmRun) then
    calCheckApply (n / 8) (settleTrims n (s.modLane n fun l => { l with rxPm := l.pmCode, pmRun := 0, pmCode := 0 }))
  else s

/-- LANE_PM_RECEIVE (R249): a scrambled LANE_PM block, and whether the line then goes to electrical idle. -/
def doLanePmReceive (n : Fin 96) (raw : BitVec 64) (idle : Bool) (s : State) : Host.Outcome State Fault Refusal :=
  live (fun s =>
    let s1 := blockIn n.val 2 raw.toNat none s
    if idle then lineIdle n.val s1 else s1) s

/-- LANE_WAKE (R249): a transition on a quiet or dormant line. -/
def doLaneWake (n : Fin 96) (s : State) : Host.Outcome State Fault Refusal :=
  live (fun s =>
    let l := s.lane n.val
    if l.state = 5 && l.rxPm ≠ 0 then
      s.modLane n.val fun l => { l with
        waking := true, commaRun := 0, commaLock := l.rxPm == 1, ownRun := 0, hdrRun := 0, blkLock := false, idleRun := 0, trainRun := 0 }
    else s) s

/-- LANE_WAKE_TIMEOUT (R249): no block lock within 4 times the bound is a drop-out. -/
def doLaneWakeTimeout (n : Fin 96) (s : State) : Host.Outcome State Fault Refusal :=
  live (fun s => if (s.lane n.val).state = 5 && (s.lane n.val).waking then dropOut n.val s else s) s

/-- LANE_DROPOUT (R250): no signal for 100 ns, loss of lock, or too many invalid headers, in an active receive direction. -/
def doLaneDropout (n : Fin 96) (s : State) : Host.Outcome State Fault Refusal :=
  live (fun s => if (s.lane n.val).state = 5 && (s.lane n.val).rxPm = 0 then dropOut n.val s else s) s

/-! ### Groups (R242) -/

/-- A write of go (R242): only in OFF, and from BRINGUP onwards (R394). -/
def groupGoOp (g : Nat) (s : State) : State :=
  fromBringup (Rg.LNE_G_CTL.at [g]) (fun s =>
    if (s.group g).state = 1 then request 2 g (s.modGroup g fun x => { x with state := 2 })
    else invalidWrite (Rg.LNE_G_CTL.at [g]) s) s

/-- Every lane of the group that is not FAILED enters OFF (R242). -/
def groupOff (g : Nat) (s : State) : State :=
  (s.groupLanes g).foldl (fun s n => if (s.lane n).state = 8 ∨ (s.lane n).state = 1 then s
    else (laneTo n 1 s).modLane n fun l => { l with waiting := false }) s

/-- A write of down (R242): the request is withdrawn or the grant ends; ignored in GATED and OFF. -/
def groupDownOp (g : Nat) (s : State) : State :=
  let st := (s.group g).state
  if st = 2 then withdraw 2 g (s.modGroup g fun x => { x with state := 1 })
  else if st = 3 ∨ st = 4 then
    groupOff g (calGroupDown g (release 2 g (s.modGroup g fun x => { x with state := 1 })))
  else invalidWrite (Rg.LNE_G_CTL.at [g]) s

/-- The write of LNE_G_CTL (R242, R257): rate is staged, then down and go act. -/
def groupCtlOp (g : Nat) (v : Word) (s : State) : State :=
  onBits v [(30, groupDownOp g), (31, groupGoOp g)] (storeWrite Rg.LNE_G_CTL [g] v s)

/-- GROUP_GO (R242): a write whose go bit is 1. -/
def doGroupGo (src : Source) (g : Fin 12) (v : Word) (s : State) : Host.Outcome State Fault Refusal :=
  .next (gatedWrite src (Rg.LNE_G_CTL.at [g.val]) (setBit v 31 true) (groupCtlOp g.val (setBit v 31 true)) s)

/-- GROUP_DOWN (R242): a write whose down bit is 1. -/
def doGroupDown (src : Source) (g : Fin 12) (v : Word) (s : State) : Host.Outcome State Fault Refusal :=
  .next (gatedWrite src (Rg.LNE_G_CTL.at [g.val]) (setBit v 30 true) (groupCtlOp g.val (setBit v 30 true)) s)

/-- The grant arrives (R236, R242): the staged rate takes effect, attempts restart, and assigned lanes in OFF enter DETECT. -/
def groupGrantOp (g : Nat) (s : State) : State :=
  if (s.group g).state ≠ 2 then s else
  match takeGrant 2 g s with
  | none => s
  | some s1 =>
    let s2 := s1.modGroup g fun x => { x with state := 3, rate := s1.fd Rg.LNE_G_CTL [g] 1 0 }
    groupCheck g ((s2.groupLanes g).foldl (fun s n =>
      s.modLane n fun l => { l with attempts := 0, waiting := false, state := if l.state = 1 then 2 else l.state }) s2)

/-- GROUP_GRANT_REFUSAL (R242): to OFF, with grant_reason and one event. -/
def doGroupGrantRefusal (g : Fin 12) (s : State) : Host.Outcome State Fault Refusal :=
  live (fun s =>
    match takeRefusal 2 g.val s with
    | none => s
    | some (r, s1) =>
      if (s.group g.val).state ≠ 2 then s1 else
      raiseRefusal 4 g.val (Rg.LNE_G_STATUS.at [g.val]) r 0 (s1.modGroup g.val fun x => { x with state := 1, reason := r })) s

/-! ### Lane limits (R243, R244, R251) -/

/-- DETECT_TEST (R245): far-end termination leads to TRAIN; no test is made during the wait after a failed attempt. -/
def doDetectTest (n : Fin 96) (term : Bool) (s : State) : Host.Outcome State Fault Refusal :=
  live (fun s => if (s.lane n.val).state = 2 && !(s.lane n.val).waiting && term then laneTo n.val 3 s else s) s

/-- DETECT_TIMEOUT (R243): cause NO_DETECT. -/
def doDetectTimeout (n : Fin 96) (s : State) : Host.Outcome State Fault Refusal :=
  live (fun s => if (s.lane n.val).state = 2 && !(s.lane n.val).waiting then attemptFail n.val 1 s else s) s

/-- TRAIN_TIMEOUT (R243). -/
def doTrainTimeout (n : Fin 96) (s : State) : Host.Outcome State Fault Refusal :=
  live (fun s => if (s.lane n.val).state = 3 then attemptFail n.val 2 s else s) s

/-- SYNC_TIMEOUT (R243). -/
def doSyncTimeout (n : Fin 96) (s : State) : Host.Outcome State Fault Refusal :=
  live (fun s => if (s.lane n.val).state = 4 then attemptFail n.val 3 s else s) s

/-- ATTEMPT_WAIT_END (R244): the 1 ms wait ends. -/
def doAttemptWaitEnd (n : Fin 96) (s : State) : Host.Outcome State Fault Refusal :=
  live (fun s => if (s.lane n.val).state = 2 then s.modLane n.val fun l => { l with waiting := false } else s) s

/-- RECOVER_TIMEOUT (R251). -/
def doRecoverTimeout (n : Fin 96) (s : State) : Host.Outcome State Fault Refusal :=
  live (fun s => if (s.lane n.val).state = 6 then laneFail n.val 5 (laneFlag n.val 2 s) else s) s

/-- RECOVER_BUDGET_DECAY (R251). -/
def execRecoverBudgetDecay (n : Fin 96) (s : State) : Host.Outcome State Fault Refusal :=
  live (fun s => s.modLane n.val fun l => { l with budget := l.budget - 1 }) s

/-! ### Lane commands (R243, R254, R255, R257) -/

/-- A write of retry (R243, R244). -/
def laneRetryOp (n : Nat) (s : State) : State :=
  let st := (s.lane n).state
  if (st = 1 ∨ st = 8) ∧ (s.group (n / 8)).state = 4 then
    let s1 := laneTo n 2 (s.modLane n fun l => { l with attempts := 0, waiting := false })
    if st = 8 then unitBack 4 n s1 else s1
  else invalidWrite (Rg.LNE_L_CTL.at [n]) s

/-- A write of stop (R257). -/
def laneStopOp (n : Nat) (s : State) : State :=
  let st := (s.lane n).state
  if 2 ≤ st ∧ st ≤ 7 then (laneTo n 1 s).modLane n fun l => { l with waiting := false } else s

/-- Enters a test mode from OFF (R255): modes 1 and 2 send and check PRBS31 at once. Where the pattern starts
is a free value. -/
def enterTest (n mode : Nat) (s : State) : State :=
  let r := (laneTo n 7 s).draw
  r.2.modLane n fun l => { l with
    test := mode, looping := false, ackRun := 0, prbs := mode == 1 || mode == 2, prbsHist := []
    prbsTx := 1 + r.1.toNat % (2 ^ 31 - 1), acks := 0, loopBuf := [] }

/-- A write of the field test (R255, R257). -/
def laneTestOp (n mode : Nat) (s : State) : State :=
  let st := (s.lane n).state
  let a := Rg.LNE_L_CTL.at [n]
  let stored := s.setWord a (setFld (s.word a) 6 4 mode)
  if mode = 0 then if st = 7 then laneTo n 1 stored else stored
  else if 5 ≤ mode then invalidWrite a s
  else if st = 7 then enterTest n mode (laneTo n 1 stored)
  else if st = 1 then if (s.group (n / 8)).state = 4 then enterTest n mode stored else stored
  else invalidWrite a s

/-- A write of eye_go (R254, R324). -/
def eyeGoOp (n : Nat) (s : State) : State :=
  let l := s.lane n
  if (l.state = 5 || l.state = 7) && !l.eyeBusy then
    clearCnt Rg.LNE_L_EYE_ERR [n] (clearCnt Rg.LNE_L_EYE_BITS [n]
      (calLeave n 3 (s.modLane n fun l => { l with eyeBusy := true, eyeDone := false, eyeInc := false })))
  else invalidWrite (Rg.LNE_L_CTL.at [n]) s

/-- The write of LNE_L_CTL (R257): test, stop, retry, eye_stop and eye_go act in this order; an unassigned lane ignores it. -/
def laneCtlOp (n : Nat) (v : Word) (s : State) : State :=
  if !s.assigned n then s else
  let s1 := if fld v 6 4 = 0 && (s.lane n).state ≠ 7 && s.fd Rg.LNE_L_CTL [n] 6 4 = 0 then s else laneTestOp n (fld v 6 4) s
  onBits v [(30, laneStopOp n), (31, laneRetryOp n), (1, fun s => calCheckApply (n / 8) (settleTrims n (eyeHalt n s))), (0, eyeGoOp n)] s1

/-- LANE_RETRY (R243): a write whose retry bit is 1. -/
def doLaneRetry (src : Source) (n : Fin 96) (v : Word) (s : State) : Host.Outcome State Fault Refusal :=
  .next (gatedWrite src (Rg.LNE_L_CTL.at [n.val]) (setBit v 31 true) (laneCtlOp n.val (setBit v 31 true)) s)

/-- LANE_STOP (R243): a write whose stop bit is 1. -/
def doLaneStop (src : Source) (n : Fin 96) (v : Word) (s : State) : Host.Outcome State Fault Refusal :=
  .next (gatedWrite src (Rg.LNE_L_CTL.at [n.val]) (setBit v 30 true) (laneCtlOp n.val (setBit v 30 true)) s)

/-- LANE_TEST_MODE (R255): a write of the field test. -/
def doLaneTestMode (src : Source) (n : Fin 96) (v : Word) (s : State) : Host.Outcome State Fault Refusal :=
  .next (gatedWrite src (Rg.LNE_L_CTL.at [n.val]) v (laneCtlOp n.val v) s)

/-- LOOPBACK_SIGNAL_LOSS (R255): a lane that retransmits what it receives goes to OFF. -/
def doLoopbackSignalLoss (n : Fin 96) (s : State) : Host.Outcome State Fault Refusal :=
  live (fun s => if (s.lane n.val).state = 7 && (s.lane n.val).test = 3 && (s.lane n.val).looping then laneTo n.val 1 s else s) s

/-- EYE_GO (R254): a write whose eye_go bit is 1. -/
def doEyeGo (src : Source) (n : Fin 96) (v : Word) (s : State) : Host.Outcome State Fault Refusal :=
  .next (gatedWrite src (Rg.LNE_L_CTL.at [n.val]) (setBit v 0 true) (laneCtlOp n.val (setBit v 0 true)) s)

/-- EYE_STOP (R254): a write whose eye_stop bit is 1. -/
def doEyeStop (src : Source) (n : Fin 96) (v : Word) (s : State) : Host.Outcome State Fault Refusal :=
  .next (gatedWrite src (Rg.LNE_L_CTL.at [n.val]) (setBit v 1 true) (laneCtlOp n.val (setBit v 1 true)) s)

/-- EYE_SCAN_COMPLETE (R254): the bits compared reach 2^dwell; `errs` are the disagreements among those that no block row
carried. -/
def doEyeScanComplete (n : Fin 96) (errs : Nat) (s : State) : Host.Outcome State Fault Refusal :=
  live (fun s =>
    if (s.lane n.val).eyeBusy && (s.lane n.val).rxPm = 0 then
      let left := 2 ^ s.fd Rg.LNE_L_EYE_CTL [n.val] 29 24 - (s.cnt (Rg.LNE_L_EYE_BITS.at [n.val])).val
      eyeDone n.val (count Rg.LNE_L_EYE_ERR [n.val] (min errs left) (count Rg.LNE_L_EYE_BITS [n.val] left s))
    else s) s

/-! ### Slicer-offset tracking (R247) -/

/-- The step of a lane's trim at a window's end. -/
def trackStep (thr : Nat) (l : Lane) : Lane × Bool :=
  let d : Int := (l.winOnes : Int) - 32 * (l.winN : Int)
  let next : Lane := { l with winN := 0, winOnes := 0 }
  if l.winN < 4096 then ({ next with frozen := true }, false)
  else if d.natAbs * 4096 > thr * 64 * l.winN then
    let t := if 0 < d then l.trim + 1 else l.trim - 1
    if t < -32 ∨ 31 < t then ({ next with frozen := false }, true) else ({ next with frozen := false, trim := t }, false)
  else ({ next with frozen := false }, false)

/-- TRACKER_WINDOW_END (R247). -/
def trackerWindowOp (n : Nat) (s : State) : State :=
  let l := s.lane n
  if l.state ≠ 5 || l.rxPm ≠ 0 || !bit (s.rd Rg.LNE_TRK_CTL) 8 then s else
  let r := trackStep (max 1 (s.fd Rg.LNE_TRK_CTL [] 7 0)) l
  if r.2 then laneFlagEvent n 4 (s.setLane n r.1) else s.setLane n r.1

def doTrackerWindowEnd (n : Fin 96) (s : State) : Host.Outcome State Fault Refusal := live (trackerWindowOp n.val) s

/-! ### Registers (R257) -/

/-- Clears of LNE_L_CNT_CLR (R257). -/
def lneLCntClrOp (n : Nat) (v : Word) (s : State) : State :=
  if !s.assigned n then s else
  onBits v [(0, clearCnt Rg.LNE_L_HDR_ERR_CNT [n]), (1, clearCnt Rg.LNE_L_RECOVER_CNT [n]),
    (2, fun s => clearCnt Rg.LNE_L_PRBS_ERR [n] (clearCnt Rg.LNE_L_PRBS_BITS [n] s))] s

/-- LNE_L_CNT_CLR (R257). -/
def doLneLCntClr (src : Source) (n : Fin 96) (v : Word) (s : State) : Host.Outcome State Fault Refusal :=
  .next (gatedWrite src (Rg.LNE_L_CNT_CLR.at [n.val]) v (lneLCntClrOp n.val v) s)

/-- The equalisation set of a lane at its group's rate in force (R241). -/
def State.eqSet (s : State) (n : Nat) : EqSet := ((s.cfg.eq.getD n {}).sets.getD (s.group (n / 8)).rate {})

/-- The word of a lane's report registers. -/
def readLane (n off : Nat) (s : State) : Option Word :=
  let l := s.lane n
  let e := s.eqSet n
  let q := s.cfg.eq.getD n {}
  let on := s.assigned n
  match off with
  | 0x04 =>
    let port := match s.cfg.portOfLane? n with | some r => r.port | none => if s.cfg.applied then 31 else 0
    some (pack [(27, port), (20, s.laneIdx n), (18, l.rxPm), (16, s.laneTxPm n), (15, b2n l.cdrLock),
      (14, b2n (if l.state = 3 ∨ (l.state = 6 ∧ l.phase = 0) then l.commaLock else l.blkLock)), (13, b2n l.frozen), (10, l.attempts), (7, l.cause), (0, l.state)])
  | 0x08 => some (if !on then 0 else
      pack [(31, b2n q.rxInv), (30, b2n q.txInv), (24, e.post), (16, e.main), (8, e.pre), (0, e.ctle)])
  | 0x0C => some (if !on then 0 else pack [(16, uint 5 e.dfe3), (8, uint 5 e.dfe2), (0, uint 6 e.dfe1)])
  | 0x10 => some (if !on then 0 else pack [(0, uint 6 l.trim)])
  | 0x18 => some (pack [(31, b2n l.eyeBusy), (1, b2n l.eyeInc), (0, b2n l.eyeDone)])
  | _ => none

/-- The word a report register of LNE reads. -/
def readLne (a : Nat) (s : State) : Option Word :=
  let off := a % 0x100000
  if 0x10000 ≤ off && off < 0x16000 then readLane ((off - 0x10000) / 0x100) (off % 0x100) s
  else match Rg.LNE_G_STATUS.ixOf a with
    | some [g] =>
      let ns := s.groupLanes g
      some (pack [(24, (s.group g).reason), (16, (s.group g).rate), (8, ns.length), (4, (ns.filter fun n => (s.lane n).state != 8).length),
        (0, (s.group g).state)])
    | _ => none

end Sys2Proof.Machine
end

