-- ==== Sys2Proof/Machine/Bond.lean ====
section
/-!
DEFINITION. Bonding of a port's lanes, retraining, and the arrival of link packets (R259 to R263, R278).
-/
namespace Sys2Proof.Machine

/-- Retry sent to a lane by LNK (R260, R278): it has its effect where R243 admits it and none elsewhere. -/
def lnkRetry (n : Nat) (s : State) : State :=
  if ((s.lane n).state = 1 ∨ (s.lane n).state = 8) ∧ (s.group (n / 8)).state = 4 then laneRetryOp n s else s

/-- The port goes to DOWN and every lane of it is sent retry; lanes already ACTIVE bond at once (R260). -/
def portDownRetry (cause : Nat) (r : PortCfg) (s : State) : State :=
  let s1 := s.modPort r.port fun x => { x.bonding.cut with capsOk := false, mask := 0 }
  portTryBond r.port (r.lanes.foldl (fun s n => lnkRetry n s) (portTo r.port 1 cause s1))

/-- BOND_TIMEOUT (R260): no alignment within 1 ms of BOND. -/
def doBondTimeout (p : Fin 24) (s : State) : Host.Outcome State Fault Refusal :=
  live (fun s => match s.cfg.port? p.val with
    | none => s
    | some r => if (s.port p.val).state = 2 then portDownRetry 1 r s else s) s

/-- A write of retrain (R260, R278); a port that was FAILED works again. -/
def portRetrainOp (p : Nat) (s : State) : State :=
  match s.cfg.port? p with
  | none => s
  | some r =>
    let s1 := if (s.port p).state = 6 then unitBack 5 p s else s
    portDownRetry 0 r s1

/-- The write of LNK_P_CTL (R278). -/
def portCtlOp (p : Nat) (v : Word) (s : State) : State :=
  if (s.cfg.port? p).isNone then s else onBits v [(31, portRetrainOp p)] (storeWrite Rg.LNK_P_CTL [p] v s)

/-- PORT_RETRAIN (R260): a write whose retrain bit is 1. -/
def doPortRetrain (src : Source) (p : Fin 24) (v : Word) (s : State) : Host.Outcome State Fault Refusal :=
  .next (gatedWrite src (Rg.LNK_P_CTL.at [p.val]) (setBit v 31 true) (portCtlOp p.val (setBit v 31 true)) s)

/-- Whether every lane in a mask of lane indices has a marker, and all of them the same number. -/
def markersMeet (ms : SMap Nat) (mask : Nat) : Bool :=
  match (List.range 16).filter (fun i => mask.testBit i) with
  | [] => false
  | i :: r => match ms.find i with
    | none => false
    | some m => r.all fun j => ms.find j == some m

/-- A port whose markers meet goes on: from BOND to CAPS; in REBOND, once every lane is ACTIVE or FAILED, it sends WIDTH
(R260, R261). `changed` is what else a new width brings. -/
def bondCheck (changed : Nat → State → State) (r : PortCfg) (s : State) : State :=
  let p := r.port
  let x := s.port p
  let m := s.bondMask r
  if !markersMeet x.markers m then s
  else if x.state = 2 then portTo p 3 0 (s.modPort p fun x => { x with mask := m, capsOk := false, aligned := true })
  else if x.state = 5 && !x.aligned && r.lanes.all fun n => (s.lane n).state == 5 || (s.lane n).state == 8 then
    rebondEnd changed p (sendCtl p (widthBytes m) (.width p m) (s.modPort p fun x => { x with aligned := true, sentMask := some m }))
  else s

/-- ALIGN_RECEIVE (R259): a marker with its number; `inStripe` tells whether it meets the others of its number within the
skew that the receiver tolerates, in BOND and REBOND, or arrives in its stripe, in service. -/
def alignReceiveOp (changed : Nat → State → State) (n number : Nat) (inStripe : Bool) (s : State) : State :=
  match s.cfg.portOfLane? n with
  | none => s
  | some r =>
    let p := r.port
    let x := s.port p
    let i := n - r.first
    if (s.lane n).state ≠ 5 then s
    else if x.state = 2 ∨ x.state = 5 then
      bondCheck changed r (s.modPort p fun x => { x with markers := if inStripe then x.markers.insert i number else x.markers.erase i })
    else if (x.state = 3 ∨ x.state = 4) ∧ x.mask.testBit i then
      let right := match x.markers.find i with | none => true | some m => decide (number = (m + 1) % 2 ^ 32)
      if inStripe && right then s.modPort p fun x => { x with markers := x.markers.insert i number } else dropOut n s
    else s

/-- LINK_PACKET_RECEIVE (R263): a sequenced packet on an ACTIVE port; unsequenced packets carry CAPS only (R265), which
CAPS_RECEIVE takes. -/
def execLinkPacketReceive (p : Fin 24) (k : LinkPkt) (s : State) : Host.Outcome State Fault Refusal :=
  live (fun s => if (s.port p.val).state = 4 && !k.unseq then packetIn p.val k s else s) s

end Sys2Proof.Machine
end

