-- ==== Sys2Proof/Machine/Dmc.lean ====
section
/-!
DEFINITION. DMC: the DRAM map, refresh, hot rows, training and drift tracking, frequency change, ECC, sleep, and the
basin with its bulk commands (R279 to R301).
-/
namespace Sys2Proof.Machine

/-- The state of DRAM channel c. -/
def State.ch (s : State) (c : Nat) : DramCh := s.dramCh.get {} c

/-- The state with DRAM channel c changed. -/
def State.modCh (s : State) (c : Nat) (f : DramCh → DramCh) : State := { s with dramCh := s.dramCh.upd {} c f }

/-- The channels that DRAM_MAP enables, rising. -/
def State.enabledChs (s : State) : List Nat := indicesWhere 16 fun c => s.cfg.dram.mask.testBit c

/-! ### The map (R280, R281) -/

/-- The interleave granularity in bytes; a code without a meaning acts as 0. -/
def granBytes (g : Nat) : Nat := if g = 1 then 1024 else if g = 2 then 4096 else 256

/-- The mapped capacity in bytes. -/
def State.capBytes (s : State) : Nat := s.dmc.capMib * 1048576

/-- Where a DRAM address lies (R280). -/
def State.locate (s : State) (addr : Nat) : DramPlace :=
  let d := s.cfg.dram
  let g := granBytes d.gran
  let w := max 1 s.dmc.working.length
  let u := addr / g
  let a := u / w * g + addr % g
  let i := a / 64
  let n := if d.ecc then 30 else 32
  let ranks := max 1 d.ranks
  { channel := s.dmc.working.getD (u % w) 0, rank := i / (16 * n) % ranks, bank := i / n % 16, row := i / (16 * n * ranks), column := i % n }

/-- Bank group and bank within it; the byte of the row at which a block's check bits lie with inline ECC; and the key of a bank among those of a
channel (R280). -/
def DramPlace.group (p : DramPlace) : Nat := p.bank % 4
def DramPlace.bankInGroup (p : DramPlace) : Nat := p.bank / 4
def DramPlace.checkByte (p : DramPlace) : Nat := 1920 + 4 * p.column
def DramPlace.key (p : DramPlace) : Nat := p.rank * 16 + p.bank

/-- A request at or above the mapped capacity is not performed (R281): one range event, counted. -/
def rangeFault (req addr : Nat) (s : State) : State :=
  raise 6 0x07 noUnit Rg.DMC_ERR_INFO.at addr (addr / 2 ^ 32 % 16 + req * 256)
    (count1 Rg.DMC_UE_CNT [] { s with dmc := { s.dmc with errKind := 4, errUnit := 0, errReq := req, errAddr := addr / 64 % 2 ^ 30 } })

/-- Whether a range of DRAM lies in a reserved region that is present (R281). -/
def State.inReserved (s : State) (addr len : Nat) : Bool :=
  (List.range s.cfg.dram.reserved.length).any fun i =>
    s.dmc.reservedOk.getD i false &&
    match s.cfg.dram.reserved[i]? with
    | some r => decide (r.first * 65536 ≤ addr) && decide (addr + len ≤ (r.first + r.pages) * 65536)
    | none => false

/-- Whether a range of DRAM touches a reserved region that is present (R52, R281). -/
def State.touchesReserved (s : State) (addr len : Nat) : Bool :=
  (List.range s.cfg.dram.reserved.length).any fun i =>
    s.dmc.reservedOk.getD i false &&
    match s.cfg.dram.reserved[i]? with
    | some r => decide (r.first * 65536 < addr + len) && decide (addr < (r.first + r.pages) * 65536)
    | none => false

/-- The number that basin blocks are counted from among `badReads`. -/
def basinBlock0 : Nat := 2 ^ 40

/-- Whether a requester's last read of a block found it uncorrectable (R293). -/
def State.badRead (s : State) (req block : Nat) : Bool := s.dmc.badReads.contains (req, block)

/-- A byte of DRAM as a requester sees it: a poisoned block and an address above the capacity give zeros (R281, R293). -/
def State.dramByte (s : State) (req a : Nat) : Byte :=
  if s.dmc.poison.contains (a / 64) || s.badRead req (a / 64) || decide (s.capBytes ≤ a) then 0 else Memory.byte 0 s.dram a

/-- Whether a read of an address returns data: not above the capacity, and not poisoned (R281, R293). -/
def State.dramGood (s : State) (a : Nat) : Bool := decide (a < s.capBytes) && !s.dmc.poison.contains (a / 64)

/-- `n` bytes of DRAM from `a` up. -/
def State.dramLoad (s : State) (req a n : Nat) : List Byte := (List.range n).map fun i => s.dramByte req (a + i)

/-- Core clocks, in tenths, that one 64-byte access takes at a rate code (R279): 4 periods of DRAM CK. -/
def accessTenths (rate : Nat) : Nat := if rate = 3 then 48 else if rate = 2 then 64 else if rate = 1 then 96 else 128

/-- Writes that still wait for channel c (R286): it issues them one after the other while it is ACTIVE. -/
def State.writesLeft (s : State) (c : Nat) : Nat :=
  let x := s.ch c
  if x.state ≠ 3 ∨ x.pm.contains 2 then x.wq else x.wq - (s.now - x.wqAt) * 10 / accessTenths s.dmc.rate

/-- Whether channel c is in drain mode: entered at 48 queued writes, left at 16 (R286). -/
def State.draining (s : State) (c : Nat) : Bool := (s.ch c).drain && decide (16 < s.writesLeft c)

/-- One write joins the queue of channel c (R286). -/
def queueWrite (c : Nat) (s : State) : State :=
  let k := s.writesLeft c + 1
  let enters := !s.draining c && decide (48 ≤ k)
  let s1 := s.modCh c fun x => { x with wq := k, wqAt := s.now, drain := s.draining c || enters }
  if enters then count1 Rg.DMC_CH_DRAIN_CNT [c] s1 else s1

/-- A request for a rank wakes it from power-down, and begins the channel's exit from self-refresh (R296). -/
def wakeRank (c rank : Nat) (s : State) : State :=
  s.modCh c fun x =>
    if x.pm.getD rank 0 = 1 then { x with pm := x.pm.set rank 0 }
    else if x.pm.getD rank 0 = 2 then { x with exiting := true } else x

/-- One refresh or Refresh Management command relieves a bank's rolling count by the initial threshold (R289). -/
def relieve (density key : Nat) (raa : SMap Nat) : SMap Nat := raa.put 0 key (raa.get 0 key - Config.raaInitial density)

/-- A bank's rolling count after `k` activations: Refresh Management follows once it passes the initial threshold, at the latest when it reaches
the maximum (R289). -/
def rolling (density key k : Nat) (raa : SMap Nat) : SMap Nat :=
  let n := raa.get 0 key + k
  let y := raa.put 0 key n
  if Config.raaInitial density < n || Config.raaMaximum density ≤ n then relieve density key y else y

/-- The hot-row table of a channel, as (bank key, row, activations), without the coldest entry of a full bank that is no hotter than `k`
(R289). -/
def makeRoom (bank k : Nat) (t : List (Nat × Nat × Nat)) : List (Nat × Nat × Nat) :=
  let mine := t.filter fun e => e.1 == bank
  if mine.length < 8 then t else
  match mine.find? fun e => decide (e.2.2 ≤ k) && mine.all fun f => decide (e.2.2 ≤ f.2.2) with
  | some e => t.erase e
  | none => t

/-- The count of a row after `k` more activations, with its table: a new row takes a free entry of its bank, or that of a row no hotter; where all
8 are hotter it misses the table. -/
def hotAdd (bank row k : Nat) (t : List (Nat × Nat × Nat)) : Nat × List (Nat × Nat × Nat) :=
  match t.find? fun e => e.1 == bank && e.2.1 == row with
  | some e => (e.2.2 + k, t.map fun f => if f.1 == bank && f.2.1 == row then (bank, row, e.2.2 + k) else f)
  | none =>
    let u := makeRoom bank k t
    if (u.filter fun e => e.1 == bank).length < 8 then (k, u ++ [(bank, row, k)]) else (0, t)

/-- Row activations of a requester (R289): they count in the bank's rolling count and in its hot-row table; a row that reaches hot_thr is hot,
with one event and one count, and each further hot_thr activations of a real-time port bring one more Refresh Management. -/
def activate (req addr k : Nat) (s : State) : State :=
  if k = 0 then s else
  let q := s.locate addr
  let c := q.channel
  let key := q.key
  let old := match (s.ch c).hot.find? fun e => e.1 == key && e.2.1 == q.row with | some e => e.2.2 | none => 0
  let r := hotAdd key q.row k (s.ch c).hot
  let thr := max 1 (fld (s.ch c).rhCtl 31 16)
  let steps := if req < 4 then r.1 / thr - old / thr else 0
  let s1 := s.modCh c fun x => { x with
    hot := r.2, rows := x.rows.insert key q.row
    raa := (List.range steps).foldl (fun y _ => relieve s.dmc.density key y) (rolling s.dmc.density key k x.raa) }
  if old < thr && decide (thr ≤ r.1) then
    let throttled := decide (4 ≤ req) && bit (s.rd Rg.DMC_CTL) 3
    let s2 := s1.wr Rg.DMC_CH_FLAGS [c] (setBit (if throttled then setBit (s1.rd Rg.DMC_CH_FLAGS [c]) 0 true else s1.rd Rg.DMC_CH_FLAGS [c]) 2 true)
    let s3 := if req < 4 then count1 Rg.DMC_CH_RFM_CNT [c] s2 else if throttled then count1 Rg.DMC_CH_THROTTLE_CNT [c] s2 else s2
    raiseFlag 6 c (Rg.DMC_CH_FLAGS.at [c]) 2 0 s3
  else s1

/-- One block is written (R286, R289, R296): its rank wakes, its row is activated unless it is open, and it joins the write queue. -/
def touchBlock (req : Nat) (s : State) (block : Nat) : State :=
  let q := s.locate (64 * block)
  let s1 := wakeRank q.channel q.rank s
  queueWrite q.channel (if (s1.ch q.channel).rows.find q.key = some q.row then s1 else activate req (64 * block) 1 s1)

/-- The blocks that a range of bytes touches. -/
def blocksOf (a len : Nat) : List Nat := if len = 0 then [] else (List.range ((a + len - 1) / 64 - a / 64 + 1)).map (a / 64 + ·)

/-- A write lands once the map is formed (R297), and clears what was poisoned of the blocks that it covers; a read accepted after it sees it
(R283). A write above the capacity is discarded with a range event (R281). -/
def dramStore (req a : Nat) (bs : List Byte) (s : State) : State :=
  if !s.dmc.formed then s
  else if s.capBytes < a + bs.length then rangeFault req a s
  else
    let covered := fun (b : Nat) => decide (a ≤ 64 * b) && decide (64 * b + 64 ≤ a + bs.length)
    let s1 := (blocksOf a bs.length).foldl (touchBlock req) s
    { s1 with
      dram := Memory.store 0 s1.dram a bs
      dmc := { s1.dmc with poison := s1.dmc.poison.filter fun b => !covered b, badReads := s1.dmc.badReads.filter fun b => !covered b.2 } }

/-! ### Boot training (R291, R391) -/

/-- Raw capacity of a channel in MiB. -/
def chanMib (ranks density : Nat) : Nat := ranks * 512 * 2 ^ density

/-- The density code of channel c (R279). -/
def State.densityOf (s : State) (c : Nat) : Nat := s.cfg.dram.densities.getD c 0

/-- The smallest density code of some channels (R280); 0 of none. -/
def State.minDensity (s : State) (cs : List Nat) : Nat := (cs.map s.densityOf).min?.getD 0

/-- Sets the timings that follow from the density and the rate in force (R287, R288, R301); the temperature report that the refresh interval
depends on is a free value. -/
def setTimings (s : State) : State :=
  s.dmc.working.foldl (fun s c => { s with free := s.free + 1 }.modCh c fun x => { x with
    splitNs := min 380 (Config.splitBaseNs (s.densityOf c) s.dmc.rate + 13)
    refiNs := Config.refiNs (s.densityOf c) s.dmc.rate s.free % 1024
    srExitNs := 2000 }) s

/-- The reserved regions that end within the capacity; each other one is absent, with one event (R281, R415). -/
def checkReserved (s : State) : State :=
  (List.range s.cfg.dram.reserved.length).foldl (fun s i =>
    match s.cfg.dram.reserved[i]? with
    | none => s
    | some r =>
      let ok := decide ((r.first + r.pages) * 65536 ≤ s.capBytes)
      let s1 := { s with dmc := { s.dmc with reservedOk := s.dmc.reservedOk ++ [ok] } }
      if ok then s1 else raiseReport 6 i Rg.DMC_CAP.at r.first r.pages s1) s

/-- Once every enabled channel is ACTIVE or FAILED, with no training step left, the map is formed and dram is set (R280, R391). -/
def formMap (s : State) : State :=
  if s.dmc.formed || !(s.enabledChs.all fun c => (s.ch c).state == 5 || (s.ch c).state == 3 && (s.ch c).bootSteps.isEmpty) then s else
  let w := s.enabledChs.filter fun c => (s.ch c).state == 3
  let cm := chanMib s.cfg.dram.ranks (s.minDensity w)
  let cap := w.length * (if s.cfg.dram.ecc then cm * 15 / 16 else cm)
  let av := maskOf 4 fun k => w.all fun c => (s.ch c).trained.contains k
  setDram (checkReserved (setTimings { s with dmc := { s.dmc with
    formed := true, working := w, capMib := cap, density := s.minDensity w, rate := s.cfg.dram.rate, avail := av, reservedOk := [] } }))

/-- Asks for the grant of a channel's next boot training step, if one is left (R391). -/
def nextBootStep (c : Nat) (s : State) : State :=
  if (s.ch c).bootSteps.isEmpty then formMap (s.modCh c fun x => { x with bootFails := 0 })
  else request 0 c s

/-- The start of training at BRINGUP: the starting rate first, then the others in descending order. -/
def startTraining (s : State) : State :=
  let start := s.cfg.dram.rate
  let steps := start :: ([3, 2, 1, 0].filter (· != start))
  formMap (s.enabledChs.foldl (fun s c => request 0 c (s.modCh c fun x => { x with bootSteps := steps, bootFails := 0 })) s)

/-- A boot training step ends (R291, R297, R391): a channel is ACTIVE once the starting rate is trained; one that fails the
starting rate three times is FAILED; one that fails another rate three times makes that rate unavailable. -/
def trainStepDone (c : Nat) (ok : Bool) (s : State) : State :=
  let x := s.ch c
  if !x.stepOn then s else
  let s1 := release 0 c (s.modCh c fun x => { x with stepOn := false })
  match x.bootSteps with
  | [] => s1
  | r :: rest =>
    if ok then nextBootStep c (s1.modCh c fun x => { x with
      bootSteps := rest, bootFails := 0, trained := x.trained ++ [r], state := if r = s.cfg.dram.rate then 3 else x.state })
    else if x.bootFails < 2 then request 0 c (s1.modCh c fun x => { x with bootFails := x.bootFails + 1 })
    else if r = s.cfg.dram.rate then
      formMap (unitOut 6 c (s1.modCh c fun x => { x with state := 5, bootSteps := [], bootFails := 0 }))
    else nextBootStep c (s1.modCh c fun x => { x with bootSteps := rest, bootFails := 0 })

/-- DRAM_TRAIN_STEP_DONE (R391). -/
def doDramTrainStepDone (c : Fin 16) (ok : Bool) (s : State) : Host.Outcome State Fault Refusal :=
  live (trainStepDone c.val ok) s

/-- The DRAM_TRAIN grant or refusal reaches DMC (R290, R391): a boot step starts, or is asked for again after a refusal; a
capture burst starts, which wakes ranks from power-down (R296), or is skipped. -/
def dramTrainGrantOp (c : Nat) (s : State) : State :=
  let boot := !(s.ch c).bootSteps.isEmpty
  match takeGrant 0 c s with
  | some s1 =>
    if boot then s1.modCh c fun x => { x with state := if x.state = 3 then 3 else 2, stepOn := true }
    else if (s.ch c).burstReq && s.dmc.fstate = 0 && (s.ch c).state = 3 then
      s1.modCh c fun x => { x with burst := true, burstReq := false, applyDue := false, pm := x.pm.map fun m => if m = 1 then 0 else m }
    else release 0 c (s1.modCh c fun x => { x with burstReq := false })
  | none => match takeRefusal 0 c s with
    | some (_, s1) => if boot then request 0 c s1 else s1.modCh c fun x => { x with burstReq := false }
    | none => s

/-- DRAM_TRAIN_GRANT (R290). -/
def doDramTrainGrant (c : Fin 16) (s : State) : Host.Outcome State Fault Refusal := live (dramTrainGrantOp c.val) s

/-! ### Freeboard windows (R284) -/

/-- Whether the real-time buffers of head h draw only on the basin: a panel head in SELF, with its store there and demura off (R284, R296). -/
def State.basinOnly (s : State) (h : Nat) : Bool :=
  (s.cfg.head h).en && !(s.cfg.head h).mirror && (s.pnl.get {} h).sr == 1 && (s.pnl.get {} h).storeLoc && s.ff Rg.PNL_H_CTL [h] 2 2 == 0

/-- The real-time freeboard of head h in ns (R284). -/
def State.rtFreeboard (s : State) (h : Nat) : Nat :=
  if (s.tgn.get {} h).state ≤ 1 || s.basinOnly h then 65535 else (s.tgn.get {} h).fbDram

/-- guard_ns as channel c has it in force. -/
def State.guardNs (s : State) (c : Nat) : Nat := fld (s.ch c).pmCtl 31 20

/-- Whether every head's real-time freeboard is at least `ns`. -/
def State.freeboardOf (s : State) (ns : Nat) : Bool := (List.range 4).all fun h => decide (ns ≤ s.rtFreeboard h)

/-- Whether a freeboard window of `ns` is open for channel c (R284). -/
def State.window (s : State) (c ns : Nat) : Bool := s.freeboardOf (ns + s.guardNs c)

/-- A head's freeboard that falls below sr_exit_ns + guard_ns begins the exit of every channel in self-refresh (R296). -/
def freeboardWake (h : Nat) (s : State) : State :=
  (List.range 16).foldl (fun s c =>
    if (s.ch c).pm.contains 2 && (s.ch c).state == 3 && decide (s.rtFreeboard h < (s.ch c).srExitNs + s.guardNs c) then
      s.modCh c fun x => { x with exiting := true } else s) s

/-! ### Drift tracking (R290, R291) -/

/-- A capture burst of channel c asks for its grant. -/
def askBurst (c : Nat) (s : State) : State :=
  if (s.ch c).state = 3 && s.dmc.fstate = 0 && s.dmc.formed && !(s.ch c).burst && !(s.ch c).burstReq && !(s.ch c).pm.contains 2 then
    request 0 c (s.modCh c fun x => { x with burstReq := true })
  else s

/-- CAPTURE_BURST_START (R290): every retrain_ms, with retrain_en. -/
def doCaptureBurstStart (c : Fin 16) (s : State) : Host.Outcome State Fault Refusal :=
  live (fun s => if bit (s.rd Rg.DMC_CTL) 0 then askBurst c.val s else s) s

/-- The result of a capture: a failure keeps the values in force and counts; a drift of drift_thr or more leads to an
apply (R290, R291). -/
def takeCapture (c : Nat) (result : Option (Nat × Int)) (s : State) : State :=
  match result with
  | some (osc, drift) =>
    s.modCh c fun x => { x with
      osc := osc % 65536, drift := clampI (-128) 127 drift, fails := 0, discarded := false, applied := false
      applyDue := decide (max 1 (fld x.trainCtl 23 16) ≤ drift.natAbs) }
  | none =>
    let f := (s.ch c).fails
    let s1 := s.modCh c fun x => { x with fails := min 3 (f + 1), discarded := false, applied := false }
    if f = 2 then raiseFlag 6 c (Rg.DMC_CH_FLAGS.at [c]) 4 0 (s1.wr Rg.DMC_CH_FLAGS [c] (setBit (s1.rd Rg.DMC_CH_FLAGS [c]) 4 true)) else s1

/-- CAPTURE_BURST_END (R290, R292): during CAPTURE_WAIT the result is discarded, and the last burst's end leads to
GRANT_WAIT. -/
def captureEndOp (c : Nat) (result : Option (Nat × Int)) (s : State) : State :=
  if !(s.ch c).burst then s else
  let s1 := release 0 c (s.modCh c fun x => { x with burst := false })
  if s.dmc.fstate ≠ 1 then takeCapture c result s1
  else
    let s2 := s1.modCh c fun x => { x with discarded := true, applied := false }
    if (List.range 16).any fun c => (s2.ch c).burst then s2
    else request 1 0 { s2 with dmc := { s2.dmc with fstate := 2 } }

def doCaptureBurstEnd (c : Fin 16) (result : Option (Nat × Int)) (s : State) : Host.Outcome State Fault Refusal :=
  live (captureEndOp c.val result) s

/-- APPLY_PAUSE (R290): in a freeboard window of 200 + split_ns the new delays apply; none starts outside IDLE. -/
def doApplyPause (c : Fin 16) (s : State) : Host.Outcome State Fault Refusal :=
  live (fun s => if (s.ch c.val).applyDue && (s.ch c.val).state = 3 && s.dmc.fstate = 0 && s.window c.val (200 + (s.ch c.val).splitNs)
    then s.modCh c.val fun x => { x with applyDue := false, applied := true } else s) s

/-! ### Refresh, hot rows, sleep (R287 to R289, R296) -/

/-- The refreshes of a rank in an interval (R287): those issued, of which one is forced where the debt had reached 7. -/
def refreshes (d issued : Nat) : Nat := max issued (d - 6)

/-- One rank's debt at an interval: it rises by 1, never beyond 7, and falls with each refresh (R287). -/
def debtNext (d issued : Nat) : Nat := min 7 (d + 1) - refreshes d issued

/-- One per-bank refresh of a rank (R287, R289): it goes to a bank of the round not yet refreshed, which closes its row. No request waits in the
model, so every such bank is idle, and which one is taken is a free value. -/
def refreshBank (c r : Nat) (s : State) : State :=
  let d := s.draw
  d.2.modCh c fun x =>
    let done := let l := x.round.getD r []; if 16 ≤ l.length then [] else l
    let left := (List.range 16).filter fun b => !done.contains b
    let b := left.getD (d.1.toNat % left.length) 0
    { x with
      round := x.round.set r (done ++ [b]), rows := x.rows.erase (r * 16 + b), raa := relieve s.dmc.density (r * 16 + b) x.raa }

/-- Every refresh of a channel's interval, rank by rank. -/
def refreshBanks (c : Nat) (n : Nat → Nat) (s : State) : State :=
  (List.range 2).foldl (fun s r => (List.range (min 16 (n r))).foldl (fun s _ => refreshBank c r s) s) s

/-- REFRESH_INTERVAL (R287, R301): debts move, banks are refreshed, class B settings take effect in the channel, the device reports its
temperature, a rank in power-down wakes for a refresh, and a forced refresh may split a real-time burst (R288). `issued` counts the refreshes
of each rank. -/
def refreshOp (c : Nat) (issued : List Nat) (split : Bool) (s : State) : State :=
  if (s.ch c).state ≠ 3 then s else
  let awake := fun r => (s.ch c).pm.getD r 0 ≠ 2 && decide (r < s.cfg.dram.ranks)
  let n := fun r => if awake r then refreshes ((s.ch c).debt.getD r 0) (issued.getD r 0) else 0
  let s0 := refreshBanks c n s
  let s1 := { s0 with free := s0.free + 1 }.modCh c fun x => { x with
    debt := (List.range 2).map fun r => if awake r then debtNext (x.debt.getD r 0) (issued.getD r 0) else 0
    pm := (List.range 2).map fun r => if x.pm.getD r 0 = 1 && 0 < n r then 0 else x.pm.getD r 0
    refiNs := Config.refiNs (s.densityOf c) s.dmc.rate s0.free % 1024
    trainCtl := s.rd Rg.DMC_TRAIN_CTL, pmCtl := s.rd Rg.DMC_PM_CTL, rhCtl := s.rd Rg.DMC_RH_CTL }
  let forced := (List.range 2).any fun r => awake r && decide (6 ≤ (s.ch c).debt.getD r 0)
  if split && forced then
    count1 Rg.DMC_CH_SPLIT_CNT [c] (s1.wr Rg.DMC_CH_FLAGS [c] (setBit (s1.rd Rg.DMC_CH_FLAGS [c]) 1 true))
  else s1

def doRefreshInterval (c : Fin 16) (issued : List Nat) (split : Bool) (s : State) : Host.Outcome State Fault Refusal :=
  live (refreshOp c.val issued split) s

/-- HOT_ROW_CLEAR (R289): at the start of each 32 ms every hot-row table clears. -/
def execHotRowClear (s : State) : Host.Outcome State Fault Refusal :=
  live (fun s => (List.range 16).foldl (fun s c => s.modCh c fun x => { x with hot := [] }) s) s

/-- Every rank of a channel enters self-refresh, with its debt brought to 0; each entry counts (R296). -/
def enterSelfRefresh (c : Nat) (s : State) : State :=
  let s1 := s.modCh c fun x => { x with
    pm := [2, if s.cfg.dram.ranks = 2 then 2 else 0], debt := [0, 0], exiting := false, rows := [], wq := s.writesLeft c, wqAt := s.now }
  if (s.ch c).pm.contains 2 then s1 else count1 Rg.DMC_CH_SR_CNT [c] s1

/-- DRAM_SELF_REFRESH_ENTRY (R296): every rank of the channel together, with its queues empty and every head's real-time freeboard at least
2 × (sr_exit_ns + guard_ns); debts are brought to 0. -/
def doDramSelfRefreshEntry (c : Fin 16) (s : State) : Host.Outcome State Fault Refusal :=
  live (fun s =>
    let x := s.ch c.val
    if x.state = 3 && s.dmc.formed && bit (s.rd Rg.DMC_CTL) 2 && !x.pm.contains 2 && !x.burst && s.dmc.fstate ≠ 4 &&
        s.writesLeft c.val = 0 && s.freeboardOf (2 * (x.srExitNs + s.guardNs c.val)) then
      enterSelfRefresh c.val s
    else s) s

/-- DRAM_SELF_REFRESH_EXIT (R296): the exit begins; requests wait for it. -/
def doDramSelfRefreshExit (c : Fin 16) (s : State) : Host.Outcome State Fault Refusal :=
  live (fun s => if (s.ch c.val).state = 3 && (s.ch c.val).pm.contains 2 then s.modCh c.val fun x => { x with exiting := true } else s) s

/-- SELF_REFRESH_EXIT_DONE (R296): the ranks are ACTIVE with no debt, and the first maintenance is a capture burst. -/
def doSelfRefreshExitDone (c : Fin 16) (s : State) : Host.Outcome State Fault Refusal :=
  live (fun s => if (s.ch c.val).exiting
    then askBurst c.val (s.modCh c.val fun x => { x with exiting := false, pm := [0, 0], debt := [0, 0], wqAt := s.now }) else s) s

/-- POWER_DOWN_ENTRY (R296): an ACTIVE rank with no request for pd_idle_ns. -/
def doPowerDownEntry (c : Fin 16) (rank : Fin 2) (s : State) : Host.Outcome State Fault Refusal :=
  live (fun s =>
    let x := s.ch c.val
    if x.state = 3 && bit (s.rd Rg.DMC_CTL) 1 && x.pm.getD rank.val 0 = 0 && decide (rank.val < s.cfg.dram.ranks) then
      s.modCh c.val fun x => { x with pm := x.pm.set rank.val 1 } else s) s

/-! ### Frequency change (R292) -/

/-- A change that ends: its state, result and event. -/
def freqEnd (result reason : Nat) (s : State) : State :=
  let s1 := { s with dmc := { s.dmc with fstate := 0, fresult := result, freason := if result = 2 then reason else s.dmc.freason } }
  if result = 2 ∨ result = 6 then raiseRefusal 6 noUnit Rg.DMC_FREQ_STATUS.at result 0 s1
  else raiseDone 6 noUnit Rg.DMC_FREQ_STATUS.at result 0 s1

/-- A write of go (R292); held back until READY (R394). -/
def freqGo (s : State) : State :=
  fromReady Rg.DMC_FREQ_CTL.at (fun s =>
    let rate := s.fd Rg.DMC_FREQ_CTL [] 1 0
    if s.dmc.fstate ≠ 0 then { s with dmc := { s.dmc with fresult := 4 } }
    else if rate = s.dmc.rate then freqEnd 1 0 s
    else if !s.dmc.avail.testBit rate then freqEnd 6 0 s
    else if (List.range 16).any fun c => (s.ch c).burst then { s with dmc := { s.dmc with fstate := 1, ftarget := rate } }
    else request 1 0 { s with dmc := { s.dmc with fstate := 2, ftarget := rate } }) s

/-- A write of cancel (R292): ignored in CHANGING. -/
def freqCancel (s : State) : State :=
  if s.dmc.fstate = 1 ∨ s.dmc.fstate = 2 ∨ s.dmc.fstate = 3 then freqEnd 5 0 (release 1 0 (withdraw 1 0 s)) else s

/-- The write of DMC_FREQ_CTL (R292, R301): rate and wait_ms are stored, then cancel and go act. -/
def freqCtlOp (v : Word) (s : State) : State := onBits v [(30, freqCancel), (31, freqGo)] (storeWrite Rg.DMC_FREQ_CTL [] v s)

/-- FREQ_CHANGE_REQUEST (R292): a write whose go bit is 1. -/
def doFreqChangeRequest (src : Source) (v : Word) (s : State) : Host.Outcome State Fault Refusal :=
  .next (gatedWrite src Rg.DMC_FREQ_CTL.at (setBit v 31 true) (freqCtlOp (setBit v 31 true)) s)

/-- FREQ_CHANGE_CANCEL (R292): a write whose cancel bit is 1. -/
def doFreqChangeCancel (src : Source) (v : Word) (s : State) : Host.Outcome State Fault Refusal :=
  .next (gatedWrite src Rg.DMC_FREQ_CTL.at (setBit v 30 true) (freqCtlOp (setBit v 30 true)) s)

/-- FREQ_GRANT (R292): the DRAM_FREQ grant or refusal arrives. -/
def execFreqGrant (s : State) : Host.Outcome State Fault Refusal :=
  live (fun s => match takeGrant 1 0 s with
    | some s1 => if s.dmc.fstate = 2 then { s1 with dmc := { s1.dmc with fstate := 3 } } else release 1 0 s1
    | none => match takeRefusal 1 0 s with
      | some (r, s1) => if s.dmc.fstate = 2 then freqEnd 2 r s1 else s1
      | none => s) s

/-- t_fc in ns (R292). -/
def changeNs : Nat := 24000

/-- FREQ_CHANGE_START (R292): in a freeboard window of t_fc every channel enters self-refresh in FREQ_CHANGE. -/
def doFreqChangeStart (s : State) : Host.Outcome State Fault Refusal :=
  live (fun s => if s.dmc.fstate ≠ 3 || !(s.dmc.working.all fun c => s.window c changeNs) then s else
    s.dmc.working.foldl (fun s c => (enterSelfRefresh c s).modCh c fun x => { x with state := 4, applyDue := false })
      { s with dmc := { s.dmc with fstate := 4 } }) s

/-- FREQ_WINDOW_TIMEOUT (R292): wait_ms without a window; the grant is released. -/
def doFreqWindowTimeout (s : State) : Host.Outcome State Fault Refusal :=
  live (fun s => if s.dmc.fstate = 3 then freqEnd 3 0 (release 1 0 s) else s) s

/-- FREQ_CHANGE_DONE (R292): all channels ACTIVE at the new rate; each has made one capture and apply, `captures` in the
order of the working channels. -/
def freqDoneOp (captures : List (Option (Nat × Int))) (s : State) : State :=
  if s.dmc.fstate ≠ 4 then s else
  let s1 := setTimings { s with dmc := { s.dmc with rate := s.dmc.ftarget } }
  let s2 := (List.range s.dmc.working.length).foldl (fun s i =>
    let c := s.dmc.working.getD i 0
    let r := captures.getD i none
    let s3 := takeCapture c r (s.modCh c fun x => { x with state := 3, pm := [0, 0], debt := [0, 0], exiting := false, wqAt := s.now })
    s3.modCh c fun x => { x with applyDue := false, applied := r.isSome }) s1
  freqEnd 1 0 (release 1 0 s2)

def doFreqChangeDone (captures : List (Option (Nat × Int))) (s : State) : Host.Outcome State Fault Refusal :=
  live (freqDoneOp captures) s

/-! ### ECC (R293, R294) -/

/-- A read still uncorrectable (R293): recorded, counted and reported; the read of a read-modify-write leaves its block
with a check pattern that every later read reports; any other read but a layer fetch delivers zeros. -/
def poisonRead (x : ReadDone) (s : State) : State :=
  let addr := 64 * x.block
  let c := if x.kind = 3 then addr / 1048576 % 64 else (s.locate addr).channel
  let entry := (x.requester % 256, if x.kind = 3 then basinBlock0 + x.block else x.block)
  let zeros := !x.merge && !(decide (x.requester < 4) && decide (x.layer < 9)) && !s.dmc.badReads.contains entry
  let s1 := count1 Rg.DMC_UE_CNT [] { s with dmc := { s.dmc with
    errKind := x.kind % 8, errUnit := c, errReq := x.requester % 256, errAddr := x.block % 2 ^ 30
    poison := if x.merge && x.kind ≠ 3 && !s.dmc.poison.contains x.block then s.dmc.poison ++ [x.block] else s.dmc.poison
    badReads := if zeros then s.dmc.badReads ++ [entry] else s.dmc.badReads } }
  let s2 := if x.kind = 3 then s1 else s1.wr Rg.DMC_CH_FLAGS [c] (setBit (s1.rd Rg.DMC_CH_FLAGS [c]) 3 true)
  raise 6 0x07 c Rg.DMC_ERR_INFO.at addr (addr / 2 ^ 32 % 16 + x.requester % 256 * 256 + c * 65536) s2

/-- A read returns (R281, R289, R293, R296): its rank is awake again, activations count towards hot rows, and the outcome is
counted; a block left with a check pattern is uncorrectable whatever the row tells (R293). `abandon` is what a poisoned layer fetch
brings (R65, R293); a read at or above the capacity returns poisoned data too (R281). Before the map is formed no read is accepted
(R297). -/
def readDoneOp (abandon : Nat → Nat → Nat → State → State) (x : ReadDone) (s : State) : State :=
  let addr := 64 * x.block
  let req := x.requester % 256
  let dropLayer := fun (s : State) => if x.requester < 4 && x.layer < 9 then abandon x.requester x.layer x.polder s else s
  if x.kind ≠ 3 && !s.dmc.formed then s
  else if x.kind ≠ 3 && decide (s.capBytes ≤ addr) then dropLayer (rangeFault req addr s) else
  let q := s.locate addr
  let s0 := if x.kind = 3 then s else activate x.requester addr x.acts (wakeRank q.channel q.rank s)
  let s1 := if x.link then count1 Rg.DMC_LINK_CE_CNT [] s0 else s0
  let good := fun (s : State) =>
    { s with dmc := { s.dmc with badReads := s.dmc.badReads.erase (req, if x.kind = 3 then basinBlock0 + x.block else x.block) } }
  match (if x.kind ≠ 3 && s.dmc.poison.contains x.block then 3 else x.outcome) with
  | 0 => good s1
  | 1 => good (if x.kind = 3 then count1 Rg.DMC_BASIN_CE_CNT [] s1 else count1 Rg.DMC_CE_CNT [] s1)
  | 2 => good (count1 Rg.DMC_RETRY_CNT [] s1)
  | _ => dropLayer (poisonRead x s1)

/-- PATROL_SCRUB (R294): the next mapped block is read, and a corrected one written back. -/
def execPatrolScrub (corrected : Bool) (s : State) : Host.Outcome State Fault Refusal :=
  live (fun s =>
    if !s.dmc.formed || !s.cfg.dram.ecc || !bit (s.rd Rg.DMC_CTL) 4 then s else
    let s1 := { s with dmc := { s.dmc with scrubPos := (s.dmc.scrubPos + 1) % max 1 (s.dmc.capMib * 16384) } }
    if corrected then count1 Rg.DMC_CE_CNT [] s1 else s1) s

/-! ### Basin (R298, R299) -/

/-- The banks of region r, if it is present. -/
def State.regionBanks (s : State) (r : Nat) : Option (List Nat) := (s.dmc.regions.getD r none)

/-- The banks of the region of a user and head, if one is present. -/
def State.userRegion? (s : State) (user head : Nat) : Option (List Nat) :=
  ((List.range s.cfg.basin.length).filterMap fun r =>
    match s.cfg.basin[r]?, s.regionBanks r with
    | some c, some b => if c.user == user && (user == 3 || c.head == head) then some b else none
    | _, _ => none).head?

/-- The basin address of offset `o` of a region (R298). -/
def regionAddr (banks : List Nat) (o : Nat) : Nat := banks.getD (o / 1048576) 0 * 1048576 + o % 1048576

/-- Regions take their banks in listed order from the lowest working banks still free; one that does not fit is absent for
the boot (R18, R298, R415). -/
def fillBasin : List RegionCfg → Nat → List Nat → State → State
  | [], _, _, s => s
  | r :: rs, i, avail, s =>
    if r.banks ≤ avail.length then
      fillBasin rs (i + 1) (avail.drop r.banks) { s with dmc := { s.dmc with regions := s.dmc.regions ++ [some (avail.take r.banks)] } }
    else
      fillBasin rs (i + 1) avail (raiseReport 6 i (Rg.DMC_BASIN_REGION.at [i]) r.banks avail.length
        { s with dmc := { s.dmc with regions := s.dmc.regions ++ [none] } })

/-- Whether the user of region r is in use (R299). -/
def State.regionInUse (s : State) (r : Nat) : Bool :=
  match s.cfg.basin[r]? with
  | none => false
  | some c => if c.user = 3 then s.recd.state != 0 && s.recd.state != 4 else s.headUp c.head

/-- Records the result of a bulk command. -/
def basinResult (r : Nat) (s : State) : State := { s with dmc := { s.dmc with basinResult := r } }

/-- The write of DMC_BASIN_CMD (R299): the refusals in the order of the rule, else a request for a grant. -/
def basinCmdOp (v : Word) (s : State) : State :=
  fromReady Rg.DMC_BASIN_CMD.at (fun s =>
    let op := fld v 1 0
    let r := fld v 10 8
    let page := s.fd Rg.DMC_BASIN_PAGE [] 19 0
    if op = 3 then invalidWrite Rg.DMC_BASIN_CMD.at s
    else if !bit v 31 then s
    else if s.regionInUse r then basinResult 2 s
    else match s.regionBanks r with
      | none => basinResult 3 s
      | some b =>
        if op ≠ 0 && decide (s.capBytes < page * 65536 + b.length * 1048576) then basinResult 4 s
        else if s.dmc.basinJob.isSome then basinResult 7 s
        else request 5 0 { s with dmc := { s.dmc with basinJob := some { op := op, region := r, page := page, granted := false } } }) s

/-- The word of a BASIN row: go and the row's operation. -/
def basinWord (op : Nat) (v : Word) : Word := setFld (setBit v 31 true) 1 0 op

/-- BASIN_CLEAR (R299). -/
def doBasinClear (src : Source) (v : Word) (s : State) : Host.Outcome State Fault Refusal :=
  .next (gatedWrite src Rg.DMC_BASIN_CMD.at (basinWord 0 v) (basinCmdOp (basinWord 0 v)) s)

/-- BASIN_LOAD (R299). -/
def doBasinLoad (src : Source) (v : Word) (s : State) : Host.Outcome State Fault Refusal :=
  .next (gatedWrite src Rg.DMC_BASIN_CMD.at (basinWord 1 v) (basinCmdOp (basinWord 1 v)) s)

/-- BASIN_STORE (R299). -/
def doBasinStore (src : Source) (v : Word) (s : State) : Host.Outcome State Fault Refusal :=
  .next (gatedWrite src Rg.DMC_BASIN_CMD.at (basinWord 2 v) (basinCmdOp (basinWord 2 v)) s)

/-- BASIN_BULK_GRANT (R299): the grant starts the command; a refusal ends it. -/
def execBasinBulkGrant (s : State) : Host.Outcome State Fault Refusal :=
  live (fun s => match takeGrant 5 0 s with
    | some s1 => { s1 with dmc := { s1.dmc with basinJob := s1.dmc.basinJob.map fun j => { j with granted := true } } }
    | none => match takeRefusal 5 0 s with
      | some (r, s1) => raiseRefusal 6 noUnit Rg.DMC_BASIN_STATUS.at 5 0
          { s1 with dmc := { s1.dmc with basinJob := none, basinResult := 5, basinReason := r } }
      | none => s) s

/-- The basin without what lies in a set of banks: those banks read zero. -/
def clearBanks (banks : List Nat) (m : Memory) : Memory := m.filter fun c => !banks.contains (c.1 / 1048576)

/-- The region filled from DRAM up to offset `n`; the rest of it is kept (R299). -/
def basinFrom (s : State) (banks : List Nat) (base n : Nat) : Memory :=
  (s.dram.filter fun c => decide (base ≤ c.1) && decide (c.1 < base + n)).foldl
    (fun m c => Memory.setByte 0 m (regionAddr banks (c.1 - base)) c.2)
    (s.basin.filter fun c => !(banks.contains (c.1 / 1048576) && decide (banks.idxOf (c.1 / 1048576) * 1048576 + c.1 % 1048576 < n)))

/-- DRAM after a region has been stored to it up to offset `n` (R299). -/
def basinTo (s : State) (banks : List Nat) (base n : Nat) : Memory :=
  (List.range banks.length).foldl (fun m i =>
    (s.basin.filter fun c => c.1 / 1048576 == banks.getD i 0 && decide (i * 1048576 + c.1 % 1048576 < n)).foldl (fun m c =>
      Memory.setByte 0 m (base + i * 1048576 + c.1 % 1048576) c.2) m)
    (s.dram.filter fun c => !(decide (base ≤ c.1) && decide (c.1 < base + n)))

/-- The block that ended a copy, if one did, is written as zeros. -/
def zeroStop (stop : Option Nat) (f : Nat → Nat) (m : Memory) : Memory :=
  match stop with
  | some k => (List.range 64).foldl (fun m i => Memory.setByte 0 m (f (64 * k + i)) 0) m
  | none => m

/-- The first block of a copy of `n` bytes that is found poisoned: one that the command reports, or, in DRAM, one poisoned before (R293,
R299). -/
def State.copyStop (s : State) (op base n : Nat) (poisoned : List Nat) : Option Nat :=
  ((poisoned ++ if op = 1 then (s.dmc.poison.filter fun k => decide (base ≤ 64 * k)).map (· - base / 64) else []).filter
    fun k => decide (64 * k < n)).min?

/-- The data of a bulk command move, up to the block that ended it (R299): a region clears, fills from DRAM at `base`, or goes there; DRAM
blocks written whole are no longer poisoned. -/
def basinMove (op : Nat) (b : List Nat) (base : Nat) (stop : Option Nat) (s : State) : State :=
  let n := match stop with | some k => 64 * k | none => b.length * 1048576
  let covered := fun (k : Nat) => decide (base ≤ 64 * k) && decide (64 * k < base + n + if stop.isSome then 64 else 0)
  match op with
  | 0 => { s with basin := clearBanks b s.basin }
  | 1 => { s with basin := zeroStop stop (regionAddr b) (basinFrom s b base n) }
  | _ => { s with dram := zeroStop stop (base + ·) (basinTo s b base n)
                  dmc := { s.dmc with poison := s.dmc.poison.filter fun k => !covered k } }

/-- BASIN_CMD_DONE (R299): the command's data have moved; `poisoned` are the 64-byte blocks of the copy that were found uncorrectable. The first
of them is written as zeros and ends the command. -/
def basinDoneOp (poisoned : List Nat) (s : State) : State :=
  match s.dmc.basinJob with
  | none => s
  | some j =>
    match s.regionBanks j.region with
    | none => s
    | some b =>
      if !j.granted then s else
      let base := j.page * 65536
      let stop := if j.op = 0 then none else s.copyStop j.op base (b.length * 1048576) poisoned
      let s1 := basinMove j.op b base stop s
      let res := if stop.isSome then 6 else 1
      raiseDone 6 noUnit Rg.DMC_BASIN_STATUS.at res j.op (release 5 0 { s1 with dmc := { s1.dmc with basinJob := none, basinResult := res } })

def doBasinCmdDone (poisoned : List Nat) (s : State) : Host.Outcome State Fault Refusal := live (basinDoneOp poisoned) s

/-! ### Registers (R301) -/

/-- Clears of DMC_CNT_CLR. -/
def dmcCntClrOp (v : Word) (s : State) : State :=
  onBits v [(0, clearCnt Rg.DMC_CE_CNT []), (1, clearCnt Rg.DMC_UE_CNT []), (2, clearCnt Rg.DMC_RETRY_CNT []),
    (3, clearCnt Rg.DMC_LINK_CE_CNT []), (4, clearCnt Rg.DMC_BASIN_CE_CNT []),
    (5, fun s => (List.range 4).foldl (fun s h => clearCnt Rg.DMC_RT_PANIC_CNT [h] s) s)] s

/-- DMC_CNT_CLR (R301). -/
def doDmcCntClr (src : Source) (v : Word) (s : State) : Host.Outcome State Fault Refusal :=
  .next (gatedWrite src Rg.DMC_CNT_CLR.at v (dmcCntClrOp v) s)

/-- Whether a channel is enabled by DRAM_MAP. -/
def State.chUsed (s : State) (c : Nat) : Bool := s.cfg.dram.mask.testBit c

/-- Clears of DMC_CH_CNT_CLR[c]; an UNUSED channel ignores them. -/
def dmcChCntClrOp (c : Nat) (v : Word) (s : State) : State :=
  if !s.chUsed c then s else
  onBits v [(0, clearCnt Rg.DMC_CH_SPLIT_CNT [c]), (1, clearCnt Rg.DMC_CH_RFM_CNT [c]), (2, clearCnt Rg.DMC_CH_THROTTLE_CNT [c]),
    (3, clearCnt Rg.DMC_CH_DRAIN_CNT [c]), (4, clearCnt Rg.DMC_CH_SR_CNT [c])] s

/-- DMC_CH_CNT_CLR (R301). -/
def doDmcChCntClr (src : Source) (c : Fin 16) (v : Word) (s : State) : Host.Outcome State Fault Refusal :=
  .next (gatedWrite src (Rg.DMC_CH_CNT_CLR.at [c.val]) v (dmcChCntClrOp c.val v) s)

/-- The word of one channel's report registers. -/
def readCh (c off : Nat) (s : State) : Option Word :=
  let x := s.ch c
  if !s.chUsed c then some 0 else
  match off with
  | 0x00 => some (pack [(20, x.debt.getD 1 0), (16, x.debt.getD 0 0), (10, x.pm.getD 1 0), (8, x.pm.getD 0 0), (5, b2n (s.draining c)), (0, x.state)])
  | 0x04 => some (pack [(22, x.splitNs), (12, x.refiNs), (0, x.srExitNs)])
  | 0x08 => some (pack [(16, x.osc), (8, uint 8 x.drift), (2, x.fails), (1, b2n x.discarded), (0, b2n x.applied)])
  | _ => none

/-- The word a report register of DMC reads (R301). -/
def readDmc (a : Nat) (s : State) : Option Word :=
  let off := a % 0x100000
  let d := s.cfg.dram
  if 0x10000 ≤ off && off < 0x11000 then readCh ((off - 0x10000) / 0x100) (off % 0x100) s
  else if a = Rg.DMC_MAP.at then
    some (if !s.cfg.applied then 0 else
      pack [(16, d.mask), (10, if d.gran = 3 then 0 else d.gran), (9, b2n d.ecc), (8, d.ranks - 1), (6, s.dmc.density)])
  else if a = Rg.DMC_CAP.at then some (word s.dmc.capMib)
  else if a = Rg.DMC_FREQ_STATUS.at then
    some (pack [(24, s.dmc.freason), (16, s.dmc.fresult), (8, s.dmc.avail), (4, s.dmc.rate), (0, s.dmc.fstate)])
  else if a = Rg.DMC_ERR_INFO.at then some (pack [(29, s.dmc.errKind), (22, s.dmc.errUnit), (0, s.dmc.errReq)])
  else if a = Rg.DMC_ERR_ADDR.at then some (word s.dmc.errAddr)
  else if a = Rg.DMC_BASIN_STATUS.at then
    some (pack [(31, b2n s.dmc.basinJob.isSome), (16, s.dmc.basinReason), (0, s.dmc.basinResult)])
  else match Rg.DMC_BASIN_WORK.ixOf a with
    | some [k] => some (word (maskOf 32 fun i => s.cfg.applied && s.dmc.basinWork.contains (32 * k + i)))
    | _ => match Rg.DMC_BASIN_REGION.ixOf a with
      | some [r] => match s.cfg.basin[r]? with
        | none => some 0
        | some c =>
          let b := s.regionBanks r
          some (pack [(31, b2n b.isSome), (28, c.user), (26, if c.user = 3 then 0 else c.head), (8, c.banks),
            (0, match b with | some l => l.headD 0xFF | none => 0xFF)])
      | _ => none

end Sys2Proof.Machine
end

