-- ==== Sys2Proof/Machine/Sha.lean ====
section
/-!
DEFINITION. SHA-384 and SHA-256, and HMAC and HKDF over SHA-384, which R33 and R377 name: as their published standards define them
(assumption log 7).
-/
namespace Sys2Proof.Machine

/-- What distinguishes the two hash functions: the word size in bits, the rounds, the rotations of the two large sigmas, and the
rotations and the shift of the two small ones. -/
structure ShaKind where
  bits   : Nat
  rounds : Nat
  big0   : List Nat
  big1   : List Nat
  small0 : List Nat
  small1 : List Nat
  deriving DecidableEq, Repr

def sha512Kind : ShaKind :=
  { bits := 64, rounds := 80, big0 := [28, 34, 39], big1 := [14, 18, 41], small0 := [1, 8, 7], small1 := [19, 61, 6] }
def sha256Kind : ShaKind :=
  { bits := 32, rounds := 64, big0 := [2, 13, 22], big1 := [6, 11, 25], small0 := [7, 18, 3], small1 := [17, 19, 10] }

/-- The round constants in 64 bits; a 32-bit round takes the upper half of its constant. -/
def shaConsts : List Nat :=
  [0x428A2F98D728AE22, 0x7137449123EF65CD, 0xB5C0FBCFEC4D3B2F, 0xE9B5DBA58189DBBC] ++
  [0x3956C25BF348B538, 0x59F111F1B605D019, 0x923F82A4AF194F9B, 0xAB1C5ED5DA6D8118] ++
  [0xD807AA98A3030242, 0x12835B0145706FBE, 0x243185BE4EE4B28C, 0x550C7DC3D5FFB4E2] ++
  [0x72BE5D74F27B896F, 0x80DEB1FE3B1696B1, 0x9BDC06A725C71235, 0xC19BF174CF692694] ++
  [0xE49B69C19EF14AD2, 0xEFBE4786384F25E3, 0x0FC19DC68B8CD5B5, 0x240CA1CC77AC9C65] ++
  [0x2DE92C6F592B0275, 0x4A7484AA6EA6E483, 0x5CB0A9DCBD41FBD4, 0x76F988DA831153B5] ++
  [0x983E5152EE66DFAB, 0xA831C66D2DB43210, 0xB00327C898FB213F, 0xBF597FC7BEEF0EE4] ++
  [0xC6E00BF33DA88FC2, 0xD5A79147930AA725, 0x06CA6351E003826F, 0x142929670A0E6E70] ++
  [0x27B70A8546D22FFC, 0x2E1B21385C26C926, 0x4D2C6DFC5AC42AED, 0x53380D139D95B3DF] ++
  [0x650A73548BAF63DE, 0x766A0ABB3C77B2A8, 0x81C2C92E47EDAEE6, 0x92722C851482353B] ++
  [0xA2BFE8A14CF10364, 0xA81A664BBC423001, 0xC24B8B70D0F89791, 0xC76C51A30654BE30] ++
  [0xD192E819D6EF5218, 0xD69906245565A910, 0xF40E35855771202A, 0x106AA07032BBD1B8] ++
  [0x19A4C116B8D2D0C8, 0x1E376C085141AB53, 0x2748774CDF8EEB99, 0x34B0BCB5E19B48A8] ++
  [0x391C0CB3C5C95A63, 0x4ED8AA4AE3418ACB, 0x5B9CCA4F7763E373, 0x682E6FF3D6B2B8A3] ++
  [0x748F82EE5DEFB2FC, 0x78A5636F43172F60, 0x84C87814A1F0AB72, 0x8CC702081A6439EC] ++
  [0x90BEFFFA23631E28, 0xA4506CEBDE82BDE9, 0xBEF9A3F7B2C67915, 0xC67178F2E372532B] ++
  [0xCA273ECEEA26619C, 0xD186B8C721C0C207, 0xEADA7DD6CDE0EB1E, 0xF57D4F7FEE6ED178] ++
  [0x06F067AA72176FBA, 0x0A637DC5A2C898A6, 0x113F9804BEF90DAE, 0x1B710B35131C471B] ++
  [0x28DB77F523047D84, 0x32CAAB7B40C72493, 0x3C9EBE0A15C9BEBC, 0x431D67C49C100D4C] ++
  [0x4CC5D4BECB3E42B6, 0x597F299CFC657E2A, 0x5FCB6FAB3AD6FAEC, 0x6C44198C4A475817]

/-- The round constant of round t. -/
def ShaKind.const (k : ShaKind) (t : Nat) : Nat := shaConsts.getD t 0 / 2 ^ (64 - k.bits)

/-- A word turned right by n places. -/
def ShaKind.turn (k : ShaKind) (x n : Nat) : Nat := x >>> n ||| (x <<< (k.bits - n)) % 2 ^ k.bits

/-- A large sigma: three turns, xored. -/
def ShaKind.large (k : ShaKind) (r : List Nat) (x : Nat) : Nat := (r.map (k.turn x)).foldl (· ^^^ ·) 0

/-- A small sigma: two turns and a shift, xored. -/
def ShaKind.small (k : ShaKind) (r : List Nat) (x : Nat) : Nat :=
  k.turn x (r.getD 0 0) ^^^ k.turn x (r.getD 1 0) ^^^ x >>> r.getD 2 0

/-- The message schedule, newest word first: `n` more words behind the 16 of a block. -/
def ShaKind.expand (k : ShaKind) : Nat → List Nat → List Nat
  | 0, w => w
  | n + 1, w =>
    k.expand n ((k.small k.small1 (w.getD 1 0) + w.getD 6 0 + k.small k.small0 (w.getD 14 0) + w.getD 15 0) % 2 ^ k.bits :: w)

/-- One round on the eight working words. -/
def ShaKind.round (k : ShaKind) (v : List Nat) (kw : Nat) : List Nat :=
  match v with
  | [a, b, c, d, e, f, g, h] =>
    let choose := (e &&& f) ^^^ ((2 ^ k.bits - 1 - e) &&& g)
    let major := (a &&& b) ^^^ (a &&& c) ^^^ (b &&& c)
    let t := h + k.large k.big1 e + choose + kw
    [(t + k.large k.big0 a + major) % 2 ^ k.bits, a, b, c, (d + t) % 2 ^ k.bits, e, f, g]
  | _ => v

/-- One block of 16 words into the chaining value. -/
def ShaKind.block (k : ShaKind) (v : List Nat) (b : List Nat) : List Nat :=
  let ws := (k.expand (k.rounds - 16) b.reverse).reverse
  let r := ((List.range k.rounds).map fun t => k.const t + ws.getD t 0).foldl k.round v
  List.zipWith (fun x y => (x + y) % 2 ^ k.bits) v r

/-- A message with its padding: a one bit, zeros, and the length in bits at the end of a block. -/
def ShaKind.padded (k : ShaKind) (m : List Byte) : List Byte :=
  let blk := 2 * k.bits
  let tail := k.bits / 4
  m ++ [0x80#8] ++ List.replicate ((blk - (m.length + 1 + tail) % blk) % blk) 0#8 ++ bytesBE (8 * m.length) tail

/-- The big-endian words of a byte list, `n` of them. -/
def wordsBE (size : Nat) : Nat → List Byte → List Nat
  | 0, _ => []
  | n + 1, bs => ofBytesBE (bs.take size) :: wordsBE size n (bs.drop size)

/-- The chaining value after `n` blocks of a padded message. -/
def ShaKind.chain (k : ShaKind) : Nat → List Byte → List Nat → List Nat
  | 0, _, v => v
  | n + 1, bs, v => k.chain n (bs.drop (2 * k.bits)) (k.block v (wordsBE (k.bits / 8) 16 bs))

/-- The digest words of a message from an initial chaining value. -/
def ShaKind.hash (k : ShaKind) (init : List Nat) (m : List Byte) : List Nat :=
  let p := k.padded m
  k.chain (p.length / (2 * k.bits)) p init

/-- SHA-384: 48 bytes. -/
def sha384 (m : List Byte) : List Byte :=
  ((sha512Kind.hash ([0xCBBB9D5DC1059ED8, 0x629A292A367CD507, 0x9159015A3070DD17, 0x152FECD8F70E5939] ++
    [0x67332667FFC00B31, 0x8EB44A8768581511, 0xDB0C2E0D64F98FA7, 0x47B5481DBEFA4FA4]) m).take 6).flatMap fun w => bytesBE w 8

/-- SHA-256: 32 bytes. -/
def sha256 (m : List Byte) : List Byte :=
  (sha256Kind.hash ([0x6A09E667, 0xBB67AE85, 0x3C6EF372, 0xA54FF53A] ++ [0x510E527F, 0x9B05688C, 0x1F83D9AB, 0x5BE0CD19]) m).flatMap
    fun w => bytesBE w 4

/-- HMAC over SHA-384. -/
def hmac384 (key m : List Byte) : List Byte :=
  let k0 := if 128 < key.length then sha384 key else key
  let k := k0 ++ List.replicate (128 - k0.length) 0#8
  sha384 (k.map (· ^^^ 0x5C#8) ++ sha384 (k.map (· ^^^ 0x36#8) ++ m))

/-- HKDF over SHA-384: the first 32 bytes, which one block of output holds. -/
def hkdf384 (salt ikm info : List Byte) : List Byte := (hmac384 (hmac384 salt ikm) (info ++ [1#8])).take 32

end Sys2Proof.Machine
end

