-- ==== Sys2Proof/Machine/Ec.lean ====
section
/-!
DEFINITION. ECDSA and ECDH on P-384, and the verification of an LMS signature with LMS_SHA256_M32_H15 and LMOTS_SHA256_N32_W8, which
R33 and R377 name: as their published standards define them (assumption log 7).
-/
namespace Sys2Proof.Machine

/-- The field of P-384, the order of its base point, and the coefficient b. -/
def p384Field : Nat := 2 ^ 384 - 2 ^ 128 - 2 ^ 96 + 2 ^ 32 - 1
def p384Order : Nat := 0xFFFFFFFFFFFFFFFFFFFFFFFFFFFFFFFFFFFFFFFFFFFFFFFFC7634D81F4372DDF581A0DB248B0A77AECEC196ACCC52973
def p384B : Nat := 0xB3312FA7E23EE7E4988E056BE3F82D19181D9C6EFE8141120314088F5013875AC656398D8A2ED19D2A85C8EDD3EC2AEF

/-- a − b in the field, of reduced numbers. -/
def fsub (a b : Nat) : Nat := (a + p384Field - b) % p384Field

/-- A power modulo m, over `n` bits of the exponent. -/
def powMod (m : Nat) : Nat → Nat → Nat → Nat
  | 0, _, _ => 1 % m
  | n + 1, b, e => (if e % 2 = 1 then b else 1) * powMod m n (b * b % m) (e / 2) % m

/-- The inverse modulo a prime of at most 384 bits. -/
def invMod (m a : Nat) : Nat := powMod m 384 (a % m) (m - 2)

/-- A point in Jacobian coordinates; z = 0 is the point at infinity. -/
structure EcPoint where
  x : Nat
  y : Nat
  z : Nat
  deriving DecidableEq, Repr

/-- The point at infinity and the base point. -/
def ecZero : EcPoint := { x := 1, y := 1, z := 0 }
def ecBase : EcPoint :=
  { x := 0xAA87CA22BE8B05378EB1C71EF320AD746E1D3B628BA79B9859F741E082542A385502F25DBF55296C3A545E3872760AB7
    y := 0x3617DE4A96262C6F5D9E98BF9292DC29F8F41DBD289A147CE9DA3113B5F0B8C00A60B1CE1D7E819D7A431D7C90EA0E5F
    z := 1 }

/-- Twice a point. -/
def EcPoint.twice (p : EcPoint) : EcPoint :=
  let q := p384Field
  let yy := p.y * p.y % q
  let zz := p.z * p.z % q
  let s := 4 * p.x * yy % q
  let m := 3 * fsub p.x zz * ((p.x + zz) % q) % q
  let x := fsub (m * m % q) (2 * s % q)
  { x := x, y := fsub (m * fsub s x % q) (8 * yy * yy % q), z := 2 * p.y * p.z % q }

/-- The sum of two points. -/
def EcPoint.plus (a b : EcPoint) : EcPoint :=
  let q := p384Field
  if a.z = 0 then b else if b.z = 0 then a else
  let za := a.z * a.z % q
  let zb := b.z * b.z % q
  let ua := a.x * zb % q
  let sa := a.y * zb * b.z % q
  let h := fsub (b.x * za % q) ua
  let r := fsub (b.y * za * a.z % q) sa
  if h = 0 then if r = 0 then a.twice else ecZero else
  let hh := h * h % q
  let v := ua * hh % q
  let x := fsub (r * r % q) ((h * hh + 2 * v) % q)
  { x := x, y := fsub (r * fsub v x % q) (sa * h * hh % q), z := a.z * b.z * h % q }

/-- A multiple of a point, over `n` bits of the factor. -/
def ecTimes : Nat → Nat → EcPoint → EcPoint
  | 0, _, _ => ecZero
  | n + 1, k, p => let r := ecTimes n (k / 2) p.twice; if k % 2 = 1 then r.plus p else r

/-- The affine coordinates of a point other than infinity. -/
def EcPoint.affine (p : EcPoint) : Nat × Nat :=
  let i := invMod p384Field p.z
  let ii := i * i % p384Field
  (p.x * ii % p384Field, p.y * ii * i % p384Field)

/-- The public key of a private one, as X then Y, 48 bytes each, big-endian (R377). -/
def publicBytes (d : Nat) : List Byte := let a := (ecTimes 384 d ecBase).affine; bytesBE a.1 48 ++ bytesBE a.2 48

/-- The X and Y of a public key in that form. -/
def keyX (k : List Byte) : Nat := ofBytesBE (k.take 48)
def keyY (k : List Byte) : Nat := ofBytesBE ((k.drop 48).take 48)

/-- Whether a public key lies on the curve. -/
def onCurve (k : List Byte) : Bool :=
  let x := keyX k
  let y := keyY k
  decide (x < p384Field) && decide (y < p384Field) &&
    decide (y * y % p384Field = (x * x * x + 3 * (p384Field - 1) * x + p384B) % p384Field)

/-- The shared X coordinate of a private key and a peer's public key (R377). -/
def sharedX (d : Nat) (peer : List Byte) : List Byte :=
  bytesBE (ecTimes 384 d { x := keyX peer, y := keyY peer, z := 1 }).affine.1 48

/-- An ECDSA signature with private key d and the random k over SHA-384: r then s, 48 bytes each. -/
def ecdsaSign (d k : Nat) (m : List Byte) : List Byte :=
  let r := (ecTimes 384 k ecBase).affine.1 % p384Order
  let s := invMod p384Order k * (ofBytesBE (sha384 m) + r * d) % p384Order
  bytesBE r 48 ++ bytesBE s 48

/-- Whether an ECDSA signature (r then s) of a message verifies under a public key. -/
def ecdsaVerify (key m sig : List Byte) : Bool :=
  let r := keyX sig
  let s := keyY sig
  let w := invMod p384Order s
  let u := ofBytesBE (sha384 m) * w % p384Order
  let v := r * w % p384Order
  let t := (ecTimes 384 u ecBase).plus (ecTimes 384 v { x := keyX key, y := keyY key, z := 1 })
  onCurve key && decide (0 < r) && decide (r < p384Order) && decide (0 < s) && decide (s < p384Order) &&
    t.z != 0 && t.affine.1 % p384Order == r

/-! ### LMS (R33) -/

/-- One Winternitz chain from step j, `n` steps on. -/
def otsChain (pre : List Byte) (i : Nat) : Nat → Nat → List Byte → List Byte
  | 0, _, t => t
  | n + 1, j, t => otsChain pre i n (j + 1) (sha256 (pre ++ bytesBE i 2 ++ bytesBE j 1 ++ t))

/-- The digits of a message's hash and of its checksum. -/
def otsDigits (h : List Byte) : List Nat :=
  h.map (·.toNat) ++ (bytesBE ((h.map fun b => 255 - b.toNat).sum) 2).map (·.toNat)

/-- The root that a path gives for a node of the tree. -/
def treeRoot (ident : List Byte) : List (List Byte) → Nat → List Byte → List Byte
  | [], _, t => t
  | p :: r, n, t => treeRoot ident r (n / 2) (sha256 (ident ++ bytesBE (n / 2) 4 ++ [0x83#8, 0x83#8] ++ (if n % 2 = 1 then p ++ t else t ++ p)))

/-- Whether an LMS signature of 1,612 bytes of a message verifies under a public key of 56 bytes: its types, the identifier and the root. -/
def lmsVerify (key m sig : List Byte) : Bool :=
  let ident := (key.drop 8).take 16
  let q := ofBytesBE (sig.take 4)
  let pre := ident ++ bytesBE q 4
  let h := sha256 (pre ++ [0x81#8, 0x81#8] ++ (sig.drop 8).take 32 ++ m)
  let ys := (List.range 34).map fun i => otsChain pre i (255 - (otsDigits h).getD i 0) ((otsDigits h).getD i 0) ((sig.drop (40 + 32 * i)).take 32)
  let leaf := sha256 (ident ++ bytesBE (2 ^ 15 + q) 4 ++ [0x82#8, 0x82#8] ++ sha256 (pre ++ [0x80#8, 0x80#8] ++ ys.flatten))
  ofBytesBE (key.take 4) == 7 && ofBytesBE ((key.drop 4).take 4) == 4 && ofBytesBE ((sig.drop 4).take 4) == 4 &&
    ofBytesBE ((sig.drop 1128).take 4) == 7 && decide (q < 2 ^ 15) &&
    treeRoot ident ((List.range 15).map fun i => (sig.drop (1132 + 32 * i)).take 32) (2 ^ 15 + q) leaf == (key.drop 24).take 32

end Sys2Proof.Machine
end

