-- ==== Sys2Proof/Machine/Load.lean ====
section
/-!
DEFINITION. The container: its layout, the checks of the bitstream loader in the order of R41, the topology checks of R36,
and the structure an accepted container gives (R29 to R37, R240, R321, R369).
-/
namespace Sys2Proof.Machine

/-- A container as the loader reads it: the byte at each offset. -/
abbrev Image := Nat → Byte

/-- The `n` bytes of an image from offset `o`. -/
def imgBytes (f : Image) (o n : Nat) : List Byte := (List.range n).map fun i => f (o + i)

/-- The little-endian number in the `n` bytes of an image from offset `o` (R29). -/
def imgNum (f : Image) (o n : Nat) : Nat := ofBytesLE (imgBytes f o n)

/-! ### The section directory (R32, R34) -/

/-- One directory entry (R32). -/
structure DirEntry where
  type : Nat
  off  : Nat
  len  : Nat
  crc  : Nat
  deriving DecidableEq, Repr

/-- The SPI-NOR data lines and the clock in MHz that flash_mode selects (R31). -/
def norLinesOf (m : Nat) : Nat := if m % 4 = 1 then 2 else if m % 4 = 2 then 4 else 1
def norMhzOf (m : Nat) : Nat := if m / 16 % 16 = 1 then 50 else if m / 16 % 16 = 2 then 100 else 25

/-- flash_mode of an image (R30). -/
def flashMode (f : Image) : Nat := imgNum f 0x0D 1

/-- section_count, container_len and sig_offset (R30). -/
def secCount (f : Image) : Nat := imgNum f 0x06 2
def contLen (f : Image) : Nat := imgNum f 0x08 4
def sigOff (f : Image) : Nat := imgNum f 0x30 4

/-- The directory of an image (R32). DESIGN CHOICE (log 50): the flags byte and the Reserved bytes of an entry are not checked. -/
def directory (f : Image) : List DirEntry := (List.range (secCount f)).map fun i =>
  let o := 0x40 + 16 * i
  { type := imgNum f o 1, off := imgNum f (o + 4) 4, len := imgNum f (o + 8) 4, crc := imgNum f (o + 12) 4 }

/-- The bytes of the section of a type; none where it is not there. -/
def sectionOf? (f : Image) (ty : Nat) : Option (List Byte) :=
  ((directory f).find? (·.type == ty)).map fun e => imgBytes f e.off e.len

/-- The bytes of a section, empty where it is not there. -/
def sectionBytes (f : Image) (ty : Nat) : List Byte := (sectionOf? f ty).getD []

/-! ### The structure that the sections give -/

/-- The rate code of a data rate in MT/s (R36, R279). -/
def rateCode? (mts : Nat) : Option Nat :=
  if mts = 8533 then some 3 else if mts = 6400 then some 2 else if mts = 4267 then some 1 else if mts = 3200 then some 0 else none

/-- One set of an EQUALISATION record, clamped (R240). -/
def eqSetOf (b : Nat → Byte) (o : Nat) : EqSet :=
  let pre := min 15 (b o).toNat
  let main := min 63 (b (o + 1)).toNat
  let post := min 31 (b (o + 2)).toNat
  { pre := pre, main := if 63 < pre + main + post then 63 - pre - post else main, post := post
    ctle := min 15 (b (o + 3)).toNat
    dfe1 := clampI (-32) 31 (sext 8 (b (o + 4)).toNat)
    dfe2 := clampI (-16) 15 (sext 8 (b (o + 5)).toNat)
    dfe3 := clampI (-16) 15 (sext 8 (b (o + 6)).toNat) }

/-- Whether a set needed no change (R240). -/
def eqSetKept (b : Nat → Byte) (o : Nat) : Bool :=
  let e := eqSetOf b o
  e.pre == (b o).toNat && e.main == (b (o + 1)).toNat && e.post == (b (o + 2)).toNat && e.ctle == (b (o + 3)).toNat &&
  decide (e.dfe1 = sext 8 (b (o + 4)).toNat) && decide (e.dfe2 = sext 8 (b (o + 5)).toNat) && decide (e.dfe3 = sext 8 (b (o + 6)).toNat)

/-- The EQUALISATION records: 96 records of 40 bytes in lane order (R240). -/
def eqOf (bs : List Byte) : List EqLane := (List.range 96).map fun n =>
  let b := fun i => bs.getD (40 * n + i) 0
  { rxInv := (b 0).toNat.testBit 0, txInv := (b 0).toNat.testBit 1
    clamped := !((List.range 4).all fun k => eqSetKept b (8 + 8 * k))
    sets := (List.range 4).map fun k => eqSetOf b (8 + 8 * k) }

/-- The TRIMS records, of 4 bytes each (R321). -/
def trimsOf (bs : List Byte) : List TrimRec := (List.range (bs.length / 4)).map fun i =>
  { kind := (bs.getD (4 * i) 0).toNat, lane := (bs.getD (4 * i + 1) 0).toNat, value := ofBytesLE ((bs.drop (4 * i + 2)).take 2) }

/-- The PRESETS records, an address and a value of 4 bytes each (R34). -/
def presetsOf (bs : List Byte) : List (Nat × Nat) := (List.range (bs.length / 8)).map fun i =>
  (ofBytesLE ((bs.drop (8 * i)).take 4), ofBytesLE ((bs.drop (8 * i + 4)).take 4))

/-- The structure an image gives, not yet in force. -/
def topoOf (f : Image) : Topo :=
  let ln := Config.lanesOf (sectionBytes f 1)
  { rates := ln.rates, ports := ln.ports
    eq := eqOf (sectionBytes f 2)
    heads := Config.headsOf (sectionBytes f 3)
    laser := match sectionOf? f 4 with | some b => Config.laserOf b | none => {}
    basin := Config.partitionOf (sectionBytes f 5)
    dram := { Config.dramOf (sectionBytes f 6) with rate := (rateCode? (Config.dramRateOf (sectionBytes f 6))).getD 0 }
    blocks := ofBytesLE ((sectionBytes f 7).take 2)
    trims := trimsOf (sectionBytes f 8)
    presets := presetsOf (sectionBytes f 9) }

/-! ### Topology checks (R36) -/

/-- Whether a list of numbers names none twice. -/
def noTwice (l : List Nat) : Bool := match l with
  | [] => true
  | a :: r => !r.contains a && noTwice r

/-- The lanes rules of R36, R14 and R35. -/
def lanesOk (t : Topo) : Bool :=
  decide (t.rates.length = 12) && t.rates.all (fun r => decide (r < 4)) &&
  decide (t.ports.length ≤ 24) && noTwice (t.ports.map (·.port)) &&
  t.ports.all (fun p => decide (p.port < 24) && decide (1 ≤ p.count) && decide (p.count ≤ 16) && decide (p.first + p.count ≤ 96) &&
    (p.lanes.all fun n => t.rates.getD (n / 8) 0 == t.rates.getD (p.first / 8) 0) &&
    (if p.egress then decide (1 ≤ p.kind) && decide (p.kind ≤ 4) else p.kind == 0)) &&
  noTwice (t.ports.flatMap (·.lanes)) && t.ports.any (fun p => !p.egress)

/-- The peer kind of a port, if it is in the LANES section. -/
def Topo.kindOf? (t : Topo) (p : Nat) : Option Nat := (t.port? p).map (·.kind)

/-- The enabled heads by index, and those of one mode. DESIGN CHOICE (log 50): only enabled heads count where R34 and R36 speak of
any mirror head, any panel head, or the ports that a head record names. -/
def Topo.headsOn (t : Topo) : List Nat := (List.range 4).filter fun h => (t.head h).en
def Topo.mirrors (t : Topo) : List Nat := t.headsOn.filter fun h => (t.head h).mirror
def Topo.panels (t : Topo) : List Nat := t.headsOn.filter fun h => !(t.head h).mirror

/-- The ports a head record names, each with the peer kind that R36 asks of it. -/
def namedPorts (c : HeadCfg) : List (Nat × Nat) :=
  if c.mirror then c.arrays.map fun a => (a.port, 1) else (c.rowPort, 3) :: c.colPorts.map fun p => (p, 4)

/-- The head rules of R36. -/
def headsOk (t : Topo) : Bool :=
  decide (t.heads.length ≤ 4) && decide (t.mirrors.length ≤ 2) &&
  t.headsOn.all (fun h =>
    let c := t.head h
    decide (1 ≤ c.width) && decide (1 ≤ c.height) &&
    (if c.mirror then
      decide (1 ≤ c.arrays.length) && decide (c.arrays.length ≤ 3) &&
      c.arrays.all fun a => decide (1 ≤ a.width) && decide (a.width ≤ 4096) && decide (1 ≤ a.height) && decide (a.height ≤ 2176) &&
        decide (1 ≤ a.rate) && decide (a.rate ≤ 20000)
    else decide (c.width * c.height ≤ 7680 * 4320) && decide (1 ≤ c.colPorts.length) && decide (c.colPorts.length ≤ 8)) &&
    (namedPorts c).all fun x => t.kindOf? x.1 == some x.2) &&
  noTwice (t.headsOn.flatMap fun h => (namedPorts (t.head h)).map (·.1))

/-- The formatter bandwidth rule of R36, exact: lanes × rate × 64 / 66 covers width × height × planes/s. -/
def bandwidthOk (t : Topo) : Bool :=
  t.mirrors.all fun h => (t.head h).arrays.all fun a =>
    match t.port? a.port with
    | none => false
    | some p => decide (a.width * a.height * a.rate * 66 ≤ p.count * (3200000000 * 2 ^ t.rates.getD (p.first / 8) 0) * 64)

/-- The laser map rules of R36 and R15. DESIGN CHOICE (log 50): a driver record may stand for no driver, and is then not checked. -/
def laserOk (t : Topo) : Bool :=
  let l := t.laser
  decide (l.groups.length ≤ 16) &&
  l.drivers.all (fun d => match d with
    | none => true
    | some d => t.mirrors.contains d.head && t.kindOf? d.port == some 2) &&
  l.groups.all (fun g => t.mirrors.contains g.head && decide (g.array < (t.head g.head).arrays.length)) &&
  t.mirrors.all (fun h =>
    let n := (l.groups.filter fun g => g.head == h).length
    decide (1 ≤ n) && decide (n ≤ 4)) &&
  (List.range 256).all (fun c => match l.chans.getD c none with
    | none => true
    | some g => match l.groups[g]?, l.drivers.getD (c / 16) none with
      | some x, some d => x.head == d.head
      | _, _ => false) &&
  (List.range l.groups.length).all fun g => l.chans.contains (some g)

/-- The polders a head requires (R16). -/
def polderNeed (c : HeadCfg) : Nat := ceilDiv c.width 32 * ceilDiv c.height 32

/-- The polder pool rule of R16 and R36. -/
def poldersOk (t : Topo) : Bool := decide ((t.headsOn.map fun h => polderNeed (t.head h)).sum ≤ 40960)

/-- The basin rules of R36: a region of a user for a head, or of replay staging, appears at most once. -/
def basinOk (t : Topo) : Bool :=
  decide ((t.basin.map (·.banks)).sum ≤ 64) && t.basin.all (fun r => decide (1 ≤ r.user) && decide (r.user ≤ 3)) &&
  noTwice (t.basin.map fun r => if r.user = 3 then 16 else 4 * r.user + r.head)

/-- The raw capacity of the enabled channels in MiB (R279). -/
def rawMib (d : DramSec) : Nat :=
  (((List.range 16).filter fun c => d.mask.testBit c).map fun c => d.ranks * 512 * 2 ^ d.densities.getD c 0).sum

/-- The DRAM rules of R36. -/
def dramOk (t : Topo) (mts : Nat) : Bool :=
  let d := t.dram
  (d.ranks == 1 || d.ranks == 2) && d.densities.all (fun c => decide (c < 4)) && (rateCode? mts).isSome &&
  decide (rawMib d ≤ 65536) && d.reserved.all fun r => decide ((r.first + r.pages) * 65536 ≤ rawMib d * 1048576)

/-- The block set rules of R36. -/
def blocksOk (t : Topo) : Bool :=
  (List.range 11).all (fun b => t.blocks.testBit b) &&
  [11, 12, 13].all (fun b => t.blocks.testBit b == !t.mirrors.isEmpty) && t.blocks.testBit 14 == !t.panels.isEmpty

/-- The bits of a register whose write acts beyond storing the value (R37): enables, requests and valid bits, data registers
whose write stores a table entry, and a timeline's low word; LSC_CH_DRIVE sends, LNE_L_CTL.test starts a test, a write of LNK_CTL
begins the sending of events (R353), one of MGT_EVT_RD frees slots, and one of LSC_O_CTL's mode or test moves the phase (R201, R202). -/
def actMask (blk off : Nat) : Nat :=
  match blk, off with
  | 0, 0x100 => 1
  | 0, 0x10C => 0x1FFF
  | 0, 0x20C => 0x80000000
  | 2, 0x300 => 0x80000000
  | 4, 0x100 => 0x100
  | 4, 0x10000 => 0x70
  | 5, 0x100 => 0x1F0001
  | 7, 0x800 => 0xFFFFFFFF
  | 7, 0x10000 => 1
  | 9, 0x10014 => 0x3FFFF
  | 10, 0x10000 => 1
  | 11, 0x10020 => 0xFFFFFFFF
  | 13, 0x100 => 1
  | 13, 0x10C => 0x0F03FFFF
  | 13, 0x600 => 0x13
  | 13, 0xC00 => 0x80000000
  | 13, 0x10000 => 1
  | 13, 0x10040 => 0x3FFFF
  | 14, 0x10010 => 1
  | 14, 0x1002C => 0x80000000
  | 14, 0x10048 => 0x3FFFF
  | 15, 0x100 => 0x80000000
  | 15, 0x200 => 0x80000000
  | 15, 0x400 => 0x80000000
  | _, _ => 0

/-- Whether an address is that of a listed register without RW or RWS fields that the map does not list as such: a header
register, or the high register of a counter (R7, R22). -/
def readOnlyListed (a : Nat) : Bool :=
  decide (a % 0x100000 < 0xC) ||
  match lookupReg (a - 4) with
  | some (r, _) => r.cnt
  | none => false

/-- The presets rule of R36 for one record. DESIGN CHOICE (log 50): a field value that R8 would not admit in a write is no fault. -/
def presetOk (blocks : Nat) (x : Nat × Nat) : Bool :=
  let a := x.1
  decide (a < 0x1000000) && a % 4 == 0 && blocks.testBit (a / 0x100000) &&
  match lookupReg a with
  | none => readOnlyListed a && x.2 == 0
  | some (r, ix) =>
    let settable := r.rw ||| r.rws
    x.2 &&& (0xFFFFFFFF ^^^ settable) == 0 &&
    x.2 &&& actMask r.blk r.off == r.resetAt ix &&& actMask r.blk r.off

/-- The topology checks in the order of R36: the status of the first that fails. -/
def topoStatus (t : Topo) (mts : Nat) : Nat :=
  if !lanesOk t then 0x0A
  else if !headsOk t || !bandwidthOk t then 0x0B
  else if !laserOk t then 0x0C
  else if !poldersOk t then 0x0D
  else if !basinOk t then 0x0E
  else if !dramOk t mts then 0x0F
  else if !blocksOk t then 0x10
  else if !(t.presets.all (presetOk t.blocks)) then 0x11
  else 0x00

/-! ### The checks of a source (R41) -/

/-- Checks 2 to 4 and 5 of R41: format_ver, lengths, device_bind and sec_ver. -/
def headStatus (f : Image) (rollback : Nat) : Nat :=
  if imgNum f 0x04 2 ≠ 1 then 0x02
  else if contLen f % 16 ≠ 0 ∨ 8388608 < contLen f ∨ contLen f ≠ sigOff f + 1712 ∨ imgNum f 0x34 4 ≠ 1712 ∨ sigOff f < 64 then 0x03
  else if !((imgBytes f 0x10 16).all (· == 0)) && !((List.range 16).all fun i => f (0x10 + i) == Config.serialByte i) then 0x04
  else if imgNum f 0x0C 1 < rollback then 0x05
  else 0x00

/-- The public keys of vendor key set k (R369). -/
def vendorEc (k : Nat) : List Byte := (List.range 96).map (Config.vendorEcByte k)
def vendorLms (k : Nat) : List Byte := (List.range 56).map (Config.vendorLmsByte k)

/-- Whether the signatures verify under key set k (R33). -/
def ecdsaOk (f : Image) (k : Nat) : Bool := ecdsaVerify (vendorEc k) (imgBytes f 0 (sigOff f)) (imgBytes f (sigOff f) 96)
def lmsOk (f : Image) (k : Nat) : Bool := lmsVerify (vendorLms k) (imgBytes f 0 (sigOff f)) (imgBytes f (sigOff f + 96) 1612)

/-- The vendor key sets that are not revoked, ascending (R369). -/
def liveSets (revoked : Nat) : List Nat := (List.range 4).filter fun k => !revoked.testBit k

/-- The key set that verifies both signatures: the first in ascending order (R369). -/
def keySet? (f : Image) (revoked : Nat) : Option Nat := (liveSets revoked).find? fun k => ecdsaOk f k && lmsOk f k

/-- Checks 6 and 7 (R369). -/
def sigStatus (f : Image) (revoked : Nat) : Nat :=
  if (keySet? f revoked).isSome then 0x00
  else if (liveSets revoked).any (ecdsaOk f) then 0x07 else 0x06

/-- Whether two sections overlap (R32). -/
def DirEntry.meets (x y : DirEntry) : Bool := decide (x.off < y.off + y.len) && decide (y.off < x.off + x.len)

/-- Whether no two of the sections overlap. -/
def disjointAll (l : List DirEntry) : Bool := match l with
  | [] => true
  | e :: r => r.all (fun x => !e.meets x) && disjointAll r

/-- Check 8 (R30, R32, R34): the count, the types, and where the sections lie. LASER_MAP is there exactly when a head is a
mirror head that is enabled (log 50). -/
def dirOk (f : Image) : Bool :=
  let d := directory f
  let mirror := (Config.headsOf (sectionBytes f 3)).any fun h => h.en && h.mirror
  decide (7 ≤ secCount f) && decide (secCount f ≤ 10) && decide (0x40 + 16 * secCount f ≤ sigOff f) &&
  d.all (fun e => decide (1 ≤ e.type) && decide (e.type ≤ 10) && e.off % 16 == 0 &&
    decide (0x40 + 16 * secCount f ≤ e.off) && decide (e.off + e.len ≤ sigOff f)) &&
  noTwice (d.map (·.type)) && [1, 2, 3, 5, 6, 7, 10].all (fun ty => d.any (·.type == ty)) &&
  (d.any (·.type == 4)) == mirror && disjointAll d

/-- Check 9: every section's CRC-32 (R32). -/
def crcsOk (f : Image) : Bool := (directory f).all fun e => crc32 (imgBytes f e.off e.len) == e.crc

/-- Check 11: the firmware image is not empty and at most 4 MiB (R34, R45). -/
def firmwareOk (f : Image) : Bool := (directory f).all fun e => e.type != 10 || (decide (1 ≤ e.len) && decide (e.len ≤ 4194304))

/-- Checks 2 to 11 of R41, in order: the status of the first that fails. -/
def imageStatus (f : Image) (o : Otp) (rollback : Nat) : Nat :=
  if headStatus f rollback ≠ 0 then headStatus f rollback
  else if sigStatus f o.revoked ≠ 0 then sigStatus f o.revoked
  else if !dirOk f then 0x08
  else if !crcsOk f then 0x09
  else if topoStatus (topoOf f) (Config.dramRateOf (sectionBytes f 6)) ≠ 0 then
    topoStatus (topoOf f) (Config.dramRateOf (sectionBytes f 6))
  else if !firmwareOk f then 0x12
  else 0x00

/-- The magic (R30). -/
def magicBytes : List Byte := [0x48, 0x46, 0x4C, 0x42]

/-- All checks of R41. -/
def loadStatus (f : Image) (o : Otp) (rollback : Nat) : Nat :=
  if imgBytes f 0 4 ≠ magicBytes then 0x01 else imageStatus f o rollback

/-- The anti-rollback value (R371). -/
def rollbackValue (o : Otp) : Nat := if o.rollback = 0 then 0 else Nat.log2 o.rollback + 1


/-- An image whose magic is taken as present (R46). -/
def withMagic (f : Image) : Image := fun i => if i < 4 then magicBytes.getD i 0 else f i

/-- The bytes of a flash slot by their offset in it, as a copy holds them. -/
def slotCopy (s : State) (n : Nat) : Memory :=
  (s.flash.filter fun c => c.1 / 0x800000 == n).map fun c => { c with fst := c.1 - n * 0x800000 }

/-- A copy of a slot as an image. -/
def copyImage (m : Memory) : Image := fun i => Memory.byte 0xFF m i

/-- A flash slot as an image: slot 0 at flash offset 0, slot 1 at 0x0080_0000 (R38); unlisted bytes are erased. -/
def slotImage (s : State) (n : Nat) : Image := fun i => Memory.byte 0xFF s.flash (n * 0x800000 + i)

end Sys2Proof.Machine
end

