-- ==== Sys2Proof/Machine/Raster.lean ====
section
/-!
DEFINITION. A head's timing: views of staged or in-force words, rates and totals (R97, R99, R137, R227), the raster
position, the sluice window (R104), and what a staged commit captures (R103).
-/
namespace Sys2Proof.Machine

/-! ### Views: a set of class C and class T words of a head, in force or captured -/

/-- Bits [hi:lo] of a register in a view. -/
def vf (v : SMap Word) (r : Reg) (ix : List Nat) (hi lo : Nat) : Nat :=
  fld ((v.find (r.at ix)).getD (resetWord (r.at ix))) hi lo

/-- The class C and class T bits of the register at an address, as masks. -/
def ctMask (a : Nat) : Nat × Nat :=
  match lookupReg a with
  | some (r, _) => (r.c, r.t)
  | none => (0, 0)

/-- The bits of `new` in a mask, and the bits of `old` outside it. -/
def mix (mask : Nat) (old new : Word) : Word :=
  word ((old.toNat &&& (0xFFFFFFFF ^^^ mask)) ||| (new.toNat &&& mask))

/-- What acceptance captures (R103): the staged class C and class T fields of the head in every block. -/
def State.capture (s : State) (h : Nat) : SMap Word :=
  s.regs.filterMap fun (a, w) =>
    if s.headOfAddr a = some h then
      let m := ctMask a
      let x := mix (m.1 ||| m.2) (resetWord a) w
      if x = resetWord a then none else some (a, x)
    else none

/-- The words in force of a head. -/
def State.forceOf (s : State) (h : Nat) : SMap Word := s.force.filter fun e => s.headOfAddr e.1 == some h

/-- The captured words become the words in force of the head: of its class C and class T words nothing else stays (R105). -/
def applyWords (h : Nat) (words : SMap Word) (s : State) : State :=
  let rest := s.force.filter fun e => s.headOfAddr e.1 != some h || ctMask e.1 == (0, 0)
  { s with force := words.foldl (fun m e => m.insert e.1 e.2) rest }

/-- Only the class T bits of the captured words come into force (R107). -/
def applyT (h : Nat) (words : SMap Word) (s : State) : State :=
  let old := s.forceOf h
  let addrs := (old.map (·.1) ++ words.map (·.1)).filter fun a => (ctMask a).2 != 0
  addrs.foldl (fun t a => t.setForce a (mix (ctMask a).2 (t.inForce a) ((words.find a).getD (resetWord a)))) s

/-- Whether two views differ in a class T field (R107). -/
def diffT (v w : SMap Word) : Bool :=
  (v.map (·.1) ++ w.map (·.1)).any fun a =>
    let m := (ctMask a).2
    ((v.find a).getD (resetWord a)).toNat &&& m != ((w.find a).getD (resetWord a)).toNat &&& m

/-! ### Timing of a view -/

def hTotal (v : SMap Word) (h : Nat) : Nat := vf v Rg.TGN_H_HTIME [h] 29 16 + 1
def hActive (v : SMap Word) (h : Nat) : Nat := vf v Rg.TGN_H_HTIME [h] 13 0 + 1
def vTotal (v : SMap Word) (h : Nat) : Nat := vf v Rg.TGN_H_VTIME [h] 29 16 + 1
def vActive (v : SMap Word) (h : Nat) : Nat := vf v Rg.TGN_H_VTIME [h] 13 0 + 1
def pixInc (v : SMap Word) (h : Nat) : Nat := vf v Rg.TGN_H_PIX_INC [h] 29 0
def glEn (v : SMap Word) (h : Nat) : Bool := vf v Rg.TGN_H_GL_CTL [h] 31 31 == 1

/-- pull_ppm as it acts: 0 and values above 1,000 act as 1,000 (R115). -/
def State.pullPpm (s : State) (h : Nat) : Nat :=
  let p := s.fd Rg.TGN_H_GL_CTL [h] 30 20
  if p = 0 ∨ 1000 < p then 1000 else p

/-- The head rate of R99 in units of 2^−28 pixel/s: inc × 1.28 GHz × (1 + pull). -/
def State.headRate (s : State) (v : SMap Word) (h : Nat) : Nat :=
  pixInc v h * 1280 * (1000000 + if glEn v h then s.pullPpm h else 0)

/-- The words a head counts with in the device rate: those in force and every pending commit's. -/
def State.headViews (s : State) (h : Nat) : List (SMap Word) :=
  s.forceOf h :: ((s.tgn.get {} h).pend.map (·.words))

/-- The largest rate of a head over its values in force and pending (R99). -/
def State.headRateMax (s : State) (h : Nat) : Nat := ((s.headViews h).map fun v => s.headRate v h).foldl max 0

/-- Whether a head is neither OFF nor UNAVAILABLE, so that it counts (R99). -/
def State.headOn (s : State) (h : Nat) : Bool := decide (2 ≤ (s.tgn.get {} h).state) && !s.replaying h

/-- Panel heads and mirror heads of the bitstream. -/
def State.mirror (s : State) (h : Nat) : Bool := (s.cfg.head h).en && (s.cfg.head h).mirror
def State.panel (s : State) (h : Nat) : Bool := (s.cfg.head h).en && !(s.cfg.head h).mirror

/-- The rules of R99 for a view; `counts` tells whether this head counts in the device rate: it does not for a commit made while it is
OFF. -/
def State.timingOk (s : State) (v : SMap Word) (h : Nat) (counts : Bool) : Bool :=
  let c := s.cfg.head h
  let area := if c.mirror then
      match c.arrays with
      | a :: _ => hActive v h == a.width && vActive v h == a.height
      | [] => true
    else decide (hActive v h ≤ c.width) && decide (vActive v h ≤ c.height)
  let hsw := vf v Rg.TGN_H_HSYNC [h] 29 16
  let vsw := vf v Rg.TGN_H_VSYNC [h] 29 16
  let sync := c.mirror || (decide (1 ≤ hsw) && decide (1 ≤ vsw) &&
    decide (vf v Rg.TGN_H_HSYNC [h] 13 0 + hsw ≤ hTotal v h - hActive v h) &&
    decide (vf v Rg.TGN_H_VSYNC [h] 13 0 + vsw ≤ vTotal v h - vActive v h))
  let rate := s.headRate v h
  let others := (((List.range 4).filter fun k => k != h && s.headOn k).map fun k => s.headRateMax k).sum
  area && sync &&
  decide (hActive v h + 16 ≤ hTotal v h) && decide (vActive v h + 8 ≤ vTotal v h) &&
  decide (rate ≤ 4000000000 * 2 ^ 28) && decide ((if counts then rate else 0) + others ≤ 8000000000 * 2 ^ 28) &&
  (!glEn v h || s.cfg.inst 15) && decide (1 ≤ pixInc v h) &&
  decide (1 ≤ vf v Rg.TGN_H_GL_RATE [h] 31 20) && decide (1 ≤ vf v Rg.TGN_H_GL_RATE [h] 19 0)

/-- `a` ns or more is longer than `k` frame pixels of the view at its fastest (R137, R227): pixels × 2^28 × 10^9 against
ns × rate. -/
def State.longerThan (s : State) (v : SMap Word) (h ns pixels : Nat) : Bool :=
  decide (pixels * 2 ^ 28 * 1000000000 < ns * s.headRate v h)

/-! ### The raster of a running head (R97, R104, R115) -/

/-- The state of head h. -/
def State.hd (s : State) (h : Nat) : TgnHead := s.tgn.get {} h

/-- The state with head h changed. -/
def State.modHd (s : State) (h : Nat) (f : TgnHead → TgnHead) : State := { s with tgn := s.tgn.upd {} h f }

/-- Frame boundaries since enable (R115). -/
def State.frameNo (s : State) (h : Nat) : Nat := (s.cnt (Rg.TGN_H_FRAME.at [h])).val

/-- The increment the raster runs with: what genlock gave for the frame (R113). -/
def State.incUsed (s : State) (h : Nat) : Nat := (s.hd h).incUsed

/-- The pixel accumulator of head h since the boundary, in 2^−28 pixel (R97). -/
def State.accum (s : State) (h : Nat) : Nat := (s.hd h).acc0 + (s.now - (s.hd h).start) * s.incUsed h

/-- Pixels since the boundary, by the accumulator. -/
def State.pixelsIn (s : State) (h : Nat) : Nat := s.accum h / 2 ^ 28

/-- What the accumulator holds past the end of a line in the clock in which a boundary falls (R97): below one increment, and 0 where
the boundary falls elsewhere. -/
def State.carry (s : State) (h : Nat) : Nat :=
  let r := s.accum h % (hTotal (s.forceOf h) h * 2 ^ 28)
  if r < s.incUsed h then r else 0

/-- Current line, at most the frame's last. -/
def State.lineNow (s : State) (h : Nat) : Nat :=
  let v := s.forceOf h
  min (s.pixelsIn h / hTotal v h) (vTotal v h - 1)

/-- The instant, in core clock periods, at which the accumulator reaches a pixel count from the boundary. -/
def State.pixelAt (s : State) (h pixels : Nat) : Nat :=
  (s.hd h).start + if s.incUsed h = 0 then 0 else ceilDiv (pixels * 2 ^ 28 - (s.hd h).acc0) (s.incUsed h)

/-- Whether the sluice window of the frame in progress has closed (R104). -/
def State.windowClosed (s : State) (h : Nat) : Bool :=
  let v := s.forceOf h
  let c := min (s.fd Rg.TGN_H_SLUICE [h] 13 0) (vTotal v h - 1)
  ((s.hd h).state == 3 || (s.hd h).state == 4) && decide (vTotal v h - c ≤ s.lineNow h)

/-- The boundary that a commit accepted now would target, and whether it is late (R104). -/
def State.sluice (s : State) (h : Nat) : Nat × Bool :=
  let own := s.frameNo h + if s.windowClosed h then 2 else 1
  let last := ((s.hd h).pend.getLast?.map (·.target)).getD 0
  (max own last, s.windowClosed h)

/-- The panel drive of head h, and the state with it changed. -/
def State.pn (s : State) (h : Nat) : PnlHead := s.pnl.get {} h
def State.modPn (s : State) (h : Nat) (f : PnlHead → PnlHead) : State := { s with pnl := s.pnl.upd {} h f }

/-- Sets a sticky flag of a panel head. -/
def pnlFlag (h b : Nat) (s : State) : State := s.wr Rg.PNL_H_FLAGS [h] (setBit (s.rd Rg.PNL_H_FLAGS [h]) b true)

/-- An exit trigger (R223): a head in SELF goes to EXITING until the boundary a commit accepted now would target. -/
def exitTrigger (h : Nat) (s : State) : State :=
  if (s.pn h).sr = 1 then pnlFlag h 3 (s.modPn h fun p => { p with sr := 2, exitAt := (s.sluice h).1 }) else s

/-- A head returns to LIVE (R220); leaving SELF sets its flag (R232). -/
def srLive (h : Nat) (s : State) : State :=
  (if (s.pn h).sr = 1 then pnlFlag h 3 s else s).modPn h fun p => { p with sr := 0, srFrame := 0 }

end Sys2Proof.Machine
end

