-- ==== Sys2Proof/Machine/Transfer.lean ====
section
/-!
DEFINITION. The linearisation tables of R88. The spec names the functions by their standards and gives no constants: PRESUMED, the
constants are those of IEC 61966-2-1, BT.709 and BT.2100. Every entry is found with whole numbers.
-/
namespace Sys2Proof.Machine

/-- The largest number of at most n bits above `acc` that satisfies a property that holds up to some bound. -/
def bitSearch (ok : Nat → Bool) : Nat → Nat → Nat
  | 0, acc => acc
  | n + 1, acc => if ok (acc + 2 ^ n) then bitSearch ok n (acc + 2 ^ n) else bitSearch ok n acc

/-- floor(a / b + 1/2). -/
def roundDiv (a b : Nat) : Nat := (2 * a + b) / (2 * b)

/-- rnd(2^28 × (n / d)^(p / q)): the largest T with 2T − 1 ≤ 2^29 (n / d)^(p / q). -/
def powerEntry (n d p q : Nat) : Nat :=
  let bound := 2 ^ (29 * q) * n ^ p
  let scale := d ^ p
  bitSearch (fun t => decide ((2 * t - 1) ^ q * scale ≤ bound)) 29 0

/-- T[j] of the sRGB decoding function (R88). -/
def srgbEntry (j : Nat) : Nat :=
  if j * 100000 ≤ 4045 * 4096 then roundDiv (j * 2 ^ 28 * 100) (4096 * 1292)
  else powerEntry (1000 * j + 55 * 4096) (1055 * 4096) 12 5

/-- T[j] of the inverse of the BT.709 OETF (R88). -/
def bt709Entry (j : Nat) : Nat :=
  if 1000 * j < 81 * 4096 then roundDiv (j * 2 ^ 28 * 10) (4096 * 45)
  else powerEntry (1000 * j + 99 * 4096) (1099 * 4096) 20 9

/-- T[j] of the BT.2100 PQ EOTF over 10,000 cd/m² (R88); the inner root is taken to 64 binary places. -/
def pqEntry (j : Nat) : Nat :=
  let p := bitSearch (fun x => decide (x ^ 2523 * 4096 ^ 32 ≤ j ^ 32 * 2 ^ (64 * 2523))) 65 0
  let n := 128 * p - 107 * 2 ^ 64
  let d := 2413 * 2 ^ 64 - 2392 * p
  powerEntry (n * 2 ^ 64 / d) (2 ^ 64) 8192 1305

/-- e^(n / d) to 96 binary places, by k more terms of its series. -/
def expSeries (n d : Nat) : Nat → Nat → Nat → Nat
  | 0, _, _ => 0
  | k + 1, i, term => term + expSeries n d k (i + 1) (term * n / (d * (i + 1)))

/-- T[j] of the BT.2100 HLG inverse OETF (R88). -/
def hlgEntry (j : Nat) : Nat :=
  if j ≤ 2048 then roundDiv (j * j * 2 ^ 28) (3 * 4096 * 4096)
  else
    let e := expSeries ((j - 2048) * 100000000) (4096 * 17883277) 64 0 (2 ^ 96)
    roundDiv (2 ^ 28 * (4 * 17883277 * e + (100000000 - 4 * 17883277) * 2 ^ 96)) (12 * 100000000 * 2 ^ 96)

/-- T[j] of the table that tf selects (R88). -/
def transfer (tf j : Nat) : Nat :=
  if tf = 1 then srgbEntry j else if tf = 2 then bt709Entry j else if tf = 3 then pqEntry j else hlgEntry j

end Sys2Proof.Machine
end

