-- ==== Sys2Proof/Machine/Colour.lean ====
section
/-!
DEFINITION. PXP arithmetic: the layer input stage and the head stage (R84 to R95), as functions of plain numbers.
-/
namespace Sys2Proof.Machine

/-- rnd(a / b): division rounded half up (R84). -/
def rnd (a : Int) (b : Nat) : Int := (2 * a + b) / (2 * b : Nat)

/-- Full scale of an 18-bit code. -/
def fullScale : Nat := 262143

/-- An integer limited to 0 to 262,143. -/
def clamp18 (i : Int) : Nat := (clampI 0 fullScale i).toNat

/-! ### Layer input stage (R85 to R89) -/

/-- The magnitude of a binary16 value in units of 2^−24; none for NaN. Infinity counts as 2^16. -/
def halfMag (w : Nat) : Option Nat :=
  let e := bitsOf w 14 10
  let m := bitsOf w 9 0
  if e = 31 then (if m = 0 then some (2 ^ 40) else none)
  else if e = 0 then some m else some ((1024 + m) * 2 ^ (e - 1))

/-- A binary16 value in units of 2^−24; NaN gives 0. -/
def halfVal (w : Nat) : Int :=
  match halfMag w with
  | none => 0
  | some m => if w.testBit 15 then -(m : Int) else (m : Int)

/-- E of a binary16 component (R85). -/
def halfE (w : Nat) : Int := clampI (-(2 ^ 23)) (2 ^ 23 - 1) (rnd (halfVal w) 16)

/-- The alpha of a binary16 source (R75). -/
def halfAlpha (w : Nat) : Nat := ((clampI 0 (2 ^ 24) (halfVal w)).toNat * 4095 + 2 ^ 23) / 2 ^ 24

/-- E of an RGB component or of a full-range Y, from x16 and the code width n. -/
def fullE (n : Nat) (x16 : Int) : Int := rnd (x16 * 2 ^ 20) (16 * (2 ^ n - 1))

/-- E of a full-range chroma component. -/
def fullChroma (n : Nat) (x16 : Int) : Int := rnd ((x16 - 16 * 2 ^ (n - 1)) * 2 ^ 20) (16 * (2 ^ n - 1))

/-- E of a limited-range Y and chroma component. -/
def limY (n : Nat) (x16 : Int) : Int := rnd ((x16 - 256 * 2 ^ (n - 8)) * 2 ^ 20) (3504 * 2 ^ (n - 8))
def limC (n : Nat) (x16 : Int) : Int := rnd ((x16 - 2048 * 2 ^ (n - 8)) * 2 ^ 20) (3584 * 2 ^ (n - 8))

/-- One output of the YCbCr matrix (R87). -/
def yccOut (y cb cr a b : Int) : Int := clampI 0 (2 ^ 20) (rnd (16384 * y + a * cb + b * cr) 16384)

/-- R′, G′ and B′ from E_Y, E_Cb and E_Cr (R87): matrix 0 is BT.709, 1 is BT.2020. -/
def yccToRgb (mtx : Nat) (y cb cr : Int) : Int × Int × Int :=
  if mtx = 0 then (yccOut y cb cr 0 25802, yccOut y cb cr (-3069) (-7669), yccOut y cb cr 30402 0)
  else (yccOut y cb cr 0 24160, yccOut y cb cr (-2696) (-9361), yccOut y cb cr 30825 0)

/-- L from E (R88). -/
def linearise (tf : Nat) (e : Int) : Int :=
  if tf = 0 then e * 256 else
  let c := (clampI 0 (2 ^ 20) e).toNat
  let i := c / 256
  let f := c % 256
  let t0 : Int := transfer tf i
  if f = 0 then t0 else t0 + rnd ((transfer tf (i + 1) - t0) * f) 256

/-- One component of the layer matrix (R89). -/
def layerOut (m0 m1 m2 : Int) (l : Int × Int × Int) : Nat :=
  clamp18 (rnd ((m0 * l.1 + m1 * l.2.1 + m2 * l.2.2) * 262143) (2 ^ 44))

/-- Blend-space codes from E and the nine matrix coefficients (R88, R89). -/
def toBlend (tf : Nat) (m : List Int) (e : Int × Int × Int) : Px :=
  let l := (linearise tf e.1, linearise tf e.2.1, linearise tf e.2.2)
  let k := fun i => m.getD i 0
  (layerOut (k 0) (k 1) (k 2) l, layerOut (k 3) (k 4) (k 5) l, layerOut (k 6) (k 7) (k 8) l)

/-- The output 2j or 2j + 1 of a chroma up-sampling pass over samples `c` of a row of `n` (R86). -/
def upsample (inter : Bool) (n : Nat) (c : Nat → Nat) (x : Nat) : Nat :=
  let j := x / 2
  let at' := fun i => c (min i (n - 1))
  match inter, x % 2 with
  | false, 0 => 4 * at' j
  | false, _ => 2 * (at' j + at' (j + 1))
  | true, 0 => 3 * at' j + at' (j - 1)
  | true, _ => 3 * at' j + at' (j + 1)

/-! ### Head stage (R90 to R94) -/

/-- The settings of a head stage: enables, matrix, gains, and its tables as functions of entry and component. -/
structure HeadStage where
  gm   : Option (List Int)
  shp  : Option (Nat → Nat → Nat)
  lut  : Option (Nat → Nat → Nat)
  wp   : List Nat
  out  : Option (Nat → Nat → Nat)

/-- A component of a pixel. -/
def Px.comp (p : Px) (c : Nat) : Nat := if c = 0 then p.1 else if c = 1 then p.2.1 else p.2.2

/-- A pixel made component by component. -/
def mapPx (f : Nat → Nat) : Px := (f 0, f 1, f 2)

/-- Where a code lies among `n` equal steps: index and fraction, the top code in the last step (R91, R92, R215). -/
def stepOf (n x : Nat) : Nat × Nat :=
  let t := x * n
  let i := t / fullScale
  if n ≤ i then (n - 1, fullScale) else (i, t - i * fullScale)

/-- A 1,025-entry table applied to a code (R91). -/
def tableMap (s : Nat → Nat) (c : Nat) : Nat :=
  let r := stepOf 1024 c
  ((s r.1 : Int) + rnd (((s (r.1 + 1) : Int) - s r.1) * r.2) fullScale).toNat

/-- The axes in falling order of fraction, equal fractions keeping red, green, blue (R92). -/
def axisOrder (f : Px) : List Nat :=
  let ge := fun a b => decide (f.comp b ≤ f.comp a)
  if ge 0 1 then (if ge 1 2 then [0, 1, 2] else if ge 0 2 then [0, 2, 1] else [2, 0, 1])
  else (if ge 0 2 then [1, 0, 2] else if ge 1 2 then [1, 2, 0] else [2, 1, 0])

/-- The index of a node of the 3D LUT, and of its neighbour one step along an axis. -/
def lutIndex (i : Px) : Nat := i.2.2 * 1089 + i.2.1 * 33 + i.1
def lutStep (axis : Nat) : Nat := if axis = 0 then 1 else if axis = 1 then 33 else 1089

/-- The 3D LUT (R92). -/
def lutMap (t : Nat → Nat → Nat) (p : Px) : Px :=
  let r := fun c => stepOf 32 (p.comp c)
  let i := mapPx fun c => (r c).1
  let f := mapPx fun c => (r c).2
  let o := axisOrder f
  let ax := fun k => o.getD k 0
  let n0 := lutIndex i
  let n1 := n0 + lutStep (ax 0)
  let n2 := n1 + lutStep (ax 1)
  let n3 := n2 + lutStep (ax 2)
  let fx := f.comp (ax 0)
  let fy := f.comp (ax 1)
  let fz := f.comp (ax 2)
  mapPx fun c =>
    (rnd ((t n0 c * (fullScale - fx) + t n1 c * (fx - fy) + t n2 c * (fy - fz) + t n3 c * fz : Nat) : Int) fullScale).toNat

/-- The gamut matrix (R90). -/
def gamutMap (g : List Int) (p : Px) : Px :=
  mapPx fun r => clamp18 (rnd (g.getD (3 * r) 0 * p.1 + g.getD (3 * r + 1) 0 * p.2.1 + g.getD (3 * r + 2) 0 * p.2.2) (2 ^ 16))

/-- A step that may be switched off. -/
def optStep {α : Type} (o : Option α) (f : α → Px → Px) (p : Px) : Px :=
  match o with
  | some a => f a p
  | none => p

/-- The head stage up to the white point, and with the output table (R90 to R94). -/
def HeadStage.apply (hs : HeadStage) (p : Px) : Px :=
  let p1 := optStep hs.gm gamutMap p
  let p2 := optStep hs.shp (fun t q => mapPx fun c => tableMap (t · c) (q.comp c)) p1
  let p3 := optStep hs.lut lutMap p2
  let p4 : Px := mapPx fun c => min (rnd (p3.comp c * hs.wp.getD c 0 : Nat) (2 ^ 17)).toNat fullScale
  optStep hs.out (fun t q => mapPx fun c => tableMap (t · c) (q.comp c)) p4

/-! ### Tables (R95, R96) -/

/-- Entries of a PXP table: 0 the 3D LUT, 1 the shaper, 2 the output table. -/
def tblLen (t : Nat) : Nat := if t = 0 then 35937 else 1025

/-- The key of a component of a table entry. -/
def tblKey (bank tbl index comp : Nat) : Nat := ((bank * 3 + tbl) * 65536 + index) * 3 + comp

/-- What an entry holds at reset: identity (R96). -/
def tblReset (tbl index comp : Nat) : Nat :=
  if tbl = 0 then
    let i := if comp = 0 then index % 33 else if comp = 1 then index / 33 % 33 else index / 1089
    (rnd (i * fullScale : Nat) 32).toNat
  else (rnd (index * fullScale : Nat) 1024).toNat

/-- A component of a table entry of head h. -/
def State.pxpEntry (s : State) (h bank tbl index comp : Nat) : Nat :=
  ((s.hd h).tablesLut.find (tblKey bank tbl index comp)).getD (tblReset tbl index comp)

/-- The head stage of head h with the words of a view; a mirror head uses no output table (R94). -/
def State.headStage (s : State) (v : SMap Word) (h : Nat) : HeadStage :=
  let bank := vf v Rg.PXP_H_CTL [h] 8 8
  let on := fun b => vf v Rg.PXP_H_CTL [h] b b == 1
  { gm := if on 0 then some ((List.range 9).map fun k => sext 21 (vf v Rg.PXP_H_GMTX [h, k] 20 0)) else none
    shp := if on 1 then some (s.pxpEntry h bank 1) else none
    lut := if on 2 then some (s.pxpEntry h bank 0) else none
    wp := (List.range 3).map fun c => vf v Rg.PXP_H_WP [h, c] 17 0
    out := if on 3 && s.panel h then some (s.pxpEntry h bank 2) else none }

/-- A write of PXP_H_TBL_D2 (R95): it stores the staged entry unless its bank is in force or its index lies beyond the
table, which is an invalid write. -/
def pxpStoreOp (h : Nat) (v : Word) (s : State) : State :=
  let a := s.rd Rg.PXP_H_TBL_ADDR [h]
  let bank := fld a 31 31
  let tbl := fld a 27 26
  let idx := fld a 15 0
  if bank = s.ff Rg.PXP_H_CTL [h] 8 8 ∨ tblLen tbl ≤ idx then invalidWrite (Rg.PXP_H_TBL_D2.at [h]) s
  else
    let put := fun c x (m : SMap Nat) => m.insert (tblKey bank tbl idx c) (x % 2 ^ 18)
    (s.modHd h fun d => { d with tablesLut := put 2 v.toNat (put 1 (d.tblStage.getD 1 0) (put 0 (d.tblStage.getD 0 0) d.tablesLut)) }).wr
      Rg.PXP_H_TBL_ADDR [h] (setFld a 15 0 (idx + 1))

/-- PXP_TABLE_STORE (R95). -/
def doPxpTableStore (src : Source) (h : Fin 4) (v : Word) (s : State) : Host.Outcome State Fault Refusal :=
  .next (gatedWrite src (Rg.PXP_H_TBL_D2.at [h.val]) v (pxpStoreOp h.val v) s)

/-- A write of PXP_H_TBL_D0 or D1 stages a component (R95). -/
def pxpStageOp (h c : Nat) (v : Word) (s : State) : State :=
  s.modHd h fun d => { d with tblStage := d.tblStage.set c (fld v 17 0) }

/-- What PXP_H_TBL_D0 to D2 read: the addressed entry of either bank; 0 beyond the table (R95). -/
def readPxpTable (h c : Nat) (s : State) : Word :=
  let a := s.rd Rg.PXP_H_TBL_ADDR [h]
  let idx := fld a 15 0
  if tblLen (fld a 27 26) ≤ idx then 0 else word (s.pxpEntry h (fld a 31 31) (fld a 27 26) idx c)

/-- The word a report register of PXP reads (R96). -/
def readPxp (a : Nat) (s : State) : Option Word :=
  match Rg.PXP_H_STATUS.ixOf a, Rg.PXP_H_TBL_D0.ixOf a, Rg.PXP_H_TBL_D1.ixOf a, Rg.PXP_H_TBL_D2.ixOf a with
  | some [h], _, _, _ => some (pack [(8, s.ff Rg.PXP_H_CTL [h] 8 8)])
  | _, some [h], _, _ => some (readPxpTable h 0 s)
  | _, _, some [h], _ => some (readPxpTable h 1 s)
  | _, _, _, some [h] => some (readPxpTable h 2 s)
  | _, _, _, _ => none

end Sys2Proof.Machine
end

