-- ==== Sys2Proof/Machine/Sfm.lean ====
section
/-!
DEFINITION. SFM: translation, host writes and ordered streams, the surface table, fence timelines and leases (R50 to R67).
-/
namespace Sys2Proof.Machine

/-! ### Translation (R50, R51, R65) -/

/-- A page table entry in DRAM, read for a requester; above the capacity it reads 0 with a range event (R281). -/
def pteIn (req table page : Nat) (s : State) : Nat × State :=
  let a := table + 4 * page
  if s.capBytes ≤ a then (0, rangeFault req a s) else (ofBytesLE (s.dramLoad req a 4), s)

/-- A free choice between two values that may both be used (R51). -/
def chooseNat (a b : Nat) (s : State) : Nat × State :=
  if a = b then (a, s) else
  let r := s.draw
  (if bit r.1 0 then a else b, r.2)

/-- The entry of the table in use: kept from its first use; one that has changed in DRAM since may be used with either
value, request by request (R51). -/
def oldEntry (req page : Nat) (s : State) : Nat × State :=
  match s.sfm.table with
  | none => (0, s)
  | some t =>
    let r := pteIn req t page s
    match s.sfm.cache.find page with
    | none => (r.1, { r.2 with sfm := { r.2.sfm with cache := r.2.sfm.cache.insert page r.1 } })
    | some c => chooseNat c r.1 r.2

/-- The entry used for a surface page: invalid until the first invalidation after a reset has completed; while a later one runs, the
table it will use may already serve (R51). -/
def translate (req page : Nat) (s : State) : Nat × State :=
  let r := oldEntry req page s
  if s.sfm.invBusy && s.sfm.table.isSome then
    let q := pteIn req s.sfm.next page r.2
    chooseNat r.1 q.1 q.2
  else r

/-- valid, host_wr and the DRAM address of the page of an entry (R50). -/
def pteValid (e : Nat) : Bool := e.testBit 0
def pteHostWr (e : Nat) : Bool := e.testBit 1
def ptePage (e : Nat) : Nat := bitsOf e 31 12 * 65536

/-- A translation fault (R52, R53, R65): the fault registers, the count and one event. The layer code of a fault that is
no fetch is one of 9 to 15, which the spec leaves open. -/
def xlateFault (kind head layer surf addr req carried unit : Nat) (s : State) : State :=
  let r := s.draw
  let s0 := if kind = 1 then s else r.2
  let lay := if kind = 1 then layer else 9 + r.1.toNat % 7
  raise 7 0x07 unit Rg.SFM_FAULT_INFO.at addr (addr / 2 ^ 32 % 16 + req * 256 + carried * 65536)
    (count1 Rg.SFM_XLATE_FAULT_CNT [] { s0 with sfm := { s0.sfm with
      faultKind := kind, faultHead := head, faultLayer := lay, faultSurface := surf, faultPage := addr / 65536 % 2 ^ 20 } })

/-- PT_INVALIDATE (R51): ignored while busy; the table is the one written when it starts. -/
def ptInvOp (s : State) : State :=
  if s.sfm.invBusy then s
  else { s with sfm := { s.sfm with invBusy := true, next := s.fd Rg.SFM_PT_BASE [] 19 0 * 65536 } }

/-- PT_INVALIDATE (R51): a write of go = 1. -/
def doPtInvalidate (src : Source) (s : State) : Host.Outcome State Fault Refusal :=
  .next (gatedWrite src Rg.SFM_PT_INV.at 1 ptInvOp s)

/-- PT_INVALIDATE_DONE (R51): the new table serves, with an empty cache. -/
def execPtInvalidateDone (s : State) : Host.Outcome State Fault Refusal :=
  live (fun s => if s.sfm.invBusy then { s with sfm := { s.sfm with invBusy := false, table := some s.sfm.next, cache := [] } } else s) s

/-! ### Formats and descriptors (R54 to R56) -/

/-- Bytes per pixel of plane 0. -/
def fmtBytes (f : Nat) : Nat :=
  if f ≤ 1 then 4 else if f ≤ 5 then 8 else if f = 6 then 4 else if f ≤ 8 then 1 else 2

/-- Formats with a chroma plane; those with 4:2:0 rows; the bytes of a chroma pair. -/
def fmtTwo (f : Nat) : Bool := decide (7 ≤ f) && decide (f ≤ 12)
def fmt420 (f : Nat) : Bool := f == 8 || f == 10 || f == 12
def pairBytes (f : Nat) : Nat := if f ≤ 8 then 2 else 4

/-- A descriptor as its registers hold it. -/
structure Desc where
  base0  : Nat
  base1  : Nat
  pitch0 : Nat
  pitch1 : Nat
  width  : Nat
  height : Nat
  fmt    : Nat
  deriving DecidableEq, Repr

/-- The descriptor of entry n. -/
def State.desc (s : State) (n : Nat) : Desc :=
  { base0 := s.fd Rg.SFM_SURF_BASE0 [n] 29 0 * 64, base1 := s.fd Rg.SFM_SURF_BASE1 [n] 29 0 * 64
    pitch0 := s.fd Rg.SFM_SURF_PITCH [n] 11 0 * 64, pitch1 := s.fd Rg.SFM_SURF_PITCH [n] 27 16 * 64
    width := s.fd Rg.SFM_SURF_SIZE [n] 13 0 + 1, height := s.fd Rg.SFM_SURF_SIZE [n] 29 16 + 1
    fmt := s.fd Rg.SFM_SURF_FMT [n] 3 0 }

/-- The planes of a descriptor: base, pitch, rows and row bytes (R56). -/
def Desc.planes (d : Desc) : List (Nat × Nat × Nat × Nat) :=
  (d.base0, d.pitch0, d.height, d.width * fmtBytes d.fmt) ::
    if fmtTwo d.fmt then [(d.base1, d.pitch1, if fmt420 d.fmt then d.height / 2 else d.height, d.width / 2 * pairBytes d.fmt)] else []

/-- Why a descriptor is refused (R55); `none` where it passes. -/
def Desc.refusal? (d : Desc) : Option Nat :=
  if (fmtTwo d.fmt && d.width % 2 == 1) || (fmt420 d.fmt && d.height % 2 == 1) || decide (16384 < d.width) || decide (16384 < d.height) then some 1
  else if d.planes.any fun p => p.2.1 == 0 || decide (2048 * 64 < p.2.1) || decide (p.2.1 < ceilDiv p.2.2.2 64 * 64) then some 2
  else if d.planes.any fun p => decide (2 ^ 36 < p.1 + p.2.1 * p.2.2.1) then some 3
  else none

/-- Whether a byte range meets a plane range of the descriptor. -/
def Desc.meets (d : Desc) (a len : Nat) : Bool :=
  d.planes.any fun p => decide (a < p.1 + p.2.1 * p.2.2.1) && decide (p.1 < a + len)

/-- The enabled layers of a head in a view. -/
def layersOn (v : SMap Word) (h : Nat) : List Nat := (List.range 9).filter fun l => vf v Rg.CMP_L_CTL [h, l] 0 0 == 1

/-- Whether a byte range meets a plane range of a surface that the head's layer state in force names (R220, R223). -/
def State.namesRange (s : State) (h a len : Nat) : Bool :=
  (layersOn (s.forceOf h) h).any fun l => (s.desc (s.ff Rg.CMP_L_SURF [h, l] 11 0)).meets a len

/-- A host block has landed (R220, R223, R360): it is noted for the idle counts, it is an exit trigger, and it is recorded. -/
def hostLanded (a : Nat) (data : List Byte) (s : State) : State :=
  (List.range 4).foldl (fun s h =>
    if !s.namesRange h a data.length then s else
    let s1 := if s.panel h then
        exitTrigger h (s.modHd h fun d => { d with cur := d.cur.map fun f => { f with touched := true } }) else s
    if bit s1.recd.ctl 7 then recFor 0x23 h noUnit (a :: data.map (·.toNat)) s1 else s1) s

/-- Table entry n. -/
def State.entry (s : State) (n : Nat) : SurfEntry := s.sfm.entries.get {} n

/-- The state with table entry n changed. -/
def State.modEntry (s : State) (n : Nat) (f : SurfEntry → SurfEntry) : State :=
  { s with sfm := { s.sfm with entries := s.sfm.entries.upd {} n f } }

/-- Records a refusal in SFM_STATUS (R55). -/
def sfmRefuse (n reason : Nat) (s : State) : State := { s with sfm := { s.sfm with refuse := reason, refuseIdx := n } }

/-- A write of valid = 1 (R55). -/
def surfValidateOp (n : Nat) (s : State) : State :=
  let fail := fun r s => raiseRefusal 7 n Rg.SFM_STATUS.at r n (sfmRefuse n r s)
  match (s.entry n).state with
  | 0 => match (s.desc n).refusal? with
    | some r => fail r s
    | none => s.modEntry n fun e => { e with state := 1 }
  | 2 => fail 4 s
  | _ => s

/-- A write of valid = 0 (R63). -/
def surfFreeOp (n : Nat) (s : State) : State :=
  let e := s.entry n
  if e.state ≠ 1 then s
  else if e.leases = 0 then s.modEntry n fun e => { e with state := 0 }
  else raiseState 7 n (Rg.SFM_SURF_CTL.at [n]) 1 e.leases
    (count1 Rg.SFM_EARLY_FREE_CNT [] (s.modEntry n fun e => { e with state := 2 }))

/-- The write of SFM_SURF_CTL (R67). -/
def surfCtlOp (n : Nat) (v : Word) (s : State) : State := if bit v 0 then surfValidateOp n s else surfFreeOp n s

/-- SURFACE_VALIDATE (R55). -/
def doSurfaceValidate (src : Source) (n : Fin 4096) (s : State) : Host.Outcome State Fault Refusal :=
  .next (gatedWrite src (Rg.SFM_SURF_CTL.at [n.val]) 1 (surfCtlOp n.val 1) s)

/-- SURFACE_FREE (R63). -/
def doSurfaceFree (src : Source) (n : Fin 4096) (s : State) : Host.Outcome State Fault Refusal :=
  .next (gatedWrite src (Rg.SFM_SURF_CTL.at [n.val]) 0 (surfCtlOp n.val 0) s)

/-- The descriptor registers, in address order (R67). -/
def descReg (r : Nat) : Reg :=
  match r with
  | 0 => Rg.SFM_SURF_BASE0
  | 1 => Rg.SFM_SURF_BASE1
  | 2 => Rg.SFM_SURF_PITCH
  | 3 => Rg.SFM_SURF_SIZE
  | _ => Rg.SFM_SURF_FMT

/-- A descriptor write (R55): stored in FREE; in any other state ignored, with reason 0x05. -/
def surfDescOp (n r : Nat) (v : Word) (s : State) : State :=
  if (s.entry n).state = 0 then storeWrite (descReg r) [n] v s
  else raise 7 0x06 n ((descReg r).at [n]) 0 5 (sfmRefuse n 5 s)

/-- SURFACE_DESCRIPTOR_WRITE (R55). -/
def doSurfaceDescriptorWrite (src : Source) (n : Fin 4096) (r : Fin 5) (v : Word) (s : State) : Host.Outcome State Fault Refusal :=
  .next (gatedWrite src ((descReg r.val).at [n.val]) v (surfDescOp n.val r.val v) s)

/-! ### Leases (R61, R63) -/

/-- A lease on entry n. -/
def leaseTake (n : Nat) (s : State) : State := s.modEntry n fun e => { e with leases := e.leases + 1 }

/-- A lease on entry n retires; the last one of a DRAINING entry frees it. -/
def leaseRetire (n : Nat) (s : State) : State :=
  s.modEntry n fun e => { e with leases := e.leases - 1, state := if e.state = 2 ∧ e.leases ≤ 1 then 0 else e.state }

/-! ### Timelines (R57, R58) -/

/-- The value of timeline n. -/
def State.tlVal (s : State) (n : Nat) : Nat := s.sfm.tl.get 0 n

/-- Whether a fence is signalled. -/
def State.signalled (s : State) (n v : Nat) : Bool := decide (v ≤ s.tlVal n)

/-- The FENCE items of a new timeline value: one for each recorded head whose layer state names the timeline (R360). The
cause is 0 a write, 1 a doorbell, 2 a retire. -/
def recFence (n v cause : Nat) (s : State) : State :=
  (List.range 4).foldl (fun s h =>
    if (s.headViews h).any fun w => (layersOn w h).any fun l => vf w Rg.CMP_L_SURF [h, l] 23 16 == n
    then recFor 0x12 h noUnit [n, v, cause] s else s) s

/-- A new value for a timeline: one below the current value is ignored with a fence-regression event, and an equal one has no effect (R58, R415). -/
def tlAdvance (cause n v : Nat) (s : State) : State :=
  if v = s.tlVal n then s
  else if v < s.tlVal n then raiseReport 7 n (Rg.SFM_TL_LO.at [n]) v (v / 2 ^ 32 % 65536) s
  else recFence n v cause { s with sfm := { s.sfm with tl := s.sfm.tl.put 0 n v } }

/-- The write of SFM_TL_HI stages the high 16 bits (R67). -/
def tlHiOp (n : Nat) (v : Word) (s : State) : State := { s with sfm := { s.sfm with tlHi := s.sfm.tlHi.put 0 n (fld v 15 0) } }

/-- The write of SFM_TL_LO: the staged HI and the written LO (R58). -/
def tlWriteOp (n : Nat) (v : Word) (s : State) : State := tlAdvance 0 n (s.sfm.tlHi.get 0 n * 2 ^ 32 + v.toNat) s

/-- TIMELINE_WRITE (R58). -/
def doTimelineWrite (src : Source) (n : Fin 256) (v : Word) (s : State) : Host.Outcome State Fault Refusal :=
  .next (gatedWrite src (Rg.SFM_TL_LO.at [n.val]) v (tlWriteOp n.val v) s)

/-! ### Host writes (R52, R53, R59, R64) -/

/-- Whether any byte of a surface range lies in a plane range of a DRAINING entry (R64). -/
def State.drainingTouch (s : State) (a len : Nat) : Bool :=
  s.sfm.entries.any fun e => e.2.state == 2 &&
    (s.desc e.1).meets a len

/-- Whether any byte of a surface range lies in a plane that the checkpoint in progress is copying (R362). -/
def State.copying (s : State) (a len : Nat) : Bool :=
  s.recd.state == 1 && match s.ckpts.getLast? with
    | some c => c.2.planes.any fun r => decide (a < r.1 + r.2) && decide (r.1 < a + len)
    | none => false

/-- Whether a write is parked: by guard mode, which is read again at each release (R64, assumption log 52), or while its plane is being
copied (R362). -/
def State.parks (s : State) (a len : Nat) : Bool := (bit (s.rd Rg.SFM_CTL) 0 && s.drainingTouch a len) || s.copying a len

/-- Whether a write waits because DRAM takes no request before its map is formed (R297); with no page table in use no request is made
(R51). -/
def State.beforeMap (s : State) : Bool := s.sfm.table.isSome && !s.dmc.formed

/-- One block of at most 64 bytes at a surface address: true where it is a write fault (R52, R281). -/
def landBlock (a : Nat) (data : List Byte) (s : State) : Bool × State :=
  let r := translate 0x10 (a / 65536 % 2 ^ 20) s
  let d := ptePage r.1 + a % 65536
  if !(pteValid r.1 && pteHostWr r.1) || r.2.touchesReserved d data.length then (true, r.2)
  else if r.2.capBytes < d + data.length then (false, rangeFault 0x10 d r.2)
  else (false, hostLanded a data (dramStore 0x10 d data r.2))

/-- The blocks of a pixel-stream transaction in address order; the first write fault discards the rest (R53). -/
def landPixels (surf : Nat) : Nat → Nat → List Byte → State → State
  | 0, _, _, s => s
  | fuel + 1, a, data, s =>
    if data.isEmpty then s else
    let r := landBlock a (data.take 64) s
    if r.1 then xlateFault 3 0 0 surf a 0x10 surf noUnit r.2 else landPixels surf fuel (a + 64) (data.drop 64) r.2

/-- Where a pixel-stream transaction lands; none where it is discarded (R53). -/
def State.pixelAddr (s : State) (surf plane line off len : Nat) : Option Nat :=
  if (s.entry surf).state ≠ 1 then none else
  match (s.desc surf).planes[plane]? with
  | none => none
  | some p => if line < p.2.2.1 ∧ 64 * off + len ≤ p.2.2.2 then some (p.1 + line * p.2.1 + 64 * off) else none

/-- What stays of a transaction's blocks after a write fault: from past its last block (R52). -/
def dropRest : List HostOp → List HostOp
  | .block _ last _ :: r => if last then r else dropRest r
  | ops => ops

/-- Runs what an ordered stream holds, in order, until something parks; answers what is still held. `seen` tells that the
first one has already been counted as parked. `stream` is 8 × port + stream. A pixel stream that was parked is checked again when it is
released (assumption log 52). -/
def runStream (stream : Nat) : Nat → Bool → List HostOp → State → List HostOp × State
  | 0, _, ops, s => (ops, s)
  | _, _, [], s => ([], s)
  | fuel + 1, seen, .block a last data :: r, s =>
    if s.beforeMap then (.block a last data :: r, s)
    else if s.parks a 64 then (.block a last data :: r, if seen then s else count1 Rg.SFM_PARK_CNT [] s)
    else
      let q := landBlock a data s
      if q.1 then runStream stream fuel false (if last then r else dropRest r) (xlateFault 2 0 0 0xFFF a 0x10 0 noUnit q.2)
      else runStream stream fuel false r q.2
  | fuel + 1, seen, .pixels surf plane line off data :: r, s =>
    match s.pixelAddr surf plane line off data.length with
    | none => runStream stream fuel false r (count1 Rg.SFM_DISCARD_CNT [] s)
    | some a =>
      if s.beforeMap then (.pixels surf plane line off data :: r, s)
      else if s.parks a data.length then (.pixels surf plane line off data :: r, if seen then s else count1 Rg.SFM_PARK_CNT [] s)
      else runStream stream fuel false r (landPixels surf (data.length / 64 + 1) a data s)
  | fuel + 1, _, .fence tl v :: r, s => runStream stream fuel false r (tlAdvance 1 tl v s)
  | fuel + 1, _, .free units :: r, s => runStream stream fuel false r (freeBuffer (stream / 8) (stream % 8) units s)

/-- What an ordered stream holds, and the state with it replaced. -/
def State.held (s : State) (k : Nat) : List HostOp := s.sfm.streams.get [] k
def State.setHeld (s : State) (k : Nat) (ops : List HostOp) : State := { s with sfm := { s.sfm with streams := s.sfm.streams.put [] k ops } }

/-- Operations reach an ordered stream: behind what it holds, they wait; else they run at once (R59, R64). -/
def pushStream (k : Nat) (ops : List HostOp) (s : State) : State :=
  if s.held k ≠ [] then s.setHeld k (s.held k ++ ops)
  else
    let r := runStream k (ops.length + 1) false ops s
    r.2.setHeld k r.1

/-- The blocks of a surface write: `n` of them, 64 bytes each, in address order. -/
def blockOps : Nat → Nat → List Byte → List HostOp
  | 0, _, _ => []
  | n + 1, a, data => .block (a % 2 ^ 36) (n == 0) (data.take 64) :: blockOps n (a + 64) (data.drop 64)

/-- What a posted transaction asks of SFM, by the bytes of its header and payload (R270): a surface write, a pixel stream, or a fence
signal. -/
def postedOps (t : Txn) : List HostOp :=
  if t.type = 1 then blockOps (t.field 4 2) (t.field 0 4 % 2 ^ 30 * 64) t.payload
  else if t.type = 2 then
    [.pixels (t.field 0 2 % 4096) (t.field 0 2 / 4096 % 2) (t.field 2 2 % 16384) (t.field 4 2 % 4096) (t.payload.take (t.field 6 2))]
  else [.fence (t.field 1 1) (t.field 2 6)]

/-- LNK hands one accepted posted transaction to SFM; its buffer frees once it has landed or been discarded (R267, R272). -/
def handOver (p : Nat) (t : Txn) (s : State) : State :=
  pushStream (8 * p + t.stream) (postedOps t ++ [.free (dataUnits t.payload.length)])
    (s.modPort p fun x => { x with accepted := x.accepted.erase t })

/-- The posted transactions of one stream that go to SFM now, in acceptance order: up to the first of `type`, or all of them (R272). -/
def upTo (type : Nat) : List Txn → List Txn
  | [] => []
  | t :: r => if t.type = type then [t] else t :: upTo type r

/-- The accepted posted transactions of a stream, oldest first. -/
def State.posted (s : State) (p st : Nat) : List Txn :=
  (s.port p).accepted.filter fun t => t.stream == st && (t.type == 1 || t.type == 2 || t.type == 5)

/-- A posted transaction of `type` reaches SFM on a stream of an ingress port (R272): the oldest accepted one of that type, with every
transaction accepted before it; where none is accepted, the one that the command carries, behind those that are. -/
def postedIn (p st type : Nat) (own : List HostOp) (s : State) : State :=
  let ts := upTo type (s.posted p st)
  let s1 := ts.foldl (fun s t => handOver p t s) s
  if ts.any (·.type == type) then s1
  else if !s.ingress p then s1
  else if s.unprotRefused p type then authFail p s1
  else pushStream (8 * p + st) own s1

/-- SURFACE_WRITE (R52): whole blocks from a surface address. -/
def surfaceWriteOp (p st addr : Nat) (data : List Byte) (s : State) : State :=
  postedIn p st 1 (blockOps (data.length / 64) (addr / 64 * 64) data) s

def execSurfaceWrite (p : Fin 24) (st : Fin 8) (addr : Nat) (data : List Byte) (s : State) : Host.Outcome State Fault Refusal :=
  live (fun s => if s.absent 7 then s else surfaceWriteOp p.val st.val addr data s) s

/-- PIXEL_STREAM (R53). -/
def pixelStreamOp (p st : Nat) (x : PixelTxn) (s : State) : State :=
  postedIn p st 2 [.pixels (x.surface % 4096) (x.plane % 2) (x.line % 16384) (x.offset % 4096) x.data] s

def execPixelStream (p : Fin 24) (st : Fin 8) (x : PixelTxn) (s : State) : Host.Outcome State Fault Refusal :=
  live (fun s => if s.absent 7 then s else pixelStreamOp p.val st.val x s) s

/-- DOORBELL (R59): FENCE_SIGNAL, behind every earlier posted write of its stream. -/
def doorbellOp (p st tl v : Nat) (s : State) : State := postedIn p st 5 [.fence tl (v % 2 ^ 48)] s

def doDoorbell (p : Fin 24) (st : Fin 8) (tl : Fin 256) (value : Nat) (s : State) : Host.Outcome State Fault Refusal :=
  live (fun s => if s.absent 7 then s else doorbellOp p.val st.val tl.val value s) s

/-- PARK_RELEASE (R64): what an ordered stream holds lands in order, as far as nothing parks it any more. -/
def parkReleaseOp (k : Nat) (s : State) : State :=
  let r := runStream k ((s.held k).length + 1) true (s.held k) (s.setHeld k [])
  r.2.setHeld k r.1

def execParkRelease (p : Fin 24) (st : Fin 8) (s : State) : Host.Outcome State Fault Refusal :=
  live (parkReleaseOp (8 * p.val + st.val)) s

/-! ### Registers (R67) -/

/-- Clears of SFM_CNT_CLR. -/
def sfmCntClrOp (v : Word) (s : State) : State :=
  onBits v [(0, clearCnt Rg.SFM_EARLY_FREE_CNT []), (1, clearCnt Rg.SFM_XLATE_FAULT_CNT []), (2, clearCnt Rg.SFM_PARK_CNT []),
    (3, clearCnt Rg.SFM_DISCARD_CNT [])] s

/-- SFM_CNT_CLR (R67). -/
def doSfmCntClr (src : Source) (v : Word) (s : State) : Host.Outcome State Fault Refusal :=
  .next (gatedWrite src Rg.SFM_CNT_CLR.at v (sfmCntClrOp v) s)

/-- A read of SFM_TL_LO captures the high bits (R7, R67). -/
def tlCapture (n : Nat) (s : State) : State :=
  { s with sfm := { s.sfm with tlCap := s.sfm.tlCap.put 0 n (s.tlVal n / 2 ^ 32) } }

/-- The word a report register of SFM reads (R67). -/
def readSfm (a : Nat) (s : State) : Option Word :=
  if a = Rg.SFM_PT_INV.at then some (pack [(31, b2n s.sfm.invBusy)])
  else if a = Rg.SFM_STATUS.at then some (pack [(12, s.sfm.refuseIdx), (0, s.sfm.refuse)])
  else if a = Rg.SFM_USAGE.at then
    some (pack [(16, (s.sfm.entries.filter fun e => e.2.state == 2).length), (0, (s.sfm.entries.filter fun e => e.2.state == 1).length)])
  else if a = Rg.SFM_FAULT_INFO.at then
    some (pack [(30, s.sfm.faultKind), (28, s.sfm.faultHead), (24, s.sfm.faultLayer), (0, s.sfm.faultSurface)])
  else if a = Rg.SFM_FAULT_PAGE.at then some (word s.sfm.faultPage)
  else match Rg.SFM_TL_LO.ixOf a with
    | some [n] => some (word (s.tlVal n))
    | _ => match Rg.SFM_TL_HI.ixOf a with
      | some [n] => some (word (s.sfm.tlCap.get 0 n))
      | _ => match Rg.SFM_SURF_CTL.ixOf a with
        | some [n] =>
          let e := s.entry n
          some (pack [(30, e.state), (16, e.leases), (0, b2n (e.state == 1))])
        | _ => none

end Sys2Proof.Machine
end

