-- ==== Sys2Proof/Machine/Compose.lean ====
section
/-!
DEFINITION. Composition: fetching, scaling and blending the layers of a head's picture, line by line (R68 to R82,
R85 to R94), and the lines kept for the CRC taps (R112).
-/
namespace Sys2Proof.Machine

/-! ### Geometry of a layer (R70, R72) -/

/-- A layer's source rectangle: x, y, width, height. -/
def srcRect (v : SMap Word) (h l : Nat) : Nat × Nat × Nat × Nat :=
  (vf v Rg.CMP_L_SRC_POS [h, l] 13 0, vf v Rg.CMP_L_SRC_POS [h, l] 29 16,
   vf v Rg.CMP_L_SRC_SIZE [h, l] 13 0 + 1, vf v Rg.CMP_L_SRC_SIZE [h, l] 29 16 + 1)

/-- A layer's destination rectangle; the cursor has the size of its source (R70). -/
def dstRect (v : SMap Word) (h l : Nat) : Int × Int × Nat × Nat :=
  let r := srcRect v h l
  let size := if l = 8 then (r.2.2.1, r.2.2.2)
    else (vf v Rg.CMP_L_DST_SIZE [h, l] 12 0 + 1, vf v Rg.CMP_L_DST_SIZE [h, l] 28 16 + 1)
  (sext 14 (vf v Rg.CMP_L_DST_POS [h, l] 13 0), sext 14 (vf v Rg.CMP_L_DST_POS [h, l] 29 16), size)

/-- Whether a rectangle covers a pixel. -/
def covers (r : Int × Int × Nat × Nat) (x y : Nat) : Bool :=
  decide (r.1 ≤ x) && decide ((x : Int) < r.1 + r.2.2.1) && decide (r.2.1 ≤ y) && decide ((y : Int) < r.2.1 + r.2.2.2)

/-- A scaler's step and start for source size n and destination size m (R72). -/
def scaleStep (n m : Nat) : Nat := n * 2 ^ 20 / m
def scaleInit (n m : Nat) : Int := ((scaleStep n m : Int) - 2 ^ 20) / 2

/-- The position of destination pixel x: source index and phase (R72). -/
def scalePos (n m x : Nat) : Int × Nat :=
  let pos := scaleInit n m + (x * scaleStep n m : Nat)
  (pos / 2 ^ 20, (pos / 2 ^ 14 % 64).toNat)

/-- The source pixel of a tap. -/
def tapIndex (n : Nat) (i : Int) (t : Nat) : Nat := (clampI 0 ((n : Int) - 1) (i - 2 + t)).toNat

/-- The taps a vertical filter uses by vtaps code (R72). -/
def vTaps (code : Nat) : List Nat := if code = 0 then [2, 3] else if code = 1 then [1, 2, 3, 4] else [0, 1, 2, 3, 4, 5]

/-- The coefficient of a phase and tap (R83). -/
def coefOf (v : SMap Word) (r : Reg) (h l phase t : Nat) : Int :=
  sext 12 (if t % 2 = 0 then vf v r [h, l, 3 * phase + t / 2] 11 0 else vf v r [h, l, 3 * phase + t / 2] 27 16)

/-- A source pixel: blend-space components and expanded alpha. -/
abbrev PxA := Px × Nat

/-- One filter: the sum over the taps, rounded and clamped (R72). -/
def filterTaps (coef : Nat → Int) (taps : List Nat) (p : Nat → Option PxA) : Option PxA :=
  (taps.mapM fun t => (p t).map fun q => (coef t, q)).map fun ps =>
    let sum := fun (f : PxA → Nat) => ((ps.map fun q => q.1 * (f q.2 : Int)).foldl (· + ·) 0 + 512) / 1024
    ((clamp18 (sum (·.1.1)), clamp18 (sum (·.1.2.1)), clamp18 (sum (·.1.2.2))), (clampI 0 4095 (sum (·.2))).toNat)

/-- The scaled pixel (dx, dy) of a layer's destination from its source pixels (R71, R72): vertical first. -/
def scaled (v : SMap Word) (h l : Nat) (src : Nat → Nat → Option PxA) (dx dy : Nat) : Option PxA :=
  let r := srcRect v h l
  let d := dstRect v h l
  let n := r.2.2.1
  let m := d.2.2.1
  let nv := r.2.2.2
  let mv := d.2.2.2
  let column := fun cx =>
    if nv = mv then src cx dy else
    let q := scalePos nv mv dy
    filterTaps (coefOf v Rg.CMP_L_VCOEF h l q.2) (vTaps (vf v Rg.CMP_L_CTL [h, l] 9 8)) fun t => src cx (tapIndex nv q.1 t)
  if n = m then column dx else
  let q := scalePos n m dx
  filterTaps (coefOf v Rg.CMP_L_HCOEF h l q.2) [0, 1, 2, 3, 4, 5] fun t => column (tapIndex n q.1 t)

/-! ### Source pixels (R56, R75, R85 to R89) -/

/-- The entries of the page table that a layer uses in a tile row, by surface page. -/
abbrev PageMap := SMap Nat

/-- `n` bytes at a surface address, as a number; none where the page was not fetched, or DRAM returns poisoned data (R281, R293). -/
def State.surfWord (s : State) (pm : PageMap) (a n : Nat) : Option Nat :=
  ((List.range n).mapM fun i =>
    let b := (a + i) % 2 ^ 36
    match pm.find (b / 65536) with
    | some e => if s.dramGood (ptePage e + b % 65536) then some (Memory.byte 0 s.dram (ptePage e + b % 65536)) else none
    | none => none).map ofBytesLE

/-- Code width of a format. -/
def fmtBits (f : Nat) : Nat :=
  if f = 0 ∨ f = 7 ∨ f = 8 then 8 else if f = 2 ∨ f = 3 then 16 else if f = 4 ∨ f = 5 then 18
  else if f = 11 ∨ f = 12 then 12 else 10

/-- Red, green and blue codes of an RGB format's word. -/
def rgbCodes (f w : Nat) : Px :=
  if f = 0 then (bitsOf w 23 16, bitsOf w 15 8, bitsOf w 7 0)
  else if f = 1 then (bitsOf w 29 20, bitsOf w 19 10, bitsOf w 9 0)
  else if f ≤ 3 then (bitsOf w 15 0, bitsOf w 31 16, bitsOf w 47 32)
  else (bitsOf w 53 36, bitsOf w 35 18, bitsOf w 17 0)

/-- The expanded alpha of a pixel's word (R75). -/
def alpha12 (f w : Nat) : Nat :=
  if f = 0 then let a := bitsOf w 31 24; a * 16 + a / 16
  else if f = 1 then bitsOf w 31 30 * 1365
  else if f = 2 then bitsOf w 63 48 / 16
  else if f = 3 then halfAlpha (bitsOf w 63 48)
  else if f = 5 then let a := bitsOf w 63 54; a * 4 + a / 256
  else 4095

/-- Whether a format has alpha. -/
def fmtAlpha (f : Nat) : Bool := f == 0 || f == 1 || f == 2 || f == 3 || f == 5

/-- A 4:2:x code from its stored word: the value in the high bits of 2 bytes, or 1 byte. -/
def shortCode (f w : Nat) : Nat := if f ≤ 8 then w % 256 else if f ≤ 10 then bitsOf w 15 6 else bitsOf w 15 4

/-- Cb and Cr codes of the chroma pair (j, r) of a surface. -/
def State.chroma (s : State) (pm : PageMap) (d : Desc) (j r : Nat) : Option (Nat × Nat) :=
  (s.surfWord pm (d.base1 + r * d.pitch1 + j * pairBytes d.fmt) (pairBytes d.fmt)).map fun w =>
    let half := 4 * pairBytes d.fmt
    (shortCode d.fmt (w % 2 ^ half), shortCode d.fmt (w / 2 ^ half))

/-- The chroma samples that one pixel's up-sampling reads: columns and rows around it. -/
def around (n i : Nat) : List Nat := [min (i - 1) (n - 1), min i (n - 1), min (i + 1) (n - 1)]

/-- x16 of Cb and Cr at a pixel of a 4:2:2 or 4:2:0 surface (R86). -/
def State.chroma16 (s : State) (pm : PageMap) (d : Desc) (hs vs : Bool) (x y : Nat) : Option (Nat × Nat) :=
  let cols := d.width / 2
  let rows := if fmt420 d.fmt then d.height / 2 else d.height
  let need := if fmt420 d.fmt then around rows (y / 2) else [y]
  ((around cols (x / 2)).flatMap fun j => need.map fun r => (j, r)).mapM (fun jr => (s.chroma pm d jr.1 jr.2).map fun c => (jr, c)) |>.map fun tab =>
    let at' := fun (f : Nat × Nat → Nat) j r => ((tab.find? fun e => e.1 == (j, r)).map fun e => f e.2).getD 0
    let pass := fun f j => if fmt420 d.fmt then upsample vs rows (at' f j) y else 4 * at' f j y
    (upsample hs cols (pass (·.1)) x, upsample hs cols (pass (·.2)) x)

/-- The source pixel (x, y) of a surface in blend space, with its alpha (R69, R85 to R89). -/
def State.srcPixel (s : State) (pm : PageMap) (d : Desc) (v : SMap Word) (h l x y : Nat) : Option PxA :=
  let n := fmtBits d.fmt
  let f := fun hi lo => vf v Rg.PXP_L_CTL [h, l] hi lo
  let mtx := (List.range 9).map fun k => sext 21 (vf v Rg.PXP_L_MTX [h, l, k] 20 0)
  let tf := f 2 0
  (s.surfWord pm (d.base0 + y * d.pitch0 + x * fmtBytes d.fmt) (fmtBytes d.fmt)).bind fun w =>
    if d.fmt ≤ 5 then
      let c := rgbCodes d.fmt w
      let e := fun (k : Nat) => if d.fmt = 3 then halfE k else fullE n (16 * k : Nat)
      some (toBlend tf mtx (e c.1, e c.2.1, e c.2.2), alpha12 d.fmt w)
    else
      let full := f 6 6 == 1
      let eY := fun (k : Nat) => if full then fullE n k else limY n k
      let eC := fun (k : Nat) => if full then fullChroma n k else limC n k
      let ycc := if d.fmt = 6 then some (16 * bitsOf w 9 0, 16 * bitsOf w 19 10, 16 * bitsOf w 29 20)
        else (s.chroma16 pm d (f 8 8 == 1) (f 9 9 == 1) x y).map fun c => (16 * shortCode d.fmt w, c.1, c.2)
      ycc.map fun q => (toBlend tf mtx (yccToRgb (f 5 4) (eY q.1) (eC q.2.1) (eC q.2.2)), 4095)

/-! ### Byte ranges of a tile (R56, R72, R86) -/

/-- Surface pages of a byte range. -/
def pagesIn (a len : Nat) : List Nat := if len = 0 then [] else (List.range ((a + len - 1) / 65536 - a / 65536 + 1)).map (a / 65536 + ·)

/-- A byte range cut at page ends: surface addresses and lengths. -/
def cutPages (a len : Nat) : List (Nat × Nat) :=
  (pagesIn a len).map fun p => (max a (65536 * p) % 2 ^ 36, min (a + len) (65536 * (p + 1)) - max a (65536 * p))

/-- The source indices, in one direction, that destination indices `lo` to `hi` need at source size n and destination size m. -/
def sourceSpan (n m lo hi : Nat) (taps : List Nat) : Nat × Nat :=
  if n = m then (lo, hi) else (tapIndex n (scalePos n m lo).1 (taps.head?.getD 0), tapIndex n (scalePos n m hi).1 (taps.getLast?.getD 0))

/-- The chroma samples around source indices `lo` to `hi` of 2n: one on each side of those that hold them (assumption log 52). -/
def chromaSpan (n lo hi : Nat) : Nat × Nat := (min (lo / 2 - 1) (n - 1), min (hi / 2 + 1) (n - 1))

/-- The byte ranges, cut at page ends, that a layer reads for destination pixels dx0 to dx1 of destination rows dy0 to dy1. -/
def rangesNeeded (d : Desc) (v : SMap Word) (h l dx0 dx1 dy0 dy1 : Nat) : List (Nat × Nat) :=
  let r := srcRect v h l
  let q := dstRect v h l
  let cx := sourceSpan r.2.2.1 q.2.2.1 dx0 dx1 [0, 5]
  let cy := sourceSpan r.2.2.2 q.2.2.2 dy0 dy1 (vTaps (vf v Rg.CMP_L_CTL [h, l] 9 8))
  let x0 := r.1 + cx.1
  let x1 := r.1 + cx.2
  let y0 := r.2.1 + cy.1
  let y1 := r.2.1 + cy.2
  let luma := (List.range (y1 + 1 - y0)).flatMap fun k => cutPages (d.base0 + (y0 + k) * d.pitch0 + x0 * fmtBytes d.fmt) ((x1 + 1 - x0) * fmtBytes d.fmt)
  let kx := chromaSpan (d.width / 2) x0 x1
  let ky := if fmt420 d.fmt then chromaSpan (d.height / 2) y0 y1 else (y0, y1)
  let pairs := (List.range (ky.2 + 1 - ky.1)).flatMap fun k =>
    cutPages (d.base1 + (ky.1 + k) * d.pitch1 + kx.1 * pairBytes d.fmt) ((kx.2 + 1 - kx.1) * pairBytes d.fmt)
  if fmtTwo d.fmt then luma ++ pairs else luma

/-! ### Blending (R75 to R77) -/

/-- Division by 4095 with half-up rounding (R76). -/
def div4095 (x : Nat) : Nat := (x + 2047) / 4095

/-- A layer's pixel over what lies beneath (R76): blend 0 OPAQUE, 1 STRAIGHT, 2 PREMULTIPLIED; and whether the clamp of a
premultiplied blend was hit. -/
def blendPx (mode g : Nat) (c : PxA) (d : Px) : Px × Bool :=
  if mode = 2 then
    let a := div4095 (c.2 * g)
    let raw := fun k => div4095 (c.1.comp k * g + d.comp k * (4095 - a))
    (mapPx fun k => min (raw k) fullScale, decide (fullScale < raw 0) || decide (fullScale < raw 1) || decide (fullScale < raw 2))
  else
    let a := if mode = 0 then g else div4095 (c.2 * g)
    (mapPx fun k => div4095 (c.1.comp k * a + d.comp k * (4095 - a)), false)

/-- The spillway pixel of a layer: its colour and alpha, blended STRAIGHT (R77). -/
def spillPx (v : SMap Word) (h l : Nat) : PxA :=
  ((vf v Rg.CMP_L_SPILL_R [h, l] 17 0, vf v Rg.CMP_L_SPILL_G [h, l] 17 0, vf v Rg.CMP_L_SPILL_B [h, l] 17 0),
   vf v Rg.CMP_L_SPILL_B [h, l] 31 20)

/-! ### Coverage (R81, R82) -/

/-- Tiles per row of a head, and tile rows. -/
def tilesX (w : Nat) : Nat := ceilDiv w 32

/-- The layer words a layer's display takes its rectangle and alpha from. -/
def LayerShow.words (k : LayerShow) : SMap Word := if k.mode = 2 then k.spill else k.regs

/-- Whether a rectangle holds every active pixel of tile (tx, ty) of a picture w × ht. -/
def holdsTile (r : Int × Int × Nat × Nat) (w ht tx ty : Nat) : Bool :=
  covers r (32 * tx) (32 * ty) && covers r (min (32 * tx + 31) (w - 1)) (min (32 * ty + 31) (ht - 1))

/-- Whether a rectangle meets tile (tx, ty) within the picture. -/
def meetsTile (r : Int × Int × Nat × Nat) (w ht tx ty : Nat) : Bool :=
  decide (r.1 < (min (32 * tx + 32) w : Nat)) && decide (((32 * tx : Nat) : Int) < r.1 + r.2.2.1) &&
  decide (r.2.1 < (min (32 * ty + 32) ht : Nat)) && decide (((32 * ty : Nat) : Int) < r.2.1 + r.2.2.2)

/-- Whether a layer shown as latched has effective alpha 4095 throughout (R81). -/
def State.fullAlpha (s : State) (k : LayerShow) (h l : Nat) : Bool :=
  let g := vf k.words Rg.CMP_L_CTL [h, l] 27 16
  if k.mode = 2 then g == 4095 && (spillPx k.spill h l).2 == 4095
  else g == 4095 && (vf k.regs Rg.CMP_L_CTL [h, l] 2 1 == 0 ||
    !fmtAlpha (s.desc (vf k.regs Rg.CMP_L_SURF [h, l] 11 0)).fmt)

/-- Whether layer l is solid in tile (tx, ty) (R81). -/
def State.solid (s : State) (k : LayerShow) (h l w ht tx ty : Nat) : Bool :=
  k.mode != 0 && s.fullAlpha k h l && holdsTile (dstRect k.words h l) w ht tx ty

/-- The highest solid layer of a tile. -/
def State.topSolid (s : State) (ks : List LayerShow) (h w ht tx ty : Nat) : Option Nat :=
  ((List.range 9).filter fun l => s.solid (ks.getD l {}) h l w ht tx ty).getLast?

/-- How many fetches the coverage of a tile suppresses (R81). -/
def State.suppressed (s : State) (ks : List LayerShow) (h w ht tx ty : Nat) : Nat :=
  match s.topSolid ks h w ht tx ty with
  | none => 0
  | some t => ((List.range t).filter fun l =>
      (ks.getD l {}).mode == 1 && meetsTile (dstRect (ks.getD l {}).regs h l) w ht tx ty).length

/-! ### The fetch of a tile row (R50, R51, R65, R82, R281, R293) -/

/-- The entry a layer reads in the frame, if it shows a surface. -/
def LayerShow.surface? (k : LayerShow) (h l : Nat) : Option Nat :=
  if k.mode = 1 then some (vf k.regs Rg.CMP_L_SURF [h, l] 11 0) else none

/-- A layer's fetch is abandoned from tile `polder` of the frame being scanned (R65, R82): from there on the layer is not ready. -/
def abandonLayer (h l polder : Nat) (s : State) : State :=
  match (s.hd h).cur with
  | none => s
  | some f =>
    let k := f.shows.getD l {}
    if (k.surface? h l).isNone || k.fault.isSome || f.aborted then s else
    (s.modHd h fun d => { d with cur := d.cur.map fun f => { f with shows := f.shows.set l { k with fault := some polder } } }).wr
      Rg.CMP_L_STATE [h, l] (setBit (s.rd Rg.CMP_L_STATE [h, l]) 28 true)

/-- The fetch of a layer of head h meets an invalid page in tile `polder` (R65, R82). -/
def fetchFault (h l surf addr polder : Nat) (s : State) : State :=
  xlateFault 1 h l surf addr h surf (9 * h + l) (abandonLayer h l polder s)

/-- Why a fetch stops: at a surface address whose page is invalid, at a DRAM address above the capacity, or at poisoned data. -/
inductive FetchStop where
  | invalid (addr : Nat)
  | range (addr : Nat)
  | poison
  deriving DecidableEq, Repr

/-- The ranges of one tile are read in order, each page translated at its first use in the tile row; answers where the fetch stops. -/
def fetchParts (h : Nat) : List (Nat × Nat) → PageMap → State → Option FetchStop × PageMap × State
  | [], pm, s => (none, pm, s)
  | (a, len) :: ps, pm, s =>
    let r := match pm.find (a / 65536) with
      | some e => (e, s)
      | none => translate h (a / 65536) s
    let b := ptePage r.1 + a % 65536
    if !pteValid r.1 then (some (.invalid a), pm, r.2)
    else if r.2.capBytes ≤ b then (some (.range b), pm, r.2)
    else if (blocksOf b len).any r.2.dmc.poison.contains then (some .poison, pm, r.2)
    else fetchParts h ps (pm.insert (a / 65536) r.1) r.2

/-- The byte ranges that layer l reads for tile (tx, ty) of a picture w × ht. -/
def State.tileRanges (s : State) (k : LayerShow) (h l w ht tx ty : Nat) : List (Nat × Nat) :=
  let q := dstRect k.regs h l
  let at' := fun (z : Int) (o : Int) => (z - o).toNat
  rangesNeeded (s.desc (vf k.regs Rg.CMP_L_SURF [h, l] 11 0)) k.regs h l
    (at' (32 * tx : Nat) q.1) (at' (min ((min (32 * tx + 32) w : Nat) : Int) (q.1 + q.2.2.1)) (q.1 + 1))
    (at' (32 * ty : Nat) q.2.1) (at' (min ((min (32 * ty + 32) ht : Nat) : Int) (q.2.1 + q.2.2.2)) (q.2.1 + 1))

/-- The fetch of layer l over some tiles of tile row ty, from the left. A tile where it is suppressed (R81), or that it does not meet, is not
fetched; the first tile where the fetch stops is its first not-ready one: reported where its page is invalid (R65) or its address lies above
the capacity (R281), and for poisoned data by DRAM_READ_COMPLETE (R293). -/
def fetchTiles (h l w ht ty : Nat) : List Nat → PageMap → State → PageMap × State
  | [], pm, s => (pm, s)
  | tx :: txs, pm, s =>
    let ks := match (s.hd h).cur with | some f => f.shows | none => []
    let k := ks.getD l {}
    if decide (l < (s.topSolid ks h w ht tx ty).getD 0) || !meetsTile (dstRect k.regs h l) w ht tx ty then fetchTiles h l w ht ty txs pm s
    else
      let tile := ty * tilesX w + tx
      let r := fetchParts h (s.tileRanges k h l w ht tx ty) pm s
      match r.1 with
      | none => fetchTiles h l w ht ty txs r.2.1 r.2.2
      | some (.invalid a) => (r.2.1, fetchFault h l ((k.surface? h l).getD 0) a tile r.2.2)
      | some (.range a) => (r.2.1, abandonLayer h l tile (rangeFault h a r.2.2))
      | some .poison => (r.2.1, abandonLayer h l tile r.2.2)

/-- The fetch of tile row ty by every layer that shows a surface and is not abandoned yet; answers the pages by layer. -/
def fetchLayers (h w ht ty : Nat) : List Nat → State → SMap PageMap × State
  | [], s => ([], s)
  | l :: ls, s =>
    let k := match (s.hd h).cur with | some f => f.shows.getD l {} | none => {}
    if k.mode == 1 && k.fault.isNone then
      let r := fetchTiles h l w ht ty (List.range (tilesX w)) [] s
      let q := fetchLayers h w ht ty ls r.2
      (q.1.insert l r.1, q.2)
    else fetchLayers h w ht ty ls s

/-- Tile row ty of the frame being scanned is fetched, once; an aborted frame fetches nothing more (R110). -/
def fetchRow (h ty : Nat) (s : State) : State :=
  match (s.hd h).cur with
  | none => s
  | some f =>
    if f.aborted || (f.pages.find ty).isSome then s else
    let v := s.forceOf h
    let r := fetchLayers h (hActive v h) (vActive v h) ty (List.range 9) s
    r.2.modHd h fun d => { d with cur := d.cur.map fun f => { f with pages := f.pages.insert ty r.1 } }

/-! ### A line -/

/-- The pixel of a layer's surface at (x, y) of the picture. -/
def State.layerPixel (s : State) (pm : PageMap) (k : LayerShow) (h l x y : Nat) : Option PxA :=
  let d := s.desc (vf k.regs Rg.CMP_L_SURF [h, l] 11 0)
  let r := srcRect k.regs h l
  let t := dstRect k.regs h l
  scaled k.regs h l (fun cx cy => s.srcPixel pm d k.regs h l (r.1 + cx) (r.2.1 + cy)) ((x : Int) - t.1).toNat ((y : Int) - t.2.1).toNat

/-- Blends layer l over `d` at (x, y): the colour and whether the premultiplied clamp was hit. `tile` is the tile's index and
`wasSolid` that the layer was marked solid there at latch: then a layer abandoned by a fault shows its spillway colour at
a = 4095, or, hidden, leaves the background (R82): in the tile that faulted as in the later ones (assumption log 52). -/
def State.layerOver (s : State) (pms : SMap PageMap) (ks : List LayerShow) (h tile : Nat) (wasSolid : Bool) (bg : Px) (x y l : Nat) (d : Px) : Px × Bool :=
  let k := ks.getD l {}
  let hide := vf k.words Rg.CMP_L_CTL [h, l] 3 3 == 1
  let spill := fun (v : SMap Word) =>
    if wasSolid then (blendPx 1 4095 ((spillPx v h l).1, 4095) d).1 else (blendPx 1 (vf v Rg.CMP_L_CTL [h, l] 27 16) (spillPx v h l) d).1
  let abandoned := if hide then (if wasSolid then bg else d) else spill k.regs
  if k.mode = 0 || !covers (dstRect k.words h l) x y then (d, false)
  else if k.mode = 2 then (spill k.spill, false)
  else if (match k.fault with | some f => decide (f ≤ tile) | none => false) then (abandoned, false)
  else match s.layerPixel (pms.get [] l) k h l x y with
    | none => (abandoned, false)
    | some c => blendPx (vf k.regs Rg.CMP_L_CTL [h, l] 2 1) (vf k.regs Rg.CMP_L_CTL [h, l] 27 16) c d

/-- The blended pixel (x, y) of a head and its clamped blends (R76). Layers beneath the highest solid one are not fetched and
change nothing (R81). -/
def State.pixel (s : State) (pms : SMap PageMap) (ks : List LayerShow) (v : SMap Word) (h w ht x y : Nat) : Px × Nat :=
  let bg : Px := (vf v Rg.CMP_H_BG_R [h] 17 0, vf v Rg.CMP_H_BG_G [h] 17 0, vf v Rg.CMP_H_BG_B [h] 17 0)
  let tile := y / 32 * tilesX w + x / 32
  let top := s.topSolid ks h w ht (x / 32) (y / 32)
  ((List.range 9).filter fun l => decide (top.getD 0 ≤ l)).foldl (fun acc l =>
    let r := s.layerOver pms ks h tile (top == some l) bg x y l acc.1
    (r.1, acc.2 + b2n r.2)) (bg, 0)

/-- Composes line y of a frame of head h: the blended line, the head-stage line, and the clamped blends counted (R76, R90). -/
def composeLine (h y : Nat) (f : Frame) (s : State) : TapLine × State :=
  let v := s.forceOf h
  let w := hActive v h
  let ht := vActive v h
  let px := (List.range w).map fun x => s.pixel (f.pages.get [] (y / 32)) f.shows v h w ht x y
  let hs := s.headStage v h
  ({ cmp := px.map (·.1), pxp := px.map fun p => hs.apply p.1 },
   count Rg.CMP_H_CLAMP_CNT [h] ((px.map (·.2)).sum) s)

/-- A composed line kept for the taps. -/
def keepLine (h y : Nat) (l : TapLine) (s : State) : State :=
  s.modHd h fun d => { d with cur := d.cur.map fun f => { f with taps := f.taps.insert y l } }

/-- Line y of the frame being composed, composed once, from its tile row's fetch, and kept for the taps. -/
def captureLine (h y : Nat) (s : State) : TapLine × State :=
  let s1 := fetchRow h (y / 32) s
  match (s1.hd h).cur with
  | none => ({}, s1)
  | some f => match f.taps.find y with
    | some l => (l, s1)
    | none =>
      let r := composeLine h y f s1
      (r.1, keepLine h y r.1 r.2)

end Sys2Proof.Machine
end

