-- ==== Sys2Proof/Machine/Psq.lean ====
section
/-!
DEFINITION. PSQ: slot sequences, mappings, motion classes, dither, polder contexts, planes and the commit checks
(R116 to R140).
-/
namespace Sys2Proof.Machine

/-! ### Sequences (R116, R117, R119) -/

def slKind (w : Word) : Nat := fld w 31 30
def slBit (w : Word) : Nat := fld w 28 24
def slTier (w : Word) : Nat := fld w 22 20
def slPf (w : Word) : Nat := fld w 16 8
def slLen (w : Word) : Nat := fld w 7 0

/-- The nominal amplitude of a tier in sixteenths (R117). -/
def tier16 (t : Nat) : Nat := [16, 12, 8, 6, 4, 3, 2, 1].getD t 0

/-- The entries of a list up to the first END (R119). -/
def upToEnd : List Word → List Word
  | [] => []
  | w :: r => if slKind w = 0 then [] else w :: upToEnd r

/-- The sequence of a head in a view. -/
def seqOf (v : SMap Word) (h : Nat) : List Word :=
  upToEnd ((List.range 166).map fun e => (v.find (Rg.PSQ_SLOT_CTL.at [h, e])).getD (resetWord (Rg.PSQ_SLOT_CTL.at [h, e])))

/-- Plane entries; their count and that of FULL entries (R119). -/
def isPlane (w : Word) : Bool := slKind w == 1 || slKind w == 2
def planeEntries (q : List Word) : List Word := q.filter isPlane
def fullEntries (q : List Word) : List Word := q.filter fun w => slKind w == 1

/-- Minimum slots of a sequence. -/
def slotSum (q : List Word) : Nat := (q.map slLen).sum

/-- The weight of an entry (R116). -/
def slotWeight (w : Word) : Nat := slLen w * tier16 (slTier w) * slPf w

/-! ### Mappings (R123 to R125, R139) -/

/-- The key of a mask. -/
def maskKey (bank table hp : Nat) : Nat := (bank * 16 + table) * 128 + hp

/-- A mask of a mapping table of head h. -/
def State.maskAt (s : State) (h bank table hp : Nat) : Nat := (s.hd h).masks.get 0 (maskKey bank table hp)

/-- A mapping code of PSQ_R_CTL: 16 and above BINARY, else a table. -/
def mapOf (v : SMap Word) (h ring cls : Nat) : Nat := vf v Rg.PSQ_R_CTL [h, ring] (5 * cls + 4) (5 * cls)

/-- Whether a FULL entry serving code bit b, numbered n, is lit for hp (R124, R125). -/
def State.fullLit (s : State) (h bank map hp b n : Nat) : Bool :=
  if 16 ≤ map then hp.testBit (b - 11) else (s.maskAt h bank map hp).testBit n

/-- The bits of a value in the planes, in plane order (R123). -/
def State.planeBits (s : State) (h bank map v' : Nat) : Nat → List Word → List Bool
  | _, [] => []
  | n, w :: r =>
    if slKind w = 1 then s.fullLit h bank map (v' / 2048) (slBit w) n :: s.planeBits h bank map v' (n + 1) r
    else (v' % 2048).testBit (slBit w) :: s.planeBits h bank map v' n r

/-! ### Rings and polders (R126 to R129) -/

/-- The polders assigned to a head, in ascending pool index (R18, R126). -/
def State.polderList (s : State) (h : Nat) : List Nat := s.headPolders.get [] h

/-- A polder context. -/
def State.polder (s : State) (p : Nat) : Polder := s.polders.get {} p

/-- The ring of a tile: of the highest-numbered enabled rectangle that contains it (R128). -/
def ringOf (v : SMap Word) (h tx ty : Nat) : Nat :=
  match ((List.range 16).filter fun k =>
      vf v Rg.PSQ_H_RECT_B [h, k] 31 31 == 1 &&
      decide (vf v Rg.PSQ_H_RECT_A [h, k] 7 0 ≤ tx) && decide (tx ≤ vf v Rg.PSQ_H_RECT_A [h, k] 23 16) &&
      decide (vf v Rg.PSQ_H_RECT_A [h, k] 15 8 ≤ ty) && decide (ty ≤ vf v Rg.PSQ_H_RECT_A [h, k] 31 24)).getLast? with
  | some k => vf v Rg.PSQ_H_RECT_B [h, k] 2 0
  | none => 0

/-- Every polder of a head changed by a function of its tile index and pool index. -/
def eachPolder (h : Nat) (f : Nat → Nat → Polder → Polder) (s : State) : State :=
  let ps := s.polderList h
  { s with polders := (List.range ps.length).foldl (fun m i => m.upd {} (ps.getD i 0) (f i (ps.getD i 0))) s.polders }

/-- The ring map in force is latched into the polders (R127, R128). -/
def latchRings (h : Nat) (s : State) : State :=
  let v := s.forceOf h
  let w := tilesX (hActive v h)
  eachPolder h (fun i _ c => { c with ring := ringOf v h (i % w) (i / w) }) s

/-- Residues at a head grant (R127). -/
def residueSeed (pool : Nat) : List Nat := (List.range 3).map fun c => (pool * 1583 + c * 1365) % 4096

/-- The polder contexts of a head at its grant (R127, R214). -/
def grantPolders (h : Nat) (s : State) : State :=
  let v := s.forceOf h
  let w := tilesX (hActive v h)
  eachPolder h (fun i p _ => { ring := if s.mirror h then ringOf v h (i % w) (i / w) else 0, res := residueSeed p }) s

/-! ### Dither (R131) -/

/-- The ordered threshold of a pixel with a residue. -/
def ditherT12 (x y res : Nat) : Nat :=
  let z := (x % 8) ^^^ (y % 8)
  let zb := fun i => b2n (z.testBit i)
  let yb := fun i => b2n ((y % 8).testBit i)
  (64 * (32 * zb 0 + 16 * yb 0 + 8 * zb 1 + 4 * yb 1 + 2 * zb 2 + yb 2) + 32 + res) % 4096

/-- A value reduced to depth d: q (R131, R217). -/
def ditherQ (d x y res v : Nat) : Nat :=
  let k := 18 - d
  let q := v / 2 ^ k
  let f12 := v % 2 ^ k * 2 ^ (12 - k)
  min (if ditherT12 x y res < f12 then q + 1 else q) (2 ^ d - 1)

/-- v′ (R131). -/
def ditherV (d x y res v : Nat) : Nat := if 18 ≤ d then v else ditherQ d x y res v * 2 ^ (18 - d)

/-! ### Motion class (R130) -/

/-- The mean of block k of tile (tx, ty) over lines of pixels; pixels outside the area count as 0. -/
def blockMean (w ht tx ty k : Nat) (px : Nat → Nat → Px) : Nat :=
  ((List.range 64).map fun i =>
    let x := 32 * tx + 8 * (k % 4) + i % 8
    let y := 32 * ty + 8 * (k / 4) + i / 8
    if x < w ∧ y < ht then let p := px x y; p.1 + 2 * p.2.1 + p.2.2 else 0).sum / 16384

/-- The class staged for the next frame (R130). -/
def nextClass (t1 t2 t3 hyst : Nat) (c : Polder) (blk : List Nat) : Nat :=
  if !c.primed then c.cls else
  let m := ((List.range 16).map fun k => ((blk.getD k 0 : Int) - c.blk.getD k 0).natAbs).sum
  let n := if t3 ≤ m then 3 else if t2 ≤ m then 2 else if t1 ≤ m then 1 else 0
  let t := if c.cls = 1 then t1 else if c.cls = 2 then t2 else t3
  if n < c.cls ∧ t - hyst ≤ m then c.cls else n

/-- The polder context staged by a composed tile (R130). -/
def stagedPolder (v : SMap Word) (h : Nat) (c : Polder) (blk : List Nat) : Polder :=
  { c with
    cls := nextClass (vf v Rg.PSQ_R_THR_A [h, c.ring] 15 0) (vf v Rg.PSQ_R_THR_A [h, c.ring] 31 16)
      (vf v Rg.PSQ_R_THR_B [h, c.ring] 15 0) (vf v Rg.PSQ_R_THR_B [h, c.ring] 31 16) c blk
    primed := true, blk := blk }

/-! ### Planes (R135, R136) -/

/-- Bytes of a plane row, and of a plane. -/
def planePitch (w : Nat) : Nat := ceilDiv w 512 * 64
def planeBytes (w ht : Nat) : Nat := planePitch w * ht

/-- The size S of a plane buffer with P planes (R136). -/
def State.planeSize (s : State) (v : SMap Word) (h : Nat) : Nat :=
  2 * (s.cfg.head h).arrays.length * vf v Rg.PSQ_H_BUF [h] 7 0 * planeBytes (hActive v h) (vActive v h)

/-- Whether a view's plane buffer lies in the basin (R136). -/
def State.planeInBasin (s : State) (v : SMap Word) (h : Nat) : Bool :=
  match s.userRegion? 1 h with
  | some b => decide (s.planeSize v h ≤ b.length * 1048576)
  | none => false

/-- The buffer is placed with the words in force (R136). -/
def placePlanes (h : Nat) (s : State) : State :=
  let v := s.forceOf h
  s.modHd h fun d => { d with
    planeLoc := s.planeInBasin v h
    planeAt := vf v Rg.PSQ_H_PLANE_BASE [h] 19 0 * 65536
    planeMib := ceilDiv (s.planeSize v h) 1048576
    planeP := vf v Rg.PSQ_H_BUF [h] 7 0 }

/-- Bytes stored into a head's region of the basin, or into DRAM, at an offset of a buffer. -/
def bufStore (user h : Nat) (inBasin : Bool) (base o : Nat) (bs : List Byte) (s : State) : State :=
  if inBasin then
    match s.userRegion? user h with
    | some b => { s with basin := (List.range bs.length).foldl (fun m i => Memory.setByte 0 m (regionAddr b (o + i)) (bs.getD i 0)) s.basin }
    | none => s
  else dramStore h (base + o) bs s

/-- Bytes of such a buffer. -/
def State.bufLoad (s : State) (user h : Nat) (inBasin : Bool) (base o n : Nat) : List Byte :=
  if inBasin then
    match s.userRegion? user h with
    | some b => (List.range n).map fun i => if s.badRead h (basinBlock0 + regionAddr b (o + i) / 64) then 0 else Memory.byte 0 s.basin (regionAddr b (o + i))
    | none => List.replicate n 0
  else s.dramLoad h (base + o) n

/-- The place of plane j of array a in the half of a frame (R135). -/
def State.planeOffset (s : State) (h num a j : Nat) : Nat :=
  let v := s.forceOf h
  ((num % 2 * (s.cfg.head h).arrays.length + a) * (s.hd h).planeP + j) * planeBytes (hActive v h) (vActive v h)

/-- The bytes of one plane row: mirror x is bit x mod 8 of byte x / 8; pad bits are 0. -/
def rowBytes (pitch : Nat) (bits : List Bool) : List Byte :=
  (List.range pitch).map fun i => BitVec.ofNat 8 (maskOf 8 fun k => bits.getD (8 * i + k) false)

/-- The index of array unit a of a mirror head (R163): 3m + a. -/
def State.arrayUnit (s : State) (h a : Nat) : Nat := 3 * ((List.range h).filter s.mirror).length + a

/-- Whether array a of a mirror head works. -/
def State.arrayWorks (s : State) (h a : Nat) : Bool := !(s.outUnits 12).contains (s.arrayUnit h a)

/-- The component an array shows (R133). -/
def compOf (v : SMap Word) (h a : Nat) : Nat := vf v Rg.PSQ_H_CTL [h] (2 * a + 1) (2 * a)

/-- The plane bits of one pixel for each plane (R133): dither with the polder's residue, split and mapping. -/
def State.pixelPlanes (s : State) (v : SMap Word) (h : Nat) (q : List Word) (c : Polder) (comp x y val : Nat) : List Bool :=
  let d := vf v Rg.PSQ_R_CTL [h, c.ring] 28 24
  s.planeBits h (vf v Rg.PSQ_H_CTL [h] 8 8) (mapOf v h c.ring c.cls) (ditherV d x y (c.res.getD comp 0) val) 0 q

/-- Codes line y of a frame into the plane buffer for each working array (R133, R135). -/
def codeLine (h num y : Nat) (line : List Px) (s : State) : State :=
  let v := s.forceOf h
  let q := planeEntries (seqOf v h)
  let w := hActive v h
  let ps := s.polderList h
  (List.range (s.cfg.head h).arrays.length).foldl (fun s a =>
    if !s.arrayWorks h a then s else
    let comp := compOf v h a
    let cols := (List.range w).map fun x =>
      s.pixelPlanes v h q (s.polder (ps.getD (y / 32 * tilesX w + x / 32) 0)) comp x y ((line.getD x (0, 0, 0)).comp comp)
    (List.range q.length).foldl (fun s j =>
      bufStore 1 h (s.hd h).planeLoc (s.hd h).planeAt (s.planeOffset h num a j + y * planePitch w)
        (rowBytes (planePitch w) (cols.map fun bs => bs.getD j false)) s) s) s

/-- Composes and, for a mirror head, codes the lines of a tile row in order. -/
def tileLines (h num : Nat) (mir : Bool) : List Nat → State → List (Nat × List Px) × State
  | [], s => ([], s)
  | y :: ys, s =>
    let r := captureLine h y s
    let s1 := if mir then codeLine h num y r.1.pxp r.2 else r.2
    let q := tileLines h num mir ys s1
    ((y, r.1.pxp) :: q.1, q.2)

/-- COMPOSE_TILE_ROW (R130, R133): tile row `ty` of the frame being composed. -/
def composeTileRowOp (h ty : Nat) (s : State) : State :=
  match (s.hd h).cur with
  | none => s
  | some f =>
    let v := s.forceOf h
    let w := hActive v h
    let ht := vActive v h
    if f.aborted || f.self || decide (ht ≤ 32 * ty) then s else
    let r := tileLines h f.num (s.mirror h) ((List.range 32).filterMap fun i => if 32 * ty + i < ht then some (32 * ty + i) else none) s
    if !s.mirror h then r.2 else
    let px := fun x y => ((r.1.find? fun e => e.1 == y).map fun e => e.2.getD x (0, 0, 0)).getD (0, 0, 0)
    let ps := s.polderList h
    let st := (List.range (tilesX w)).foldl (fun m tx =>
      let p := ps.getD (ty * tilesX w + tx) 0
      m.insert p (stagedPolder v h (s.polder p) ((List.range 16).map fun k => blockMean w ht tx ty k px))) f.staged
    r.2.modHd h fun d => { d with cur := d.cur.map fun f => { f with staged := st } }

def execComposeTileRow (h : Fin 4) (ty : Nat) (s : State) : Host.Outcome State Fault Refusal := live (composeTileRowOp h.val ty) s

/-- The commit of a completed frame's polder updates at the next boundary (R130, R132, R133); an aborted frame's are
discarded (R134). -/
def psqCommit (h : Nat) (f : Frame) (s : State) : State :=
  if f.aborted then s else
  let step := s.ff Rg.PSQ_H_DITHER [h] 11 0
  let changes := (f.staged.filter fun e => e.2.cls != (s.polder e.1).cls).length
  count1 Rg.PSQ_H_CODED_CNT [h] (count Rg.PSQ_H_CLASS_CNT [h] changes
    (eachPolder h (fun _ p c =>
      let n := (f.staged.find p).getD c
      { c with cls := n.cls, primed := true, blk := n.blk, res := c.res.map fun r => (r + step) % 4096 }) s))

/-! ### Commit checks (R137) -/

/-- The first index of a list for which a check fails. -/
def firstBad {α : Type} (p : α → Bool) (l : List α) : Option Nat :=
  (l.zipIdx.find? fun x => p x.1).map (·.2)

/-- Code 0x1: a field of an entry. -/
def badEntry (w : Word) : Bool :=
  slLen w == 0 ||
  (slKind w == 1 && (slTier w != 0 || slPf w != 256 || decide (slBit w < 11) || decide (17 < slBit w))) ||
  (slKind w == 2 && (slPf w == 0 || decide (256 < slPf w) || decide (10 < slBit w)))

/-- Code 0x5: the first PART entry whose weight is wrong, or whose bit an earlier one serves. -/
def badPart (q : List Word) : Option Nat :=
  (q.zipIdx.find? fun x => slKind x.1 == 2 &&
    (slotWeight x.1 != 2 ^ (slBit x.1 + 1) || (q.take x.2).any fun w => slKind w == 2 && slBit w == slBit x.1)).map (·.2)

/-- The rings in use (R137): ring 0 and those an enabled rectangle names. -/
def ringsUsed (v : SMap Word) (h : Nat) : List Nat :=
  (List.range 8).filter fun r => r == 0 || (List.range 16).any fun k => vf v Rg.PSQ_H_RECT_B [h, k] 31 31 == 1 && vf v Rg.PSQ_H_RECT_B [h, k] 2 0 == r

/-- Whether BINARY is valid for a sequence (R124). -/
def binaryOk (q : List Word) : Bool :=
  (List.range 7).all fun i => ((fullEntries q).filter fun w => slBit w == i + 11).map slLen |>.sum |> (· == 2 ^ i)

/-- Whether a mapping table is valid for a sequence (R125). -/
def State.tableOk (s : State) (h bank table : Nat) (q : List Word) : Bool :=
  let fs := fullEntries q
  (List.range 128).all fun hp =>
    let m := s.maskAt h bank table hp
    decide (m < 2 ^ fs.length) && ((List.range fs.length).map fun n => if m.testBit n then slLen (fs.getD n 0) else 0).sum == hp

/-- Code 0x7: the index of the first mapping that breaks its rule. -/
def State.badMap (s : State) (v : SMap Word) (h : Nat) (q : List Word) : Option Nat :=
  ((ringsUsed v h).flatMap fun r => (List.range 4).map fun c => (r, mapOf v h r c)).findSome? fun x =>
    if 16 ≤ x.2 then (if binaryOk q then none else some (x.1 * 32 + 16))
    else if s.tableOk h (vf v Rg.PSQ_H_CTL [h] 8 8) x.2 q then none else some (x.1 * 32 + x.2)

/-- Code 0x8: the first rectangle or ring that breaks its rule. -/
def badRing (v : SMap Word) (h : Nat) : Option Nat :=
  let f := fun k hi lo => vf v Rg.PSQ_H_RECT_A [h, k] hi lo
  let gx := tilesX (hActive v h)
  let gy := tilesX (vActive v h)
  match (List.range 16).find? fun k => vf v Rg.PSQ_H_RECT_B [h, k] 31 31 == 1 &&
      (decide (f k 23 16 < f k 7 0) || decide (f k 31 24 < f k 15 8) || decide (gx ≤ f k 23 16) || decide (gy ≤ f k 31 24)) with
  | some k => some k
  | none => ((ringsUsed v h).find? fun r =>
      let t1 := vf v Rg.PSQ_R_THR_A [h, r] 15 0
      let t2 := vf v Rg.PSQ_R_THR_A [h, r] 31 16
      let t3 := vf v Rg.PSQ_R_THR_B [h, r] 15 0
      !(decide (t1 < t2) && decide (t2 < t3) && decide (vf v Rg.PSQ_R_THR_B [h, r] 31 16 < t1))).map (16 + ·)

/-- The first failure of the PSQ checks of a view: code and index (R137). -/
def State.psqCheck (s : State) (v : SMap Word) (h : Nat) : Option (Nat × Nat) :=
  let q := seqOf v h
  let pl := planeEntries q
  match firstBad badEntry q with
  | some e => some (1, e)
  | none =>
    if pl.isEmpty || s.longerThan v h (50000 * slotSum q + 14000) (hTotal v h * vTotal v h) then some (2, 0)
    else if vf v Rg.PSQ_H_BUF [h] 7 0 < pl.length ∨ 64 < (fullEntries q).length then some (3, 0)
    else match firstBad (fun w => isPlane w && (s.cfg.head h).arrays.any fun a => decide (slLen w * 50 * a.rate < 1000000)) q with
    | some e => some (4, e)
    | none => match badPart q with
      | some e => some (5, e)
      | none => match (ringsUsed v h).find? fun r => (List.range 11).any fun b =>
            decide (18 - vf v Rg.PSQ_R_CTL [h, r] 28 24 ≤ b) && !q.any fun w => slKind w == 2 && slBit w == b with
        | some r => some (6, r)
        | none => match s.badMap v h q with
          | some i => some (7, i)
          | none => match badRing v h with
            | some i => some (8, i)
            | none =>
              if !s.planeInBasin v h && decide (s.capBytes < vf v Rg.PSQ_H_PLANE_BASE [h] 19 0 * 65536 + s.planeSize v h)
              then some (9, 0) else none

/-! ### Registers (R138 to R140) -/

/-- A write of PSQ_H_TBL_HI (R139): both words into the addressed mask, unless its bank is in force. -/
def maskStoreOp (h : Nat) (v : Word) (s : State) : State :=
  let a := s.rd Rg.PSQ_H_TBL_ADDR [h]
  let bank := fld a 31 31
  if !s.mirror h then s
  else if bank = s.ff Rg.PSQ_H_CTL [h] 8 8 then invalidWrite (Rg.PSQ_H_TBL_HI.at [h]) s
  else (s.modHd h fun d => { d with masks := d.masks.put 0 (maskKey bank (fld a 27 24) (fld a 6 0)) (v.toNat * 2 ^ 32 + d.maskLo) }).wr
    Rg.PSQ_H_TBL_ADDR [h] (setFld a 6 0 (fld a 6 0 + 1))

/-- PSQ_MASK_STORE (R139). -/
def doPsqMaskStore (src : Source) (h : Fin 4) (v : Word) (s : State) : Host.Outcome State Fault Refusal :=
  .next (gatedWrite src (Rg.PSQ_H_TBL_HI.at [h.val]) v (maskStoreOp h.val v) s)

/-- A write of PSQ_H_TBL_LO stages the low word (R139). -/
def maskStageOp (h : Nat) (v : Word) (s : State) : State :=
  if s.mirror h then s.modHd h fun d => { d with maskLo := v.toNat } else s

/-- Clears of PSQ_H_CNT_CLR (R138). -/
def psqHCntClrOp (h : Nat) (v : Word) (s : State) : State :=
  if !s.mirror h then s else
  onBits v [(0, clearCnt Rg.PSQ_H_CLASS_CNT [h]), (1, clearCnt Rg.PSQ_H_CODED_CNT [h])] s

/-- PSQ_H_CNT_CLR (R138). -/
def doPsqHCntClr (src : Source) (h : Fin 4) (v : Word) (s : State) : Host.Outcome State Fault Refusal :=
  .next (gatedWrite src (Rg.PSQ_H_CNT_CLR.at [h.val]) v (psqHCntClrOp h.val v) s)

/-- A context word of PSQ_POLDER_DATA (R140). -/
def polderWord (c : Polder) (w : Nat) : Word :=
  if w = 0 then pack [(0, c.ring), (4, c.cls), (8, b2n c.primed)]
  else if w = 1 then pack [(0, c.res.getD 0 0), (16, c.res.getD 1 0)]
  else if w = 2 then pack [(0, c.res.getD 2 0)]
  else pack [(0, c.blk.getD (2 * (w - 3)) 0), (16, c.blk.getD (2 * (w - 3) + 1) 0)]

/-- The heads of a kind to which a polder is assigned. -/
def State.polderHead? (s : State) (mir : Bool) (p : Nat) : Option Nat :=
  (List.range 4).find? fun h => (if mir then s.mirror h else s.panel h) && (s.polderList h).contains p

/-- The word a report register of PSQ reads (R138 to R140); a head that is not a mirror head reads 0. -/
def readPsq (a : Nat) (s : State) : Option Word :=
  match Rg.PSQ_POLDER_DATA.ixOf a with
  | some [w] =>
    let p := s.fd Rg.PSQ_POLDER_ADDR [] 15 0
    some (if p < 40960 ∧ (s.polderHead? true p).isSome then polderWord (s.polder p) w else 0)
  | _ =>
    let off := a % 0x100000
    if off < 0x10000 || 0x50000 ≤ off then none else
    let h := off / 0x10000 - 1
    if !s.mirror h then some 0
    else if a = Rg.PSQ_H_STATUS.at [h] then
      let q := seqOf (s.forceOf h) h
      some (pack [(24, (planeEntries q).length), (16, (fullEntries q).length), (8, s.ff Rg.PSQ_H_CTL [h] 8 8), (0, min 255 (slotSum q))])
    else if a = Rg.PSQ_H_BUF.at [h] then
      some (pack [(16, (s.hd h).planeMib), (8, b2n (s.hd h).planeLoc), (0, s.fd Rg.PSQ_H_BUF [h] 7 0)])
    else if a = Rg.PSQ_H_TBL_LO.at [h] || a = Rg.PSQ_H_TBL_HI.at [h] then
      let t := s.rd Rg.PSQ_H_TBL_ADDR [h]
      let m := s.maskAt h (fld t 31 31) (fld t 27 24) (fld t 6 0)
      some (word (if a = Rg.PSQ_H_TBL_LO.at [h] then m else m / 2 ^ 32))
    else none

end Sys2Proof.Machine
end

