-- ==== Sys2Proof/Machine/Boot.lean ====
section
/-!
DEFINITION. The boot: self-tests, the loader, APPLY and BRINGUP (R18, R37 to R43, R387 to R395).
-/
namespace Sys2Proof.Machine

/-- The class and unit of the boot's SELF_TEST request (R334, R389). -/
def selfTestCls : Nat := 6
def askSelfTest (s : State) : State := request selfTestCls 0 s

/-- PLL_LOCK (R333, R389). -/
def doPllLock (s : State) : Host.Outcome State Fault Refusal := live (pllLockOp askSelfTest) s

/-- The stages whose action is a self-test (R389). -/
def State.testStage (s : State) : Bool := s.boot.stage == 1 || s.boot.stage == 3

/-- The SELF_TEST grant or refusal arrives (R389): the test begins; a refused one is asked for again. -/
def selfTestGrantOp (s : State) : State :=
  if !s.testStage || s.boot.testing then s else
  match takeGrant selfTestCls 0 s with
  | some s1 => { s1 with boot := { s1.boot with testing := true } }
  | none => match takeRefusal selfTestCls 0 s with
    | some (_, s1) => askSelfTest s1
    | none => s

/-- SELF_TEST_GRANT (R389). -/
def execSelfTestGrant (s : State) : Host.Outcome State Fault Refusal := live selfTestGrantOp s

/-- The loader turns to its next source: a slot is read in LOAD, its header in single mode at 25 MHz, into the staging area; the SPI
target port, or no source left, is LOAD_WAIT (R38, R40, R42, R43). The copy is the slot as it stands here (log 50). -/
def nextSource (srcs : List LoadSrc) (s : State) : State :=
  let s1 := { s with boot := { s.boot with sources := srcs, norLines := 1, norMhz := 25, copy := [] } }
  match srcs with
  | .slot n :: _ => emit (.norRead (n * 0x800000) 64 1 25) (setStage 2 { s1 with boot := { s1.boot with copy := slotCopy s n } })
  | _ => setStage 6 s1

/-- BASIN_TEST_DONE (R40, R389): the failing banks are out; with fewer than 8 working ones no source is tried. -/
def basinTestDoneOp (bad : List Nat) (s : State) : State :=
  if s.boot.stage ≠ 1 || !s.boot.testing then s else
  let s1 := release selfTestCls 0 { s with boot := { s.boot with testing := false } }
  let work := (List.range 64).filter fun b => !bad.contains b
  let s2 := { s1 with dmc := { s1.dmc with basinWork := work } }
  if work.length < 8 then setStage 6 { s2 with sec := { s2.sec with status := 0x13 } }
  else nextSource s2.boot.sources s2

def execBasinTestDone (bad : List (Fin 64)) (s : State) : Host.Outcome State Fault Refusal :=
  live (basinTestDoneOp (bad.map (·.val))) s

/-- A source is rejected (R41, R48). -/
def rejectSource (status : Nat) (s : State) : State :=
  { s with sec := { s.sec with status := status, lastReject := status } }

/-- A source is accepted (R41, R48, R369): what SEC reports of it, and its structure waits for APPLY. -/
def acceptSource (src : Nat) (f : Image) (s : State) : State :=
  askSelfTest (setStage 3 { s with
    sec := { s.sec with
      secVer := imgNum f 0x0C 1, src := src, status := 0x00
      keySet := (keySet? f s.otp.revoked).getD 0
      digest := sha384 (imgBytes f 0 (sigOff f))
      buildId := imgBytes f 0x20 16 }
    boot := { s.boot with staged := topoOf f, stream := [], streaming := false } })

/-- The rest of a container is read in the mode and at the clock that flash_mode selects (R31, R38). -/
def readRest (n : Nat) (f : Image) (s : State) : State :=
  let m := flashMode f
  emit (.norRead (n * 0x800000 + 64) (min (contLen f) 8388608 - 64) (norLinesOf m) (norMhzOf m))
    { s with boot := { s.boot with norLines := norLinesOf m, norMhz := norMhzOf m } }

/-- SLOT_LOAD_DONE (R38 to R41): a slot has been staged and is tested from that copy alone; `io` tells of a read that failed. -/
def slotLoadDoneOp (io : Bool) (s : State) : State :=
  if s.boot.stage ≠ 2 then s else
  match s.boot.sources with
  | .slot n :: rest =>
    let f := copyImage s.boot.copy
    let st := if io then 0x14 else loadStatus f s.otp (rollbackValue s.otp)
    let s1 := readRest n f s
    if st = 0 then acceptSource (n + 1) f s1 else nextSource rest (rejectSource st s1)
  | _ => s

def execSlotLoadDone (io : Bool) (s : State) : Host.Outcome State Fault Refusal := live (slotLoadDoneOp io) s

/-- The loader stream as an image. -/
def streamImage (bs : List Byte) : Image := fun i => bs.getD i 0

/-- A write of SEC_LOAD_STREAM (R43, R395): four more container bytes in LOAD_WAIT; at container_len the loader applies
R41. A length beyond what the staging area holds fails its check once the area is full. -/
def loadStreamOp (v : Word) (s : State) : State :=
  if s.boot.stage ≠ 6 || decide (s.dmc.basinWork.length < 8) then invalidWrite Rg.SEC_LOAD_STREAM.at s else
  let bs := s.boot.stream ++ bytesLE v.toNat 4
  let f := streamImage bs
  if bs.length < 64 ∨ bs.length < min (contLen f) 8388608 then { s with boot := { s.boot with stream := bs, streaming := true } }
  else
    let st := loadStatus f s.otp (rollbackValue s.otp)
    if st = 0 then acceptSource 3 f s
    else rejectSource st { s with boot := { s.boot with stream := [], streaming := false } }

/-- LOAD_STREAM_WRITE (R395). -/
def doLoadStreamWrite (src : Source) (v : Word) (s : State) : Host.Outcome State Fault Refusal :=
  .next (gatedWrite src Rg.SEC_LOAD_STREAM.at v (loadStreamOp v) s)

/-- LOAD_STREAM_STALL (R43): an attempt that has begun is abandoned. -/
def loadStreamStallOp (s : State) : State :=
  if s.boot.stage ≠ 6 || !s.boot.streaming then s
  else rejectSource 0x15 { s with boot := { s.boot with stream := [], streaming := false } }

def execLoadStreamStall (s : State) : Host.Outcome State Fault Refusal := live loadStreamStallOp s

/-! ### APPLY (R18, R37, R389) -/

/-- Blocks enter LOADED, or are ABSENT (R23). -/
def loadBlocks (s : State) : State :=
  (List.range 16).foldl (fun s n => if s.cfg.inst n then { s with blkState := s.blkState.put 1 n 2 } else s) s

/-- A head whose polders are not filled stays out (R18, R100, R416). -/
def headOut (h : Nat) (s : State) : State :=
  let s1 := unitOut 10 h (unitOut 9 h s)
  if s.mirror h then unitsOutAll 12 ((List.range (s.cfg.head h).arrays.length).map (s.arrayUnit h)) (unitOut 11 h s1)
  else unitOut 14 h s1

/-- The heads take their polders in ascending index, the lowest-numbered working ones still free (R18); one that does not
fit takes none, with one event (R415). -/
def fillPolders : List Nat → List Nat → State → State
  | [], _, s => s
  | h :: hs, avail, s =>
    if !(s.cfg.head h).en then fillPolders hs avail s else
    let need := polderNeed (s.cfg.head h)
    if need ≤ avail.length then
      fillPolders hs (avail.drop need) { s with
        headPolders := s.headPolders.put [] h (avail.take need)
        tgn := s.tgn.put {} h { s.hd h with state := 1 } }
    else fillPolders hs avail (headOut h (raiseReport 8 h (blkUnitsAddr 8) need avail.length s))

/-- The lanes, groups and ports that the LANES section uses leave UNUSED and GATED (R242, R243, R260), each group at its
starting rate; a clamped equalisation record sets eq_clamp with one event (R240). -/
def loadLanes (s : State) : State :=
  let s1 := s.cfg.ports.foldl (fun s r => s.modPort r.port fun x => { x with state := 1 }) s
  let s2 := ((List.range 96).filter s.assigned).foldl (fun s n =>
    let s := s.modLane n fun l => { l with state := 1 }
    if (s.cfg.eq.getD n {}).clamped then laneFlagEvent n 5 s else s) s1
  (List.range 12).foldl (fun s g =>
    let rate := s.cfg.rates.getD g 0
    let s := s.wr Rg.LNE_G_CTL [g] (setFld (s.rd Rg.LNE_G_CTL [g]) 1 0 rate)
    s.modGroup g fun x => { x with rate := rate, state := if (s.groupLanes g).isEmpty then 0 else 1 }) s2

/-- DMC takes its map: channels, starting rate, the basin regions; the staging banks are cleared first (R40, R298). -/
def loadDram (s : State) : State :=
  let d := s.cfg.dram
  let s1 := s.enabledChs.foldl (fun s c => s.modCh c fun x => { x with state := 1 })
    { s with basin := [], dmc := { s.dmc with rate := d.rate, density := s.minDensity s.enabledChs } }
  fillBasin s.cfg.basin 0 s1.dmc.basinWork (s1.wr Rg.DMC_FREQ_CTL [] (setFld (s1.rd Rg.DMC_FREQ_CTL) 1 0 d.rate))

/-- The lanes a TRIMS record names: one, or every lane (R321). -/
def trimLanes (x : TrimRec) : List Nat := if x.lane = 255 then List.range 96 else [x.lane]

/-- Whether a TRIMS record is ignored with an event: an unknown kind, or a lane from 96 to 0xFE (R321). -/
def trimBad (x : TrimRec) : Bool := x.kind < 1 || 7 < x.kind || (decide (96 ≤ x.lane) && x.lane != 255)

/-- One TRIMS record on one lane: staged and in force, clamped (R320, R321). -/
def putTrim (x : TrimRec) (n : Nat) (s : State) : State :=
  let v := clampI (trimLo x.kind) (trimHi x.kind) (sext 16 x.value)
  let s1 := s.modCalLane n fun c => { c with staged := c.staged.put x.kind v, force := c.force.put x.kind v }
  if x.kind = 4 then s1.modLane n fun l => { l with trim := v } else s1

/-- Whether a record's value needed clamping. -/
def trimClamps (x : TrimRec) : Bool := decide (clampI (trimLo x.kind) (trimHi x.kind) (sext 16 x.value) ≠ sext 16 x.value)

/-- The TRIMS section (R321): its records in order; one event for records that name no trim or lane, and one for each lane
with a clamped value. -/
def applyTrims (s : State) : State :=
  let good := s.cfg.trims.filter fun x => !trimBad x
  let s1 := good.foldl (fun s x => ((trimLanes x).filter s.assigned).foldl (fun s n => putTrim x n s) s) s
  let s2 := if s.cfg.trims.any trimBad then raiseReport 3 noUnit 0 0 0 s1 else s1
  (((List.range 96).filter s.assigned).filter fun n => good.any fun x => trimClamps x && (trimLanes x).contains n).foldl
    (fun s n => raiseReport 3 n (Rg.CAL_L_STATUS.at [n]) 0 0 s) s2

/-- A preset of a lane's trims (R37, R320): both staged and in force. -/
def presetTrims (n : Nat) (ks : List (Nat × Int)) (s : State) : State :=
  if !s.assigned n then s else
  let s1 := s.modCalLane n fun c => { c with
    staged := ks.foldl (fun t k => t.put k.1 k.2) c.staged, force := ks.foldl (fun t k => t.put k.1 k.2) c.force }
  s1.modLane n fun l => { l with trim := (s1.calLane n).staged.rxOfs }

/-- A preset sets the RW and RWS fields of its register, staged and in force, and causes no action (R37); R8 is not applied to it
(log 50). -/
def applyPreset (s : State) (x : Nat × Nat) : State :=
  let v := word x.2
  match Rg.CAL_L_STATIC.ixOf x.1, Rg.CAL_L_DYN.ixOf x.1, lookupReg x.1 with
  | some [n], _, _ => presetTrims n [(1, fld v 4 0), (2, fld v 12 8), (3, sext 5 (fld v 20 16))] s
  | _, some [n], _ => presetTrims n [(4, sext 6 (fld v 5 0)), (5, sext 6 (fld v 13 8)), (6, sext 5 (fld v 20 16)), (7, sext 5 (fld v 28 24))] s
  | _, _, some (r, _) =>
    let m := r.rw ||| r.rws
    let w := word (((s.word x.1).toNat &&& (0xFFFFFFFF ^^^ m)) ||| (x.2 &&& m))
    let s1 := s.setWord x.1 w
    if r.c ||| r.t ||| r.s ||| r.b = 0 then s1 else s1.setForce x.1 w
  | _, _, _ => s

/-- Settings a unit holds beside its register take a preset value too (R37): group rates, DMC's class B settings, the high words of
timelines, and the staged words of the tables. -/
def syncPresets (s : State) : State :=
  let s2 := (List.range 12).foldl (fun s g => s.modGroup g fun x => { x with rate := s.fd Rg.LNE_G_CTL [g] 1 0 }) s
  let s3 := s2.enabledChs.foldl (fun s c => s.modCh c fun x => { x with
    trainCtl := s.rd Rg.DMC_TRAIN_CTL, pmCtl := s.rd Rg.DMC_PM_CTL, rhCtl := s.rd Rg.DMC_RH_CTL }) s2
  let s4 := (List.range 256).foldl (fun s n =>
    { s with sfm := { s.sfm with tlHi := s.sfm.tlHi.put 0 n (s.fd Rg.SFM_TL_HI [n] 15 0) } }) s3
  (List.range 4).foldl (fun s h => s.modHd h fun x => { x with
    tblStage := [s.fd Rg.PXP_H_TBL_D0 [h] 17 0, s.fd Rg.PXP_H_TBL_D1 [h] 17 0]
    maskLo := s.fd Rg.PSQ_H_TBL_LO [h] 31 0
    odStage := [s.fd Rg.PNL_H_TBL_D0 [h] 17 0, s.fd Rg.PNL_H_TBL_D1 [h] 17 0] }) s4

/-- The presets in container order (R37). -/
def applyPresets (s : State) : State := syncPresets (s.cfg.presets.foldl applyPreset s)

/-- APPLY (R389): the structure, the partitions, trims and presets; RSTOUT_N goes high. -/
def applyStructure (bad : List Nat) (s : State) : State :=
  let s1 := loadBlocks { s with cfg := { s.boot.staged with applied := true }, boot := { s.boot with staged := {}, copy := [] } }
  let s2 := unitsOutAll 8 ((List.range 40960).filter bad.contains) s1
  let s3 := fillPolders [0, 1, 2, 3] ((List.range 40960).filter fun p => !bad.contains p) s2
  let s4 := applyPresets (applyTrims (loadDram (loadLanes s3)))
  { s4 with boot := { s4.boot with rstoutN := true } }

/-- POLDER_SELF_TEST_DONE (R389). -/
def polderTestDoneOp (bad : List Nat) (s : State) : State :=
  if s.boot.stage ≠ 3 || !s.boot.testing then s
  else applyStructure bad (release selfTestCls 0 { s with boot := { s.boot with testing := false } })

def doPolderSelfTestDone (bad : List (Fin 40960)) (s : State) : Host.Outcome State Fault Refusal :=
  live (polderTestDoneOp (bad.map (·.val))) s

/-! ### BRINGUP (R390 to R393) -/

/-- FIRMWARE_START (R389 to R393): the firmware runs; MGT, SEC, PWG and CAL leave LOADED; DRAM training, the ingress lane
groups and ENTDAA start. -/
def firmwareStartOp (s : State) : State :=
  if s.boot.stage ≠ 3 || !s.boot.rstoutN then s else
  let s1 := [0, 1, 2, 3].foldl (fun s n => startBlock n s) (setStage 4 s)
  let auto := bit (s1.rd Rg.MGT_BOOT_CTL) 0
  let i3c := bit (s1.rd Rg.MGT_BOOT_CTL) 1
  let s2 := startTraining { s1 with boot := { s1.boot with autoIngress := auto, i3cEn := i3c } }
  let s3 := if auto then s2.ingressGroups.foldl (fun s g => groupGoOp g s) s2 else s2
  let s4 := lanesCheck s3
  if i3c then s4 else setI3c s4

def execFirmwareStart (s : State) : Host.Outcome State Fault Refusal := live firmwareStartOp s

/-- One device that ENTDAA meets (R393): the first 16 take an address and an entry; any other is reported (R415). -/
def entdaaDevice (s : State) (x : Nat × I3cDevice) : State :=
  let (k, d) := x
  if k < 16 then
    (s.wr Rg.MGT_I3C_PID_HI [k] (pack [(24, d.bcr % 256), (16, d.dcr % 256), (0, d.pid / 2 ^ 32 % 65536)])).wr Rg.MGT_I3C_PID_LO [k]
      (word (d.pid % 2 ^ 32))
  else raiseReport 0 noUnit Rg.MGT_BOOT_STATUS.at d.pid (d.pid / 2 ^ 32 % 65536 + d.dcr % 256 * 65536 + d.bcr % 256 * 16777216) s

/-- I3C_ENTDAA_DONE (R393): `devs` in the order in which they won arbitration. -/
def entdaaDoneOp (devs : List I3cDevice) (s : State) : State :=
  if !s.bringing || !s.boot.i3cEn || s.boot.i3c then s else
  let s1 := ((List.range devs.length).zip devs).foldl entdaaDevice s
  setI3c { s1 with boot := { s1.boot with i3cCount := min 16 devs.length } }

def execI3cEntdaaDone (devs : List I3cDevice) (s : State) : Host.Outcome State Fault Refusal := live (entdaaDoneOp devs) s

end Sys2Proof.Machine
end

