-- ==== Sys2Proof/Machine/Lsc.lean ====
section
/-!
DEFINITION. LSC: the inner loops: sampling, the loop computation, banks and swaps, channel states, supervision, exclusion
and take-up, the engine (R164 to R193).
-/
namespace Sys2Proof.Machine

/-! ### Channels, groups and their ports -/

/-- The state of channel c, and the state with it changed. -/
def State.chan (s : State) (c : Nat) : LscChan := s.lsc.chans.get {} c
def State.modChan (s : State) (c : Nat) (f : LscChan → LscChan) : State := { s with lsc := { s.lsc with chans := s.lsc.chans.upd {} c f } }

/-- The state of group g, and the state with it changed. -/
def State.grp (s : State) (g : Nat) : LscGroup := s.lsc.groups.get {} g
def State.modGrp (s : State) (g : Nat) (f : LscGroup → LscGroup) : State := { s with lsc := { s.lsc with groups := s.lsc.groups.upd {} g f } }

/-- The outer loop of head h, and the state with it changed. -/
def State.outerOf (s : State) (h : Nat) : Outer := s.lsc.outer.get {} h
def State.modOuter (s : State) (h : Nat) (f : Outer → Outer) : State := { s with lsc := { s.lsc with outer := s.lsc.outer.upd {} h f } }

/-- LSC_CH_STATUS.state (R178): UNUSED for a channel that LASER_MAP does not use, or with LSC absent. -/
def State.chanState (s : State) (c : Nat) : Nat :=
  if !s.cfg.inst 13 || (s.cfg.group? c).isNone then 0 else (s.chan c).state

/-- The channels that LASER_MAP uses, and those of a head, rising. -/
def State.usedChans (s : State) : List Nat := (List.range 256).filter fun c => s.chanState c != 0
def State.headChans (s : State) (h : Nat) : List Nat := s.usedChans.filter fun c => s.cfg.chanHead? c == some h

/-- The groups of a head, rising. -/
def State.headGroups (s : State) (h : Nat) : List Nat :=
  (List.range s.cfg.laser.groups.length).filter fun g => s.cfg.groupHead? g == some h

/-- W_g: the channels of a group that are neither in RAMP nor EXCLUDED (R184). -/
def State.workOf (s : State) (g : Nat) : Nat :=
  (s.usedChans.filter fun c => s.cfg.group? c == some g && decide ((s.chan c).state < 6)).length

/-- The port of a channel's laser driver, and the latency in force on it. -/
def State.chanPort? (s : State) (c : Nat) : Option Nat := (s.cfg.driver? c).map (·.port)
def State.latForce (s : State) (p : Nat) : Int := (s.cals.get {} p).force
def State.chanLat (s : State) (c : Nat) : Int := match s.chanPort? c with | some p => s.latForce p | none => 0

/-- LTE time is the count of core clock periods since the release of the reset (R141). -/
def State.lteTime (s : State) : Nat := s.now

/-- An instant some periods ahead. -/
def State.ahead (s : State) (d : Int) : Nat := ((s.now : Int) + d).toNat

/-! ### Drive codes (R161, R171) -/

/-- SET_DRIVE for tier t of channel c at an instant (R161); LSC keeps a record of it. -/
def sendDrive (c t code at' : Nat) (s : State) : State :=
  let s1 := s.modChan c fun x => { x with
    sent := x.sent ++ [{ tier := t, t := at', code := code }], codes := x.codes.set t code, frameCodes := x.frameCodes ++ [code] }
  match s.chanPort? c with
  | some p => sendCmd p ([0x12#8, BitVec.ofNat 8 (c % 16), BitVec.ofNat 8 t, 0x00#8] ++ bytesLE at' 4 ++ bytesLE code 4) s1
  | none => s1

/-- ZERO for one channel (R157, R161). -/
def sendZero (c : Nat) (s : State) : State :=
  match s.chanPort? c with
  | some p => sendCmd p ([0x13#8, 0x00#8] ++ bytesLE (2 ^ (c % 16)) 2 ++ [0x00#8, 0x00#8, 0x00#8, 0x00#8]) s
  | none => s

/-- When a SET_DRIVE acts: at its instant, or at the end of a pulse of its channel and tier lit then (R161). -/
def actsAt (pulses : List Pulse) (d : DriveSet) : Nat :=
  match pulses.find? fun p => p.tier == d.tier && decide (p.start ≤ d.t) && decide (d.t < p.fin) with
  | some p => p.fin
  | none => d.t

/-- Of two commands in the order they were sent, the one that acts last (R142, R161). -/
def lastActing (pulses : List Pulse) (a b : DriveSet) : DriveSet := if actsAt pulses a ≤ actsAt pulses b then b else a

/-- The drive code of a tier in force at an instant, by LSC's record (R171): of the command that acted last; 0 where none has been sent. -/
def LscChan.codeAt (x : LscChan) (t ts : Nat) : Nat :=
  match x.sent.filter fun d => d.tier == t && decide (actsAt x.pulses d ≤ ts) with
  | [] => 0
  | d :: r => (r.foldl (lastActing x.pulses) d).code

/-- The codes of the eight tiers in force at an instant. -/
def LscChan.codesAt (x : LscChan) (ts : Nat) : List Nat := (List.range 8).map fun t => x.codeAt t ts

/-- The record without what no later question needs: pulses over before `ts`, and all but the last code acting before it. -/
def LscChan.prune (x : LscChan) (ts : Nat) : LscChan :=
  let old := fun d => decide (actsAt x.pulses d ≤ ts)
  { x with
    sent := x.sent.zipIdx.filterMap fun e =>
      let e' := actsAt x.pulses e.1
      if old e.1 && x.sent.zipIdx.any fun f => f.1.tier == e.1.tier && old f.1 &&
          (decide (e' < actsAt x.pulses f.1) || (e' == actsAt x.pulses f.1 && decide (e.2 < f.2))) then none else some e.1
    pulses := x.pulses.filter fun p => decide (ts < p.fin) || x.sent.any fun d => p.tier == d.tier && decide (p.start ≤ d.t) && decide (d.t < p.fin) }

/-- The instant for a code that LSC sends of itself: that of a drive write (R191), or that of the last command of the tier already sent, so
that this one acts after it (assumption log 53). -/
def State.setAt (s : State) (c t : Nat) : Nat := (((s.chan c).sent.filter (·.tier == t)).map (·.t)).foldl max (s.ahead (s.chanLat c + 768))

/-- Drive codes for some tiers, to stay in force. -/
def sendKept (c : Nat) (codes tiers : List Nat) (s : State) : State :=
  tiers.foldl (fun s t => sendDrive c t (codes.getD t 0) (s.setAt c t) s) s

/-- The tiers for which a command has been sent that has not acted yet. -/
def LscChan.pendingTiers (x : LscChan) (now : Nat) : List Nat :=
  (List.range 8).filter fun t => x.sent.any fun d => d.tier == t && decide (now < actsAt x.pulses d)

/-- Drive codes for all eight tiers at one instant. -/
def sendAll (c : Nat) (codes : List Nat) (at' : Nat) (s : State) : State :=
  (List.range 8).foldl (fun s t => sendDrive c t (codes.getD t 0) at' s) s

/-! ### Coefficients (R166, R192) -/

/-- The key of a coefficient. -/
def coefKey (c bank region index : Nat) : Nat := ((c * 2 + bank) * 4 + region) * 128 + index

/-- A coefficient: c (18 bits, two's complement) and s + 8. -/
def State.coef (s : State) (c bank region index : Nat) : Int × Nat :=
  let w := s.lsc.coefs.get 0 (coefKey c bank region index)
  (sext 18 (w % 2 ^ 18), (sext 4 (w / 2 ^ 18) + 8).toNat)

/-- The bank and the region of a tier in force. -/
def State.bankF (s : State) (c : Nat) : Nat := s.ff Rg.LSC_CH_CTL [c] 4 4
def State.regionF (s : State) (c t : Nat) : Nat := s.ff Rg.LSC_CH_REGION [c] (2 * t + 1) (2 * t)

/-- ki in force for a tier. -/
def State.kiF (s : State) (c t : Nat) : Int × Nat := s.coef c (s.bankF c) (s.regionF c t) 64

/-- Limits of 48 and 23 bits (R172). -/
def sat48 (i : Int) : Int := clampI (-(2 ^ 47)) (2 ^ 47 - 1) i
def sat23 (i : Int) : Int := clampI (-4194304) 4194303 i

/-! ### Class S values (R170, R176) -/

/-- The class S registers of a channel. -/
def classSRegs : List Reg := [Rg.LSC_CH_CTL, Rg.LSC_CH_SP, Rg.LSC_CH_SPMAX, Rg.LSC_CH_UMAX, Rg.LSC_CH_SUP, Rg.LSC_CH_FE, Rg.LSC_CH_REGION]

/-- The integrator after ki goes from `o` to `n` (R176). -/
def rescaleZ (z : Int) (o n : Int × Nat) : Int :=
  if o = n then z
  else if n.1 = 0 ∨ o.1 = 0 then 0
  else sat48 (rnd (z * o.1 * 2 ^ o.2) (n.1 * 2 ^ n.2).toNat)

/-- The staged class S values of a channel take effect; z of each context whose ki changes is rescaled (R170, R176). -/
def settleS (c : Nat) (s : State) : State :=
  let s1 := classSRegs.foldl (fun t r => t.setForce (r.at [c]) (mix r.s (t.inForce (r.at [c])) (t.rd r [c]))) s
  s1.modChan c fun x => { x with
    ctx := (List.range 8).foldl (fun m t =>
      let k := m.get {} t
      m.put {} t { k with z := rescaleZ k.z (s.kiF c t) (s1.kiF c t) }) x.ctx }

/-- Whether no sample boundary occurs in a channel's state, so that class S values act at once (R170). -/
def noBoundary (st : Nat) : Bool := st == 1 || st == 4 || st == 6 || st == 7

/-! ### Set-points and take-up (R165, R184) -/

/-- The group of a channel. -/
def State.grpOf (s : State) (c : Nat) : Nat := (s.cfg.group? c).getD 0

/-- sp × k_g, rounded, before its limit. -/
def State.spRaw (s : State) (c : Nat) : Nat := (rnd (s.ff Rg.LSC_CH_SP [c] 19 0 * (s.grp (s.grpOf c)).k : Nat) 65536).toNat

/-- r_t (R165). -/
def State.setPoint (s : State) (c t : Nat) : Int :=
  rnd (min (s.spRaw c) (s.ff Rg.LSC_CH_SPMAX [c] 19 0) * tier16 t : Nat) 256

/-- Whether a group is short (R184). -/
def State.isShort (s : State) (g : Nat) : Bool :=
  s.workOf g == 0 || s.usedChans.any fun c => s.cfg.group? c == some g && decide ((s.chan c).state < 6) &&
    decide (s.ff Rg.LSC_CH_SPMAX [c] 19 0 < s.spRaw c)

/-- The outer loop of the group's head leaves SLOW for FAST (R201), with its flag (R206). -/
def outerRecover (h : Nat) (s : State) : State :=
  let o := s.outerOf h
  if o.phase = 3 then
    raiseFlag 13 h (Rg.LSC_O_FLAGS.at [h]) 2 0
      ((s.modOuter h fun o => { o with phase := 2, settled := 0, recRun := 0 }).wr Rg.LSC_O_FLAGS [h] (setBit (s.rd Rg.LSC_O_FLAGS [h]) 2 true))
  else s

/-- A skip reason of R200 holds for the head's next outer sample. -/
def outerReason (h r : Nat) (s : State) : State :=
  s.modOuter h fun o => { o with reasons := if o.reasons.contains r then o.reasons else o.reasons ++ [r] }

/-- The short flag follows the group (R184, R415); its change makes the outer loop recover (R201). -/
def shortCheck (g : Nat) (s : State) : State :=
  let n := s.isShort g
  if n = (s.grp g).short then s else
  let s1 := s.modGrp g fun x => { x with short := n }
  let s2 := if n then raiseReport 13 g (Rg.LSC_G_STATUS.at [g]) (s1.workOf g) (s1.grp g).base s1 else s1
  match s.cfg.groupHead? g with
  | some h => outerRecover h s2
  | none => s2

/-- Class S values that act without a sample boundary, with what they mean to the group's short flag (R170, R184); not in the middle of a
sample (R176): once its computation has ended. -/
def settleNow (c : Nat) (s : State) : State := if s.lsc.jobs.any (·.chan == c) then s else shortCheck (s.grpOf c) (settleS c s)

/-- A write of a class S register that has no behaviour of its own. -/
def chanWrite (r : Reg) (c : Nat) (v : Word) (s : State) : State :=
  let s1 := storeWrite r [c] v s
  if noBoundary (s.chanState c) then settleNow c s1 else s1

/-- What a change of W_g, or a channel's entry into RAMP or return, means to the outer loop (R200, R201). -/
def workChanged (g : Nat) (s : State) : State :=
  match s.cfg.groupHead? g with
  | some h => outerRecover h (outerReason h 4 s)
  | none => s

/-- k_g for the working count now (R184); it keeps its value at W_g = 0. -/
def State.takeUpOf (s : State) (g : Nat) : Nat :=
  let w := s.workOf g
  if w = 0 then (s.grp g).k else (rnd (65536 * (s.grp g).base : Nat) w).toNat

/-- A change of W_g in one step (R184). -/
def takeUp (g : Nat) (s : State) : State :=
  shortCheck g (workChanged g (s.modGrp g fun x => { x with k := s.takeUpOf g, mover := none }))

/-! ### Channel states (R178 to R183, R186) -/

/-- What a channel forgets with its samples: runs, queued samples and computations. -/
def dropSamples (c : Nat) (s : State) : State :=
  let s1 := s.modChan c fun x => { x with expect := none, missRun := 0, frz := [], feRun := 0, good := 0 }
  { s1 with lsc := { s1.lsc with queue := s1.lsc.queue.filter (·.chan != c), jobs := s1.lsc.jobs.filter (·.chan != c) } }

/-- Entry into OFF (R164, R178): contexts reset, drive codes 0 for all eight tiers. -/
def chanOff (c : Nat) (s : State) : State :=
  let s1 := dropSamples c (s.modChan c fun x => { x with state := 1, cause := 0, ctx := [], preset := [], ramp := 0, uHold := [] })
  settleS c (sendKept c [] (List.range 8) s1)

/-- From now on the points of a channel are expected (R167); the first record sets the expected number (R168). -/
def expectPoints (c : Nat) (s : State) : State :=
  s.modChan c fun x => { x with expect := none, points := x.points.map fun p => { p with exp := p.exp && decide (s.now ≤ p.ts) } }

/-- A channel in OFF whose en is 1 enters OPEN while the engine is in RUN (R178). -/
def chanOpen (c : Nat) (s : State) : State :=
  if s.chanState c = 1 ∧ s.lsc.eng = 2 ∧ bit (s.rd Rg.LSC_CH_CTL [c]) 0 then expectPoints c (s.modChan c fun x => { x with state := 2 }) else s

/-- A channel in service goes to OFF (R178): one that was in RAMP counts in its group again (R184). -/
def serviceOff (c : Nat) (s : State) : State :=
  if s.chanState c = 6 then takeUp (s.grpOf c) (chanOff c s) else shortCheck (s.grpOf c) (chanOff c s)

/-- Entry into CLOSED with the preset of R179 for every context. -/
def chanClose (c : Nat) (s : State) : State :=
  s.modChan c fun x => { x with state := 3, cause := 0, preset := List.range 8, missRun := 0, frz := [], feRun := 0, good := 0 }

/-- Entry into HOLD with a cause (R181): only from CLOSED. The codes in force are kept: where a command already sent would still change
one, it is sent again behind that command; for FREEZE, those at the first of the 64 samples are sent. -/
def chanHold (c cause : Nat) (s : State) : State :=
  if s.chanState c ≠ 3 then s else
  let x := s.chan c
  let s1 := count1 Rg.LSC_CH_HOLD_CNT [c] (s.modChan c fun x => { x with state := 5, cause := cause, good := 0 })
  let s2 := if cause = 2 then sendKept c ((x.frz.head?.map (·.2)).getD x.codes) (List.range 8) s1
    else sendKept c (x.codesAt s.now) (x.pendingTiers s.now) s1
  raiseState 13 c (Rg.LSC_CH_STATUS.at [c]) 3 cause s2

/-- The head leaves RUN: OPEN and CLOSED channels go to STANDBY (R178, R180). -/
def headStandby (h : Nat) (s : State) : State :=
  (s.headChans h).foldl (fun s c =>
    let st := s.chanState c
    if st = 2 ∨ st = 3 then
      settleNow c (s.modChan c fun x => { x with state := 4, back := st, expect := none })
    else s) s

/-- The head enters RUN: STANDBY channels return to the state they left (R178), and the outer loop's next sample is the first
after it (R197, R200, R201). -/
def headRuns (h : Nat) (s : State) : State :=
  let s1 := (s.headChans h).foldl (fun s c =>
    if s.chanState c = 4 then expectPoints c (s.modChan c fun x => { x with state := x.back }) else s) s
  outerRecover h (outerReason h 2 (s1.modOuter h fun o => { o with since := none }))

/-- The head's grant: contexts reset, base counts and take-up factors set (R164, R184). -/
def headGranted (h : Nat) (s : State) : State :=
  let s1 := (s.headChans h).foldl (fun s c => s.modChan c fun x => { x with ctx := [] }) s
  (s1.headGroups h).foldl (fun s g =>
    let s2 := s.modGrp g fun x => { x with base := s.workOf g }
    shortCheck g (s2.modGrp g fun x => { x with k := s2.takeUpOf g, mover := none })) s1

/-- HOLD_TIMER_EXPIRY (R183): the channel enters RAMP and counts as leaving its group. -/
def holdExpiryOp (c : Nat) (s : State) : State :=
  if s.chanState c ≠ 5 then s else
  let g := s.grpOf c
  let s1 := s.modChan c fun x => { x with state := 6, ramp := 0, uHold := x.codesAt s.now }
  let s2 := settleS c s1
  shortCheck g (workChanged g (s2.modGrp g fun x => { x with kOld := x.k, kNew := s2.takeUpOf g, mover := some c }))

def doHoldTimerExpiry (c : Fin 256) (s : State) : Host.Outcome State Fault Refusal := live (holdExpiryOp c.val) s

/-- A channel becomes EXCLUDED (R157, R183): ZERO, and mapped out. -/
def exclude (c : Nat) (s : State) : State :=
  unitOut 13 c (sendZero c (dropSamples c (s.modChan c fun x => { x with state := 7 })))

/-- RAMP_STEP (R183, R184): step j of 20. -/
def rampStepOp (c : Nat) (s : State) : State :=
  if s.chanState c ≠ 6 then s else
  let x := s.chan c
  let j := x.ramp + 1
  let s1 := sendAll c (x.uHold.map fun u => (rnd (u * (20 - j) : Nat) 20).toNat) s.now (s.modChan c fun x => { x with ramp := j })
  let g := s.grpOf c
  let s2 := if (s.grp g).mover = some c then
      shortCheck g (s1.modGrp g fun y => { y with k := ((y.kOld : Int) + rnd (((y.kNew : Int) - y.kOld) * j) 20).toNat })
    else s1
  if 20 ≤ j then exclude c s2 else s2

def doRampStep (c : Fin 256) (s : State) : Host.Outcome State Fault Refusal := live (rampStepOp c.val) s

/-- A channel mapped out because its port's calibration failed (R145, R178, R184). -/
def excludeByCal (c : Nat) (s : State) : State :=
  if s.chanState c = 0 ∨ s.chanState c = 7 then s
  else takeUp (s.grpOf c) (settleS c (exclude c (s.modChan c fun x => { x with cause := 5 })))

/-- Its return (R145). -/
def restoreByCal (c : Nat) (s : State) : State :=
  if s.chanState c = 7 ∧ (s.chan c).cause = 5 then chanOpen c (takeUp (s.grpOf c) (unitBack 13 c (chanOff c s))) else s

/-- A write of restore = 1 (R186). -/
def restoreOp (c : Nat) (s : State) : State :=
  let idle := match s.cfg.chanHead? c with | some h => (s.hd h).state == 1 || (s.hd h).state == 3 | none => false
  if s.chanState c = 7 && (s.chan c).cause != 5 && idle then chanOpen c (takeUp (s.grpOf c) (unitBack 13 c (chanOff c s)))
  else invalidWrite (Rg.LSC_CH_CTL.at [c]) s

/-- A write of en (R178). -/
def chanEnOp (c : Nat) (en : Bool) (s : State) : State :=
  let st := s.chanState c
  if en then chanOpen c s
  else if st = 0 ∨ st = 7 ∨ st = 1 then s else serviceOff c s

/-- The write of LSC_CH_CTL (R191): the class S fields staged, en acted on, restore. -/
def chanCtlOp (c : Nat) (v : Word) (s : State) : State :=
  let s1 := chanEnOp c (bit v 0) (chanWrite Rg.LSC_CH_CTL c v s)
  if bit v 8 then restoreOp c s1 else s1

/-- CHANNEL_ENABLE (R178): a write whose en is 1. -/
def doChannelEnable (src : Source) (c : Fin 256) (v : Word) (s : State) : Host.Outcome State Fault Refusal :=
  .next (gatedWrite src (Rg.LSC_CH_CTL.at [c.val]) (setBit v 0 true) (chanCtlOp c.val (setBit v 0 true)) s)

/-- CHANNEL_DISABLE (R178): a write whose en is 0. -/
def doChannelDisable (src : Source) (c : Fin 256) (v : Word) (s : State) : Host.Outcome State Fault Refusal :=
  .next (gatedWrite src (Rg.LSC_CH_CTL.at [c.val]) (setBit v 0 false) (chanCtlOp c.val (setBit v 0 false)) s)

/-- CHANNEL_RESTORE (R186): a write whose restore is 1. -/
def doChannelRestore (src : Source) (c : Fin 256) (v : Word) (s : State) : Host.Outcome State Fault Refusal :=
  .next (gatedWrite src (Rg.LSC_CH_CTL.at [c.val]) (setBit v 8 true) (chanCtlOp c.val (setBit v 8 true)) s)

/-! ### Pulses and samples (R150, R167 to R169) -/

/-- Channel c is given a pulse of a tier with n sample points (R150, R167). Whether a point is expected rests on the channel's state at its
instant: one that takes no records keeps those whose record may still come. -/
def notePulse (c tier start d n : Nat) (s : State) : State :=
  let st := s.chanState c
  let live := fun (p : Point) => st == 2 || st == 3 || st == 5 || decide ((s.now : Int) ≤ p.ts + s.chanLat c + 896)
  s.modChan c fun x =>
    let y := x.prune (min s.now ((x.points.head?.map (·.ts)).getD s.now))
    { y with
      pulses := y.pulses ++ [{ start := start, fin := start + d, tier := tier }]
      points := y.points.filter live ++ (List.range n).map fun i => { ts := start + d * (2 * i + 1) / (2 * n), tier := tier } }

/-- A missing point in the run of R181; of a FOLLOWING hold, the good samples count at their computations (R182). -/
def noteMiss (c : Nat) (s : State) : State :=
  s.modChan c fun x => { x with missRun := x.missRun + 1, good := if x.cause = 3 then x.good else 0 }

/-- An expected point is missing (R168, R181, R182). -/
def pointMissing (c : Nat) (s : State) : State :=
  let s1 := noteMiss c s
  if s.chanState c = 3 ∧ 2 ≤ (s1.chan c).missRun then chanHold c 1 s1 else s1

/-- `g` points before a record are missing: those of them that were expected. -/
def pointsMissing (c : Nat) : Nat → State → State
  | 0, s => s
  | g + 1, s =>
    let s1 := s.modChan c fun x => { x with points := x.points.drop 1 }
    pointsMissing c g (if ((s.chan c).points.head?.map (·.exp)).getD true then pointMissing c s1 else s1)

/-- The freeze record after a valid sample (R181): the last 64 samples of one monitor code. -/
def frzNext (x : LscChan) (y1 : Nat) (e : Nat × List Nat) : List (Nat × List Nat) :=
  if y1 = x.frzMon then (x.frz ++ [e]).drop (x.frz.length + 1 - 64) else [e]

/-- The span of the drive codes of a freeze record. -/
def frzSpan (l : List (Nat × List Nat)) : Nat :=
  match l with
  | [] => 0
  | e :: r => (r.foldl (fun m e => max m e.1) e.1) - (r.foldl (fun m e => min m e.1) e.1)

/-- A channel in HOLD, not for FOLLOWING, has had a good sample (R182). -/
def holdGood (c y1 : Nat) (s : State) : State :=
  let x := s.chan c
  if s.chanState c ≠ 5 ∨ x.cause = 3 then s else
  if 1 ≤ x.good ∧ (x.cause ≠ 2 ∨ y1 ≠ x.frzMon) then chanClose c s
  else s.modChan c fun x => { x with good := x.good + 1 }

/-- A sample enters the queue (R169): behind those before it, but ahead of those of its control clock from higher channels. -/
def enqueue (x : Sample) (q : List Sample) : List Sample :=
  let behind := fun (y : Sample) => y.clk == x.clk && decide (x.chan < y.chan)
  q.filter (fun y => !behind y) ++ [x] ++ q.filter behind

/-- A valid sample at its point (R168, R169, R181, R182). -/
def validSample (c : Nat) (pt : Point) (seq y1 y2 : Nat) (s : State) : State :=
  let x := s.chan c
  let w4 := x.codeAt pt.tier pt.ts
  let smp : Sample := { chan := c, ts := pt.ts, tier := pt.tier, w4 := w4, y1 := y1, y2 := y2, clk := s.stamp, gap := x.missRun != 0 }
  let frz := frzNext x y1 (w4, x.codesAt pt.ts)
  let closed := s.chanState c == 3
  let s1 := s.modChan c fun x => { x with
    missRun := 0, lastSeq := seq, lastMon := y1
    frz := if closed then frz else x.frz, frzMon := if closed then y1 else x.frzMon }
  let q := if s1.lsc.queue.length < 1280 then enqueue smp s1.lsc.queue else s1.lsc.queue
  let s2 := { s1 with lsc := { s1.lsc with queue := q, qPeak := max s1.lsc.qPeak q.length } }
  if closed && frz.length == 64 && decide (s.ff Rg.LSC_CH_SUP [c] 31 14 < frzSpan frz) then chanHold c 2 s2
  else holdGood c y1 s2

/-- A record that is the expected sample (R168). -/
def expectedRecord (c : Nat) (x : MonRec) (s : State) : State :=
  let s0 := s.modChan c fun y => { y with expect := some ((x.seq + 1) % 65536) }
  match (s.chan c).points with
  | [] => if x.flags % 4 = 3 then chanHold c 4 s0 else s0
  | pt :: r =>
    let s1 := s0.modChan c fun y => { y with points := r }
    if x.flags % 4 = 0 then validSample c pt x.seq (x.mon % 65536) (x.aux % 4096) s1
    else
      let s2 := if pt.exp then noteMiss c s1 else s1
      if x.flags % 4 = 3 then chanHold c 4 s2 else if pt.exp then pointMissing c s1 else s1

/-- How far two 32-bit counter values lie apart. -/
def stampGap (a b : Nat) : Nat := min ((a + 2 ^ 32 - b % 2 ^ 32) % 2 ^ 32) ((b + 2 ^ 32 - a % 2 ^ 32) % 2 ^ 32)

/-- The points before the first record after STANDBY or OFF are not missing: the record belongs to the point nearest its instant, since a
peripheral's counter may be off by a period (R143, R168). -/
def skipTo (stamp : Nat) : List Point → List Point
  | p :: q :: r => if stampGap q.ts stamp ≤ stampGap p.ts stamp then skipTo stamp (q :: r) else p :: q :: r
  | ps => ps

/-- A MON_SAMPLE record of a channel (R168). -/
def recordIn (c : Nat) (x : MonRec) (s : State) : State :=
  let st := s.chanState c
  if st ≠ 2 ∧ st ≠ 3 ∧ st ≠ 5 then s else
  match (s.chan c).expect with
  | none => expectedRecord c x (s.modChan c fun y => { y with points := skipTo x.stamp y.points })
  | some e =>
    let g := (x.seq + 65536 - e % 65536) % 65536
    if 32768 ≤ g then s else expectedRecord c x (pointsMissing c g s)

/-- The record that a MON_SAMPLE response spells (R162). -/
def monRecOf (bs : List Byte) : MonRec :=
  { chan := byteField bs 1 1 % 16, flags := byteField bs 1 1 / 16 % 4, seq := byteField bs 2 2, mon := byteField bs 4 2
    aux := byteField bs 6 2 % 4096, stamp := byteField bs 8 4 }

/-- MON_SAMPLE (R162, R168): the oldest accepted response of that opcode, or the one the command carries: the record of a laser driver's port passes to LSC; a panel driver's is an invalid response
(R231). -/
def monSampleOp (p : Nat) (x0 : MonRec) (s : State) : State :=
  let r := takeResponse p (· == 0x82) s
  let s0 := r.2
  let x := match r.1 with | some bs => monRecOf bs | none => x0
  match s0.portDriver? p with
  | some d =>
    let c := 16 * d + x.chan % 16
    let s1 := match s.cfg.chanHead? c with
      | some h => recFor 0x20 h c [x.chan, x.flags, x.seq, x.mon, x.aux, x.stamp, s.lteTime] s0
      | none => s0
    if (match s.cfg.chanHead? c with | some h => s.replaying h | none => false) then s1 else recordIn c x s1
  | none => match s.cfg.port? p with
    | some r => if r.kind = 3 ∨ r.kind = 4 then raise 14 0x06 noUnit 0 1 (p * 256 + 0x82) s0 else s0
    | none => s0

def doMonSample (p : Fin 24) (x : MonRec) (s : State) : Host.Outcome State Fault Refusal := live (monSampleOp p.val x) s

/-- SAMPLE_ARRIVAL_TIMEOUT (R168): the oldest point has no record by lat_force + 896 periods after it: it is missing, if it was expected and a
record has come since STANDBY or OFF. -/
def arrivalTimeoutOp (c : Nat) (s : State) : State :=
  let st := s.chanState c
  match (s.chan c).points with
  | [] => s
  | p :: r =>
    if (st ≠ 2 ∧ st ≠ 3 ∧ st ≠ 5) ∨ (s.now : Int) < p.ts + s.chanLat c + 896 then s else
    let s1 := s.modChan c fun x => { x with points := r, expect := x.expect.map fun e => (e + 1) % 65536 }
    if p.exp && (s.chan c).expect.isSome then pointMissing c s1 else s1

def doSampleArrivalTimeout (c : Fin 256) (s : State) : Host.Outcome State Fault Refusal := live (arrivalTimeoutOp c.val) s

/-- The oldest queued sample whose channel has no computation in progress (R169). -/
def State.nextSample (s : State) : Option Sample := s.lsc.queue.find? fun q => !s.lsc.jobs.any (·.chan == q.chan)

/-- The lowest free multiply-accumulate lane (R169). -/
def State.freeLane? (s : State) : Option Nat := (List.range 4).find? fun l => !s.lsc.jobs.any (·.lane == l)

/-- SAMPLE_BOUNDARY (R169, R170, R178): the lowest free lane takes a sample; staged class S values take effect, and with them the
closing or opening of the loop. -/
def sampleBoundaryOp (s : State) : State :=
  match s.freeLane?, s.nextSample with
  | some l, some q =>
    let s1 := settleS q.chan { s with lsc := { s.lsc with queue := s.lsc.queue.erase q, jobs := s.lsc.jobs ++ [{ q with lane := l }] } }
    let closed := s1.ff Rg.LSC_CH_CTL [q.chan] 1 1 == 1
    let st := s1.chanState q.chan
    let s2 := if st = 2 ∧ closed then chanClose q.chan s1
      else if st = 3 ∧ !closed then s1.modChan q.chan fun x => { x with state := 2, preset := [], missRun := 0, frz := [], feRun := 0 }
      else s1
    shortCheck (s.grpOf q.chan) s2
  | _, _ => s

def doSampleBoundary (s : State) : Host.Outcome State Fault Refusal := live sampleBoundaryOp s

/-! ### The computation (R171 to R174, R179, R181, R182) -/

/-- An output row (R172) over coefficients (c, s + 8) and the input vector. -/
def outRow (coef : Nat → Int × Nat) (w : List Int) : Int :=
  let acc := (List.range 8).foldl (fun a j => sat48 (a + sat48 ((coef j).1 * w.getD j 0 * 2 ^ (coef j).2))) 0
  sat23 ((acc + 2 ^ 24) / 2 ^ 25)

/-- The integral contribution p (R173). -/
def integralPart (ki : Int × Nat) (z : Int) : Int := (ki.1 * z * 2 ^ ki.2 + 2 ^ 32) / 2 ^ 33

/-- The preset of z (R179). -/
def presetZ (ki : Int × Nat) (p : Int) : Int := if ki.1 = 0 then 0 else sat48 (rnd (p * 2 ^ 33) (ki.1 * 2 ^ ki.2).toNat)

/-- The outputs of a sample in its context (R171, R172). -/
def State.loopOut (s : State) (q : Sample) : List Int :=
  let k := (s.chan q.chan).ctx.get {} q.tier
  let w : List Int := k.x.take 4 ++ [(q.w4 : Int), (q.y1 : Int), (q.y2 : Int), s.setPoint q.chan q.tier]
  (List.range 8).map fun i => outRow (fun j => s.coef q.chan (s.bankF q.chan) (s.regionF q.chan q.tier) (8 * i + j)) w

/-- Whether a computed sample of following error f makes the run of R181 long enough for FOLLOWING. -/
def State.followTrips (s : State) (c : Nat) (f : Int) : Bool :=
  let n := s.ff Rg.LSC_CH_FE [c] 31 16
  n != 0 && decide ((s.ff Rg.LSC_CH_FE [c] 15 0 : Int) < f.natAbs) && decide (n ≤ (s.chan c).feRun + 1)

/-- The FOLLOWING supervision of a computed sample of a CLOSED channel (R181). -/
def followCheck (c : Nat) (f : Int) (s : State) : State :=
  let above := decide ((s.ff Rg.LSC_CH_FE [c] 15 0 : Int) < f.natAbs)
  let s1 := s.modChan c fun x => { x with feRun := if above then x.feRun + 1 else 0 }
  if s.followTrips c f then chanHold c 3 s1 else s1

/-- Whether a context is closed for a sample: its channel is CLOSED, or in STANDBY from there (R173, R180). -/
def State.closedFor (s : State) (q : Sample) : Bool :=
  s.chanState q.chan == 3 || (s.chanState q.chan == 4 && (s.chan q.chan).back == 3)

/-- Whether a sample presets z (R179). -/
def State.presets (s : State) (q : Sample) : Bool := s.closedFor q && (s.chan q.chan).preset.contains q.tier

/-- The integrator that a sample's drive rests on (R173, R179). -/
def State.loopZ (s : State) (q : Sample) : Int :=
  let ki := s.kiF q.chan q.tier
  if ki.1 = 0 then 0 else if s.presets q then presetZ ki ((q.w4 : Int) - (s.loopOut q).getD 4 0)
  else ((s.chan q.chan).ctx.get {} q.tier).z

/-- u_raw and u of a sample (R173). -/
def State.loopRaw (s : State) (q : Sample) : Int := (s.loopOut q).getD 4 0 + integralPart (s.kiF q.chan q.tier) (s.loopZ q)
def State.loopU (s : State) (q : Sample) : Int := clampI 0 (s.ff Rg.LSC_CH_UMAX [q.chan] 17 0) (s.loopRaw q)

/-- sat of a sample (R173). -/
def State.loopSat (s : State) (q : Sample) : Bool := decide (s.loopU q ≠ s.loopRaw q)

/-- A computation of a channel in OPEN, CLOSED or STANDBY commits (R173, R179, R180); in CLOSED it sends u. -/
def commitLoop (q : Sample) (s : State) : State :=
  let c := q.chan
  let out := s.loopOut q
  let st := s.chanState c
  let closed := s.closedFor q
  let z0 := s.loopZ q
  let u := s.loopU q
  let z1 := if closed && !s.loopSat q && !s.presets q && (s.kiF c q.tier).1 ≠ 0 then sat48 (z0 + 256 * out.getD 5 0) else z0
  let s1 := s.modChan c fun y => { y with
    ctx := y.ctx.put {} q.tier { x := out.take 4, z := z1 }
    aux := out.getD 7 0
    preset := if s.presets q then y.preset.erase q.tier else y.preset }
  let h := (s.cfg.chanHead? c).getD 0
  if st = 3 then sendDrive c q.tier u.toNat (q.ts + s.ff Rg.LSC_H_CTL [h] 15 0) s1 else s1

/-- A computation of a channel in HOLD commits nothing; it serves the FOLLOWING exit (R181, R182): two good samples at consecutive expected
points. -/
def holdLoop (q : Sample) (s : State) : State :=
  let x := s.chan q.chan
  if x.cause ≠ 3 then s else
  let good := if (s.ff Rg.LSC_CH_FE [q.chan] 15 0 : Int) < (((s.loopOut q).getD 6 0).natAbs : Int) then 0
    else if q.gap then 1 else x.good + 1
  if 2 ≤ good then chanClose q.chan s else s.modChan q.chan fun y => { y with good := good }

/-- A missed deadline (R174): the previous output stays, nothing is committed. -/
def missDeadline (c : Nat) (s : State) : State :=
  let s1 := count1 Rg.LSC_CH_DL_CNT [c] (s.modChan c fun x => { x with dl := true })
  if (s.chan c).dl then s1 else raiseFlag 13 c (Rg.LSC_CH_STATUS.at [c]) 12 0 s1

/-- Whether the issue deadline of a sample has passed (R174). -/
def State.pastDeadline (s : State) (q : Sample) : Bool :=
  let lag := s.ff Rg.LSC_H_CTL [(s.cfg.chanHead? q.chan).getD 0] 15 0
  decide ((q.ts : Int) + lag < s.now + s.chanLat q.chan + 128)

/-- The end of a CLOSED channel's computation: its supervision, whose trip leaves nothing to commit, and its deadline (R174,
R181). -/
def closedLoop (q : Sample) (s : State) : State :=
  let f := (s.loopOut q).getD 6 0
  let s1 := followCheck q.chan f s
  if s.pastDeadline q then missDeadline q.chan s1 else if s.followTrips q.chan f then s1 else commitLoop q s1

/-- What a completed computation does, by the state of its channel. -/
def endLoop (q : Sample) (s : State) : State :=
  match s.chanState q.chan with
  | 2 => commitLoop q s
  | 3 => closedLoop q s
  | 4 => commitLoop q s
  | 5 => holdLoop q s
  | _ => s

/-- LOOP_COMPUTE_COMMIT (R169, R173 to R175): the computation of channel c completes in its lane (a channel has at most one in
progress; one that applies a swap takes longer than a later one may). Class S values that waited for its end act then, where no boundary occurs. -/
def loopCommitOp (c lane : Nat) (s : State) : State :=
  match s.lsc.jobs.find? (·.chan == c) with
  | none => s
  | some q =>
    if q.lane ≠ lane then s else
    let s1 := { s with lsc := { s.lsc with jobs := s.lsc.jobs.eraseP (·.chan == c) } }
    let live := decide (2 ≤ s1.chanState c) && decide (s1.chanState c ≤ 5)
    let s2 := endLoop q (s1.modChan c fun x => { x with sat := if live then s1.loopSat q else x.sat })
    if noBoundary (s2.chanState c) then settleNow c s2 else s2

def doLoopComputeCommit (c : Fin 256) (lane : Fin 4) (s : State) : Host.Outcome State Fault Refusal :=
  live (loopCommitOp c.val lane.val) s

/-! ### Drive writes, coefficients (R191, R192) -/

/-- A write of LSC_CH_DRIVE (R191): in OPEN only. -/
def driveWriteOp (c t : Nat) (v : Word) (s : State) : State :=
  if s.chanState c = 2 then sendDrive c t (fld v 17 0) (s.ahead (s.chanLat c + 768)) s
  else invalidWrite (Rg.LSC_CH_DRIVE.at [c, t]) s

/-- DRIVE_WRITE (R191). -/
def doDriveWrite (src : Source) (c : Fin 256) (t : Fin 8) (v : Word) (s : State) : Host.Outcome State Fault Refusal :=
  .next (gatedWrite src (Rg.LSC_CH_DRIVE.at [c.val, t.val]) v (driveWriteOp c.val t.val v) s)

/-- A write of LSC_COEF_DATA (R192). -/
def coefStoreOp (v : Word) (s : State) : State :=
  let a := s.rd Rg.LSC_COEF_ADDR
  let c := fld a 23 16
  let i := fld a 6 0
  if fld a 12 12 = s.bankF c ∨ 65 ≤ i ∨ (i = 64 ∧ bit v 17) then invalidWrite Rg.LSC_COEF_DATA.at s
  else
    let s1 := { s with lsc := { s.lsc with coefs := s.lsc.coefs.put 0 (coefKey c (fld a 12 12) (fld a 9 8) i) (fld v 27 24 * 2 ^ 18 + fld v 17 0) } }
    s1.wr Rg.LSC_COEF_ADDR [] (setFld a 6 0 (if i = 64 then 0 else i + 1))

/-- COEF_STORE (R192). -/
def doCoefStore (src : Source) (v : Word) (s : State) : Host.Outcome State Fault Refusal :=
  .next (gatedWrite src Rg.LSC_COEF_DATA.at v (coefStoreOp v) s)

/-! ### The engine (R188) -/

/-- Leaving RUN sends every channel that is neither UNUSED nor EXCLUDED to OFF (R188). -/
def engineLeaves (s : State) : State :=
  s.usedChans.foldl (fun s c => if s.chanState c = 7 ∨ s.chanState c = 1 then s else serviceOff c s) s

/-- A write of LSC_CTL (R188): class LOOP_START of PWG. -/
def engineWrite (v : Word) (s : State) : State :=
  let s1 := storeWrite Rg.LSC_CTL [] v s
  let setEng := fun (n : Nat) (s : State) => { s with lsc := { s.lsc with eng := n } }
  match bit v 0, s.lsc.eng with
  | true, 0 => request 4 0 (setEng 1 s1)
  | false, 1 => withdraw 4 0 (setEng 0 s1)
  | false, 2 => engineLeaves (release 4 0 (setEng 0 s1))
  | _, _ => s1

/-- The write of LSC_CTL; en = 1 is held back until READY (R394). -/
def lscCtlOp (v : Word) (s : State) : State := if bit v 0 then fromReady Rg.LSC_CTL.at (engineWrite v) s else engineWrite v s

/-- ENGINE_START (R188): a write of en = 1. -/
def doEngineStart (src : Source) (s : State) : Host.Outcome State Fault Refusal :=
  .next (gatedWrite src Rg.LSC_CTL.at 1 (lscCtlOp 1) s)

/-- ENGINE_STOP (R188): a write of en = 0. -/
def doEngineStop (src : Source) (s : State) : Host.Outcome State Fault Refusal :=
  .next (gatedWrite src Rg.LSC_CTL.at 0 (lscCtlOp 0) s)

/-- ENGINE_GRANT (R178, R188): channels whose en is 1 already enter OPEN. -/
def execEngineGrant (s : State) : Host.Outcome State Fault Refusal :=
  live (fun s => if s.lsc.eng ≠ 1 then s else match takeGrant 4 0 s with
    | some s1 => s.usedChans.foldl (fun s c => chanOpen c s) { s1 with lsc := { s1.lsc with eng := 2 } }
    | none => s) s

/-- ENGINE_GRANT_REFUSAL (R188). -/
def execEngineGrantRefusal (s : State) : Host.Outcome State Fault Refusal :=
  live (fun s => if s.lsc.eng ≠ 1 then s else match takeRefusal 4 0 s with
    | some (r, s1) => raiseRefusal 13 noUnit Rg.LSC_STATUS.at r 0 { s1 with lsc := { s1.lsc with eng := 0, reason := r } }
    | none => s) s

/-! ### Commit checks (R190) -/

/-- Samples per pulse of an entry: min(smp_t, floor(D / 1,280)), D = pf × lit_units (R149, R150). -/
def smpOf (v : SMap Word) (h : Nat) (w : Word) : Nat :=
  min (vf v Rg.LSC_H_SMP [h] (3 * slTier w + 2) (3 * slTier w)) (slPf w * vf v Rg.LTE_H_BACK [h] 23 16 / 1280)

/-- The laser-driver ports of a head, in driver order. -/
def State.driverPorts (s : State) (h : Nat) : List (Nat × Nat) :=
  (List.range 16).filterMap fun d => match s.cfg.laser.drivers.getD d none with
    | some x => if x.head = h then some (d, x.port) else none
    | none => none

/-- Working channels of a head. -/
def State.workChans (s : State) (h : Nat) : Nat := ((s.headChans h).filter fun c => decide ((s.chan c).state < 6)).length

/-- Samples per second of a head with a view, as samples per frame × rate, and the frame's pixels: a fraction of R190. -/
def State.sampleRate (s : State) (v : SMap Word) (h : Nat) : Nat × Nat :=
  (((planeEntries (seqOf v h)).map fun w => slLen w * smpOf v h w).sum * s.workChans h * s.headRate v h, hTotal v h * vTotal v h * 2 ^ 28)

/-- The sum of two fractions, and the larger of two. -/
def fracAdd (x y : Nat × Nat) : Nat × Nat := (x.1 * y.2 + y.1 * x.2, x.2 * y.2)
def fracMax (x y : Nat × Nat) : Nat × Nat := if x.1 * y.2 < y.1 * x.2 then y else x

/-- The first failure of the LSC checks of a view: code and index (R190). -/
def State.lscCheck (s : State) (v : SMap Word) (h : Nat) : Option (Nat × Nat) :=
  let pl := planeEntries (seqOf v h)
  let tiers := (List.range 8).filter fun t => pl.any fun w => slTier w == t
  match tiers.find? fun t => !pl.any fun w => slTier w == t && decide (1 ≤ smpOf v h w) with
  | some t => some (1, t)
  | none =>
    let others := ((List.range 4).filter fun k => k != h && s.mirror k).map fun k =>
      ((s.headViews k).map fun w => s.sampleRate w k).foldl fracMax (0, 1)
    let sum := others.foldl fracAdd (s.sampleRate v h)
    if 25600000 * sum.2 < sum.1 then some (2, 0)
    else match (s.driverPorts h).find? fun d => decide ((vf v Rg.LSC_H_CTL [h] 15 0 : Int) < 2 * s.latForce d.2 + 9984) with
      | some d => some (3, d.2)
      | none => none

/-! ### Registers (R191 to R193) -/

/-- A write of LSC_CH_STATUS clears dl where 1 is written. -/
def chanStatusOp (c : Nat) (v : Word) (s : State) : State :=
  if bit v 12 then s.modChan c fun x => { x with dl := false } else s

/-- A write of LSC_CH_SP (R199): staged in DIRECT only. -/
def spWriteOp (c : Nat) (v : Word) (s : State) : State :=
  match s.cfg.chanHead? c with
  | some h => if s.fd Rg.LSC_O_CTL [h] 1 0 = 0 then chanWrite Rg.LSC_CH_SP c v s else invalidWrite (Rg.LSC_CH_SP.at [c]) s
  | none => chanWrite Rg.LSC_CH_SP c v s

/-- Clears of LSC_CNT_CLR (R191). -/
def lscCntClrOp (v : Word) (s : State) : State :=
  let cs := if bit v 31 then List.range 256 else [fld v 23 16]
  onBits v [(0, fun s => cs.foldl (fun s c => clearCnt Rg.LSC_CH_DL_CNT [c] s) s),
    (1, fun s => cs.foldl (fun s c => clearCnt Rg.LSC_CH_HOLD_CNT [c] s) s),
    (2, fun s => { s with lsc := { s.lsc with qPeak := 0 } })] s

/-- LSC_CNT_CLR (R191). -/
def doLscCntClr (src : Source) (v : Word) (s : State) : Host.Outcome State Fault Refusal :=
  .next (gatedWrite src Rg.LSC_CNT_CLR.at v (lscCntClrOp v) s)

/-- The context that LSC_CTX_ADDR names. -/
def State.ctxAddressed (s : State) : LscCtx :=
  (s.chan (s.fd Rg.LSC_CTX_ADDR [] 23 16)).ctx.get {} (s.fd Rg.LSC_CTX_ADDR [] 2 0)

/-- A read of context word 4 captures word 5 for the next read of it (R7, R193). -/
def ctxCapture (s : State) : State := { s with hiCap := s.hiCap.insert (Rg.LSC_CTX_DATA.at [5]) (uint 48 s.ctxAddressed.z / 2 ^ 32) }

/-- The word a report register of LSC's inner loops reads (R191 to R193). -/
def readLsc (a : Nat) (s : State) : Option Word :=
  let off := a % 0x100000
  if a = Rg.LSC_STATUS.at then some (pack [(24, s.lsc.reason), (5, s.lsc.qPeak), (0, s.lsc.eng)])
  else if a = Rg.LSC_COEF_DATA.at then
    let k := s.rd Rg.LSC_COEF_ADDR
    let w := s.lsc.coefs.get 0 (coefKey (fld k 23 16) (fld k 12 12) (fld k 9 8) (fld k 6 0))
    some (pack [(24, w / 2 ^ 18), (0, w % 2 ^ 18)])
  else if 0x10000 ≤ off && off < 0x18000 then
    let c := (off - 0x10000) / 0x80
    let x := s.chan c
    if a = Rg.LSC_CH_STATUS.at [c] then
      let st := s.chanState c
      some (pack [(13, b2n x.sat), (12, b2n x.dl), (8, s.bankF c), (4, if st = 5 ∨ st = 6 ∨ st = 7 then x.cause else 0), (0, st)])
    else if a = Rg.LSC_CH_LAST.at [c] then some (pack [(16, x.lastSeq), (0, x.lastMon)])
    else if a = Rg.LSC_CH_AUX.at [c] then some (wordI x.aux)
    else match Rg.LSC_CH_DRIVE.ixOf a with
      | some [c, t] => some (word ((s.chan c).codes.getD t 0))
      | _ => none
  else match Rg.LSC_CTX_DATA.ixOf a with
    | some [w] =>
      let k := s.ctxAddressed
      some (if w < 4 then wordI (k.x.getD w 0) else if w = 4 then word (uint 48 k.z) else word (uint 48 k.z / 2 ^ 32))
    | _ => match Rg.LSC_G_STATUS.ixOf a with
      | some [g] => some (pack [(31, b2n (s.grp g).short), (16, (s.grp g).base), (8, (s.cfg.chansOf g).length), (0, s.workOf g)])
      | _ => match Rg.LSC_G_TAKEUP.ixOf a with
        | some [g] => some (word (s.grp g).k)
        | _ => none

end Sys2Proof.Machine
end

