-- ==== Sys2Proof/Machine/Pcal.lean ====
section
/-!
DEFINITION. Calibration of driver ports by echo: formatters and laser drivers for LTE, row and column drivers for PNL
(R141 to R145, R207).
-/
namespace Sys2Proof.Machine

/-- The peer kind of port p; 0 for a port that is not configured (R35). -/
def State.peerKind (s : State) (p : Nat) : Nat := match s.cfg.port? p with | some r => r.kind | none => 0

/-- Whether LTE or PNL calibrates port p. -/
def State.ltePort (s : State) (p : Nat) : Bool := s.peerKind p == 1 || s.peerKind p == 2
def State.pnlPort (s : State) (p : Nat) : Bool := s.peerKind p == 3 || s.peerKind p == 4

/-- The calibration of port p, and the state with it changed. -/
def State.pcal (s : State) (p : Nat) : PortCal := s.cals.get {} p
def State.modPcal (s : State) (p : Nat) (f : PortCal → PortCal) : State := { s with cals := s.cals.upd {} p f }

/-- asym of the port's block, in periods (R143). -/
def State.asym (s : State) (p : Nat) : Int :=
  sext 16 (if s.ltePort p then s.fd Rg.LTE_P_ASYM [p] 15 0 else s.fd Rg.PNL_P_ASYM [p] 15 0)

/-- The block of a calibrated port and the addresses of its CAL and LAT registers. -/
def State.calBlock (s : State) (p : Nat) : Nat := if s.ltePort p then 12 else 14
def State.calAddr (s : State) (p : Nat) : Nat := if s.ltePort p then Rg.LTE_P_CAL.at [p] else Rg.PNL_P_CAL.at [p]
def State.latAddr (s : State) (p : Nat) : Nat := if s.ltePort p then Rg.LTE_P_LAT.at [p] else Rg.PNL_P_LAT.at [p]

/-- Sends the next ECHO of a calibration (R160): each has its own id. -/
def sendEcho (p : Nat) (s : State) : State :=
  let id := ((s.pcal p).echo + 1) % 65536
  sendCmd p ([0x05#8, 0#8] ++ bytesLE id 2 ++ [0#8, 0#8, 0#8, 0#8]) (s.modPcal p fun k => { k with echo := id })

/-- The start of a calibration (R143): ignored while one runs. -/
def calStart (p : Nat) (s : State) : State :=
  if (s.pcal p).busy then s else
  sendEcho p (s.modPcal p fun k => { k with busy := true, deferred := false, tries := 1, clean := [], verify := 0, newAsym := s.asym p })

/-- The units of a port go out when its calibration fails (R145); PNL maps nothing out and raises one event (R207). -/
def calUnitsOut (p status : Nat) (s : State) : State :=
  let s1 := s.modPcal p fun k => { k with mapped := true }
  if s.peerKind p = 1 then
    (List.range 4).foldl (fun s h => if !s.mirror h then s else
      (List.range (s.cfg.head h).arrays.length).foldl (fun s a =>
        if ((s.cfg.head h).arrays.getD a default).port = p then unitOut 12 (s.arrayUnit h a) s else s) s) s1
  else if s.peerKind p = 2 then
    match s.portDriver? p with
    | some d => (List.range 16).foldl (fun s i => excludeByCal (16 * d + i) s) s1
    | none => s1
  else raiseDone 14 p (Rg.PNL_P_CAL.at [p]) status 0 s

/-- They return when a later calibration ends OK with every served head OFF or in HOLD (R145). -/
def calUnitsBack (p : Nat) (s : State) : State :=
  let idle := (s.portHeads p).all fun h => (s.hd h).state == 1 || (s.hd h).state == 3
  if !(s.pcal p).mapped || !idle then s else
  let s1 := s.modPcal p fun k => { k with mapped := false }
  if s.peerKind p = 1 then
    (List.range 4).foldl (fun s h => if !s.mirror h then s else
      (List.range (s.cfg.head h).arrays.length).foldl (fun s a =>
        if ((s.cfg.head h).arrays.getD a default).port = p then unitBack 12 (s.arrayUnit h a) s else s) s) s1
  else match s.portDriver? p with
    | some d => (List.range 16).foldl (fun s i => restoreByCal (16 * d + i) s) s1
    | none => s1

/-- A calibration ends with a status other than OK and DEFERRED. -/
def calFail (p status : Nat) (s : State) : State :=
  calUnitsOut p status (s.modPcal p fun k => { k with busy := false, verify := 0, clean := [], status := status })

/-- The TIME_SET step (R143): the counter value, then four verify exchanges. -/
def calTimeSet (p : Nat) (s : State) : State :=
  let m := (s.pcal p).newMeas
  sendEcho p (sendCmd p ([0x04#8, 0#8] ++ bytesLE (s.ahead m % 2 ^ 48) 6)
    (s.modPcal p fun k => { k with busy := true, deferred := false, verify := 4, newOff := 0 }))

/-- What a calibration reports of its measurement once it ends (R143): lat_meas and the spread, and the worst offset of its verify. -/
def calReport (p : Nat) (s : State) : State :=
  s.modPcal p fun k => { k with meas := k.newMeas, spread := k.newSpread, offset := k.newOff }

/-- The measurement is complete (R143, R144): while a served head is in RUN it stops there, DEFERRED. -/
def calMeasured (p : Nat) (s : State) : State :=
  let k := s.pcal p
  let hi := k.clean.foldl max (k.clean.headD 0)
  let lo := k.clean.foldl min (k.clean.headD 0)
  let m := rnd (k.clean.foldl (· + ·) 0) 32 + k.newAsym
  let sp := min 255 (hi - lo).toNat
  let s1 := s.modPcal p fun k => { k with newSpread := sp, newMeas := m }
  if 4 < hi - lo then calFail p 3 (s1.modPcal p fun k => { k with spread := sp })
  else if (s.portHeads p).any fun h => (s.hd h).state == 4 then
    let s2 := s1.modPcal p fun k => { k with busy := false, clean := [], status := 6, meas := m, spread := sp, deferred := true }
    if 1 < (m - k.force).natAbs then
      raiseReport (s.calBlock p) p (s.latAddr p) (uint 16 m) (uint 16 k.force) s2
    else s2
  else calTimeSet p s1

/-- A reply in the first part of a calibration (R143): a replayed exchange is discarded, and at most 64 are tried. -/
def calMeasure (p t0 t1 : Nat) (replayed : Bool) (s : State) : State :=
  let s1 := if replayed then s else s.modPcal p fun k => { k with clean := k.clean ++ [(t1 : Int) - t0 - 1024] }
  if 16 ≤ (s1.pcal p).clean.length then calMeasured p s1
  else if 64 ≤ (s1.pcal p).tries then calFail p 5 s1
  else sendEcho p (s1.modPcal p fun k => { k with tries := k.tries + 1 })

/-- A reply to a verify exchange (R143). -/
def calVerify (p t0 counter : Nat) (replayed : Bool) (s : State) : State :=
  if replayed then sendEcho p s else
  let k := s.pcal p
  let off := sext 32 (uint 32 ((counter : Int) - (t0 + k.newMeas)))
  let worst := if k.newOff.natAbs < off.natAbs then off else k.newOff
  let s1 := s.modPcal p fun k => { k with newOff := worst, verify := k.verify - 1 }
  if 1 < off.natAbs then calFail p 4 (calReport p s1)
  else if k.verify ≤ 1 then
    calUnitsBack p ((calReport p s1).modPcal p fun k => { k with busy := false, verify := 0, clean := [], status := 1, force := k.newMeas })
  else sendEcho p s1

/-- ECHO_REPLY (R143, R162): `t0` and `t1` are the instants of the exchange in LTE or PNL time, `counter` what the reply
carries; `replayed` tells that either packet was replayed. Id and counter are those of the oldest accepted reply, where there is one. -/
def echoReplyOp (p tag0 t0 t1 counter0 : Nat) (replayed : Bool) (s : State) : State :=
  let r := takeResponse p (· == 0x80) s
  let s0 := r.2
  let tag := match r.1 with | some bs => byteField bs 2 2 | none => tag0
  let counter := match r.1 with | some bs => byteField bs 4 4 | none => counter0
  let k := s0.pcal p
  if !k.busy || k.echo != tag then s0
  else if k.verify = 0 then calMeasure p t0 t1 replayed s0
  else calVerify p t0 (counter % 2 ^ 32) replayed s0

def execEchoReply (p : Fin 24) (tag t0 t1 counter : Nat) (replayed : Bool) (s : State) : Host.Outcome State Fault Refusal :=
  live (echoReplyOp p.val tag t0 t1 counter replayed) s

/-- No reply within 100 µs (R143): the calibration ends; what it has measured by its verify exchanges it reports. -/
def echoNoReplyOp (p : Nat) (s : State) : State :=
  let k := s.pcal p
  if !k.busy then s else calFail p 2 (if k.verify = 0 then s else calReport p s)

/-- ECHO_NO_REPLY (R143). -/
def execEchoNoReply (p : Fin 24) (s : State) : Host.Outcome State Fault Refusal := live (echoNoReplyOp p.val) s

/-- A head enters HOLD or OFF: a deferred calibration of its ports goes on once no served head is in RUN (R144). -/
def calDeferred (h : Nat) (s : State) : State :=
  (List.range 24).foldl (fun s p =>
    if (s.pcal p).deferred && (s.portHeads p).contains h && !(s.portHeads p).any fun k => (s.hd k).state == 4 then
      calTimeSet p s else s) s

/-- A port becomes ACTIVE: its calibration starts by itself (R143, R207). -/
def calPortUp (p : Nat) (s : State) : State :=
  if s.ltePort p && !s.absent 12 || s.pnlPort p && !s.absent 14 then calStart p s else s

/-- A write of LTE_P_CAL or PNL_P_CAL (R163, R232). -/
def lteCalOp (p : Nat) (v : Word) (s : State) : State := if s.ltePort p && bit v 0 then calStart p s else s
def pnlCalOp (p : Nat) (v : Word) (s : State) : State := if s.pnlPort p && bit v 0 then calStart p s else s

/-- PORT_CALIBRATE (R143): a write of go = 1. The calibration of a port that becomes active starts with that event. -/
def doPortCalibrate (src : Source) (p : Fin 24) (s : State) : Host.Outcome State Fault Refusal :=
  .next (gatedWrite src (Rg.LTE_P_CAL.at [p.val]) 1 (lteCalOp p.val 1) s)

/-- PANEL_PORT_CALIBRATE (R207). -/
def doPanelPortCalibrate (src : Source) (p : Fin 24) (s : State) : Host.Outcome State Fault Refusal :=
  .next (gatedWrite src (Rg.PNL_P_CAL.at [p.val]) 1 (pnlCalOp p.val 1) s)

/-- The words that CAL, LAT and OFFSET of a port read. -/
def State.calWord (s : State) (p off : Nat) : Option Word :=
  let k := s.pcal p
  if off = 0 then some (pack [(31, b2n k.busy), (8, k.status)])
  else if off = 4 then some (pack [(16, uint 16 k.meas), (0, uint 16 k.force)])
  else if off = 0xC then some (pack [(24, k.spread), (0, uint 16 k.offset)])
  else none

end Sys2Proof.Machine
end

