-- ==== Sys2Proof/Machine/Lte.lean ====
section
/-!
DEFINITION. LTE: minimum slots, the plane stream, pulses, holds, commit checks and peripheral events (R146 to R163).
-/
namespace Sys2Proof.Machine

/-! ### The minimum slot (R146, R149) -/

/-- Periods of a minimum slot. -/
def slotPeriods : Nat := 64000

/-- The front guard F, the lit interval L and cmd_lead of a view. -/
def frontGuard (v : SMap Word) (h : Nat) : Nat :=
  (if vf v Rg.LTE_H_RESET [h] 0 0 = 1 then 15 * vf v Rg.LTE_H_RESET [h] 15 8 else 0) +
    vf v Rg.LTE_H_FRONT [h] 15 0 + vf v Rg.LTE_H_FRONT [h] 31 16
def litLen (v : SMap Word) (h : Nat) : Nat := 256 * vf v Rg.LTE_H_BACK [h] 23 16
def cmdLead (v : SMap Word) (h : Nat) : Nat := vf v Rg.LTE_H_PULSE [h] 31 16

/-- The length D of an entry's pulse, and its offset o within the lit interval (R149). -/
def pulseLen (v : SMap Word) (h : Nat) (w : Word) : Nat := slPf w * vf v Rg.LTE_H_BACK [h] 23 16
def pulseOffset (v : SMap Word) (h : Nat) (w : Word) : Nat :=
  match vf v Rg.LTE_H_PULSE [h] 1 0 with
  | 0 => 0
  | 1 => (litLen v h - pulseLen v h w) / 2
  | _ => litLen v h - pulseLen v h w

/-- The entries of a sequence with their indexes and start slots. -/
def entriesFrom : Nat → Nat → List Word → List (Nat × Nat × Word)
  | _, _, [] => []
  | e, t, w :: r => (e, t, w) :: entriesFrom (e + 1) (t + slLen w) r

/-- The entry in whose minimum slots slot j lies. -/
def entryAt (q : List Word) (j : Nat) : Option (Nat × Nat × Word) :=
  (entriesFrom 0 0 q).find? fun x => decide (x.2.1 ≤ j) && decide (j < x.2.1 + slLen x.2.2)

/-- The plane entries of a sequence in plane order, with index and start slot. -/
def planeStarts (q : List Word) : List (Nat × Nat × Word) := (entriesFrom 0 0 q).filter fun x => isPlane x.2.2

/-! ### Plane load time (R153) -/

/-- The lane rate of a code in units of 0.1 Gb/s (R35). -/
def rate10 (code : Nat) : Nat := 32 * 2 ^ code

/-- Transfer time in ns of `bytes` of DRIVER_CMD payload on a port: 0.975 of its lane payload rate; none without lanes. -/
def State.streamNs (s : State) (p bytes : Nat) : Option Nat :=
  match s.cfg.port? p with
  | none => none
  | some r => if s.width p = 0 then none else some (ceilDiv (8 * bytes * 660000) (975 * 64 * s.width p * rate10 (s.portRate r)))

/-- t_load of array a of a head. -/
def State.tLoad (s : State) (h a : Nat) : Option Nat :=
  let c := (s.cfg.head h).arrays.getD a default
  s.streamNs c.port (planePitch c.width * c.height + 8 * ceilDiv c.height 16)

/-- The working arrays of a head. -/
def State.workArrays (s : State) (h : Nat) : List Nat := (List.range (s.cfg.head h).arrays.length).filter fun a => s.arrayWorks h a

/-- LTE_H_TLOAD: the largest t_load and its array; a port without working lanes gives none. -/
def State.tLoadMax (s : State) (h : Nat) : Nat × Nat :=
  (s.workArrays h).foldl (fun acc a =>
    match s.tLoad h a with
    | some t => if acc.1 < t then (t, a) else acc
    | none => acc) (0, 0)

/-- Whether the t_load of a working array that `mine` admits is longer than a window of some periods. -/
def State.loadMisses (s : State) (h periods : Nat) (mine : Nat → Bool) : Bool :=
  ((s.workArrays h).filter mine).any fun a => match s.tLoad h a with
    | some t => decide (periods * 25 < t * 32)
    | none => true

/-- The first plane entry whose load window is too short for a working array that `mine` admits (R152, R159). -/
def State.badLoad (s : State) (v : SMap Word) (h : Nat) (mine : Nat → Bool := fun _ => true) : Option Nat :=
  let ps := planeStarts (seqOf v h)
  let lead := cmdLead v h
  let wins := ps.zipIdx.map fun x =>
    (x.1.1, (if x.2 = 0 then 66560 + x.1.2.1 * slotPeriods else (x.1.2.1 - (ps.getD (x.2 - 1) (0, 0, 0)).2.1) * slotPeriods) - lead)
  (wins.find? fun x => s.loadMisses h x.2 mine).map (·.1)

/-! ### Commit checks (R159) -/

/-- The ports of a mirror head, rising. -/
def State.mirrorPorts (s : State) (h : Nat) : List Nat :=
  (List.range 24).filter fun p => (s.cfg.head h).arrays.any (·.port == p) || (s.driverPorts h).any (·.2 == p)

/-- The first failure of the LTE checks of a view: code and index. -/
def State.lteCheck (s : State) (v : SMap Word) (h : Nat) : Option (Nat × Nat) :=
  if vf v Rg.LTE_H_BACK [h] 23 16 = 0 ∨ slotPeriods < frontGuard v h + litLen v h + vf v Rg.LTE_H_BACK [h] 15 0 then some (1, 0)
  else if 20480 < cmdLead v h then some (2, 0xFF)
  else match (s.mirrorPorts h).find? fun p => decide ((cmdLead v h : Int) < s.latForce p + 640) with
    | some p => some (2, p)
    | none => (s.badLoad v h).map fun e => (3, e)

/-- A formatter port's working lanes or rate have changed (R153): where the arrays on it now break the load rule, one budget event. -/
def lteBudget (p : Nat) (s : State) : State :=
  (List.range 4).foldl (fun s h =>
    if s.mirror h && (s.hd h).state != 0 &&
        (s.badLoad (s.forceOf h) h fun a => ((s.cfg.head h).arrays.getD a default).port == p).isSome then
      raiseReport 12 h (Rg.LTE_H_TLOAD.at [h]) (min 1048575 (s.tLoadMax h).1) (s.tLoadMax h).2 s
    else s) s

/-! ### Commands (R160, R161) -/

/-- A command to every working array of a head. -/
def toArrays (h : Nat) (bytes : List Byte) (s : State) : State :=
  (s.workArrays h).foldl (fun s a => sendCmd ((s.cfg.head h).arrays.getD a default).port bytes s) s

/-- PARK for a head's arrays at an instant. -/
def parkAll (h t : Nat) (s : State) : State := toArrays h ([0x03#8, 0#8, 0#8, 0#8] ++ bytesLE t 4) s

/-- The tag of a plane: frame parity and plane. -/
def planeTag (num j : Nat) : Nat := num % 2 * 32768 + j % 256

/-- PLANE_DATA commands of 16 rows for plane j of array a, from the plane buffer (R152). -/
def sendPlane (h num a j : Nat) (s : State) : State :=
  let c := (s.cfg.head h).arrays.getD a default
  let pitch := planePitch c.width
  let base := s.planeOffset h num a j
  (List.range (ceilDiv c.height 16)).foldl (fun s k =>
    let rows := min 16 (c.height - 16 * k)
    let data := s.bufLoad 1 h (s.hd h).planeLoc (s.hd h).planeAt (base + 16 * k * pitch) (rows * pitch)
    sendCmd c.port ([0x01#8, 0#8] ++ bytesLE (planeTag num j) 2 ++ bytesLE (16 * k) 2 ++ [BitVec.ofNat 8 rows, 0#8] ++ data) s) s

/-- Whether plane j loads for the frame whose display period starts next (R152, R154): plane 0 does, but where a sequence
begins with a DARK entry its window is still open when the display period has started. -/
def State.loadsNext (s : State) (h j : Nat) : Bool :=
  j == 0 && !(match (s.hd h).disp with | some d => d.window == some 0 | none => false)

/-- The frame whose plane j loads, and the state with it changed. -/
def State.dispFor (s : State) (h j : Nat) : Option Disp := if s.loadsNext h j then (s.hd h).nextDisp else (s.hd h).disp
def modDispFor (h j : Nat) (f : Disp → Disp) (s : State) : State :=
  let next := s.loadsNext h j
  s.modHd h fun d => if next then { d with nextDisp := d.nextDisp.map f } else { d with disp := d.disp.map f }

/-- PLANE_LOAD_WINDOW_OPEN (R152): the planes of the working arrays are read and sent in row order. -/
def windowOpenOp (h j : Nat) (s : State) : State :=
  match s.dispFor h j with
  | none => s
  | some d =>
    if d.dark.isSome || decide ((planeStarts (seqOf d.view h)).length ≤ j) then s else
    modDispFor h j (fun d => { d with window := some j }) ((s.workArrays h).foldl (fun s a => sendPlane h d.num a j s) s)

def doPlaneLoadWindowOpen (h : Fin 4) (j : Nat) (s : State) : Host.Outcome State Fault Refusal := live (windowOpenOp h.val j) s

/-- The breach of a frame is reported (R110): flag with its event, count, and the recorder's item. Buffer codes: 0 to 8 the
layers' fetch buffers, 9 head line, 10 column-driver stream, 11 plane transposition, 12 plane stream. -/
def reportBreach (h buf carried : Nat) (s : State) : State :=
  recFor 0x14 h noUnit [buf, s.stamp]
    (count1 Rg.TGN_H_BREACH_CNT [h]
      (raiseFlag 10 h (Rg.TGN_H_FLAGS.at [h]) 2 carried (s.wr Rg.TGN_H_FLAGS [h] (setBit (s.rd Rg.TGN_H_FLAGS [h]) 2 true))))

/-- Whether a transaction is PLANE_DATA with a tag that `p` admits (R160). -/
def isPlaneData (p : Nat → Bool) (t : Txn) : Bool :=
  t.type == 8 && (t.payload.getD 0 0).toNat == 1 && p ((t.payload.getD 2 0).toNat + 256 * (t.payload.getD 3 0).toNat)

/-- The ports of a head's arrays. -/
def State.arrayPorts (s : State) (h : Nat) : List Nat := ((s.cfg.head h).arrays.map (·.port)).eraseDups

/-- PLANE_DATA of a head that still waits, with a tag that `p` admits, is not sent (R154, R156). -/
def dropPlanes (h : Nat) (p : Nat → Bool) (s : State) : State :=
  (s.arrayPorts h).foldl (fun s q => s.modPort q fun x => { x with waiting := x.waiting.filter fun t => !isPlaneData p t }) s

/-- Whether plane j of a frame has not left: some PLANE_DATA of it waits at its port. -/
def State.planeWaits (s : State) (h num j : Nat) : Bool :=
  (s.arrayPorts h).any fun q => (s.port q).waiting.any (isPlaneData (· == planeTag num j))

/-- The tags of a frame's planes. -/
def ofFrame (num tag : Nat) : Bool := tag / 32768 == num % 2

/-- A plane-stream breach of frame d, which `upd` changes, from a minimum slot that starts at `t` (R109, R154): PARK, and darkness to
the end of the frame's display period, with no more of its planes sent. An aborted frame reports no further breach. -/
def planeBreach (h slot : Nat) (t : Option Nat) (d : Disp) (upd : (Disp → Disp) → State → State) (s : State) : State :=
  let s0 := dropPlanes h (ofFrame d.num) s
  let s1 := upd (fun d => { d with window := none, dark := some slot }) (match t with | some t => parkAll h t s0 | none => s0)
  if d.zero then s1 else reportBreach h 12 d.num s1

/-- LOAD_WINDOW_CLOSE (R152, R154): PLANE_COMMIT to every working array, or a breach where a plane has not left: `sent` tells that its last
block is out on the lanes, which it is not while some of it waits to be sent. -/
def windowCloseOp (h j : Nat) (sent : Bool) (s : State) : State :=
  match s.dispFor h j with
  | none => s
  | some d =>
    match (planeStarts (seqOf d.view h))[j]? with
    | none => s
    | some e =>
      if d.window ≠ some j ∨ d.dark.isSome ∨ (s.replaying h ∧ !sent) then s else
      let t := s.now + cmdLead d.view h
      if sent && !s.planeWaits h d.num j then
        modDispFor h j (fun d => { d with window := none })
          (toArrays h ([0x02#8, BitVec.ofNat 8 (vf d.view Rg.LTE_H_RESET [h] 0 0), BitVec.ofNat 8 (vf d.view Rg.LTE_H_RESET [h] 15 8), 0#8] ++
            bytesLE t 4 ++ bytesLE (planeTag d.num j) 2 ++ [0#8, 0#8]) s)
      else planeBreach h e.2.1 (some t) d (modDispFor h j) s

def doLoadWindowClose (h : Fin 4) (j : Nat) (sent : Bool) (s : State) : Host.Outcome State Fault Refusal :=
  live (windowCloseOp h.val j sent) s

/-! ### Pulses (R149, R150, R152, R157) -/

/-- The channels of a driver that a pulse of head h lights: working channels of groups whose array works. -/
def State.pulseChans (s : State) (h d : Nat) : List Nat :=
  (List.range 16).filterMap fun i =>
    let c := 16 * d + i
    match s.cfg.group? c with
    | none => none
    | some g =>
      let grp := s.cfg.laser.groups.getD g default
      if grp.head = h ∧ s.arrayWorks h grp.array ∧ s.chanState c ≠ 0 ∧ s.chanState c < 7 then some c else none

/-- PULSE to one driver, and its report to LSC (R150, R161). -/
def sendPulse (h t : Nat) (v : SMap Word) (w : Word) (d : Nat × Nat) (s : State) : State :=
  let cs := s.pulseChans h d.1
  if cs.isEmpty then s else
  let off := frontGuard v h + pulseOffset v h w
  let len := pulseLen v h w
  let smp := vf v Rg.LSC_H_SMP [h] (3 * slTier w + 2) (3 * slTier w)
  let s1 := sendCmd d.2 ([0x11#8, BitVec.ofNat 8 (slTier w + 16 * smp)] ++ bytesLE (maskOf 16 fun i => cs.contains (16 * d.1 + i)) 2 ++
    bytesLE t 4 ++ bytesLE off 2 ++ bytesLE len 2 ++ [0#8, 0#8, 0#8, 0#8]) s
  cs.foldl (fun s c => notePulse c (slTier w) (t + off) len (smpOf v h w) s) s1

/-- The digest of one channel's codes: a DRIVE item, or in a re-run what its DRIVE items are compared with (R360, R366). -/
def driveItem (h num c : Nat) (codes : List Nat) (s : State) : State :=
  let crc := crc32 (codes.flatMap fun k => bytesLE k 4)
  if s.replaying h then { s with recd := { s.recd with drives := s.recd.drives ++ [(num, c, codes.length, crc)] } }
  else recFor 0x31 h c [num, c, codes.length, crc] s

/-- The codes the channels of a head sent in the display period that ends (R360, DRIVE). -/
def driveItems (h num : Nat) (s : State) : State :=
  (s.headChans h).foldl (fun s c => (driveItem h num c (s.chan c).frameCodes s).modChan c fun x => { x with frameCodes := [] }) s

/-- The slots of the next display period are issued (R120): slot j of its frame starts cmd_lead from now, which places the period's start;
till then the frame before it stays in display. -/
def startDisplay (h j : Nat) (s : State) : State :=
  match (s.hd h).nextDisp with
  | none => s
  | some d =>
    let s1 := match (s.hd h).disp with
      | some o => driveItems h o.num s
      | none => (s.headChans h).foldl (fun s c => s.modChan c fun x => { x with frameCodes := [] }) s
    s1.modHd h fun x => { x with
      lastDisp := x.disp, nextDisp := none
      disp := some { d with start := s.now + cmdLead d.view h - j * slotPeriods } }

/-- Whether the PULSE of minimum slot j is the first of the waiting frame's display period (R120): slot 0, or, where the
sequence begins with a DARK entry, the first one issued or one that does not follow the last slot issued. -/
def State.slotStarts (s : State) (h j : Nat) : Bool :=
  j == 0 || match (s.hd h).disp with
    | none => true
    | some d => match d.issued with
      | some (k, _) => decide (j ≤ k)
      | none => false

/-- The frame in display at this instant (R120), and the state with it changed. -/
def State.early (s : State) (h : Nat) : Bool := match (s.hd h).disp with | some d => decide (s.now < d.start) | none => false
def State.onScreen (s : State) (h : Nat) : Option Disp := if s.early h then (s.hd h).lastDisp else (s.hd h).disp
def modOnScreen (h : Nat) (f : Disp → Disp) (s : State) : State :=
  let e := s.early h
  s.modHd h fun d => if e then { d with lastDisp := d.lastDisp.map f } else { d with disp := d.disp.map f }

/-- PULSE_ISSUE (R152, R154): minimum slot j of the frame in display, cmd_lead ahead of its start. -/
def pulseIssueOp (h j : Nat) (s : State) : State :=
  let s0 := if s.slotStarts h j then startDisplay h j s else s
  match (s0.hd h).disp with
  | none => s0
  | some d =>
    match entryAt (seqOf d.view h) j with
    | none => s0
    | some e =>
      let t := s0.now + cmdLead d.view h
      let dark := match d.dark with | some k => decide (k ≤ j) | none => false
      let lit := isPlane e.2.2 && !dark && !d.zero
      let pulsed := lit && (s.driverPorts h).any fun x => !(s.pulseChans h x.1).isEmpty
      let s1 := s0.modHd h fun x => { x with
        disp := x.disp.map fun d => { d with issued := some (j, t) }
        litEnd := if pulsed then t + slotPeriods else x.litEnd }
      let s2 := if dark then count1 Rg.LTE_H_DARK_CNT [h] s1 else s1
      if lit then (s.driverPorts h).foldl (fun s x => sendPulse h t d.view e.2.2 x s) s2 else s2

def doPulseIssue (h : Fin 4) (j : Nat) (s : State) : Host.Outcome State Fault Refusal := live (pulseIssueOp h.val j) s

/-- Entry into HOLD, or into OFF from STOPPING (R156): nothing more is issued, no PLANE_DATA goes out, and PARK at the end of the last
slot whose PULSE was issued, or at once. -/
def lteHold (h : Nat) (s : State) : State :=
  if !s.mirror h then s else
  let t := max s.now (s.hd h).litEnd
  dropPlanes h (fun _ => true) (parkAll h t (s.modHd h fun d => { d with disp := none, lastDisp := none, nextDisp := none }))

/-! ### Responses (R162) -/

/-- A LATE report of a formatter: the frame in display is dark from the next minimum slot boundary (R162). A slot issued ahead of that
boundary is dark too; where the next frame's period starts before the boundary, no slot is left to darken. -/
def lateBreach (h : Nat) (s : State) : State :=
  match s.onScreen h with
  | none => s
  | some d =>
    if d.dark.isSome then s else
    let j := (s.now - d.start) / slotPeriods + 1
    let t := d.start + j * slotPeriods
    let gone := match (s.hd h).disp with | some n => s.early h && decide (n.start ≤ t) | none => false
    let s1 := planeBreach h j (if gone then none else some t) d (modOnScreen h) s
    match d.issued with
    | some (k, _) => if j ≤ k then count1 Rg.LTE_H_DARK_CNT [h] s1 else s1
    | none => s1

/-- LATE and INCOMPLETE reports count, and raise one event a frame each (R162, R415). -/
def lteReport (h p detail : Nat) (late : Bool) (s : State) : State :=
  let r := if late then Rg.LTE_H_LATE_CNT else Rg.LTE_H_INCOMPLETE_CNT
  let seen := if late then (s.hd h).lateSeen else (s.hd h).incSeen
  let s1 := (count1 r [h] s).modHd h fun d => if late then { d with lateSeen := true } else { d with incSeen := true }
  if seen then s1 else raiseReport 12 h (r.at [h]) p detail s1

/-- An unused response opcode or event code (R162, R231, R347). -/
def invalidResponse (blk p opcode : Nat) (s : State) : State := raise blk 0x06 p 0 1 (p % 256 * 256 + opcode % 256) s

/-- An EVENT of a formatter or laser driver (R162), as it concerns the heads that `mine` admits: the live device's, or those of a
re-run (R365). -/
def lteEvent (mine : Nat → Bool) (p code detail : Nat) (s : State) : State :=
  let hs := (s.portHeads p).filter fun h => s.mirror h && mine h
  match code with
  | 1 => hs.foldl (fun s h => let s1 := lteReport h p detail true s; if s.peerKind p = 1 then lateBreach h s1 else s1) s
  | 2 => hs.foldl (fun s h => lteReport h p detail false s) s
  | 3 => raiseReport 12 p 0 (detail % 256) 0 s
  | 4 => match s.portDriver? p with
    | some d => (List.range 16).foldl (fun s i => if detail.testBit i && (match s.cfg.chanHead? (16 * d + i) with | some h => mine h | none => true) then chanHold (16 * d + i) 4 s else s) s
    | none => s
  | _ => invalidResponse 12 p 0x81 s

/-! ### Registers (R163) -/

/-- Clears of LTE_H_CNT_CLR (R163). -/
def lteHCntClrOp (h : Nat) (v : Word) (s : State) : State :=
  if !s.mirror h then s else
  onBits v [(0, clearCnt Rg.LTE_H_LATE_CNT [h]), (1, clearCnt Rg.LTE_H_INCOMPLETE_CNT [h]), (2, clearCnt Rg.LTE_H_DARK_CNT [h])] s

/-- LTE_H_CNT_CLR (R163). -/
def doLteHCntClr (src : Source) (h : Fin 4) (v : Word) (s : State) : Host.Outcome State Fault Refusal :=
  .next (gatedWrite src (Rg.LTE_H_CNT_CLR.at [h.val]) v (lteHCntClrOp h.val v) s)

/-- The word a report register of LTE reads (R163). -/
def readLte (a : Nat) (s : State) : Option Word :=
  let off := a % 0x100000
  if 0x8000 ≤ off ∧ off < 0x8180 then
    let p := (off - 0x8000) / 16
    if s.ltePort p then s.calWord p (off % 16) else some 0
  else if off < 0x10000 ∨ 0x50000 ≤ off then none else
  let h := off / 0x10000 - 1
  if !s.mirror h then some 0
  else if a = Rg.LTE_H_STATUS.at [h] then
    let st := (s.hd h).state
    let out := if st ≤ 1 then 0 else match s.onScreen h with
      | some d => if d.dark.isSome then 1 else 2
      | none => 1
    some (pack [(16, s.ff Rg.LTE_H_BACK [h] 23 16), (8, out), (0, maskOf 3 fun k => (s.workArrays h).contains k)])
  else if a = Rg.LTE_H_TLOAD.at [h] then some (pack [(24, (s.tLoadMax h).2), (0, min 1048575 (s.tLoadMax h).1)])
  else none

end Sys2Proof.Machine
end

