-- ==== Sys2Proof/Machine/Pnl.lean ====
section
/-!
DEFINITION. PNL: the head store, overdrive, dither and demura, line and row commands, self-refresh, blanking and the
panel checks (R207 to R234).
-/
namespace Sys2Proof.Machine

/-! ### Slices and times (R208, R227) -/

/-- The depth dp of a view, and the column-driver ports. -/
def panelDp (v : SMap Word) (h : Nat) : Nat := vf v Rg.PNL_H_CTL [h] 11 8
def State.colPorts (s : State) (h : Nat) : List Nat := (s.cfg.head h).colPorts

/-- The first column and the width of the slice of position k of n (R208). -/
def sliceOf (w n k : Nat) : Nat × Nat :=
  let sw := ceilDiv w (max 1 n)
  (k * sw, min ((k + 1) * sw) w - k * sw)

/-- The pixel counts of the LINE_DATA commands of a slice (R227). -/
def sliceParts (width : Nat) : List (Nat × Nat) :=
  (List.range (ceilDiv width 512)).map fun i => (512 * i, min 512 (width - 512 * i))

/-- Bytes of the LINE_DATA commands of a slice. -/
def sliceBytes (dp width : Nat) : Nat := ((sliceParts width).map fun p => 8 + ceilDiv (p.2 * 3 * dp) 8).sum

/-- t_slice of position k in ns; none for a port without working lanes. -/
def State.sliceNs (s : State) (v : SMap Word) (h k : Nat) : Option Nat :=
  let ps := s.colPorts h
  let sl := sliceOf (hActive v h) ps.length k
  if sl.2 = 0 then some 0 else s.streamNs (ps.getD k 0) (sliceBytes (panelDp v h) sl.2)

/-- The position, of those that `mine` admits, whose slice takes longer than a line. -/
def State.badSlice (s : State) (v : SMap Word) (h : Nat) (mine : Nat → Bool := fun _ => true) : Option Nat :=
  ((List.range (s.colPorts h).length).filter mine).find? fun k =>
    match s.sliceNs v h k with
    | some t => s.longerThan v h t (hTotal v h)
    | none => true

/-! ### The head store (R212) -/

/-- Row pitch and size of the store, from the largest area of the HEADS record. -/
def State.storePitch (s : State) (h : Nat) : Nat := ceilDiv (6 * (s.cfg.head h).width) 64 * 64
def State.storeSize (s : State) (h : Nat) : Nat := s.storePitch h * (s.cfg.head h).height

/-- Whether the head's region of the basin holds the store. -/
def State.storeInBasin (s : State) (h : Nat) : Bool :=
  match s.userRegion? 2 h with
  | some b => decide (s.storeSize h ≤ b.length * 1048576)
  | none => false

/-- A panel head's grant (R212, R214, R216, R220): the store is placed, and temperature and self-refresh start afresh. -/
def pnlGrant (h : Nat) (s : State) : State :=
  if !s.panel h then s else
  s.modPn h fun p => { p with
    sr := 0, srFrame := 0, idle := 0, seen := false, stale := 0, got := false, asked := false, thetaF := none
    storeLoc := s.storeInBasin h, storeAt := s.fd Rg.PNL_H_STORE_BASE [h] 19 0 * 65536
    storeMib := ceilDiv (s.storeSize h) 1048576, granted := true }

/-- Row y of the store as pixels of stored values s. -/
def State.storeRow (s : State) (h y w : Nat) : List Px :=
  let bs := s.bufLoad 2 h (s.pn h).storeLoc (s.pn h).storeAt (y * s.storePitch h) (6 * w)
  (List.range w).map fun x => mapPx fun c => ofBytesLE ((bs.drop (6 * x + 2 * c)).take 2)

/-! ### Checks (R227) -/

/-- The extent of a view's demura plane: row pitch and bytes (R218). -/
def demuraShift (v : SMap Word) (h : Nat) : Nat := vf v Rg.PNL_H_DMR_CTL [h] 1 0
def demuraPitch (v : SMap Word) (h : Nat) : Nat := ceilDiv (8 * ceilDiv (hActive v h) (2 ^ demuraShift v h)) 64 * 64
def demuraBase (v : SMap Word) (h : Nat) : Nat := vf v Rg.PNL_H_DMR_BASE [h] 19 0 * 65536

/-- Table temperatures T0 to T3 of a view (R216). -/
def odTemps (v : SMap Word) (h : Nat) : List Int :=
  [sext 16 (vf v Rg.PNL_H_OD_T01 [h] 15 0), sext 16 (vf v Rg.PNL_H_OD_T01 [h] 31 16),
   sext 16 (vf v Rg.PNL_H_OD_T23 [h] 15 0), sext 16 (vf v Rg.PNL_H_OD_T23 [h] 31 16)]

/-- The driver ports of a panel head, rising. -/
def State.panelPorts (s : State) (h : Nat) : List Nat :=
  (List.range 24).filter fun p => (s.cfg.head h).rowPort == p || (s.colPorts h).contains p

/-- cmd_lead of a view (R232). -/
def panelLead (v : SMap Word) (h : Nat) : Nat := vf v Rg.PNL_H_LEAD [h] 15 0

/-- The first failure of the PNL checks of a view: code and index (R227). -/
def State.pnlCheck (s : State) (v : SMap Word) (h : Nat) : Option (Nat × Nat) :=
  let on := fun b => vf v Rg.PNL_H_CTL [h] b b == 1
  let t := odTemps v h
  let lead := panelLead v h
  match s.badSlice v h with
  | some k => some (1, k)
  | none =>
    if 20480 < lead then some (2, 0xFF)
    else match (s.panelPorts h).find? fun p => decide ((lead : Int) < s.latForce p + 640) with
    | some p => some (2, p)
    | none =>
      if 32 * hTotal v h * 2 ^ 28 * 1000000000 < lead * 25 * s.headRate v h then some (2, 0xFF)
      else if on 0 && !(decide (t.getD 0 0 < t.getD 1 0) && decide (t.getD 1 0 < t.getD 2 0) && decide (t.getD 2 0 < t.getD 3 0)) then some (3, 0)
      else if on 2 && decide (s.capBytes < demuraBase v h + demuraPitch v h * ceilDiv (vActive v h) (2 ^ demuraShift v h)) then some (4, 0)
      else
        let placed := decide (3 ≤ (s.hd h).state)
        let inBasin := if placed then (s.pn h).storeLoc else s.storeInBasin h
        let base := if placed then (s.pn h).storeAt else s.fd Rg.PNL_H_STORE_BASE [h] 19 0 * 65536
        if !inBasin && decide (s.capBytes < base + s.storeSize h) then some (5, 0)
        else ((s.panelPorts h).find? fun p => (s.pcal p).status != 1 && (s.pcal p).status != 6).map fun p => (6, p)

/-- A sticky flag with its FLAG record. -/
def pnlFlagEvent (h b arg1 : Nat) (s : State) : State := raiseFlag 14 h (Rg.PNL_H_FLAGS.at [h]) b arg1 (pnlFlag h b s)

/-- A column-driver port's working lanes or rate have changed (R228): where its slice now takes longer than a line, budget and one event. -/
def pnlBudget (p : Nat) (s : State) : State :=
  (List.range 4).foldl (fun s h =>
    if s.panel h && (s.hd h).state != 0 && (s.badSlice (s.forceOf h) h fun k => (s.colPorts h).getD k 0 == p).isSome
    then pnlFlagEvent h 4 0 s else s) s

/-! ### From code to column (R213 to R218) -/

/-- The key of a component of an overdrive table entry, and the component (R233). -/
def odKey (bank j index comp : Nat) : Nat := ((bank * 4 + j) * 512 + index) * 3 + comp
def State.odEntry (s : State) (h bank j index comp : Nat) : Nat :=
  ((s.hd h).odTables.find (odKey bank j index comp)).getD (rnd (index % 17 * fullScale : Nat) 16).toNat

/-- One temperature table between previous code p and current code c (R215). -/
def odTable (e : Nat → Nat) (p c : Nat) : Nat :=
  let a := stepOf 16 p
  let b := stepOf 16 c
  let k := fullScale
  let at' := fun i j => e (17 * i + j)
  (rnd (at' a.1 b.1 * (k - a.2) * (k - b.2) + at' a.1 (b.1 + 1) * (k - a.2) * b.2 +
        at' (a.1 + 1) b.1 * a.2 * (k - b.2) + at' (a.1 + 1) (b.1 + 1) * a.2 * b.2 : Nat) (k * k)).toNat

/-- The temperature tables and weight of a frame (R216): 1 and 0 until the first fresh reading. -/
def odTempOf (t : List Int) (theta : Option Int) : Nat × Nat :=
  match theta with
  | none => (1, 0)
  | some x =>
    let y := clampI (t.getD 0 0) (t.getD 3 0) x
    let j := if t.getD 2 0 ≤ y then 2 else if t.getD 1 0 ≤ y then 1 else 0
    let d := t.getD (j + 1) 0 - t.getD j 0
    (j, if d ≤ 0 then 0 else (rnd ((y - t.getD j 0) * 256) d.toNat).toNat)

/-- Overdrive of one component (R215). -/
def State.overdrive (s : State) (h bank comp j w p c : Nat) : Nat :=
  let o := fun k => odTable (fun i => s.odEntry h bank k i comp) p c
  min (rnd (o j * (256 - w) + o (j + 1) * w : Nat) 256).toNat fullScale

/-- Dither to panel depth (R217). -/
def panelDither (on : Bool) (dp x y res v : Nat) : Nat :=
  if on then ditherQ dp x y res v else min ((v + 2 ^ (17 - dp)) / 2 ^ (18 - dp)) (2 ^ dp - 1)

/-- Demura of one component from the words of its entry (R218). -/
def demuraOut (w0 w1 comp dp q : Nat) : Nat :=
  let f := fun w => sext 10 (bitsOf w (10 * comp + 9) (10 * comp))
  let corr := f w0 + (f w1 * q + 128) / 256
  (clampI 0 (2 ^ dp - 1 : Nat) (q + (corr + 8) / 16)).toNat

/-- The bytes of a store row (R212, R213). -/
def storeBytes (px : List Px) : List Byte := px.flatMap fun p => (List.range 3).flatMap fun c => bytesLE (p.comp c / 4) 2

/-- The panel codes of row y of a frame from its input codes and the store row (R211). -/
def State.panelCodes (s : State) (v : SMap Word) (h y : Nat) (self : Bool) (input store : List Px) : List Px :=
  let on := fun b => vf v Rg.PNL_H_CTL [h] b b == 1
  let dp := panelDp v h
  let bank := vf v Rg.PNL_H_CTL [h] 5 5
  let jw := odTempOf (odTemps v h) (s.pn h).thetaF
  let ps := s.polderList h
  let tx := tilesX (hActive v h)
  let sh := demuraShift v h
  input.zipIdx.map fun e =>
    let x := e.2
    let c := s.polder (ps.getD (y / 32 * tx + x / 32) 0)
    let old := store.getD x (0, 0, 0)
    let dm := s.dramLoad h (demuraBase v h + y / 2 ^ sh * demuraPitch v h + 8 * (x / 2 ^ sh)) (if on 2 then 8 else 0)
    mapPx fun k =>
      let vin := e.1.comp k
      let vo := if on 0 && c.od && !self then s.overdrive h bank k jw.1 jw.2 (4 * old.comp k) vin else vin
      let q := panelDither (on 1) dp x y (c.res.getD k 0) vo
      if on 2 then demuraOut (ofBytesLE (dm.take 4)) (ofBytesLE (dm.drop 4)) k dp q else q

/-- Row y of the frame being output: input codes, panel codes and the staged store row, formed once (R211, R213, R221). -/
def panelLine (h y : Nat) (s : State) : State :=
  match (s.hd h).cur with
  | none => s
  | some f =>
    if ((f.taps.find y).map (·.out)).getD [] ≠ [] then s else
    let v := s.forceOf h
    let store := s.storeRow h y (hActive v h)
    let r := if f.self then (({ pxp := store.map fun p => mapPx fun c => 4 * p.comp c } : TapLine), s) else captureLine h y s
    let out := r.2.panelCodes v h y f.self r.1.pxp store
    r.2.modHd h fun d => { d with cur := d.cur.map fun f => { f with
      taps := f.taps.insert y { r.1 with out := out }
      rows := if f.self then f.rows else f.rows.insert y (storeBytes r.1.pxp) } }

/-! ### Driver commands (R209, R210, R226, R229, R230) -/

/-- The panel codes of pixels packed for LINE_DATA (R230). -/
def packCodes (dp : Nat) (px : List Px) : List Byte :=
  let codes := px.flatMap fun p => [p.1, p.2.1, p.2.2]
  bytesLE (codes.foldr (fun c acc => acc * 2 ^ dp + c % 2 ^ dp) 0) (ceilDiv (codes.length * dp) 8)

/-- A command to every column driver. -/
def toColumns (h : Nat) (bytes : Nat → Nat → List Byte) (s : State) : State :=
  (s.colPorts h).zipIdx.foldl (fun s x => sendCmd x.1 (bytes x.2 x.1) s) s

/-- The blank levels of a head (R226). -/
def State.blankBytes (s : State) (h : Nat) : List Byte :=
  let top := 2 ^ s.ff Rg.PNL_H_CTL [h] 11 8 - 1
  bytesLE (min top (s.ff Rg.PNL_H_BLANK_A [h] 11 0)) 2 ++ bytesLE (min top (s.ff Rg.PNL_H_BLANK_A [h] 23 12)) 2 ++
    bytesLE (min top (s.ff Rg.PNL_H_BLANK_B [h] 11 0)) 2

/-- BLANK at an instant for every column driver. -/
def blankAll (h t : Nat) (s : State) : State :=
  toColumns h (fun _ _ => [0x33#8, 0#8, 0#8, 0#8] ++ bytesLE t 4 ++ s.blankBytes h) s

/-- The latch instant of raster line L (R209). -/
def State.latchInstant (s : State) (h line : Nat) : Nat :=
  let v := s.forceOf h
  s.pixelAt h ((line + 3) * hTotal v h + (hTotal v h - hActive v h))

/-- Entry into HOLD (R219, R220, R226): CONFIG and BLANK, and no polder holds overdrive history. -/
def pnlHold (h : Nat) (s : State) : State :=
  if !s.panel h then s else
  let v := s.forceOf h
  let n := (s.colPorts h).length
  let s1 := eachPolder h (fun _ _ c => { c with od := false }) (srLive h s)
  let s2 := toColumns h (fun k _ =>
    let sl := sliceOf (hActive v h) n k
    [0x34#8, BitVec.ofNat 8 (panelDp v h)] ++ bytesLE sl.1 2 ++ bytesLE sl.2 2) s1
  blankAll h (s2.latchInstant h 0) s2

/-- Entry into OFF (R226). -/
def pnlOff (h : Nat) (s : State) : State :=
  if !s.panel h then s else
  let s1 := toColumns h (fun _ p => [0x33#8, 0#8, 0#8, 0#8] ++ bytesLE (s.ahead (s.latForce p + 768)) 4 ++ s.blankBytes h)
    (srLive h s)
  sendCmd (s.cfg.head h).rowPort ([0x22#8, 0#8, 0#8, 0#8] ++ bytesLE (s.ahead (s.latForce (s.cfg.head h).rowPort + 768)) 4) s1

/-- The last frame that ended, while it has not retired and no other raster frame has ended since. -/
def State.lastFrame (s : State) (h : Nat) : Option Frame :=
  if (s.hd h).ended.any (·.frame) then (s.hd h).past.getLast? else none

/-- Whether raster line L, whose panel timing falls now, is one of the last three of the raster frame before this one (R209): the raster has
not reached it in this frame. -/
def State.lineBefore (s : State) (h line : Nat) : Bool :=
  decide (s.lineNow h < line) && (s.hd h).ended.any fun e => decide (vTotal e.view h ≤ line + 3)

/-- The frame that raster line L belongs to. -/
def State.frameOfLine (s : State) (h line : Nat) : Option Frame :=
  if s.lineBefore h line then s.lastFrame h else (s.hd h).cur

/-- The state with the last past frame, or the frame being output, changed. -/
def modFrame (h : Nat) (past : Bool) (f : Frame → Frame) (s : State) : State :=
  s.modHd h fun d =>
    if past then { d with past := match d.past.getLast? with | some x => d.past.dropLast ++ [f x] | none => [] }
    else { d with cur := d.cur.map f }

/-- The words in force for raster line L, and whether its frame is held (R222). -/
def State.lineView (s : State) (h line : Nat) : SMap Word × Bool :=
  if s.lineBefore h line then match (s.hd h).ended with
    | some e => (e.view, e.held)
    | none => (s.forceOf h, false)
  else (s.forceOf h, (s.hd h).cur.any (·.held))

/-- ROW_ISSUE (R209, R210, R222, R229): in HOLD and RUN, the ROW of raster line L, cmd_lead ahead of its sync instant. -/
def rowIssueOp (h line : Nat) (s : State) : State :=
  let v := (s.lineView h line).1
  let st := (s.hd h).state
  if !s.panel h || !(st == 3 || st == 4) || (s.lineView h line).2 || decide (vTotal v h ≤ line) then s else
  let blank := decide (line < vTotal v h - vActive v h)
  let vs := vf v Rg.TGN_H_VSYNC [h] 13 0
  let sync := decide (vs ≤ line) && decide (line < vs + vf v Rg.TGN_H_VSYNC [h] 29 16)
  let len := if s.incUsed h = 0 then 0 else (rnd (vf v Rg.TGN_H_HSYNC [h] 29 16 * 2 ^ 28 : Nat) (s.incUsed h)).toNat
  sendCmd (s.cfg.head h).rowPort
    ([0x21#8, BitVec.ofNat 8 (b2n sync + 2 * b2n (line == 0) + 4 * b2n blank)] ++
      bytesLE (if blank then 0xFFFF else line - (vTotal v h - vActive v h)) 2 ++ bytesLE (s.now + panelLead v h) 4 ++ bytesLE len 2 ++ [0#8, 0#8]) s

def doRowIssue (h : Fin 4) (line : Nat) (s : State) : Host.Outcome State Fault Refusal := live (rowIssueOp h.val line) s

/-- The tag of a row: frame parity and row. -/
def rowTag (num row : Nat) : Nat := num % 2 * 32768 + row % 8192

/-- The LINE_DATA commands of a row to every slice (R230). -/
def sendRow (h num row dp w : Nat) (codes : List Px) (s : State) : State :=
  let n := (s.colPorts h).length
  (s.colPorts h).zipIdx.foldl (fun s x =>
    let sl := sliceOf w n x.2
    (sliceParts sl.2).foldl (fun s p =>
      sendCmd x.1 ([0x31#8, 0#8] ++ bytesLE (rowTag num row) 2 ++ bytesLE p.1 2 ++ bytesLE p.2 2 ++
        packCodes dp ((codes.drop (sl.1 + p.1)).take p.2)) s) s) s

/-- LINE_DATA_SEND (R210, R211): active raster line L, from the start of line L + 1; the last line's falls in the next frame. -/
def lineDataOp (h line : Nat) (s : State) : State :=
  let v := (s.lineView h line).1
  if !s.panel h || decide (line < vTotal v h - vActive v h) || decide (vTotal v h ≤ line) then s else
  let row := line - (vTotal v h - vActive v h)
  match s.frameOfLine h line with
  | none => s
  | some f =>
    if f.aborted || f.held then s else
    let s1 := if s.lineBefore h line then s else panelLine h row s
    match (s1.frameOfLine h line).bind fun f => f.taps.find row with
    | none => s1
    | some t => sendRow h f.num row (panelDp f.view h) (hActive f.view h) t.out s1

def execLineDataSend (h : Fin 4) (line : Nat) (s : State) : Host.Outcome State Fault Refusal := live (lineDataOp h.val line) s

/-- Whether a row's latch belongs to the last past frame: one of its last three rows, formed and not latched there. -/
def State.latchesPast (s : State) (h row : Nat) : Bool :=
  match s.lastFrame h with
  | some f => decide (vActive f.view h ≤ row + 3) && !f.latched.contains row && !f.aborted && ((f.taps.find row).map (·.out)).getD [] != []
  | none => false

/-- Polders with a row of an aborted frame whose LINE_LATCH was not issued lose their history (R219). -/
def dropHistory (h : Nat) (f : Frame) (s : State) : State :=
  let v := f.view
  let w := tilesX (hActive v h)
  eachPolder h (fun i _ c =>
    if (List.range 32).any fun k => decide (32 * (i / w) + k < vActive v h) && !f.latched.contains (32 * (i / w) + k)
    then { c with od := false } else c) s

/-- Whether a transaction is LINE_DATA with a tag that `p` admits (R230). -/
def isLineData (p : Nat → Bool) (t : Txn) : Bool :=
  t.type == 8 && (t.payload.getD 0 0).toNat == 0x31 && p ((t.payload.getD 2 0).toNat + 256 * (t.payload.getD 3 0).toNat)

/-- LINE_DATA of a frame that still waits is not sent (R225). -/
def dropLines (h num : Nat) (s : State) : State :=
  (s.colPorts h).foldl (fun s q => s.modPort q fun x => { x with waiting := x.waiting.filter fun t => !isLineData (ofFrame num) t }) s

/-- Whether a row has not left: some LINE_DATA of it waits at its port. -/
def State.rowWaits (s : State) (h num row : Nat) : Bool :=
  (s.colPorts h).any fun q => (s.port q).waiting.any (isLineData (· == rowTag num row))

/-- LINE_LATCH_DUE (R210, R213, R225): the latch, with the staged row written to the store, or a breach when a LINE_DATA of the row
has not left: `sent` tells that their last block is out on the lanes, which it is not while some of them waits to be sent. -/
def lineLatchOp (h row : Nat) (sent : Bool) (s : State) : State :=
  let past := s.latchesPast h row
  match (if past then s.lastFrame h else (s.hd h).cur) with
  | none => s
  | some f =>
    if !s.panel h || f.aborted || f.held || decide (vActive f.view h ≤ row) then s else
    let t := s.now + panelLead f.view h
    if sent && !s.rowWaits h f.num row && ((f.taps.find row).map (·.out)).getD [] != [] then
      let n := (s.colPorts h).length
      let s1 := (s.colPorts h).zipIdx.foldl (fun s x =>
        if (sliceOf (hActive f.view h) n x.2).2 = 0 then s
        else sendCmd x.1 ([0x32#8, 0#8] ++ bytesLE (rowTag f.num row) 2 ++ bytesLE t 4) s) s
      let s2 := match f.rows.find row with
        | some bs => bufStore 2 h (s.pn h).storeLoc (s.pn h).storeAt (row * s.storePitch h) bs s1
        | none => s1
      modFrame h past (fun f => { f with latched := f.latched ++ [row] }) s2
    else
      let s1 := reportBreach h 10 0 (blankAll h t (dropLines h f.num <| modFrame h past (fun f => { f with aborted := true }) s))
      if past then dropHistory h f s1 else s1

def doLineLatchDue (h : Fin 4) (row : Nat) (sent : Bool) (s : State) : Host.Outcome State Fault Refusal :=
  live (lineLatchOp h.val row sent) s

/-- A breach of another buffer of a panel head (R109, R225): blank from the first row that is not latched yet. -/
def panelBlankRest (h : Nat) (s : State) : State :=
  match (s.hd h).cur with
  | none => s
  | some f =>
    let v := s.forceOf h
    match (List.range (vActive v h)).find? fun r => !f.latched.contains r with
    | some r => blankAll h (s.latchInstant h (r + (vTotal v h - vActive v h))) (dropLines h f.num s)
    | none => s

/-- The commit of a panel head's polder updates at the boundary after a frame (R219, R222). -/
def pnlCommit (h : Nat) (f : Frame) (s : State) : State :=
  if f.held then s
  else if f.aborted then dropHistory h f s
  else
    let step := vf f.view Rg.PNL_H_CTL [h] 27 16
    eachPolder h (fun _ _ c => { c with res := c.res.map fun r => (r + step) % 4096, od := true }) s

/-! ### Self-refresh (R220 to R223) -/

/-- The write of PNL_H_SR: req = 0 in SELF or EXITING is an exit trigger (R223). -/
def srWriteOp (h : Nat) (v : Word) (s : State) : State :=
  if !s.panel h then s else
  let s1 := storeWrite Rg.PNL_H_SR [h] v s
  if bit v 0 then s1 else exitTrigger h s1

/-- SELF_REQUEST (R220): a write whose req is 1. -/
def doSelfRequest (src : Source) (h : Fin 4) (v : Word) (s : State) : Host.Outcome State Fault Refusal :=
  .next (gatedWrite src (Rg.PNL_H_SR.at [h.val]) (setBit v 0 true) (srWriteOp h.val (setBit v 0 true)) s)

/-- SELF_EXIT_REQUEST (R223): a write whose req is 0. -/
def doSelfExitRequest (src : Source) (h : Fin 4) (v : Word) (s : State) : Host.Outcome State Fault Refusal :=
  .next (gatedWrite src (Rg.PNL_H_SR.at [h.val]) (setBit v 0 false) (srWriteOp h.val (setBit v 0 false)) s)

/-- What a latching boundary makes of self-refresh (R220 to R222), given whether a commit applies and the frame number: the new
state and the number within the SELF period. EXITING ends at its target; a boundary at which a commit applies latches. -/
def srBoundary (h n : Nat) (commit : Bool) (s : State) : State :=
  let p := s.pn h
  let want := bit (s.rd Rg.PNL_H_SR [h]) 0 ||
    (bit (s.rd Rg.PNL_H_CTL [h]) 4 && decide (max 1 (s.fd Rg.PNL_H_SR [h] 15 8) ≤ p.idle))
  if !s.panel h then s
  else if p.sr = 0 then
    if want && !commit then pnlFlag h 2 (s.modPn h fun p => { p with sr := 1, srFrame := 0 }) else s
  else if commit || (p.sr = 2 && decide (p.exitAt ≤ n)) then srLive h s
  else s.modPn h fun p => { p with srFrame := p.srFrame + 1 }

/-- Whether the frame of a boundary is held (R222). -/
def State.srHeld (s : State) (h : Nat) : Bool :=
  (s.pn h).sr != 0 && decide ((s.pn h).srFrame % (s.ff Rg.PNL_H_SR [h] 5 4 + 1) ≠ 0)

/-- The idle count at a retire (R220). -/
def idleCount (h : Nat) (f : Frame) (s : State) : State :=
  s.modPn h fun p => { p with idle := if f.aborted || f.applied || f.touched then 0 else p.idle + 1 }

/-! ### Panel temperature (R216) -/

/-- A boundary of a head in HOLD or RUN: the stale run, then the next read of 4 bytes. -/
def tempBoundary (h : Nat) (s : State) : State :=
  if !s.panel h || !((s.hd h).state == 3 || (s.hd h).state == 4) || !bit (s.rd Rg.PNL_H_TEMP_CFG [h]) 31 then s else
  let p := s.pn h
  let n := if p.asked then (if p.got then 0 else min 255 (p.stale + 1)) else p.stale
  let s1 := s.modPn h fun p => { p with stale := n, got := false, asked := true }
  let s2 := if n = max 1 (s.fd Rg.PNL_H_TEMP_CFG [h] 27 24) ∧ p.stale < n then pnlFlagEvent h 5 0 s1 else s1
  emitFor h (.sensorRead (bit (s.rd Rg.PNL_H_TEMP_CFG [h]) 8) (s.fd Rg.PNL_H_TEMP_CFG [h] 6 0) 4) s2

/-- PANEL_TEMP_REPLY (R216): fresh with status 0x00 and another sequence number. -/
def tempReplyOp (h : Nat) (reply : Option (List Byte)) (s : State) : State :=
  match reply with
  | none => s
  | some bs =>
    if !(s.pn h).asked then s else
    let b := fun i => (bs.getD i 0).toNat
    let s1 := recFor 0x22 h noUnit ((bs.take 4).map (·.toNat)) s
    if b 0 = 0 ∧ (s.pn h).seq ≠ some (b 1) then
      s1.modPn h fun p => { p with theta := sext 16 (b 2 + 256 * b 3), seen := true, seq := some (b 1), got := true }
    else s1

def execPanelTempReply (h : Fin 4) (reply : Option (List Byte)) (s : State) : Host.Outcome State Fault Refusal :=
  live (fun s => if s.replaying h.val then s else tempReplyOp h.val reply s) s

/-! ### Driver events (R231) -/

/-- LATE and INCOMPLETE reports (R231, R415): counted, one event a frame each, no abort. -/
def pnlReport (h p : Nat) (late : Bool) (s : State) : State :=
  let s1 := if late then count1 Rg.PNL_H_LATE_CNT [h] s else count1 Rg.PNL_H_INCOMPLETE_CNT [h] s
  let seen := if late then (s.pn h).lateSeen else (s.pn h).incSeen
  let s2 := s1.modPn h fun x => if late then { x with lateSeen := true } else { x with incSeen := true }
  if seen then pnlFlag h (if late then 0 else 1) s2 else pnlFlagEvent h (if late then 0 else 1) p s2

/-- An EVENT of a row or column driver (R231), as it concerns the heads that `mine` admits. -/
def pnlEvent (mine : Nat → Bool) (p code detail : Nat) (s : State) : State :=
  let hs := (s.portHeads p).filter fun h => s.panel h && mine h
  match code with
  | 1 => hs.foldl (fun s h => pnlReport h p true s) s
  | 2 => hs.foldl (fun s h => pnlReport h p false s) s
  | 3 => raiseReport 14 p 0 (detail % 256) 0 s
  | _ => invalidResponse 14 p 0x81 s

/-- PERIPHERAL_EVENT (R162, R231, R360): a response other than ECHO_REPLY and MON_SAMPLE. Opcode 0x81 is an EVENT; any other is
invalid. The bytes are those of the oldest accepted one, or what the command carries. -/
def peripheralOp (p opcode0 code0 detail0 counter0 : Nat) (s : State) : State :=
  let r := takeResponse p (fun o => o != 0x80 && o != 0x82) s
  let s0 := r.2
  let (opcode, code, detail, counter) := match r.1 with
    | some bs => (byteField bs 0 1, byteField bs 1 1, byteField bs 2 2, byteField bs 4 4)
    | none => (opcode0, code0, detail0, counter0)
  let k := s0.peerKind p
  if k = 0 then s0 else
  if opcode % 256 ≠ 0x81 then invalidResponse (s0.calBlock p) p opcode s0 else
  let s1 := (s0.portHeads p).foldl (fun s h => recFor 0x24 h p [p, code, detail, counter] s) s0
  let live' := fun h => !s0.replaying h
  if s0.ltePort p then lteEvent live' p code (detail % 65536) s1 else pnlEvent live' p code (detail % 65536) s1

def execPeripheralEvent (p : Fin 24) (opcode code detail counter : Nat) (s : State) : Host.Outcome State Fault Refusal :=
  live (peripheralOp p.val opcode code detail counter) s

/-! ### Tables and registers (R232 to R234) -/

/-- A write of PNL_H_TBL_D2 (R233, as R95). -/
def odStoreOp (h : Nat) (v : Word) (s : State) : State :=
  let a := s.rd Rg.PNL_H_TBL_ADDR [h]
  let bank := fld a 31 31
  let j := fld a 27 26
  let idx := fld a 8 0
  if !s.panel h then s
  else if bank = s.ff Rg.PNL_H_CTL [h] 5 5 ∨ 289 ≤ idx then invalidWrite (Rg.PNL_H_TBL_D2.at [h]) s
  else
    let put := fun c x (m : SMap Nat) => m.insert (odKey bank j idx c) (x % 2 ^ 18)
    (s.modHd h fun d => { d with odTables := put 2 v.toNat (put 1 (d.odStage.getD 1 0) (put 0 (d.odStage.getD 0 0) d.odTables)) }).wr
      Rg.PNL_H_TBL_ADDR [h] (setFld a 8 0 (idx + 1))

/-- OD_TABLE_STORE (R233). -/
def doOdTableStore (src : Source) (h : Fin 4) (v : Word) (s : State) : Host.Outcome State Fault Refusal :=
  .next (gatedWrite src (Rg.PNL_H_TBL_D2.at [h.val]) v (odStoreOp h.val v) s)

/-- A write of PNL_H_TBL_D0 or D1 stages a component. -/
def odStageOp (h c : Nat) (v : Word) (s : State) : State :=
  if s.panel h then s.modHd h fun d => { d with odStage := d.odStage.set c (fld v 17 0) } else s

/-- Clears of PNL_H_CNT_CLR (R232). -/
def pnlHCntClrOp (h : Nat) (v : Word) (s : State) : State :=
  if !s.panel h then s else
  onBits v [(0, clearCnt Rg.PNL_H_LATE_CNT [h]), (1, clearCnt Rg.PNL_H_INCOMPLETE_CNT [h]), (2, clearCnt Rg.PNL_H_SR_FRAME_CNT [h])] s

/-- PNL_H_CNT_CLR (R232). -/
def doPnlHCntClr (src : Source) (h : Fin 4) (v : Word) (s : State) : Host.Outcome State Fault Refusal :=
  .next (gatedWrite src (Rg.PNL_H_CNT_CLR.at [h.val]) v (pnlHCntClrOp h.val v) s)

/-- PNL_H_BW (R232): T_line and the largest t_slice in force. -/
def State.bwWord (s : State) (h : Nat) : Word :=
  let v := s.forceOf h
  let rate := s.headRate v h
  let line := if rate = 0 then 0 else hTotal v h * 2 ^ 28 * 1000000000 / rate
  let sl := ((List.range (s.colPorts h).length).filterMap fun k => s.sliceNs v h k).foldl max 0
  pack [(16, min 65535 line), (0, min 65535 sl)]

/-- The word a report register of a panel head reads. -/
def readPnlHead (h a : Nat) (s : State) : Option Word :=
  let p := s.pn h
  if a = Rg.PNL_H_STATUS.at [h] then
    some (pack [(16, if p.granted then s.ff Rg.PNL_H_CTL [h] 11 8 else 0), (8, s.ff Rg.PNL_H_CTL [h] 5 5), (0, p.sr)])
  else if a = Rg.PNL_H_STORE.at [h] then some (pack [(16, p.storeMib), (8, b2n p.storeLoc)])
  else if a = Rg.PNL_H_TEMP.at [h] then some (pack [(16, uint 16 (p.thetaF.getD 0)), (8, p.stale), (0, b2n p.seen)])
  else if a = Rg.PNL_H_BW.at [h] then some (s.bwWord h)
  else
    let c := if a = Rg.PNL_H_TBL_D0.at [h] then some 0 else if a = Rg.PNL_H_TBL_D1.at [h] then some 1
      else if a = Rg.PNL_H_TBL_D2.at [h] then some 2 else none
    c.map fun k =>
      let t := s.rd Rg.PNL_H_TBL_ADDR [h]
      if 289 ≤ fld t 8 0 then 0 else word (s.odEntry h (fld t 31 31) (fld t 27 26) (fld t 8 0) k)

/-- The word a report register of PNL reads (R232, R234). -/
def readPnl (a : Nat) (s : State) : Option Word :=
  let off := a % 0x100000
  match Rg.PNL_POLDER_DATA.ixOf a with
  | some [w] =>
    let p := s.fd Rg.PNL_POLDER_ADDR [] 15 0
    let c := s.polder p
    some (if p < 40960 ∧ (s.polderHead? false p).isSome then
      (if w = 0 then pack [(0, c.res.getD 0 0), (16, c.res.getD 1 0)] else pack [(0, c.res.getD 2 0), (16, b2n c.od)]) else 0)
  | _ =>
    if 0x8000 ≤ off ∧ off < 0x8180 then
      let p := (off - 0x8000) / 16
      if !s.pnlPort p then some 0 else if off % 16 < 8 then s.calWord p (off % 16) else none
    else if off < 0x10000 ∨ 0x50000 ≤ off then none
    else if !s.panel (off / 0x10000 - 1) then some 0
    else readPnlHead (off / 0x10000 - 1) a s

end Sys2Proof.Machine
end

