-- ==== Sys2Proof/Machine/Cmp.lean ====
section
/-!
DEFINITION. CMP: the commit checks of a head's layers (R62, R70 to R74), the latch of its layers (R61, R66, R77 to R81), and
fetch faults (R65, R82).
-/
namespace Sys2Proof.Machine

/-! ### Commit checks (R62, R70 to R74) -/

/-- Whether an enabled layer of a view names an entry that is not VALID (R62). -/
def State.surfInvalid (s : State) (v : SMap Word) (h : Nat) : Bool :=
  (layersOn v h).any fun l => (s.entry (vf v Rg.CMP_L_SURF [h, l] 11 0)).state != 1

/-- The taps whose coefficients are in use sum to 1024 in every phase (R72). -/
def coefSumsOk (v : SMap Word) (r : Reg) (h l : Nat) (taps : List Nat) : Bool :=
  (List.range 64).all fun p => (taps.map fun t => coefOf v r h l p t).foldl (· + ·) 0 == 1024

/-- The line-buffer width for a taps code (R73). -/
def lineWidth (code : Nat) : Nat := if code = 0 then 24576 else if code = 1 then 12288 else 8192

/-- The first failed check of one layer (R70 to R74): its code, and for LINE_BUFFER the widths required and available. -/
def State.layerCheck (s : State) (v : SMap Word) (h l : Nat) : Option (Nat × Nat × Nat) :=
  let d := s.desc (vf v Rg.CMP_L_SURF [h, l] 11 0)
  let r := srcRect v h l
  let q := dstRect v h l
  let w := r.2.2.1
  let ht := r.2.2.2
  let m := q.2.2.1
  let mv := q.2.2.2
  let taps := vf v Rg.CMP_L_CTL [h, l] 9 8
  let ratio := fun (n m : Nat) => decide (n ≤ 4 * m) && decide (m ≤ 16 * n)
  if l = 8 ∧ (¬ (d.fmt = 0 ∨ d.fmt = 1 ∨ d.fmt = 5) ∨ 256 < w ∨ 256 < ht) then some (5, 0, 0)
  else if d.width < r.1 + w ∨ d.height < r.2.1 + ht ∨ (fmtTwo d.fmt ∧ (r.1 % 2 = 1 ∨ w % 2 = 1)) ∨
      (fmt420 d.fmt ∧ (r.2.1 % 2 = 1 ∨ ht % 2 = 1)) then some (3, 0, 0)
  else if l = 8 then
    (if q.1 < -255 ∨ (hActive v h : Int) ≤ q.1 ∨ q.2.1 < -255 ∨ (vActive v h : Int) ≤ q.2.1 then some (4, 0, 0) else none)
  else if q.1 < 0 ∨ q.2.1 < 0 ∨ (hActive v h : Int) < q.1 + m ∨ (vActive v h : Int) < q.2.1 + mv then some (4, 0, 0)
  else if !(ratio w m && ratio ht mv) then some (2, 0, 0)
  else if ht ≠ mv ∧ lineWidth taps < w then some (1, w, lineWidth taps)
  else if (w ≠ m ∧ !coefSumsOk v Rg.CMP_L_HCOEF h l [0, 1, 2, 3, 4, 5]) ∨
      (ht ≠ mv ∧ !coefSumsOk v Rg.CMP_L_VCOEF h l (vTaps taps)) then some (6, 0, 0)
  else none

/-- The first failure of the CMP checks of a view, layers in ascending index and the cursor last: code, layer and widths. -/
def State.cmpCheck (s : State) (v : SMap Word) (h : Nat) : Option (Nat × Nat × Nat × Nat) :=
  (layersOn v h).findSome? fun l => (s.layerCheck v h l).map fun x => (x.1, l, x.2.1, x.2.2)

/-- A CMP check has failed (R74): CMP_H_CHK and CMP_H_CHK_W record it, with one event. -/
def cmpCheckFailed (h : Nat) (x : Nat × Nat × Nat × Nat) (s : State) : State :=
  raiseRefusal 8 h (Rg.CMP_H_CHK.at [h]) x.1 x.2.1
    ((s.wr Rg.CMP_H_CHK [h] (pack [(8, x.2.1), (0, x.1)])).wr Rg.CMP_H_CHK_W [h] (pack [(16, x.2.2.1), (0, x.2.2.2)]))

/-! ### The latch (R61, R66, R77 to R81) -/

/-- Whether an address holds layer state of layer l of head h (R78): its CMP and PXP registers and coefficients. -/
def isLayerAddr (h l a : Nat) : Bool :=
  let off := a % 0x100000
  let base := 0x10000 * (h + 1)
  let inRange := fun lo n => decide (base + lo ≤ off) && decide (off < base + lo + n)
  (a / 0x100000 == 8 && (inRange (0x1000 + 0x100 * l) 0x100 || (decide (l < 8) && inRange (0x4000 + 0x800 * l) 0x800))) ||
  (a / 0x100000 == 9 && inRange (0x1000 + 0x100 * l) 0x100)

/-- The state of layer l within a view. -/
def layerWords (v : SMap Word) (h l : Nat) : SMap Word := v.filter fun e => isLayerAddr h l e.1

/-- Whether a fence is signalled for head h; a re-run reads its fences from the recorded items (R365). -/
def State.fenceMet (s : State) (h n v : Nat) : Bool :=
  if s.replaying h then decide (v ≤ s.recd.fences.get 0 n) else s.signalled n v

/-- Whether layer l of the applied state is ready by itself at latch (R78): its fence has signalled and its surface is VALID. -/
def State.layerReady (s : State) (v : SMap Word) (h l : Nat) : Bool :=
  s.fenceMet h (vf v Rg.CMP_L_SURF [h, l] 23 16) (vf v Rg.CMP_L_ACQ_HI [h, l] 15 0 * 2 ^ 32 + vf v Rg.CMP_L_ACQ_LO [h, l] 31 0) &&
  (s.entry (vf v Rg.CMP_L_SURF [h, l] 11 0)).state == 1

/-- The groups that wait at this latch (R79): those with an enabled layer that is not ready by itself. -/
def State.groupsWaiting (s : State) (v : SMap Word) (h : Nat) : List Nat :=
  [1, 2, 3, 4, 5, 6, 7].filter fun g => (layersOn v h).any fun l => vf v Rg.CMP_L_CTL [h, l] 6 4 == g && !s.layerReady v h l

/-- Whether an enabled layer is handled as not ready (R78, R79). -/
def State.notReady (s : State) (v : SMap Word) (h l : Nat) : Bool :=
  !s.layerReady v h l || (s.groupsWaiting v h).contains (vf v Rg.CMP_L_CTL [h, l] 6 4)

/-- What layer l shows from this latch on, given the applied state `v` and what it showed before (R77 to R79). A layer that is not
ready keeps its previous state; where that has no surface, or one that takes no lease, it shows its spillway colour or
nothing, by the previous state's settings when the layer was enabled in it, else by the applied ones. -/
def State.latchLayer (s : State) (v : SMap Word) (h l : Nat) (old : LayerShow) : LayerShow :=
  if vf v Rg.CMP_L_CTL [h, l] 0 0 = 0 then { regs := layerWords v h l }
  else if !s.notReady v h l then { mode := 1, regs := layerWords v h l }
  else
    let had := vf old.regs Rg.CMP_L_CTL [h, l] 0 0 == 1
    if had && (s.entry (vf old.regs Rg.CMP_L_SURF [h, l] 11 0)).state == 1 then { mode := 1, prev := true, regs := old.regs }
    else
      let sp := if had then old.regs else layerWords v h l
      { mode := if vf sp Rg.CMP_L_CTL [h, l] 3 3 = 1 then 0 else 2, regs := old.regs, spill := sp }

/-- CMP_L_STATE of a latched layer (R83). -/
def layerStateWord (v : SMap Word) (h l : Nat) (k : LayerShow) : Word :=
  pack [(31, b2n k.prev), (30, b2n (k.mode == 2)), (29, b2n (k.mode == 0)),
    (0, (k.surface? h l).getD (vf v Rg.CMP_L_SURF [h, l] 11 0))]

/-- How many fetches coverage suppresses over the whole picture (R81). -/
def State.suppressedAll (s : State) (ks : List LayerShow) (h w ht : Nat) : Nat :=
  ((List.range (tilesX ht)).map fun ty => ((List.range (tilesX w)).map fun tx => s.suppressed ks h w ht tx ty).sum).sum

/-- The latch of a head's layers (R61, R66, R78 to R81): what each shows, its lease, the reports and counters; answers the leases. -/
def latchLayers (h : Nat) (s : State) : List Nat × State :=
  let v := s.forceOf h
  let ks := (List.range 9).map fun l => s.latchLayer v h l ((s.hd h).shows.getD l {})
  let nrs := (layersOn v h).filter (s.notReady v h)
  let nr := maskOf 9 nrs.contains
  let grp := maskOf 8 (s.groupsWaiting v h).contains
  let leases := (List.range 9).filterMap fun l => (ks.getD l {}).surface? h l
  let s1 := s.modHd h fun d => { d with shows := ks }
  let s2 := (s1.wr Rg.CMP_H_STATUS [h] (pack [(16, grp), (0, nr)]))
  let s3 := (List.range 9).foldl (fun s l => s.wr Rg.CMP_L_STATE [h, l] (layerStateWord v h l (ks.getD l {}))) s2
  let s4 := if s.replaying h then s3 else leases.foldl (fun s n => leaseTake n s) s3
  let s5 := count Rg.CMP_H_SKIP_CNT [h] (s4.suppressedAll ks h (hActive v h) (vActive v h)) s4
  (leases, if nr = 0 then s5
    else count Rg.CMP_H_NR_CNT [h] nrs.length (raiseReport 8 h (Rg.CMP_H_STATUS.at [h]) nr grp s5))

/-! ### Fetch faults (R65, R82) -/

/-- FETCH_TRANSLATION_FAULT (R65): the fetch of tile `polder` meets an invalid page; one event for each layer and frame, and from that tile on
the layer is not ready (R82). Of a page that translates, or of a layer that fetches nothing, nothing is reported. -/
def fetchFaultOp (h l polder page : Nat) (s : State) : State :=
  match (s.hd h).cur with
  | none => s
  | some f =>
    let k := f.shows.getD l {}
    match k.surface? h l with
    | none => s
    | some n =>
      if k.fault.isSome || f.aborted then s else
      let r := translate h (page % 2 ^ 20) s
      if pteValid r.1 then r.2 else fetchFault h l n (page % 2 ^ 20 * 65536) polder r.2

def execFetchTranslationFault (h : Fin 4) (l : Fin 9) (polder page : Nat) (s : State) : Host.Outcome State Fault Refusal :=
  live (fetchFaultOp h.val l.val polder page) s

/-! ### Registers (R83) -/

/-- Clears of CMP_H_CNT_CLR (R83). -/
def cmpHCntClrOp (h : Nat) (v : Word) (s : State) : State :=
  onBits v [(0, clearCnt Rg.CMP_H_NR_CNT [h]), (1, clearCnt Rg.CMP_H_SKIP_CNT [h]), (2, clearCnt Rg.CMP_H_CLAMP_CNT [h])] s

/-- CMP_H_CNT_CLR (R83). -/
def doCmpHCntClr (src : Source) (h : Fin 4) (v : Word) (s : State) : Host.Outcome State Fault Refusal :=
  .next (gatedWrite src (Rg.CMP_H_CNT_CLR.at [h.val]) v (cmpHCntClrOp h.val v) s)

end Sys2Proof.Machine
end

