-- ==== Sys2Proof/Machine/Outer.lean ====
section
/-!
DEFINITION. The colorimetric outer loop of LSC: sensors, outer samples, modes and phases (R194 to R206).
-/
namespace Sys2Proof.Machine

/-- A colour sensor slot, and the state with it changed. -/
def State.slot (s : State) (k : Nat) : Slot := s.lsc.slots.get {} k
def State.modSlot (s : State) (k : Nat) (f : Slot → Slot) : State := { s with lsc := { s.lsc with slots := s.lsc.slots.upd {} k f } }

/-- The slots that a head reads (R206). -/
def State.headSlots (s : State) (h : Nat) : List Nat :=
  (List.range 8).filter fun k => bit (s.rd Rg.LSC_S_CFG [k]) 31 && s.fd Rg.LSC_S_CFG [k] 29 28 == h

/-- Sets a flag of the outer loop with its FLAG record. -/
def outerFlag (h b : Nat) (s : State) : State :=
  raiseFlag 13 h (Rg.LSC_O_FLAGS.at [h]) b 0 (s.wr Rg.LSC_O_FLAGS [h] (setBit (s.rd Rg.LSC_O_FLAGS [h]) b true))

/-- dim in force: values above 65,536 act as 65,536 (R203, R206). -/
def State.dimF (s : State) (h : Nat) : Nat := min 65536 (s.ff Rg.LSC_O_DIM [h] 16 0)

/-- Limits of q (R206). -/
def State.qHi (s : State) (h : Nat) : Nat := s.fd Rg.LSC_O_QLIM [h] 31 16
def State.qLo (s : State) (h : Nat) : Nat := min (s.fd Rg.LSC_O_QLIM [h] 15 0) (s.qHi h)
def State.clampQ (s : State) (h : Nat) (q : Int) : Nat := (clampI (16 * s.qLo h : Nat) (16 * s.qHi h : Nat) q).toNat

/-! ### The computation (R198, R200, R201, R204) -/

/-- v_s of position k for a slot (R198). -/
def State.slotValue (s : State) (slot k : Nat) : Nat :=
  let c := (s.slot slot).codes
  let sum := ((List.range 4).map fun j => sext 21 (s.fd Rg.LSC_S_MTX [slot, 4 * k + j] 20 0) * (c.getD j 0 : Nat)).foldl (· + ·) 0
  (clampI 0 1048575 ((sum + 32768) / 65536)).toNat

/-- m_k over the fresh slots. -/
def State.measure (s : State) (fresh : List Nat) (k : Nat) : Nat :=
  (rnd ((fresh.map fun x => s.slotValue x k).sum : Nat) (max 1 fresh.length)).toNat

/-- T_k (R198). -/
def State.target (s : State) (g dim : Nat) : Nat := (rnd (s.fd Rg.LSC_G_TGT [g] 19 0 * dim : Nat) 65536).toNat

/-- r_k from t_k and m_k (R198). -/
def relError (t m : Nat) : Int :=
  if t = 0 then 0 else clampI (-(2 ^ 31)) (2 ^ 31 - 1) (rnd (((t : Int) - m) * 65536) t)

/-- The working positions of a head: position and group. -/
def State.positions (s : State) (h : Nat) : List (Nat × Nat) :=
  ((s.headGroups h).zipIdx.map fun x => (x.2, x.1)).filter fun x => s.workOf x.2 != 0

/-- The balance factor a (R198, R204). -/
def State.balance (s : State) (h dim : Nat) (fresh : List Nat) : Nat :=
  (s.positions h).foldl (fun a x =>
    let t := s.target x.2 dim
    if (s.grp x.2).short && decide (0 < t) then min a (rnd (65536 * s.measure fresh x.1 : Nat) t).toNat else a) 65536

/-- Stages sp of every channel of a group (R198, R199). -/
def stageGroup (g factor dim : Nat) (s : State) : State :=
  (s.usedChans.filter fun c => s.cfg.group? c == some g && s.chanState c != 7).foldl (fun s c =>
    let sp := min (rnd (s.fd Rg.LSC_CH_SPBASE [c] 19 0 * factor * dim : Nat) (2 ^ 32)).toNat 1048575
    let s1 := s.wr Rg.LSC_CH_SP [c] (setFld (s.rd Rg.LSC_CH_SP [c]) 19 0 sp)
    if noBoundary (s.chanState c) then settleNow c s1 else s1) s

/-- The dimming value in force has come into force: a change since the previous outer sample is a skip reason (R200). -/
def noteDim (h : Nat) (s : State) : State :=
  let o := s.outerOf h
  let s1 := if o.dim.isSome ∧ o.dimNow ≠ some (s.dimF h) then outerReason h 3 s else s
  s1.modOuter h fun o => { o with dimNow := some (s.dimF h) }

/-- One position of a measured sample: m, r, and, where the sample integrates, q: in the phase in which it began, and not once that phase
has given way to MANUAL (R197, R202). -/
def measurePosition (h dim a : Nat) (fresh : List Nat) (integ : Bool) (s : State) (x : Nat × Nat) : State :=
  let m := s.measure fresh x.1
  let t := (rnd (s.target x.2 dim * a : Nat) 65536).toNat
  let r := relError t m
  let ph := (s.outerOf h).samplePhase
  let ki := if ph = 3 then s.fd Rg.LSC_O_GAIN [h] 15 0 else s.fd Rg.LSC_O_GAIN [h] 31 16
  let moves := integ && decide (2 ≤ ph) && decide (2 ≤ (s.outerOf h).phase) && !((s.grp x.2).short && decide (0 < r))
  s.modGrp x.2 fun y => { y with m := m, r := r, q := if moves then s.clampQ h (y.q + rnd (r * ki) 65536) else y.q }

/-- What an integrating sample makes of the phase (R201): FAST settles into SLOW, SLOW recovers into FAST. -/
def phaseAfter (h : Nat) (s : State) : State :=
  let o := s.outerOf h
  let rs := (s.positions h).map fun x => (s.grp x.2).r.natAbs
  if o.phase = 2 then
    let inBand := rs.all fun r => decide (r ≤ s.fd Rg.LSC_O_BAND [h] 15 0)
    let n := if inBand then min 15 (o.settled + 1) else 0
    let s1 := s.modOuter h fun o => { o with settled := n }
    if max 1 (s.fd Rg.LSC_O_TIME [h] 19 16) ≤ n ∧ !bit (s.rd Rg.LSC_O_CTL [h]) 4 then
      (s1.modOuter h fun o => { o with phase := 3, recRun := 0 }).wr Rg.LSC_O_FLAGS [h] (setBit (s.rd Rg.LSC_O_FLAGS [h]) 1 true)
    else s1
  else if o.phase = 3 then
    if rs.any fun r => decide (s.fd Rg.LSC_O_BAND [h] 31 16 < r) then
      if 1 ≤ o.recRun then outerRecover h s else s.modOuter h fun o => { o with recRun := o.recRun + 1 }
    else s.modOuter h fun o => { o with recRun := 0 }
  else s

/-- Every group's set-points are staged: from qm in MANUAL, else from q. -/
def stageHead (h dim : Nat) (s : State) : State :=
  (s.positions h).foldl (fun s x =>
    let g := if (s.outerOf h).phase = 1 then s.fd Rg.LSC_G_MAN [x.2] 19 0 else (s.grp x.2).q
    stageGroup x.2 g dim s) s

/-- The computation of an outer sample (R198): with no fresh slot the measurement is skipped. -/
def outerCompute (h : Nat) (s : State) : State :=
  let o := s.outerOf h
  if !o.waiting || o.phase = 0 then s.modOuter h fun o => { o with waiting := false, asked := [] } else
  let dim := o.dim.getD 65536
  let why := if o.fresh = [] then 1 :: o.why else o.why
  let skip := why.foldl (fun a b => if a = 0 ∨ b < a then b else a) 0
  let s0 := s.modOuter h fun o => { o with waiting := false, asked := [], skip := skip }
  let s1 := if skip = 0 then s0 else count1 Rg.LSC_O_SKIP_CNT [h] s0
  if o.fresh = [] then
    let miss := min 255 (o.miss + 1)
    let lost := 2 ≤ o.samplePhase ∧ (o.phase = 2 ∨ o.phase = 3) ∧ max 1 (s.fd Rg.LSC_O_TIME [h] 27 24) ≤ miss
    let s2 := s1.modOuter h fun o => { o with miss := miss, phase := if lost then 4 else o.phase }
    stageHead h dim (if lost then outerFlag h 4 s2 else s2)
  else
    let s2 := s1.modOuter h fun o => { o with
      miss := 0, phase := if o.phase = 4 then 2 else o.phase, settled := if o.phase = 4 then 0 else o.settled
      samplePhase := if o.phase = 4 then 2 else o.samplePhase }
    let a := s2.balance h dim o.fresh
    let s3 := (s2.positions h).foldl (measurePosition h dim a o.fresh (skip == 0)) s2
    let s4 := s3.modOuter h fun o => { o with a := a }
    let s5 := if a < 65536 ∧ ¬ o.a < 65536 then outerFlag h 3 s4 else s4
    stageHead h dim (if skip = 0 ∧ 2 ≤ o.samplePhase then phaseAfter h s5 else s5)

/-- The read of a sensor (R194, R195): 12 bytes with no register address, from an I3C device or from a legacy one at a static address. -/
def sensorRead (h k : Nat) (s : State) : State :=
  emitFor h (.sensorRead (bit (s.rd Rg.LSC_S_CFG [k]) 8) (s.fd Rg.LSC_S_CFG [k] 6 0) 12) s

/-- An outer sample begins at a latching boundary (R197): every enabled slot is read; a sample that still waits is computed
first. -/
def outerSample (h : Nat) (s : State) : State :=
  let s0 := if (s.outerOf h).waiting then outerCompute h s else s
  let o := s0.outerOf h
  let dim := s0.dimF h
  let slots := s0.headSlots h
  let s1 := s0.modOuter h fun o => { o with since := some 0, asked := slots, fresh := [], waiting := true, why := o.reasons, reasons := [], dim := some dim, samplePhase := o.phase }
  let s2 := slots.foldl (fun s k => sensorRead h k s) (count1 Rg.LSC_O_SMP_CNT [h] s1)
  if slots.isEmpty then outerCompute h s2 else s2

/-- A latching boundary of a mirror head (R197). -/
def outerBoundary (h : Nat) (s0 : State) : State :=
  if !s0.mirror h then s0 else
  let s := noteDim h s0
  let o := s.outerOf h
  if o.phase = 0 then s else
  let div := max 1 (if o.phase = 2 then s.fd Rg.LSC_O_CTL [h] 23 16 else s.fd Rg.LSC_O_CTL [h] 31 24)
  match o.since with
  | none => outerSample h s
  | some n => if div ≤ n + 1 then outerSample h s else s.modOuter h fun o => { o with since := some (n + 1) }

/-! ### Sensor replies (R195, R196) -/

/-- A slot's read has an outcome: a reply of 12 bytes, or none. -/
def slotOutcome (h k : Nat) (reply : Option (List Byte)) (s : State) : State :=
  let x := s.slot k
  let s0 := s.modOuter h fun o => { o with asked := o.asked.erase k }
  match reply with
  | none => s0.modSlot k fun y => { y with stale := min 255 (y.stale + 1), state := 3 }
  | some bs =>
    let b := fun i => (bs.getD i 0).toNat
    let s1 := recFor 0x21 h k (k :: (bs.take 12).map (·.toNat)) s0
    if b 0 = 0 ∧ x.seq ≠ some (b 1) then
      (s1.modSlot k fun _ => { status := 0, seq := some (b 1), stale := 0, state := 1
                               codes := (List.range 4).map fun j => b (2 * j + 2) + 256 * b (2 * j + 3) }).modOuter h
        fun o => { o with fresh := o.fresh ++ [k] }
    else s1.modSlot k fun y => { y with status := b 0, stale := min 255 (y.stale + 1), state := 2 }

/-- SENSOR_REPLY (R195, R196): the computation runs when every reply is in (R197). -/
def sensorReplyOp (k : Nat) (reply : Option (List Byte)) (s : State) : State :=
  let h := s.fd Rg.LSC_S_CFG [k] 29 28
  if !((s.outerOf h).waiting && (s.outerOf h).asked.contains k) then s else
  let s1 := slotOutcome h k reply s
  if (s1.outerOf h).asked.isEmpty then outerCompute h s1 else s1

def doSensorReply (slot : Fin 8) (reply : Option (List Byte)) (s : State) : Host.Outcome State Fault Refusal :=
  live (fun s => if s.replaying (s.fd Rg.LSC_S_CFG [slot.val] 29 28) then s else sensorReplyOp slot.val reply s) s

/-- OUTER_READ_WINDOW_EXPIRY (R197): slots without a reply are stale, and the sample is computed. -/
def readWindowOp (h : Nat) (s : State) : State :=
  if !(s.outerOf h).waiting then s else
  outerCompute h ((s.outerOf h).asked.foldl (fun s k => slotOutcome h k none s) s)

def doOuterReadWindowExpiry (h : Fin 4) (s : State) : Host.Outcome State Fault Refusal := live (readWindowOp h.val) s

/-! ### Modes (R201, R202) -/

/-- The transfer of a mode write (R201, R202): any write of AUTO presets q (assumption log 53). -/
def modeTo (h mode : Nat) (s : State) : State :=
  let ph := (s.outerOf h).phase
  let gs := s.headGroups h
  if mode = 0 then s.modOuter h fun o => { o with phase := 0, waiting := false, asked := [] }
  else if mode = 1 then
    if 2 ≤ ph then
      outerFlag h 0 (gs.foldl (fun s g => s.wr Rg.LSC_G_MAN [g] (setFld (s.rd Rg.LSC_G_MAN [g]) 19 0 (s.grp g).q))
        (s.modOuter h fun o => { o with phase := 1 }))
    else s.modOuter h fun o => { o with phase := 1 }
  else
    let s1 := gs.foldl (fun s g => s.modGrp g fun y => { y with q := s.clampQ h (s.fd Rg.LSC_G_MAN [g] 19 0) }) s
    if ph ≤ 1 then outerFlag h 0 (s1.modOuter h fun o => { o with phase := 2, settled := 0, recRun := 0 }) else s1

/-- The write of LSC_O_CTL (R197, R200, R201): the following sample is the first after a mode write. The mode 0b11 is not written (R8). -/
def outerCtlOp (h : Nat) (v : Word) (s : State) : State :=
  if !s.mirror h then s else
  let s1 := storeWrite Rg.LSC_O_CTL [h] v s
  let s3 := if fld v 1 0 = 3 then s1 else outerReason h 5 ((modeTo h (fld v 1 0) s1).modOuter h fun o => { o with since := none })
  if bit v 4 then outerRecover h s3 else s3

/-- OUTER_MODE_DIRECT (R201). -/
def doOuterModeDirect (src : Source) (h : Fin 4) (v : Word) (s : State) : Host.Outcome State Fault Refusal :=
  .next (gatedWrite src (Rg.LSC_O_CTL.at [h.val]) (setFld v 1 0 0) (outerCtlOp h.val (setFld v 1 0 0)) s)

/-- OUTER_MODE_MANUAL (R201, R202). -/
def doOuterModeManual (src : Source) (h : Fin 4) (v : Word) (s : State) : Host.Outcome State Fault Refusal :=
  .next (gatedWrite src (Rg.LSC_O_CTL.at [h.val]) (setFld v 1 0 1) (outerCtlOp h.val (setFld v 1 0 1)) s)

/-- OUTER_MODE_AUTO (R201, R202). -/
def doOuterModeAuto (src : Source) (h : Fin 4) (v : Word) (s : State) : Host.Outcome State Fault Refusal :=
  .next (gatedWrite src (Rg.LSC_O_CTL.at [h.val]) (setFld v 1 0 2) (outerCtlOp h.val (setFld v 1 0 2)) s)

/-- OUTER_TEST (R201): a write whose test is 1. -/
def doOuterTest (src : Source) (h : Fin 4) (v : Word) (s : State) : Host.Outcome State Fault Refusal :=
  .next (gatedWrite src (Rg.LSC_O_CTL.at [h.val]) (setBit v 4 true) (outerCtlOp h.val (setBit v 4 true)) s)

/-- Clears of LSC_O_CNT_CLR (R206). -/
def lscOCntClrOp (h : Nat) (v : Word) (s : State) : State :=
  if !s.mirror h then s else onBits v [(0, clearCnt Rg.LSC_O_SKIP_CNT [h]), (1, clearCnt Rg.LSC_O_SMP_CNT [h])] s

/-- LSC_O_CNT_CLR (R206). -/
def doLscOCntClr (src : Source) (h : Fin 4) (v : Word) (s : State) : Host.Outcome State Fault Refusal :=
  .next (gatedWrite src (Rg.LSC_O_CNT_CLR.at [h.val]) v (lscOCntClrOp h.val v) s)

/-- The word a report register of the outer loop reads (R206). -/
def readOuter (a : Nat) (s : State) : Option Word :=
  let off := a % 0x100000
  if 0x600 ≤ off ∧ off < 0x700 then
    let h := (off - 0x600) / 0x40
    let o := s.outerOf h
    if !s.mirror h then some 0
    else if a = Rg.LSC_O_STATUS.at [h] then some (pack [(24, o.skip), (16, o.miss), (12, o.settled), (0, o.phase)])
    else if a = Rg.LSC_O_BAL.at [h] then some (pack [(31, b2n (o.a < 65536)), (0, o.a)])
    else none
  else if 0x800 ≤ off ∧ off < 0xA00 then
    let g := (off - 0x800) / 0x20
    if a = Rg.LSC_G_Q.at [g] then some (word (s.grp g).q)
    else if a = Rg.LSC_G_MEAS.at [g] then some (word (s.grp g).m)
    else if a = Rg.LSC_G_OERR.at [g] then some (wordI (s.grp g).r)
    else none
  else if 0xC00 ≤ off ∧ off < 0x1000 then
    let k := (off - 0xC00) / 0x80
    let x := s.slot k
    if a = Rg.LSC_S_STATUS.at [k] then some (pack [(24, x.status), (16, x.seq.getD 0), (8, x.stale), (0, x.state)])
    else if a = Rg.LSC_S_RAW0.at [k] then some (pack [(16, x.codes.getD 1 0), (0, x.codes.getD 0 0)])
    else if a = Rg.LSC_S_RAW1.at [k] then some (pack [(16, x.codes.getD 3 0), (0, x.codes.getD 2 0)])
    else none
  else none

end Sys2Proof.Machine
end

