-- ==== Sys2Proof/Machine/Tim.lean ====
section
/-!
DEFINITION. TIM: the local clock, PTP domains, servo, selection and holdover, permitted steps and pulse outputs
(R302 to R319).
-/
namespace Sys2Proof.Machine

/-! ### The local clock (R305) -/

/-- Time-base ticks of 1.25 ns, and the local clock at the present tick, in 2^−32 ns. -/
def State.tick (s : State) : Nat := s.now * 5 / 8
def State.clkTick (s : State) : Int := s.tim.base + ((s.tick - s.tim.tick0) * s.tim.addend : Nat)

/-- The local clock interpolated to the core clock period. -/
def State.clkCore (s : State) : Int := s.tim.base + ((s.now * 5 - s.tim.tick0 * 8) * s.tim.addend / 8 : Nat)

/-- One second in 2^−32 ns; the clock's seconds, nanoseconds and sub-nanosecond fraction. -/
def secUnit : Nat := 1000000000 * 2 ^ 32
def clkSec (c : Int) : Nat := (c / secUnit % (2 ^ 48 : Nat)).toNat
def clkNs (c : Int) : Nat := (c % secUnit / (2 ^ 32 : Nat)).toNat
def clkFrac (c : Int) : Nat := (c % (2 ^ 32 : Nat) / 65536).toNat

/-- The nominal addend, 1.25 ns (R305). -/
def addendNominal : Nat := 5368709120

/-- Changes of TIM and of a domain. -/
def State.dom (s : State) (d : Nat) : TimDom := s.tim.doms.get {} d
def State.modDom (s : State) (d : Nat) (f : TimDom → TimDom) : State := { s with tim := { s.tim with doms := s.tim.doms.upd {} d f } }
def State.out (s : State) (k : Nat) : PulseOut := s.tim.outs.get {} k
def State.modOut (s : State) (k : Nat) (f : PulseOut → PulseOut) : State := { s with tim := { s.tim with outs := s.tim.outs.upd {} k f } }

/-- The clock goes on from the present tick with another addend. -/
def setAddend (a : Nat) (s : State) : State := { s with tim := { s.tim with base := s.clkTick, tick0 := s.tick, addend := a } }

/-- The steer in force (R311). -/
def State.steerForce (s : State) : Int := (addendNominal : Int) - s.tim.addend

/-! ### Settings -/

/-- step_thr, agree_ns, path_thr, hold-off and slew limit as they act (R319). -/
def State.stepThr (s : State) : Nat := max 1000 (s.rd Rg.TIM_STEP_THR).toNat
def State.agreeNs (s : State) : Nat := max 1 (s.fd Rg.TIM_LIMITS [] 31 16)
def State.slewPpm (s : State) : Nat := clampN 1 1000 (s.fd Rg.TIM_LIMITS [] 15 0)
def State.pathThr (s : State) (d : Nat) : Nat := max 1 (s.fd Rg.TIM_D_PATH [d] 15 0)
def State.holdoffS (s : State) (d : Nat) : Nat := max 1 (s.fd Rg.TIM_D_PATH [d] 23 16)
def State.primaryDom (s : State) : Nat := s.fd Rg.TIM_CTL [] 29 29
def State.timAsym (s : State) (d : Nat) : Int := sext 32 (s.rd Rg.TIM_D_ASYM [d]).toNat

/-- Whether a domain is consistent (R313). -/
def State.consistent (s : State) (d : Nat) : Bool := (s.dom d).state == 3 && decide ((s.dom d).o.natAbs ≤ s.agreeNs)

/-! ### Events and states (R310, R313, R318) -/

/-- Sets a sticky flag of TIM with its FLAG record. -/
def timFlag (b unit : Nat) (s : State) : State :=
  raiseFlag 15 unit Rg.TIM_FLAGS.at b 0 (s.wr Rg.TIM_FLAGS [] (setBit (s.rd Rg.TIM_FLAGS) b true))

/-- A domain's state changes (R310): the flag and count of an entry into SUSPECT or of a path event come first. -/
def domTo (d st : Nat) (s : State) : State :=
  let prev := (s.dom d).state
  if prev = st then s else
  let s1 := s.modDom d fun x => { x with state := st }
  let s2 := if st = 4 then timFlag 2 d (count1 Rg.TIM_D_SUSPECT_CNT [d] (s1.modDom d fun x => { x with good := 0 }))
    else if st = 5 then
      timFlag 1 d (count1 Rg.TIM_D_PATH_CNT [d] (s1.modDom d fun x => { x with holdEnd := s.now + s.holdoffS d * 1280000000 }))
    else s1
  raiseState 15 d (Rg.TIM_D_STATUS.at [d]) prev 0 s2

/-- A domain takes over (R311, R313): its acc is preset so that the steer stays what it is. -/
def takeOver (d : Nat) (s : State) : State :=
  let ki := s.fd Rg.TIM_SERVO_KI [] 23 0
  let sf := s.steerForce
  let s1 := s.modDom d fun x => { x with acc := if ki = 0 then 0 else rnd (sf * 65536) ki, s := sf }
  { s1 with tim := { s1.tim with sel := d, state := 1 } }

/-- A switch of the selected domain: flag, count and one event (R313). -/
def switchTo (d : Nat) (s : State) : State := timFlag 4 noUnit (count1 Rg.TIM_SWITCH_CNT [] (takeOver d s))

/-! ### Pulse outputs at a step (R316) -/

/-- How many targets from `t` on, with a period, lie at or before `new`. -/
def targetsUpTo (t new : Int) (period : Nat) : Nat :=
  if new < t then 0 else if period = 0 then 1 else ((new - t) / period).toNat + 1

/-- One output over a forward step. -/
def skipTargets (k : Nat) (new : Int) (s : State) : State :=
  let x := s.out k
  match x.next with
  | none => s
  | some t =>
    let n := targetsUpTo t new x.period
    if !x.on || n = 0 then s else
    timFlag 5 k (s.modOut k fun x => { x with
      missed := min 65535 (x.missed + n)
      next := if x.period = 0 then none else some (t + (n * x.period : Nat)) })

/-- A step of the clock by −o ns (R306). -/
def stepClock (o : Int) (s : State) : State :=
  let new := s.clkTick - o * (2 ^ 32 : Nat)
  let s1 := { s with tim := { s.tim with base := new, tick0 := s.tick, stepDone := true, stepTick := some s.tick } }
  let s2 := raiseReport 15 noUnit Rg.TIM_STATUS.at (uint 32 (clampI (-(2 ^ 31)) (2 ^ 31 - 1) o)) 0 s1
  if o < 0 then (List.range 8).foldl (fun s k => skipTargets k new s) s2 else s2

/-- A step after which a domain is selected, with its acc preset to 0 at its first update (R306, R311, R314). -/
def stepAndSelect (d : Nat) (s : State) : State :=
  let s1 := stepClock (s.dom d).o s
  let s2 := s1.modDom d fun x => { x with acc := 0, s := s1.steerForce }
  { s2 with tim := { s2.tim with sel := d, state := 1 } }

/-! ### Selection (R313) -/

/-- What the clock state makes of the domain states. -/
def timSelect (s : State) : State :=
  let t := s.tim
  if t.state = 1 then
    if (s.dom t.sel).state = 3 then s
    else if s.consistent (1 - t.sel) then switchTo (1 - t.sel) s
    else timFlag 3 noUnit { s with tim := { t with state := 2 } }
  else
    let order := [s.primaryDom, 1 - s.primaryDom]
    if t.state = 2 then
      match order.find? fun d => (s.dom d).state == 3 && decide ((s.dom d).o.natAbs ≤ s.stepThr) with
      | some d => if d = t.sel then takeOver d s else switchTo d s
      | none => s
    else match order.find? fun d => (s.dom d).state == 3 with
      | some d => stepAndSelect d s
      | none => s

/-- The offset of a pair of domain d (R309), in whole ns. -/
def State.offsetOf (s : State) (d : Nat) (p : TimPair) : Int := rnd (p.t2 - p.t1) 65536 - p.cs - (s.dom d).mpd - s.timAsym d

/-- Whether an offset that SLAVE rejects makes the domain SUSPECT (R310). -/
def suspectCheck (d : Nat) (s : State) : State :=
  if (s.dom d).state = 3 && s.tim.stepDone && decide (s.stepThr < (s.dom d).o.natAbs) then domTo d 4 s else s

/-- UNCALIBRATED ends after 4 exchanges and 4 pairs (R309, R310): mpd_ref is formed, and the first offset. In FREE_RUN this is
the initial step. -/
def calibrated (d : Nat) (s : State) : State :=
  let x := s.dom d
  if x.state = 2 && decide (4 ≤ x.delays.length) && decide (4 ≤ x.pairs) then
    let s1 := s.modDom d fun x => { x with mpd := rnd ((x.delays.take 4).sum) 4, pathN := 0 }
    let s2 := match x.pair with
      | some p => s1.modDom d fun y => { y with o := s1.offsetOf d p }
      | none => s1
    let s3 := domTo d 3 s2
    timSelect (suspectCheck d s3)
  else s

/-! ### Offsets (R310, R311, R314) -/

/-- The step domain (R314). -/
def State.stepDomain? (s : State) : Option Nat :=
  if s.tim.state = 1 then some s.tim.sel
  else if s.tim.state = 2 then
    [s.primaryDom, 1 - s.primaryDom].find? fun d => (s.dom d).state == 3 || (s.dom d).state == 4
  else none

/-- The servo of a domain fed its offset (R311); the selected domain sets the addend in TRACKING. -/
def servo (d : Nat) (s : State) : State :=
  let x := s.dom d
  let acc := clampI (-(2 ^ 40)) (2 ^ 40) (x.acc + x.o)
  let raw := rnd (x.o * s.fd Rg.TIM_SERVO_KP [] 23 0 + acc * s.fd Rg.TIM_SERVO_KI [] 23 0) 65536
  let lim : Int := s.slewPpm * 5369
  let st := clampI (-lim) lim raw
  let s1 := s.modDom d fun y => { y with acc := acc, s := st }
  if s.tim.state = 1 ∧ s.tim.sel = d then setAddend ((addendNominal : Int) - st).toNat s1 else s1

/-- What a formed offset does: state changes and the selection come before the servo (R318), and an offset formed while deviant
exchanges are counted is not steered (R311, the chapter's example). -/
def takeOffset (d : Nat) (s : State) : State :=
  let x := s.dom d
  let big := decide (s.stepThr < x.o.natAbs)
  let armedHere := s.tim.armed && s.stepDomain? == some d
  let s0 := if armedHere then { s with tim := { s.tim with armed := false } } else s
  if armedHere && big then stepAndSelect d (domTo d 3 s0)
  else if x.state = 3 then
    if big then timSelect (domTo d 4 s0)
    else
      let s1 := timSelect s0
      if x.pathN = 0 then servo d s1 else s1
  else if x.state = 4 then
    if big then s0.modDom d fun y => { y with good := 0 }
    else if x.good + 1 < 4 then s0.modDom d fun y => { y with good := y.good + 1 }
    else timSelect (domTo d 3 s0)
  else s0

/-- A completed pair (R309). -/
def pairDone (d : Nat) (p : TimPair) (s : State) : State :=
  let s1 := s.modDom d fun x => { x with pair := some p, pairs := x.pairs + 1 }
  if (s.dom d).state = 2 then calibrated d s1
  else if 3 ≤ (s.dom d).state then takeOffset d (s1.modDom d fun x => { x with o := s1.offsetOf d p })
  else s1

/-- A completed delay exchange (R309, R312). A path event in the tick of a step of its domain counts from the next exchange (R318). -/
def delayDone (d : Nat) (raw : Int) (s : State) : State :=
  let x := s.dom d
  let s1 := s.modDom d fun x => { x with raws := (x.raws ++ [raw]).drop (x.raws.length + 1 - 8) }
  if x.state = 2 then calibrated d (s1.modDom d fun x => { x with delays := x.delays ++ [raw] })
  else if x.state = 3 then
    if (raw - x.mpd).natAbs ≤ s.pathThr d then
      s1.modDom d fun x => { x with mpd := x.mpd + rnd (raw - x.mpd) 16, pathN := 0 }
    else
      let up := decide (x.mpd < raw)
      let n := if x.pathN ≠ 0 ∧ up = x.pathUp then x.pathN + 1 else 1
      let s2 := s1.modDom d fun x => { x with pathN := n, pathUp := up }
      if n < 8 then s2
      else if s.tim.stepTick = some s.tick ∧ s.tim.sel = d then s1.modDom d fun x => { x with pathN := 0 }
      else timSelect (domTo d 5 s2)
  else s1

/-! ### Masters (R309, R310) -/

/-- 2^k seconds in core clock periods. -/
def logSec (k : Int) : Nat := if 0 ≤ k then 1280000000 * 2 ^ k.toNat else 1280000000 / 2 ^ (-k).toNat

/-- Whether data set a is better than b: of one grandmaster, fewer steps removed, then the lower sender; else the fields in
turn, lower first. -/
def Foreign.better (a b : Foreign) : Bool :=
  let key := fun (f : Foreign) => if a.gm = b.gm then [f.steps, f.source] else [f.p1, f.cls, f.acc, f.var, f.p2, f.gm]
  match ((key a).zip (key b)).find? fun x => x.1 != x.2 with
  | some x => decide (x.1 < x.2)
  | none => false

/-- Whether a foreign master qualifies: 2 Announce messages within 4 announce intervals. -/
def Foreign.qualified (now : Nat) (f : Foreign) : Bool :=
  decide (2 ≤ (f.times.filter fun t => decide (now ≤ t + 4 * logSec f.interval)).length)

/-- The best of the qualified foreign masters. -/
def bestMaster (now : Nat) (fs : List Foreign) : Option Foreign :=
  (fs.filter (Foreign.qualified now)).foldl (fun b f =>
    match b with
    | none => some f
    | some g => if f.better g then some f else some g) none

/-- An Announce kept in the foreign master list, of at most 8; stale entries go (R309). -/
def noteForeign (now : Nat) (m : PtpMsg) (fs : List Foreign) : List Foreign :=
  let old := ((fs.find? fun f => f.source == m.source).map (·.times)).getD []
  let f : Foreign := { source := m.source, times := (old ++ [now]).drop (old.length + 1 - 4), interval := m.interval,
                       p1 := m.p1, cls := m.cls, acc := m.acc, var := m.var, p2 := m.p2, gm := m.gm, steps := m.steps }
  if fs.any fun g => g.source == m.source then fs.map fun g => if g.source = m.source then f else g
  else
    let live := fs.filter fun g => g.times.any fun t => decide (now ≤ t + 4 * logSec g.interval)
    if live.length < 8 then live ++ [f] else live

/-- A domain gets another master: UNCALIBRATED, with nothing measured yet (R310). -/
def newMaster (d : Nat) (f : Foreign) (s : State) : State :=
  let s1 := s.modDom d fun x => { x with
    master := some f.source, gm := f.gm, syncs := [], pair := none, raws := [], delays := [], pairs := 0, pathN := 0, good := 0 }
  timSelect (domTo d 2 s1)

/-- The domain's choice of master after an Announce. -/
def chooseMaster (d : Nat) (s : State) : State :=
  let x := s.dom d
  match bestMaster s.now x.foreign with
  | none => s
  | some f => if x.master = some f.source then s.modDom d fun x => { x with gm := f.gm } else newMaster d f s

/-- The master is lost (R310). -/
def loseMaster (d : Nat) (drop : Bool) (s : State) : State :=
  let x := s.dom d
  if x.state = 0 then s else
  let s1 := s.modDom d fun y => { y with
    master := none, syncs := [], foreign := if drop then y.foreign.filter fun f => some f.source != x.master else y.foreign }
  timSelect (domTo d 1 s1)

/-! ### Messages (R303, R304, R307 to R309) -/

/-- A frame or message is discarded and counted (R303). -/
def discardFrame (s : State) : State := count1 Rg.TIM_RX_DISCARD_CNT [] s

/-- clockIdentity and portNumber 1 (R304). -/
def State.ownPort (s : State) : Nat := ((s.rd Rg.TIM_CLKID_HI).toNat * 2 ^ 32 + (s.rd Rg.TIM_CLKID_LO).toNat) * 65536 + 1

/-- The MAC address and the IPv6 address of the port (R319). -/
def State.macAddr (s : State) : Nat := s.fd Rg.TIM_MAC_HI [] 15 0 * 2 ^ 32 + (s.rd Rg.TIM_MAC_LO).toNat
def State.ipv6Addr (s : State) : Nat := (List.range 4).foldl (fun a w => a * 2 ^ 32 + (s.rd Rg.TIM_IPV6 [w]).toNat) 0

/-- FF02::181 and FF0E::181, the PTP groups over IPv6 of link-local and of global scope. -/
def ptpLocal : Nat := 0xFF02 * 2 ^ 112 + 0x181
def ptpGlobal : Nat := 0xFF0E * 2 ^ 112 + 0x181

/-- The transport of a frame that the port accepts (R303): a right FCS, the tag that the port asks for, and a row of the table. -/
def State.frameTransport? (s : State) (e : EthHead) : Option Nat :=
  let udp := e.port == 319 || e.port == 320
  if !e.fcs || e.tags != s.tim.vlan.toList then none
  else if e.etype = 0x88F7 then if e.dest = 0x011B19000000 ∨ e.dest = s.macAddr then some 0 else none
  else if e.etype = 0x0800 then
    if (e.ipDest = 0xE0000181 ∨ e.ipDest = (s.rd Rg.TIM_IPV4).toNat) ∧ e.ihl = 5 ∧ !e.frag ∧ udp then some 1 else none
  else if e.etype = 0x86DD then
    if (e.ipDest = ptpLocal ∨ e.ipDest = ptpGlobal ∨ e.ipDest = s.ipv6Addr) ∧ !e.ext ∧ udp then some 2 else none
  else none

/-- The enabled domain whose number and transport a message matches (R304); of two that both do, the one the command names. -/
def State.msgDomain? (s : State) (d : Nat) (m : PtpMsg) : Option Nat :=
  match s.frameTransport? m.frame with
  | none => none
  | some t => [d, 1 - d].find? fun k => (s.dom k).state != 0 && (s.dom k).dnum == m.dnum && (s.dom k).transport == t

/-- A message in an accepted frame is processed by its domain only with versionPTP 2 and minorVersionPTP 0 or 1 (R303, R304);
otherwise it is discarded. A port that is off or without link receives nothing. -/
def onMessage (d : Nat) (m : PtpMsg) (ok : Bool) (f : Nat → State → State) (s : State) : State :=
  if !(s.tim.run && s.tim.link) || s.absent 15 then s
  else match s.msgDomain? d m with
    | some k => if m.version = 2 && decide (m.minor ≤ 1) && ok then f k s else discardFrame s
    | none => discardFrame s

/-- The IPv6 group on which a Sync arrived: FF02::181 or FF0E::181. One that came to the port's own address names none. -/
def groupOf (old : Nat) (e : EthHead) : Nat :=
  if e.etype ≠ 0x86DD then old else if e.ipDest = ptpLocal then 0 else if e.ipDest = ptpGlobal then 1 else old

/-- SYNC_RECEIVE (R304, R307, R309): two-step; t2 is the local clock less rx_lat. -/
def syncOp (d : Nat) (m : PtpMsg) (s : State) : State :=
  if (s.dom d).master ≠ some m.source then s else
  let t2 := s.clkTick / 65536 - (s.fd Rg.TIM_LAT [] 15 0 * 65536 : Nat)
  s.modDom d fun x => { x with
    group := groupOf x.group m.frame
    syncs := (x.syncs.filter fun w => decide (s.now ≤ w.at' + 1280000000) && w.seq != m.seq) ++
      [{ seq := m.seq, t2 := t2, corr := m.corr, at' := s.now }] }

def doSyncReceive (d : Fin 2) (m : PtpMsg) (s : State) : Host.Outcome State Fault Refusal :=
  live (onMessage d.val m m.twoStep (fun k => syncOp k m)) s

/-- FOLLOW_UP_RECEIVE (R309): it completes the pair of its Sync, within 1 s. -/
def followUpOp (d : Nat) (m : PtpMsg) (s : State) : State :=
  let x := s.dom d
  if x.master ≠ some m.source then s else
  match x.syncs.find? fun w => w.seq == m.seq && decide (s.now ≤ w.at' + 1280000000) with
  | none => s
  | some w =>
    pairDone d { t1 := (m.sec * 1000000000 + m.ns : Nat) * 65536, t2 := w.t2, cs := rnd (w.corr + m.corr) 65536 }
      (s.modDom d fun x => { x with syncs := x.syncs.filter fun v => v.seq != m.seq })

def doFollowUpReceive (d : Fin 2) (m : PtpMsg) (s : State) : Host.Outcome State Fault Refusal :=
  live (onMessage d.val m true (fun k => followUpOp k m)) s

/-- ANNOUNCE_RECEIVE (R309, R310). -/
def announceOp (d : Nat) (m : PtpMsg) (s : State) : State :=
  if m.source / 65536 = s.ownPort / 65536 ∨ 255 ≤ m.steps then s else
  chooseMaster d (s.modDom d fun x => { x with foreign := noteForeign s.now m x.foreign })

def doAnnounceReceive (d : Fin 2) (m : PtpMsg) (s : State) : Host.Outcome State Fault Refusal :=
  live (onMessage d.val m true (fun k => announceOp k m)) s

/-- DELAY_RESP_RECEIVE (R304, R308, R309): the queue entry leaves; an exchange without an entry, or whose t3 had no pair before
it, yields no path delay. -/
def delayRespOp (d : Nat) (m : PtpMsg) (s : State) : State :=
  if (s.dom d).master ≠ some m.source then s else
  match s.tim.tsq.find? fun e => e.dom == d && e.seq == m.seq with
  | none => s
  | some e =>
    let s1 := { s with tim := { s.tim with tsq := s.tim.tsq.erase e } }
    match e.pair with
    | none => s1
    | some p =>
      let t4 : Int := (m.sec * 1000000000 + m.ns : Nat) * 65536
      delayDone d (rnd ((p.t2 - p.t1) + (t4 - e.t3) - (p.cs + rnd m.corr 65536) * 65536) 131072) s1

def doDelayRespReceive (d : Fin 2) (m : PtpMsg) (s : State) : Host.Outcome State Fault Refusal :=
  live (onMessage d.val m (m.requesting == s.ownPort) (fun k => delayRespOp k m)) s

/-- ETH_FRAME_DISCARD (R302, R303): a frame that carries no such message, a pause frame among them. -/
def execEthFrameDiscard (s : State) : Host.Outcome State Fault Refusal :=
  live (fun s => if s.tim.run && s.tim.link && !s.absent 15 then discardFrame s else s) s

/-! ### Delay_Req (R303, R308, R309) -/


/-- The one's complement sum of 16-bit words, folded and inverted. -/
def onesSum (bs : List Byte) : Nat :=
  let pairs := (List.range ((bs.length + 1) / 2)).map fun i => (bs.getD (2 * i) 0).toNat * 256 + (bs.getD (2 * i + 1) 0).toNat
  let t := pairs.sum
  let f := t % 65536 + t / 65536
  65535 - (f % 65536 + f / 65536)

/-- The 44 bytes of a Delay_Req. -/
def State.delayReq (s : State) (dnum seq : Nat) : List Byte :=
  [0x01#8, 0x12#8] ++ bytesBE 44 2 ++ [BitVec.ofNat 8 dnum, 0#8] ++ List.replicate 14 0#8 ++ bytesBE s.ownPort 10 ++
  bytesBE seq 2 ++ [0x01#8, 0x7F#8] ++ List.replicate 10 0#8

/-- An Ethernet frame to a destination, tagged as the port says (R303). -/
def State.ethFrame (s : State) (dest : Nat) (etype : Nat) (body : List Byte) : List Byte :=
  let tag := match s.tim.vlan with
    | some v => bytesBE 0x8100 2 ++ bytesBE (7 * 8192 + v) 2
    | none => []
  bytesBE dest 6 ++ bytesBE (s.fd Rg.TIM_MAC_HI [] 15 0) 2 ++ bytesBE (s.rd Rg.TIM_MAC_LO).toNat 4 ++ tag ++ bytesBE etype 2 ++ body

/-- A UDP header to port 319. -/
def udpHeader (len sum : Nat) : List Byte := bytesBE 319 2 ++ bytesBE 319 2 ++ bytesBE (8 + len) 2 ++ bytesBE sum 2

/-- The frame that carries an event message of a domain to the group on which its last Sync arrived (R303). -/
def State.ptpFrame (s : State) (transport group : Nat) (msg : List Byte) : List Byte :=
  if transport = 0 then s.ethFrame 0x011B19000000 0x88F7 msg
  else if transport = 1 then
    let src := bytesBE (s.rd Rg.TIM_IPV4).toNat 4
    let dst := [224#8, 0#8, 1#8, 129#8]
    let head := fun c => [0x45#8, 0#8] ++ bytesBE (28 + msg.length) 2 ++ [0#8, 0#8, 0#8, 0#8, 64#8, 17#8] ++ bytesBE c 2 ++ src ++ dst
    s.ethFrame 0x01005E000181 0x0800 (head (onesSum (head 0)) ++ udpHeader msg.length 0 ++ msg)
  else
    let src := (List.range 4).flatMap fun w => bytesBE (s.rd Rg.TIM_IPV6 [w]).toNat 4
    let dst := [0xFF#8, if group = 0 then 0x02#8 else 0x0E#8] ++ List.replicate 12 0#8 ++ [0x01#8, 0x81#8]
    let c := onesSum (src ++ dst ++ bytesBE (8 + msg.length) 4 ++ bytesBE 17 4 ++ udpHeader msg.length 0 ++ msg)
    s.ethFrame 0x333300000181 0x86DD
      ([0x60#8, 0#8, 0#8, 0#8] ++ bytesBE (8 + msg.length) 2 ++ [17#8, 64#8] ++ src ++ dst ++
        udpHeader msg.length (if c = 0 then 65535 else c) ++ msg)

/-- DELAY_REQ_SEND (R307 to R309): the timestamp is the local clock plus tx_lat; with 16 entries waiting it is dropped. -/
def delayReqOp (d : Nat) (s : State) : State :=
  let x := s.dom d
  if x.state < 2 || !(s.tim.run && s.tim.link) then s else
  let t3 := s.clkTick / 65536 + (s.fd Rg.TIM_LAT [] 31 16 * 65536 : Nat)
  let s1 := emit (.eth (s.ptpFrame x.transport x.group (s.delayReq x.dnum x.nextSeq)))
    (s.modDom d fun x => { x with nextSeq := (x.nextSeq + 1) % 65536 })
  if 16 ≤ s.tim.tsq.length then
    count1 Rg.TIM_TSQ_DROP_CNT [] (s1.wr Rg.TIM_FLAGS [] (setBit (s1.rd Rg.TIM_FLAGS) 6 true))
  else { s1 with tim := { s1.tim with tsq := s1.tim.tsq ++ [{ dom := d, seq := x.nextSeq, t3 := t3, pair := x.pair }] } }

def execDelayReqSend (d : Fin 2) (s : State) : Host.Outcome State Fault Refusal := live (delayReqOp d.val) s

/-- TSQ_ENTRY_EXPIRY (R308): the oldest entry leaves. -/
def execTsqEntryExpiry (s : State) : Host.Outcome State Fault Refusal :=
  live (fun s => { s with tim := { s.tim with tsq := s.tim.tsq.drop 1 } }) s

/-- ANNOUNCE_TIMEOUT (R310): 3 announce intervals without an Announce from the master. -/
def doAnnounceTimeout (d : Fin 2) (s : State) : Host.Outcome State Fault Refusal := live (loseMaster d.val true) s

/-- SYNC_PAIR_TIMEOUT (R310): 4 Sync intervals without a completed pair. -/
def doSyncPairTimeout (d : Fin 2) (s : State) : Host.Outcome State Fault Refusal := live (loseMaster d.val false) s

/-- PATH_HOLDOFF_EXPIRY (R312): mpd_ref is the mean of the last 8 exchanges. -/
def holdoffOp (d : Nat) (s : State) : State :=
  let x := s.dom d
  if x.state ≠ 5 then s
  else timSelect (domTo d 3 (s.modDom d fun x => { x with mpd := rnd x.raws.sum (max 1 x.raws.length), pathN := 0 }))

def doPathHoldoffExpiry (d : Fin 2) (s : State) : Host.Outcome State Fault Refusal := live (holdoffOp d.val) s

/-- REVERT_TIMER (R313): the primary domain has been consistent for revert_s. -/
def revertOp (s : State) : State :=
  let p := s.primaryDom
  if s.tim.state = 1 && bit (s.rd Rg.TIM_CTL) 30 && s.tim.sel != p && s.consistent p then switchTo p s else s

def doRevertTimer (s : State) : Host.Outcome State Fault Refusal := live revertOp s

/-! ### Register writes (R302, R310, R314, R315, R319) -/

/-- A write of TIM_CTL: eth, vlan_en and vid are read when en goes from 0 to 1, and a 1000BASE-X port then advertises full duplex
with no pause; a port that stops has no link (R302). -/
def timCtlOp (v : Word) (s : State) : State :=
  let s1 := storeWrite Rg.TIM_CTL [] v s
  let w := s1.rd Rg.TIM_CTL
  if bit w 31 && !s.tim.run then
    let vid := fld w 11 0
    let s2 := { s1 with tim := { s1.tim with run := true, eth := fld w 25 24
                                             vlan := if bit w 16 ∧ vid ≠ 0 ∧ vid ≠ 0xFFF then some vid else none } }
    if fld w 25 24 = 1 then emit (.ethAdvertise true false) s2 else s2
  else if !bit w 31 then { s1 with tim := { s1.tim with run := false, link := false } } else s1

/-- TIM_PORT_ENABLE (R302): a write whose en is 1. -/
def doTimPortEnable (src : Source) (v : Word) (s : State) : Host.Outcome State Fault Refusal :=
  .next (gatedWrite src Rg.TIM_CTL.at (setBit v 31 true) (timCtlOp (setBit v 31 true)) s)

/-- ETH_LINK_CHANGE (R302): the link is up when the PHY or the negotiation reports 1000 Mb/s full duplex. An SGMII control word
with another mode also sets eth_speed. -/
def linkChangeOp (up supported : Bool) (s : State) : State :=
  if !s.tim.run then s else
  let s1 := if up && !supported && s.tim.eth = 0 then s.wr Rg.TIM_FLAGS [] (setBit (s.rd Rg.TIM_FLAGS) 0 true) else s
  { s1 with tim := { s1.tim with link := up && supported } }

def execEthLinkChange (up supported : Bool) (s : State) : Host.Outcome State Fault Refusal := live (linkChangeOp up supported) s

/-- A write of TIM_STEP_PERMIT (R314): a disarm in the same word clears what arm sets. -/
def stepPermitOp (v : Word) (s : State) : State :=
  { s with tim := { s.tim with armed := (s.tim.armed || bit v 0) && !bit v 1 } }

/-- STEP_ARM (R314). -/
def doStepArm (src : Source) (s : State) : Host.Outcome State Fault Refusal :=
  .next (gatedWrite src Rg.TIM_STEP_PERMIT.at 1 (stepPermitOp 1) s)

/-- STEP_DISARM (R314). -/
def doStepDisarm (src : Source) (s : State) : Host.Outcome State Fault Refusal :=
  .next (gatedWrite src Rg.TIM_STEP_PERMIT.at 2 (stepPermitOp 2) s)

/-- A write of TIM_D_CTL (R310, R319): transport and number are read as en goes from 0 to 1. -/
def domCtlOp (d : Nat) (v : Word) (s : State) : State :=
  let s1 := storeWrite Rg.TIM_D_CTL [d] v s
  let w := s1.rd Rg.TIM_D_CTL [d]
  let x := s.dom d
  if bit w 31 && x.state == 0 then
    domTo d 1 (s1.modDom d fun x => { x with
      transport := fld w 27 26, dnum := fld w 15 8, foreign := [], master := none, syncs := [], pair := none, raws := [], delays := []
      pairs := 0, pathN := 0, good := 0 })
  else if !bit w 31 && x.state != 0 then
    timSelect (domTo d 0 (s1.modDom d fun x => { x with foreign := [], master := none, syncs := [] }))
  else s1

/-- DOMAIN_ENABLE (R310): a write whose en is 1. -/
def doDomainEnable (src : Source) (d : Fin 2) (v : Word) (s : State) : Host.Outcome State Fault Refusal :=
  .next (gatedWrite src (Rg.TIM_D_CTL.at [d.val]) (setBit v 31 true) (domCtlOp d.val (setBit v 31 true)) s)

/-- DOMAIN_DISABLE (R310): a write whose en is 0. -/
def doDomainDisable (src : Source) (d : Fin 2) (v : Word) (s : State) : Host.Outcome State Fault Refusal :=
  .next (gatedWrite src (Rg.TIM_D_CTL.at [d.val]) (setBit v 31 false) (domCtlOp d.val (setBit v 31 false)) s)

/-- The first target of an output armed now, given its start (R315): targets already past are skipped. -/
def firstTarget (now start : Int) (period : Nat) : Option Int :=
  if now ≤ start then some start
  else if period = 0 then none else some (start + ((now - start + period - 1) / period) * period)

/-- The width of an active pulse in ticks (R315, R319). -/
def pulseTicks (periodNs width : Nat) : Nat :=
  let w := if periodNs ≠ 0 ∧ periodNs ≤ width then periodNs / 2 else width
  max 1 (ceilDiv (w * 4) 5)

/-- A write of TIM_P_CTL (R315): the fields are read as en goes from 0 to 1; en = 0 holds the output inactive. -/
def pulseCtlOp (k : Nat) (v : Word) (s : State) : State :=
  let s1 := storeWrite Rg.TIM_P_CTL [k] v s
  if bit v 31 then
    if (s.out k).on then s1 else
    let now := s.clkTick
    let p0 := (s.rd Rg.TIM_P_PERIOD [k]).toNat
    let per := if p0 = 0 then 0 else max 100 p0
    let hi := clkSec now / 2 ^ 32 * 2 ^ 32
    let start : Int := ((hi + (s.rd Rg.TIM_P_SEC [k]).toNat) * secUnit + s.fd Rg.TIM_P_NS [k] 29 0 * 2 ^ 32 : Nat)
    s1.modOut k fun x => { x with
      on := true, next := firstTarget now start (per * 2 ^ 32), period := per * 2 ^ 32
      width := pulseTicks per (s.rd Rg.TIM_P_WIDTH [k]).toNat }
  else s1.modOut k fun x => { x with on := false, next := none, active := false }

/-- PULSE_OUTPUT_ENABLE (R315): a write whose en is 1. -/
def doPulseOutputEnable (src : Source) (k : Fin 8) (v : Word) (s : State) : Host.Outcome State Fault Refusal :=
  .next (gatedWrite src (Rg.TIM_P_CTL.at [k.val]) (setBit v 31 true) (pulseCtlOp k.val (setBit v 31 true)) s)

/-- The level of a pulse output's pin (R315): pol selects the active level. -/
def State.pulsePin (s : State) (k : Nat) : Bool := (s.out k).active != bit (s.rd Rg.TIM_P_CTL [k]) 30

/-- PULSE_OUTPUT_FIRE (R315): the clock has reached the target; the next lies one period later. -/
def pulseFireOp (k : Nat) (s : State) : State :=
  let x := s.out k
  match x.next with
  | none => s
  | some t => if x.on && decide (t ≤ s.clkTick) then s.modOut k fun x => { x with active := true, next := if x.period = 0 then none else some (t + x.period) } else s

def doPulseOutputFire (k : Fin 8) (s : State) : Host.Outcome State Fault Refusal := live (pulseFireOp k.val) s

/-- PULSE_WIDTH_END (R315). -/
def doPulseWidthEnd (k : Fin 8) (s : State) : Host.Outcome State Fault Refusal :=
  live (fun s => s.modOut k.val fun x => { x with active := false }) s

/-- Clears of TIM_CNT_CLR (R319). -/
def timCntClrOp (v : Word) (s : State) : State :=
  onBits v [(0, clearCnt Rg.TIM_TSQ_DROP_CNT []), (1, clearCnt Rg.TIM_RX_DISCARD_CNT []), (2, clearCnt Rg.TIM_SWITCH_CNT []),
    (3, fun s => (List.range 2).foldl (fun s d => clearCnt Rg.TIM_D_PATH_CNT [d] (clearCnt Rg.TIM_D_SUSPECT_CNT [d] s)) s),
    (4, fun s => (List.range 8).foldl (fun s k => s.modOut k fun x => { x with missed := 0 }) s)] s

/-- TIM_CNT_CLR (R319). -/
def doTimCntClr (src : Source) (v : Word) (s : State) : Host.Outcome State Fault Refusal :=
  .next (gatedWrite src Rg.TIM_CNT_CLR.at v (timCntClrOp v) s)

/-! ### Reads (R319) -/

/-- A read of TIM_TIME_NS captures the other words of the clock; one of TIM_ADDEND_LO captures HI. -/
def timCapture (addend : Bool) (s : State) : State :=
  if addend then { s with tim := { s.tim with capAdd := s.tim.addend / 2 ^ 32 } }
  else
    let c := s.clkTick
    { s with tim := { s.tim with capSecLo := clkSec c % 2 ^ 32, capSecHi := clkSec c / 2 ^ 32, capFrac := clkFrac c } }

/-- An integer as a 32-bit word in two's complement, saturating. -/
def satWord (i : Int) : Word := wordI (clampI (-(2 ^ 31)) (2 ^ 31 - 1) i)

/-- The word a report register of a domain reads. -/
def readDom (d off : Nat) (s : State) : Option Word :=
  let x := s.dom d
  if off = 0x4 then
    some (pack [(16, x.pathN), (8, if x.state = 5 then min 255 (ceilDiv (x.holdEnd - s.now) 1280000000) else 0), (0, x.state)])
  else if off = 0x10 then some (satWord x.o)
  else if off = 0x14 then some (satWord x.mpd)
  else if off = 0x18 then some (satWord x.s)
  else if off = 0x1C then some (word (x.gm / 2 ^ 32))
  else if off = 0x20 then some (word x.gm)
  else none

/-- The word a report register of TIM reads (R319). -/
def readTim (a : Nat) (s : State) : Option Word :=
  let t := s.tim
  if a = Rg.TIM_STATUS.at then
    some (pack [(31, b2n t.stepDone), (30, b2n t.armed), (17, b2n t.link), (16, t.sel), (8, t.tsq.length), (0, t.state)])
  else if a = Rg.TIM_TIME_NS.at then some (word (clkNs s.clkTick))
  else if a = Rg.TIM_TIME_SEC_LO.at then some (word t.capSecLo)
  else if a = Rg.TIM_TIME_SEC_HI.at then some (word t.capSecHi)
  else if a = Rg.TIM_TIME_FRAC.at then some (word t.capFrac)
  else if a = Rg.TIM_ADDEND_LO.at then some (word t.addend)
  else if a = Rg.TIM_ADDEND_HI.at then some (word t.capAdd)
  else
    let off := a % 0x100000
    if 0x200 ≤ off ∧ off < 0x280 then readDom ((off - 0x200) / 0x40) ((off - 0x200) % 0x40) s
    else match Rg.TIM_P_STATUS.ixOf a with
      | some [k] => some (pack [(16, (s.out k).missed), (0, b2n (s.out k).active)])
      | _ => none

end Sys2Proof.Machine
end

