-- ==== Sys2Proof/Machine/Tgn.lean ====
section
/-!
DEFINITION. TGN: commits, head states, boundaries, transitions, genlock, retires, breaches, freeboard and CRC checks (R97 to
R115).
-/
namespace Sys2Proof.Machine

/-! ### Flags and refusals (R102) -/

/-- Sets a sticky flag of TGN. -/
def tgnFlag (h b : Nat) (s : State) : State := s.wr Rg.TGN_H_FLAGS [h] (setBit (s.rd Rg.TGN_H_FLAGS [h]) b true)

/-- Sets a sticky flag of TGN with its FLAG record. -/
def tgnFlagEvent (h b arg1 : Nat) (s : State) : State := raiseFlag 10 h (Rg.TGN_H_FLAGS.at [h]) b arg1 (tgnFlag h b s)

/-- A refused commit or enable (R102): the flag, one count and one refusal record on a register with a code. -/
def tgnRefuse (h reg code : Nat) (s : State) : State :=
  raiseRefusal 10 h reg code 0 (count1 Rg.TGN_H_REFUSE_CNT [h] (tgnFlag h 0 s))

/-- A commit or an enable refused with a status of R102, and the block of status 0x07. -/
def statusRefuse (h status blk : Nat) (s : State) : State :=
  tgnRefuse h (Rg.TGN_H_COMMIT_STATUS.at [h]) status (s.modHd h fun d => { d with stCode := status, stBlk := blk })

/-! ### Acceptance (R62, R74, R99 to R104) -/

/-- The commit-check refusal of a block (R137, R159, R190, R227): its CHK register and one event. -/
def blockChkFailed (blk h : Nat) (r : Reg) (x : Nat × Nat) (s : State) : State :=
  raiseRefusal blk h (r.at [h]) x.1 x.2 (s.wr r [h] (pack [(8, x.2), (0, x.1)]))

/-- The block checks that apply to a head, in order, with what each finds in a view (R102, status 0x07). -/
def State.blockChecks (s : State) (v : SMap Word) (h : Nat) : List (Nat × Reg × Option (Nat × Nat)) :=
  if s.mirror h then
    [(11, Rg.PSQ_H_CHK, if s.cfg.inst 11 then s.psqCheck v h else none),
     (12, Rg.LTE_H_CHK, if s.cfg.inst 12 then s.lteCheck v h else none),
     (13, Rg.LSC_H_CHK, if s.cfg.inst 13 then s.lscCheck v h else none)]
  else [(14, Rg.PNL_H_CHK, if s.cfg.inst 14 then s.pnlCheck v h else none)]

/-- What the checks of R102 from LAYER_CHECK on answer: the status, its block, and the state with what the failed check recorded. -/
def laterChecks (v : SMap Word) (h : Nat) (s : State) : Nat × Nat × State :=
  match s.cmpCheck v h with
  | some x => (6, 0, cmpCheckFailed h x s)
  | none =>
    match (s.blockChecks v h).findSome? fun e => e.2.2.map fun x => (e.1, e.2.1, x) with
    | some (blk, r, x) => (7, blk, blockChkFailed blk h r x s)
    | none => (0, 0, s)

/-- The words a new commit is compared with (R107): of the last pending commit, else in force. -/
def State.reference (s : State) (h : Nat) : SMap Word :=
  match (s.hd h).pend.getLast? with
  | some c => c.words
  | none => s.forceOf h

/-- The checks of R102 in the order of its table; 0 where the commit is accepted. -/
def commitChecks (v : SMap Word) (h : Nat) (trans : Bool) (s : State) : Nat × Nat × State :=
  let d := s.hd h
  if 4 ≤ d.pend.length then (1, 0, s)
  else if d.state = 0 ∨ d.state = 5 then (2, 0, s)
  else if trans && d.pend.any (·.trans) then (3, 0, s)
  else if !s.timingOk v h (d.state != 1) then (4, 0, s)
  else if s.surfInvalid v h then (5, 0, s)
  else laterChecks v h s

/-- The boundary a commit accepted now targets, and whether it is late (R104); before the grant, the first boundary after it. -/
def State.commitTarget (s : State) (h : Nat) : Nat × Bool :=
  if (s.hd h).state = 2 then (1, false) else s.sluice h

/-- An accepted commit of a head that is OFF applies at once (R101). -/
def applyAtOnce (h : Nat) (c : Commit) (s : State) : State :=
  let s1 := (noteDim h (applyWords h c.words s)).modHd h fun d => { d with lastSeq := some c.seq }
  if c.retEn then tlAdvance 2 c.retTl c.retVal s1 else s1

/-- Acceptance (R103, R104): the commit takes its number and is queued, or applied at once. -/
def acceptCommit (h : Nat) (v : Word) (words : SMap Word) (trans : Bool) (s : State) : State :=
  let d := s.hd h
  let t := if d.state = 1 then (0, false) else s.commitTarget h
  let c : Commit :=
    { seq := d.nextSeq, words := words, retEn := bit v 8, retTl := fld v 7 0
      retVal := s.fd Rg.TGN_H_RETIRE_HI [h] 15 0 * 2 ^ 32 + s.fd Rg.TGN_H_RETIRE_LO [h] 31 0
      target := t.1, late := t.2, trans := trans, reacq := bit v 9 }
  let s1 := s.modHd h fun d => { d with nextSeq := (d.nextSeq + 1) % 65536, stSeq := c.seq, stLate := t.2, stCode := 0, stBlk := 0 }
  let s2 := if t.2 then count1 Rg.TGN_H_LATE_CNT [h] (tgnFlag h 1 s1) else s1
  let s3 := if s.panel h then exitTrigger h s2 else s2
  let s4 := if d.state = 1 then applyAtOnce h c s3 else s3.modHd h fun d => { d with pend := d.pend ++ [c] }
  recFor 0x11 h noUnit [c.seq, 0, t.1, b2n t.2] s4

/-- The write of TGN_H_COMMIT with go = 1 (R102). -/
def submitOp (h : Nat) (v : Word) (s : State) : State :=
  let words := s.capture h
  let trans := bit v 9 || diffT words (s.reference h)
  let r := commitChecks words h trans s
  if r.1 = 0 then acceptCommit h v words trans s
  else recFor 0x11 h noUnit [(r.2.2.hd h).stSeq, r.1, 0, 0] (statusRefuse h r.1 r.2.1 r.2.2)

/-- The write of TGN_H_COMMIT (R115). -/
def commitOp (h : Nat) (v : Word) (s : State) : State := if bit v 31 then submitOp h v s else s

/-- COMMIT_SUBMIT (R102): a write whose go is 1. -/
def doCommitSubmit (src : Source) (h : Fin 4) (v : Word) (s : State) : Host.Outcome State Fault Refusal :=
  .next (gatedWrite src (Rg.TGN_H_COMMIT.at [h.val]) (setBit v 31 true) (commitOp h.val (setBit v 31 true)) s)

/-! ### Genlock (R113, R114) -/

/-- The difference between the boundary and the nearest target, a tie to the earlier, rounded half up to ns: with x the boundary
and p the period in 2^−32/num ns. -/
def nearestError (x p unit : Int) : Int :=
  let r := x % p
  let d := if 2 * r ≤ p then r else r - p
  (2 * d + unit) / (2 * unit)

/-- e of a boundary now (R113); a re-run takes it from the BOUNDARY item (R365). -/
def State.phaseError (s : State) (v : SMap Word) (h : Nat) : Int :=
  if s.replaying h then s.recd.glErr else
  let num := vf v Rg.TGN_H_GL_RATE [h] 19 0
  let den := vf v Rg.TGN_H_GL_RATE [h] 31 20
  let offset := vf v Rg.TGN_H_GL_OFFSET [h] 29 0 % 1000000000
  nearestError (s.clkCore * num - (offset * num * 2 ^ 32 : Nat)) ((max 1 den) * 1000000000 * 2 ^ 32 : Nat) ((max 1 num) * 2 ^ 32 : Nat)

/-- The increment with an adjustment (R113). -/
def adjustedInc (inc : Nat) (adj : Int) : Nat := ((inc : Int) + rnd ((inc : Int) * adj) (2 ^ 32)).toNat

/-- acc and adj after an error (R113). -/
def State.servo (s : State) (h : Nat) (e : Int) : Int × Int :=
  let acc := clampI (-(2 ^ 31)) (2 ^ 31 - 1) ((s.hd h).glAcc + e)
  let lim : Int := (s.pullPpm h * 4295 : Nat)
  (acc, clampI (-lim) lim (rnd (e * s.fd Rg.TGN_H_GL_KP [h] 23 0 + acc * s.fd Rg.TGN_H_GL_KI [h] 23 0) 65536))

/-- Lock and unlock after a frame (R114). -/
def glLock (h : Nat) (inBound : Bool) (s : State) : State :=
  let d := s.hd h
  if inBound then s.modHd h fun d => { d with glIn := min 16 (d.glIn + 1), glOut := 0, glLocked := d.glLocked || decide (16 ≤ d.glIn + 1) }
  else
    let s1 := s.modHd h fun d => { d with glIn := 0, glOut := min 4 (d.glOut + 1), glLocked := d.glLocked && decide (d.glOut + 1 < 4) }
    if d.glLocked && decide (4 ≤ d.glOut + 1) then tgnFlagEvent h 5 0 s1 else s1

/-- The genlock loop at a boundary (R113, R114), for a head whose genlock is enabled. -/
def glMeasure (h : Nat) (s : State) : State :=
  let e := s.phaseError (s.forceOf h) h
  let s1 := glLock h (decide (e.natAbs ≤ 4 * s.fd Rg.TGN_H_GL_CTL [h] 9 0)) (s.modHd h fun d => { d with glErr := e })
  if (if s.replaying h then s.recd.holdover else s.tim.state == 2) then s1
  else if 1000 * max 1 (s.fd Rg.TGN_H_GL_CTL [h] 19 10) < e.natAbs then
    let s2 := s1.modHd h fun d => { d with glOor := true }
    if (s.hd h).glOor then s2 else tgnFlagEvent h 6 0 s2
  else
    let r := s1.servo h e
    s1.modHd h fun d => { d with glOor := false, glAcc := r.1, glAdj := r.2 }

/-- The increment the next frame uses (R113): the words in force adjusted, with the loop run at this boundary unless a transition
in HOLD acquires phase (R114). -/
def genlock (h : Nat) (s : State) : State :=
  let v := s.forceOf h
  if glEn v h then
    let s1 := if (s.hd h).acquire then s else glMeasure h s
    s1.modHd h fun d => { d with incUsed := adjustedInc (pixInc v h) d.glAdj }
  else s.modHd h fun d => { d with incUsed := pixInc v h, glLocked := false, glIn := 0, glOut := 0, glOor := false }

/-! ### The end of a frame (R106, R112, R121, R133) -/

/-- The enabled check rectangles of a view. -/
def rectsOn (v : SMap Word) (h : Nat) : List Nat := (List.range 8).filter fun r => vf v Rg.TGN_R_CTL [h, r] 0 0 == 1

/-- TGN_H_CRC_STAT for a frame, with the CRC item of the recorder (R112, R360). -/
def crcStat (h num pass fail skip : Nat) (s : State) : State :=
  recFor 0x30 h noUnit ([num] ++ ((List.range 8).map fun r => (s.rd Rg.TGN_R_RESULT [h, r]).toNat) ++ [pass, fail, skip])
    (s.wr Rg.TGN_H_CRC_STAT [h] (pack [(16, skip), (8, fail), (0, pass)]))

/-- Whether the frame in progress is a hold frame: the head is in HOLD, or in STOPPING out of it and not yet past its boundary. -/
def State.holdFrame (s : State) (h : Nat) : Bool := (s.hd h).state == 3 || ((s.hd h).state == 5 && !(s.hd h).stopped)

/-- An aborted frame or a hold frame ends: every enabled rectangle is skipped (R112). -/
def crcSkip (h num : Nat) (v : SMap Word) (s : State) : State := crcStat h num 0 0 (maskOf 8 (rectsOn v h).contains) s

/-- The frame being scanned ends at a boundary: its last row is formed, its polder updates commit (R133, R219), and it awaits its
retire and, on a mirror head, its display period (R120, R121). -/
def endFrame (h : Nat) (s : State) : State :=
  let s0 := match (s.hd h).cur with
    | some f => if s.panel h && !f.aborted && !f.held then panelLine h (vActive f.view h - 1) s else s
    | none => s
  match (s0.hd h).cur with
  | none => if s0.holdFrame h then crcSkip h (s0.frameNo h) (s0.forceOf h) s0 else s0
  | some f =>
    let s1 := if s.mirror h then psqCommit h f s0 else pnlCommit h f s0
    let s2 := if f.aborted then crcSkip h f.num f.view s1 else s1
    s2.modHd h fun d => { d with
      cur := none
      past := d.past ++ [f]
      nextDisp := if s.mirror h then some { num := f.num, view := f.view, zero := f.aborted } else d.nextDisp }

/-! ### HOLD (R107, R114, R156, R220, R226) -/

/-- Hold frames (R107). -/
def State.holdFrames (s : State) (h : Nat) : Nat := max 1 (s.fd Rg.TGN_H_CTL [h] 7 4)

/-- What the other blocks do at an entry into HOLD: buffers placed, outputs parked or blanked, deferred calibrations go on. -/
def holdEntry (h : Nat) (s : State) : State :=
  let s1 := if s.mirror h then placePlanes h s else s
  calDeferred h (pnlHold h (lteHold h s1))

/-- A transition commit reaches its boundary (R107): the head enters HOLD at the new timing. -/
def startHold (h : Nat) (c : Commit) (s : State) : State :=
  let acquire := c.reacq || (glEn c.words h && !glEn (s.forceOf h) h)
  let s1 := headStandby h (applyT h c.words s)
  let s2 := s1.modHd h fun d => { d with
    state := 3
    holdLeft := s.holdFrames h
    pend := d.pend.map fun p => if p.seq = c.seq then { p with moved := true } else p
    acquire := acquire
    glAcc := if acquire then 0 else d.glAcc
    glAdj := if acquire then 0 else d.glAdj }
  holdEntry h (genlock h s2)

/-! ### The latch of a head (R66, R105, R107, R127, R220) -/

/-- The commits that reach a latch apply in order; the values in force become the last one's (R105). -/
def applyCommits (h : Nat) (cs : List Commit) (s : State) : State :=
  match cs.getLast? with
  | none => s
  | some c => (applyWords h c.words s).modHd h fun d => { d with
      lastSeq := some c.seq, pend := d.pend.filter fun p => !cs.any fun q => q.seq == p.seq }

/-- The boundary that ends HOLD (R107): RUN, with xfer_done and its event when a transition has completed. -/
def holdEnds (h : Nat) (cs : List Commit) (s : State) : State :=
  let s1 := s.modHd h fun d => { d with state := 4, holdLeft := 0, acquire := false }
  if cs.any (·.trans) then tgnFlagEvent h 3 0 s1 else s1

/-- The frame of a latching boundary (R105, R106, R221): in SELF and EXITING, CMP latches nothing. -/
def newFrame (h n : Nat) (cs : List Commit) (s : State) : State :=
  let self := s.panel h && (s.pn h).sr != 0
  let s1 := if s.mirror h then latchRings h s else s
  let r := if self then ([], s1) else latchLayers h s1
  let held := s.panel h && r.2.srHeld h
  let f : Frame := {
    num := n
    view := r.2.forceOf h
    rets := cs.filterMap fun c => if c.retEn then some (c.retTl, c.retVal) else none
    applied := cs != []
    late := cs.any (·.late)
    seq := (r.2.hd h).lastSeq
    leases := r.1
    shows := if self then [] else (r.2.hd h).shows
    self := self
    held := held }
  let s2 := r.2.modHd h fun d => { d with cur := some f, lateSeen := false, incSeen := false }
  let s3 := if s.panel h then
      s2.modPn h fun p => { p with lateSeen := false, incSeen := false, thetaF := if p.seen then some p.theta else none }
    else s2
  if self && !held then count1 Rg.PNL_H_SR_FRAME_CNT [h] s3 else s3

/-- The recorder counts boundaries of its lowest recorded head, and its first checkpoint follows a latch of that head (R361, R362). -/
def recBoundary (h : Nat) (latching : Bool) (s : State) : State :=
  if (List.range h).any (bit s.recd.ctl) || !bit s.recd.ctl h then s
  else if s.recd.state = 1 ∧ s.recd.ckptWait ≠ 0 then
    if latching then { s with recd := { s.recd with ckptWait := 2 } } else s
  else if !s.recording h then s else
  { s with recd := { s.recd with
      sinceCkpt := s.recd.sinceCkpt + 1
      postLeft := if latching && s.recd.state == 3 then s.recd.postLeft - 1 else s.recd.postLeft } }

/-- A latching boundary (R66, R97, R105). -/
def latchBoundary (h n : Nat) (cs : List Commit) (s : State) : State :=
  let wasHold := (s.hd h).state == 3
  let s1 := applyCommits h cs s
  let s2 := if wasHold then holdEnds h cs s1 else s1
  let s3 := genlock h s2
  let s4 := newFrame h n cs (if s.panel h then srBoundary h n (cs != []) s3 else s3)
  let s5 := if wasHold then headRuns h s4 else s4
  recBoundary h true (tempBoundary h (outerBoundary h s5))

/-- The BOUNDARY item (R360). -/
def recBoundaryItem (h n : Nat) (s : State) : State :=
  recFor 0x13 h noUnit [n, uint 96 (s.clkCore / (2 ^ 32 : Nat)), uint 32 (s.hd h).glErr, b2n (s.tim.state == 2)] s

/-- The frame boundary of a running head (R97, R107, R108, R110): the frame ends; a STOPPING head latches nothing; a transition
that is due starts its HOLD; a HOLD with frames left goes on; any other boundary latches. -/
def boundaryOp (h : Nat) (s : State) : State :=
  let st := (s.hd h).state
  if st < 3 ∨ 5 < st then s else
  let ended : Ended := { view := s.forceOf h, frame := (s.hd h).cur.isSome, held := (s.hd h).cur.any (·.held) }
  let s1 := (count1 Rg.TGN_H_FRAME [h] (endFrame h s)).modHd h fun d => { d with start := s.now, acc0 := s.carry h, ended := some ended }
  let n := s1.frameNo h
  let d := s1.hd h
  let cs := d.pend.filter fun c => decide (c.target ≤ n)
  if st = 5 then recBoundaryItem h n (s1.modHd h fun d => { d with stopped := true })
  else match cs.find? fun c => c.trans && !c.moved with
    | some c => recBoundary h false (recBoundaryItem h n (tempBoundary h (startHold h c s1)))
    | none =>
      if st = 3 && decide (1 < d.holdLeft) then
        recBoundary h false (recBoundaryItem h n (tempBoundary h (genlock h (s1.modHd h fun d => { d with holdLeft := d.holdLeft - 1 }))))
      else recBoundaryItem h n (latchBoundary h n cs s1)

/-- What a re-run takes from its items, and not from the live device (R365). -/
def unlessReplaying (h : Nat) (f : State → State) (s : State) : State := if s.replaying h then s else f s

/-- FRAME_BOUNDARY (R97). -/
def doFrameBoundary (h : Fin 4) (s : State) : Host.Outcome State Fault Refusal := live (unlessReplaying h.val (boundaryOp h.val)) s

/-- HOLD_END (R107): the boundary that ends HOLD, once the hold frames have elapsed. -/
def holdEndOp (h : Nat) (s : State) : State :=
  if (s.hd h).state = 3 ∧ (s.hd h).holdLeft ≤ 1 then boundaryOp h s else s

def doHoldEnd (h : Fin 4) (s : State) : Host.Outcome State Fault Refusal := live (unlessReplaying h.val (holdEndOp h.val)) s

/-! ### Retires (R60, R106, R347) -/

/-- arg1 of a retire record. -/
def retireArg (f : Frame) : Nat :=
  f.seq.getD 0 + b2n f.aborted * 2 ^ 16 + b2n f.late * 2 ^ 17 + b2n f.applied * 2 ^ 18 + b2n f.seq.isNone * 2 ^ 19

/-- The oldest frame past its end retires (R60, R106): leases, then the retire timelines in submission order, then the event. No
frame retires in HOLD (R107). -/
def retireOp (h : Nat) (s : State) : State :=
  if (s.hd h).state = 3 then s else
  match (s.hd h).past with
  | [] => s
  | f :: r =>
    let s0 := s.modHd h fun d => { d with past := r }
    if s.replaying h then s0 else
    let s1 := f.leases.foldl (fun s n => leaseRetire n s) s0
    let s2 := f.rets.foldl (fun s x => tlAdvance 2 x.1 x.2 s) s1
    let s3 := if s.panel h then idleCount h f s2 else s2
    if s.fd Rg.TGN_H_CTL [h] 8 8 = 1 then raise 10 0x09 h (Rg.TGN_H_COMMIT_STATUS.at [h]) f.num (retireArg f) s3 else s3

/-- FRAME_RETIRE (R106). -/
def doFrameRetire (h : Fin 4) (s : State) : Host.Outcome State Fault Refusal := live (retireOp h.val) s

/-! ### Head states (R100) -/

/-- The enable of a head in OFF (R100, R227): refused with 0x04 or 0x07, or a request to PWG. -/
def enableOp (h : Nat) (v : Word) (s : State) : State :=
  let f := s.forceOf h
  let keepOff := fun s => storeWrite Rg.TGN_H_CTL [h] (setBit v 0 (bit (s.rd Rg.TGN_H_CTL [h]) 0)) s
  if !s.timingOk f h true then statusRefuse h 4 0 (keepOff s)
  else
    match (if s.panel h && s.cfg.inst 14 then s.pnlCheck f h else none) with
    | some x => statusRefuse h 7 14 (blockChkFailed 14 h Rg.PNL_H_CHK x (keepOff s))
    | none => request 3 h ((storeWrite Rg.TGN_H_CTL [h] v s).modHd h fun d => { d with state := 2 })

/-- A write of en = 0 (R100, R340). -/
def disableOp (h : Nat) (s : State) : State :=
  match (s.hd h).state with
  | 2 => (withdraw 3 h s).modHd h fun d => { d with state := 1, pend := [] }
  | 3 => s.modHd h fun d => { d with state := 5, stopped := false }
  | 4 => headStandby h ((if s.panel h then srLive h s else s).modHd h fun d => { d with state := 5, stopped := false })
  | _ => s

/-- The write of TGN_H_CTL (R100, R115, R394). -/
def tgnCtlOp (h : Nat) (v : Word) (s : State) : State :=
  if bit v 0 then fromReady (Rg.TGN_H_CTL.at [h]) (fun s => if (s.hd h).state = 1 then enableOp h v s else storeWrite Rg.TGN_H_CTL [h] v s) s
  else disableOp h (storeWrite Rg.TGN_H_CTL [h] v s)

/-- HEAD_ENABLE (R100): a write whose en is 1. -/
def doHeadEnable (src : Source) (h : Fin 4) (v : Word) (s : State) : Host.Outcome State Fault Refusal :=
  .next (gatedWrite src (Rg.TGN_H_CTL.at [h.val]) (setBit v 0 true) (tgnCtlOp h.val (setBit v 0 true)) s)

/-- HEAD_DISABLE (R100): a write whose en is 0. -/
def doHeadDisable (src : Source) (h : Fin 4) (v : Word) (s : State) : Host.Outcome State Fault Refusal :=
  .next (gatedWrite src (Rg.TGN_H_CTL.at [h.val]) (setBit v 0 false) (tgnCtlOp h.val (setBit v 0 false)) s)

/-- A granted head enters HOLD (R100, R115, R127, R136, R164, R214): the boundary count and what it carries from frame to frame
start afresh. -/
def granted (h : Nat) (s : State) : State :=
  let s1 := (clearCnt Rg.TGN_H_FRAME [h] s).modHd h fun d => { d with
    state := 3
    holdLeft := s.holdFrames h
    start := s.now
    acc0 := 0
    shows := []
    cur := none
    past := []
    stopped := false
    ended := none
    disp := none
    lastDisp := none
    nextDisp := none
    litEnd := 0
    acquire := false
    glAcc := 0
    glAdj := 0
    glLocked := false
    glIn := 0
    glOut := 0
    glOor := false
    incUsed := pixInc (s.forceOf h) h }
  let s2 := pnlGrant h (grantPolders h s1)
  holdEntry h (if s.mirror h then headGranted h s2 else s2)

/-- HEAD_GRANT (R100). -/
def headGrantOp (h : Nat) (s : State) : State :=
  if (s.hd h).state ≠ 2 then s else
  match takeGrant 3 h s with
  | some s1 => granted h s1
  | none => s

def doHeadGrant (h : Fin 4) (s : State) : Host.Outcome State Fault Refusal := live (headGrantOp h.val) s

/-- HEAD_GRANT_REFUSAL (R100, R102). -/
def headRefusalOp (h : Nat) (s : State) : State :=
  if (s.hd h).state ≠ 2 then s else
  match takeRefusal 3 h s with
  | some (r, s1) => tgnRefuse h (Rg.TGN_H_STATE.at [h]) r (s1.modHd h fun d => { d with state := 1, reason := r, pend := [] })
  | none => s

def execHeadGrantRefusal (h : Fin 4) (s : State) : Host.Outcome State Fault Refusal := live (headRefusalOp h.val) s

/-- HEAD_STOP_COMPLETE (R100): past its stop boundary with no frame awaiting its retire, a STOPPING head enters OFF. -/
def stopCompleteOp (h : Nat) (s : State) : State :=
  let d := s.hd h
  if d.state ≠ 5 ∨ !d.stopped ∨ d.past ≠ [] then s else
  let s1 := pnlOff h (lteHold h s)
  calDeferred h (release 3 h ({ s1 with dmc := { s1.dmc with panic := s1.dmc.panic.set h false } }.modHd h fun d => { d with
    state := 1
    pend := []
    holdLeft := 0
    stopped := false
    fbNow := 65535
    fbDram := 65535 }))

def doHeadStopComplete (h : Fin 4) (s : State) : Host.Outcome State Fault Refusal := live (unlessReplaying h.val (stopCompleteOp h.val)) s

/-! ### Breach and freeboard (R109 to R111) -/

/-- The buffers a head of a kind has (R109): 0 to 8 the layers' fetch buffers, 9 head line, 10 column stream, 11 transposition. -/
def State.hasBuffer (s : State) (h buf : Nat) : Bool :=
  if s.mirror h then decide (buf ≤ 8) || buf == 11 else decide (buf ≤ 10)

/-- BREACH (R109, R110): the first one of a frame aborts it and switches the output. The plane stream's is LOAD_WINDOW_CLOSE's. -/
def breachOp (h buf : Nat) (s : State) : State :=
  match (s.hd h).cur with
  | none => s
  | some f =>
    if f.aborted || !s.hasBuffer h buf then s else
    let s1 := if s.panel h && !f.held then panelBlankRest h s else s
    reportBreach h buf 0 (s1.modHd h fun d => { d with cur := d.cur.map fun f => { f with aborted := true } })

def execBreach (h : Fin 4) (buf : Fin 16) (s : State) : Host.Outcome State Fault Refusal := live (unlessReplaying h.val (breachOp h.val buf.val)) s

/-- Whether DRAM feeds every real-time buffer of head h: its plane buffer or its panel store lies there. -/
def State.dramFeeds (s : State) (h : Nat) : Bool := if s.mirror h then !(s.hd h).planeLoc else !(s.pn h).storeLoc

/-- The freeboard over the buffers that DRAM feeds (R284), of a head whose freeboard is n: n itself where it feeds them all; else no
less than n, and no command tells how much more: a free value. -/
def fbOverDram (h n : Nat) (s : State) : Nat × State :=
  if s.dramFeeds h then (n, s) else (n + s.draw.1.toNat % (65536 - n), s.draw.2)

/-- FREEBOARD_PANIC (R111): the head's freeboard in ns; below panic_ns panic is asserted and from twice it on released. A channel in
self-refresh begins its exit where the freeboard asks for it (R296). -/
def freeboardOp (h ns : Nat) (s : State) : State :=
  if (s.hd h).state ≤ 1 then s else
  let n := min 65535 ns
  let p := max 400 (s.fd Rg.TGN_H_FB_CTL [h] 15 0)
  let was := s.dmc.panic.getD h false
  let now' := if n < p then true else if 2 * p ≤ n then false else was
  let x := fbOverDram h n s
  let s1 := x.2.modHd h fun d => { d with fbNow := n, fbMin := min d.fbMin n, fbDram := x.1 }
  let s2 := { s1 with dmc := { s1.dmc with panic := s1.dmc.panic.set h now' } }
  freeboardWake h (if now' && !was then count1 Rg.DMC_RT_PANIC_CNT [h] s2 else s2)

def execFreeboardPanic (h : Fin 4) (ns : Nat) (s : State) : Host.Outcome State Fault Refusal := live (freeboardOp h.val ns) s

/-! ### CRC checks (R112) -/

/-- The 7 bytes of a pixel. -/
def crcPixel (p : Px) : List Byte := bytesLE (p.1 + p.2.1 * 2 ^ 18 + p.2.2 * 2 ^ 36) 7

/-- The line of a tap of a captured line. -/
def TapLine.tap (t : TapLine) (mir : Bool) (code : Nat) : List Px :=
  if code = 0 then t.cmp else if code = 1 ∨ mir then t.pxp else t.out

/-- The CRC of rectangle r over the captured lines of a frame, clipped to the active area. -/
def rectCrc (v : SMap Word) (h r : Nat) (mir : Bool) (taps : SMap TapLine) : Nat :=
  let x := vf v Rg.TGN_R_POS [h, r] 13 0
  let y := vf v Rg.TGN_R_POS [h, r] 29 16
  let w := min (vf v Rg.TGN_R_SIZE [h, r] 13 0 + 1) (hActive v h - x)
  let ht := min (vf v Rg.TGN_R_SIZE [h, r] 29 16 + 1) (vActive v h - y)
  if w = 0 ∨ ht = 0 then 0 else
  crc32 ((List.range ht).flatMap fun j => (((((taps.find (y + j)).getD {}).tap mir (vf v Rg.TGN_R_CTL [h, r] 2 1)).drop x).take w).flatMap crcPixel)

/-- The lines of the frame being scanned, all formed. -/
def formLines (h n : Nat) (s : State) : State :=
  (List.range n).foldl (fun s y => if s.mirror h then (captureLine h y s).2 else panelLine h y s) s

/-- The result of rectangle r of a frame. What a held frame and the composition tap of a SELF frame give, the spec leaves open:
a free value. -/
def crcResult (h r : Nat) (f : Frame) (s : State) : Nat × State :=
  if f.held || (f.self && vf f.view Rg.TGN_R_CTL [h, r] 2 1 == 0) then
    let d := s.draw
    (d.1.toNat, d.2)
  else (rectCrc f.view h r (s.mirror h) f.taps, s)

/-- The results of the enabled rectangles, stored; answers those that fail. -/
def crcResults (h : Nat) (f : Frame) : List Nat → State → List Nat × State
  | [], s => ([], s)
  | r :: rs, s =>
    let x := crcResult h r f s
    let q := crcResults h f rs (x.2.wr Rg.TGN_R_RESULT [h, r] (word x.1))
    (if x.1 = vf f.view Rg.TGN_R_EXP [h, r] 31 0 then q.1 else r :: q.1, q.2)

/-- CRC_CHECK (R112): at the end of the last active line of a frame that is not aborted. -/
def crcCheckOp (h : Nat) (s : State) : State :=
  match (s.hd h).cur with
  | none => s
  | some f0 =>
    if f0.aborted || f0.crc then s else
    let s1 := if f0.held then s else formLines h (vActive f0.view h) s
    let f := ((s1.hd h).cur).getD f0
    let on := rectsOn f.view h
    let r := crcResults h f on s1
    let fail := maskOf 8 r.1.contains
    let s2 := r.2.modHd h fun d => { d with cur := d.cur.map fun f => { f with crc := true } }
    let s3 := if r.1 = [] then s2 else count Rg.TGN_H_CRC_FAIL_CNT [h] r.1.length (tgnFlag h 4 s2)
    let s4 := crcStat h f.num (maskOf 8 fun k => on.contains k && !r.1.contains k) fail 0 s3
    if r.1 = [] then s4 else raiseFlag 10 h (Rg.TGN_H_FLAGS.at [h]) 4 fail s4

def execCrcCheck (h : Fin 4) (s : State) : Host.Outcome State Fault Refusal := live (crcCheckOp h.val) s

/-! ### Registers (R115) -/

/-- Clears of TGN_H_CNT_CLR (R115). -/
def tgnHCntClrOp (h : Nat) (v : Word) (s : State) : State :=
  onBits v [(0, clearCnt Rg.TGN_H_BREACH_CNT [h]), (1, clearCnt Rg.TGN_H_LATE_CNT [h]), (2, clearCnt Rg.TGN_H_CRC_FAIL_CNT [h]),
    (3, clearCnt Rg.TGN_H_REFUSE_CNT [h]), (4, fun s => s.modHd h fun d => { d with fbMin := 65535 })] s

/-- TGN_H_CNT_CLR (R115). -/
def doTgnHCntClr (src : Source) (h : Fin 4) (v : Word) (s : State) : Host.Outcome State Fault Refusal :=
  .next (gatedWrite src (Rg.TGN_H_CNT_CLR.at [h.val]) v (tgnHCntClrOp h.val v) s)

/-- TGN_RATE_SUM: the head rates of the heads that run, in Mpixel/s rounded up. -/
def State.rateSum (s : State) : Nat :=
  ceilDiv (((List.range 4).filter s.headOn).map fun h => s.headRate (s.forceOf h) h).sum (2 ^ 28 * 1000000)

/-- TGN_H_POS: line and pixel of a head whose raster runs. -/
def State.posWord (s : State) (h : Nat) : Word :=
  if (s.hd h).state < 3 then 0 else
  let v := s.forceOf h
  let n := min (s.pixelsIn h) (hTotal v h * vTotal v h - 1)
  pack [(16, n / hTotal v h), (0, n % hTotal v h)]

/-- The word a report register of TGN reads (R115); a head under a re-run reports OFF (R365). -/
def readTgn (a : Nat) (s : State) : Option Word :=
  let off := a % 0x100000
  if a = Rg.TGN_RATE_SUM.at then some (word (min 65535 s.rateSum))
  else if off < 0x10000 ∨ 0x50000 ≤ off then none else
  let h := off / 0x10000 - 1
  let d := s.hd h
  if a = Rg.TGN_H_STATE.at [h] then
    some (pack [(24, d.reason), (16, if d.state = 3 then d.holdLeft else 0), (0, if s.replaying h then 1 else d.state)])
  else if a = Rg.TGN_H_COMMIT_STATUS.at [h] then
    some (pack [(16, d.stSeq), (12, d.stBlk), (11, b2n d.stLate), (8, d.pend.length), (0, d.stCode)])
  else if a = Rg.TGN_H_POS.at [h] then some (s.posWord h)
  else if a = Rg.TGN_H_FB_STAT.at [h] then some (pack [(16, d.fbMin), (0, d.fbNow)])
  else if a = Rg.TGN_H_GL_STATUS.at [h] then
    some (pack [(31, b2n d.glLocked), (30, b2n (s.tim.state == 2)), (29, b2n d.glOor), (28, s.tim.sel)])
  else if a = Rg.TGN_H_GL_ERR.at [h] then some (satWord d.glErr)
  else none

end Sys2Proof.Machine
end

