-- ==== Sys2Proof/Machine/Mgt.lean ====
section
/-!
DEFINITION. MGT: the collector, the event ring and its delivery, the recorder and its checkpoints (R346 to R368).
-/
namespace Sys2Proof.Machine

/-! ### The collector (R348 to R351) -/

/-- The records a block's hold buffer takes (R350). -/
def holdBound (sub : Nat) : Nat :=
  if sub = 13 then 512 else if sub = 4 then 384 else if sub = 5 then 96 else if sub = 6 then 64 else if sub = 3 then 48 else 32

/-- The records a block presents in one control clock at most (R187, R252, R350). -/
def clockBound (sub : Nat) : Nat := holdBound sub / 2

/-- The place of a record among those of one unit of its block: of a laser channel exclusion, hold entry, deadline flag, counter
overflow (R187); of TIM suspect, path, state change, then clock state and switch, then missed pulses (R318). -/
def Presented.own (x : Presented) : Nat :=
  if x.sub = 13 then
    (if x.kind = 2 then 0 else if x.kind = 1 then 1 else if x.kind = 3 then 2 else if x.kind = 4 then 3 else 4)
  else if x.sub = 15 then
    (if x.kind = 1 then (if x.reg = Rg.TIM_STATUS.at then 3 else 2)
     else if x.kind = 3 then (match x.arg0 with | 2 => 0 | 1 => 1 | 5 => 4 | _ => 3)
     else 3)
  else 0

/-- Whether record x comes before record y in a batch: by subsystem, by unit, then by the block's own order (R349). -/
def Presented.before (x y : Presented) : Bool :=
  decide (x.sub < y.sub) || (x.sub == y.sub && (decide (x.unit < y.unit) || (x.unit == y.unit && decide (x.own < y.own))))

/-- A record put into an ordered list, behind every one that it does not come before. -/
def insertBy (lt : Presented → Presented → Bool) (x : Presented) : List Presented → List Presented
  | [] => [x]
  | y :: r => if lt x y then x :: y :: r else y :: insertBy lt x r

/-- Records in order; those that neither comes before keep their order. -/
def sortBy (lt : Presented → Presented → Bool) (b : List Presented) : List Presented := b.foldl (fun acc x => insertBy lt x acc) []

/-- The order of a batch (R349). -/
def sortBatch (b : List Presented) : List Presented := sortBy Presented.before b

/-- The class of an LSC record (R187, R205): 1 of a channel; of none 2 group short, 3 commit check, 4 invalid write, 5 the rest; 6 of the
outer loop. -/
def Presented.lscClass (x : Presented) : Nat :=
  let off := x.reg % 0x100000
  if x.kind = 6 then 4
  else if x.kind = 2 ∨ (0x10000 ≤ off ∧ off < 0x18000) then 1
  else if 0x800 ≤ off ∧ off < 0xA00 then 2
  else if x.reg = Rg.LSC_H_CHK.at [x.unit] then 3
  else if 0x600 ≤ off ∧ off < 0x800 then 6
  else 5

/-- Whether record x takes a place of its clock ahead of record y (R187, R205): channels ascending, then the records with no channel,
then the outer loop, heads ascending; every other block in the order of its batch. -/
def Presented.placed (x y : Presented) : Bool :=
  if x.sub = 13 ∧ y.sub = 13 then
    decide (x.lscClass < y.lscClass) ||
      (x.lscClass == y.lscClass && (x.lscClass == 1 || x.lscClass == 6) &&
        (decide (x.unit < y.unit) || (x.unit == y.unit && decide (x.own < y.own))))
  else x.before y

/-- Whether a record finds a place beside those that have one: its block's bound (R350), and one record of a channel a clock (R187). -/
def hasPlace (got : List Presented) (x : Presented) : Bool :=
  decide ((got.filter (·.sub == x.sub)).length < clockBound x.sub) &&
    !(x.sub == 13 && x.lscClass == 1 && got.any fun y => y.sub == 13 && y.lscClass == 1 && y.unit == x.unit)

/-- The records that find a place in this clock, newest first, and those that wait for the next, oldest first. -/
def takePlaces : List Presented → List Presented → List Presented × List Presented
  | got, [] => (got, [])
  | got, x :: r =>
    if hasPlace got x then takePlaces (x :: got) r
    else let q := takePlaces got r; (q.1, x :: q.2)

/-- Whether the queue of 512 has room for a batch, and for the LOST record before it (R350, R351). -/
def Mgt.fits (m : Mgt) (b : List Presented) : Bool :=
  decide (m.queue.length + b.length + (if m.dropped = 0 then 0 else 1) ≤ 512)

/-- How many records of a block its hold buffer holds. -/
def heldOf (sub : Nat) (w : List (List Presented)) : Nat := ((w.map fun b => (b.filter (·.sub == sub)).length)).sum

/-- A batch joins what the blocks hold; a record that finds its block's buffer full is dropped (R350, R351). -/
def holdBatch (w : List (List Presented)) : List Presented → List Presented × Nat
  | [] => ([], 0)
  | x :: r =>
    let q := holdBatch w r
    let mine := heldOf x.sub w + (q.1.filter (·.sub == x.sub)).length
    if mine < holdBound x.sub then (x :: q.1, q.2) else (q.1, q.2 + 1)

/-- The places of the clock in progress are given (R187, R350): records that waited go first. -/
def Mgt.places (m : Mgt) : List Presented × List Presented :=
  let q := takePlaces [] (m.late ++ sortBy Presented.placed m.fresh)
  (q.1.reverse, q.2)

/-- The batch of the clock in progress is complete (R349): each record takes this clock's stamp and its register's value, and the
batch waits. -/
def closeBatch (peek : Nat → State → Word) (s : State) : State :=
  let q := s.mgt.places
  if q.1.isEmpty then s else
  let b := sortBatch (q.1.map fun x => { x with stamp := s.stamp, val := if x.reg = 0 then 0 else peek x.reg s })
  if s.mgt.waiting.isEmpty && s.mgt.fits b then { s with mgt := { s.mgt with fresh := [], late := q.2, waiting := [b] } }
  else
    let d := holdBatch s.mgt.waiting b.reverse
    let first := s.mgt.dropped = 0 ∧ d.2 ≠ 0
    count Rg.MGT_EVT_LOST_CNT [] d.2 { s with mgt := { s.mgt with
      fresh := []
      late := q.2
      waiting := if d.1.isEmpty then s.mgt.waiting else s.mgt.waiting ++ [d.1.reverse]
      dropped := s.mgt.dropped + d.2
      dropStamp := if first then s.stamp else s.mgt.dropStamp
      dropSeq := if first then (s.mgt.nextSeq + 2 ^ 32 - 1) % 2 ^ 32 else s.mgt.dropSeq } }

/-- A presented record with its number. -/
def Presented.numbered (x : Presented) (seq : Nat) : EvRec :=
  { stamp := x.stamp, seq := seq % 2 ^ 32, sub := x.sub, kind := x.kind, unit := x.unit, reg := x.reg, val := x.val, arg0 := x.arg0, arg1 := x.arg1 }

/-- Consecutive numbers for a batch. -/
def numberAll : Nat → List Presented → List EvRec
  | _, [] => []
  | n, x :: r => x.numbered n :: numberAll (n + 1) r

/-- The LOST record, if records have been dropped since the last one (R351). -/
def Mgt.lostRec (m : Mgt) : List Presented :=
  if m.dropped = 0 then []
  else [{ stamp := m.dropStamp, sub := 0, kind := 0x0B, unit := noUnit, reg := 0, arg0 := m.dropped % 2 ^ 32, arg1 := m.dropSeq }]

/-! ### The recorder's states and trigger (R361, R363) -/

/-- A change of the recorder's state, with its STATE record (R361). -/
def recTo (n result : Nat) (s : State) : State :=
  raiseState 0 noUnit Rg.MGT_REC_STATUS.at s.recd.state 0 { s with recd := { s.recd with state := n, result := result } }

/-- Whether a record matches the trigger (R363). -/
def State.triggers (s : State) (e : EvRec) : Bool :=
  let t := s.rd Rg.MGT_REC_TRIG
  s.recd.state == 2 && bit t 31 && fld t 27 24 == e.sub && (fld t 23 16 == 0 || fld t 23 16 == e.kind) &&
    (fld t 15 0 == 0xFFFF || fld t 15 0 == e.unit)

/-- The 32 bytes of a record (R346). -/
def EvRec.bytes (e : EvRec) : List Byte :=
  bytesLE e.stamp 8 ++ bytesLE e.seq 4 ++ bytesLE e.sub 1 ++ bytesLE e.kind 1 ++ bytesLE e.unit 2 ++ bytesLE e.reg 4 ++
    bytesLE e.val.toNat 4 ++ bytesLE e.arg0 4 ++ bytesLE e.arg1 4

/-- A record has been accepted: the first one that matches in RECORDING triggers (R363). -/
def acceptedRec (e : EvRec) (s : State) : State :=
  if s.triggers e then
    let s1 := recItem 0x42 0 noUnit (e.bytes.map (·.toNat)) s
    if s1.recd.state = 2 then
      recTo 3 s1.recd.result { s1 with recd := { s1.recd with postLeft := max 1 (fld s.recd.ctl 23 16) } }
    else s1
  else s

/-- The oldest waiting batch is accepted whole when the queue has room (R350). -/
def acceptBatch (s : State) : State :=
  match s.mgt.waiting with
  | [] => s
  | b :: r =>
    if !s.mgt.fits b then s else
    let es := numberAll s.mgt.nextSeq (s.mgt.lostRec ++ b)
    let q := s.mgt.queue ++ es
    let s1 := { s with mgt := { s.mgt with
      waiting := r, queue := q, nextSeq := (s.mgt.nextSeq + es.length) % 2 ^ 32, dropped := 0, qPeak := max s.mgt.qPeak q.length } }
    es.foldl (fun s e => acceptedRec e s) (count Rg.MGT_EVT_CNT [] b.length s1)

/-! ### The event ring (R352 to R354) -/

/-- Slots of the ring that are not free: not consumed, or not sent while records are sent (R353). -/
def Mgt.used (m : Mgt) : Nat :=
  max ((m.wr + 8192 - m.rd) % 8192) (if m.sending then (m.wr + 8192 - m.sent) % 8192 else 0)

/-- Whether a slot is free. -/
def Mgt.slotFree (m : Mgt) : Bool := decide (m.used < 2 ^ m.ringSize)

/-- A slot that becomes free lets the writer go on. -/
def Mgt.unfill (m : Mgt) : Mgt := { m with full := m.full && !m.slotFree }

/-- After a record is written, full says whether any slot is still free (R353). -/
def Mgt.fillCheck (m : Mgt) : Mgt := { m with full := !m.slotFree }

/-- COLLECTOR_DRAIN (R350): the oldest record passes to the ring writer, once every 4 control clocks, while the writer has room for it;
the model's writer holds two records, the most one write takes. -/
def drainOp (s : State) : State :=
  match s.mgt.queue with
  | [] => s
  | e :: r =>
    if !s.mgt.ringEn || s.mgt.full || decide (2 ≤ s.mgt.writer.length) || s.mgt.drained.any (fun c => decide (s.stamp < c + 4)) then s
    else { s with mgt := { s.mgt with queue := r, writer := s.mgt.writer ++ [e], drained := some s.stamp } }

def doCollectorDrain (s : State) : Host.Outcome State Fault Refusal := live drainOp s

/-- The records one write of the ring takes (R352): two, in one 64-byte block, where both are ready and both slots free, else one. -/
def Mgt.ringBurst (m : Mgt) : List EvRec :=
  if m.wr % 2 = 0 ∧ m.used + 2 ≤ 2 ^ m.ringSize then m.writer.take 2 else m.writer.take 1

/-- RING_WRITE (R352, R353): the writer's records go into their slots as requester 0x11 and the write index advances; with no slot
free the writer stops and full is set. -/
def ringWriteOp (s : State) : State :=
  if s.mgt.writer.isEmpty || !s.mgt.ringEn then s
  else if !s.mgt.slotFree then { s with mgt := { s.mgt with full := true } }
  else
    let es := s.mgt.ringBurst
    let s1 := dramStore 0x11 (s.mgt.ringPage * 65536 + s.mgt.wr % 2 ^ s.mgt.ringSize * 32) (es.flatMap EvRec.bytes) s
    let w := (s1.mgt.wr + es.length) % 8192
    let m : Mgt := { s1.mgt with writer := s1.mgt.writer.drop es.length, wr := w, sent := if s1.mgt.sending then s1.mgt.sent else w }
    { s1 with mgt := m.fillCheck }

def execRingWrite (s : State) : Host.Outcome State Fault Refusal := live ringWriteOp s

/-- en goes to 1 (R352): size and page are read, the indexes start at 0; a ring outside the reserved regions is refused. -/
def ringEnable (v : Word) (s : State) : State :=
  let t := storeWrite Rg.MGT_EVT_CTL [] v s
  let size := t.fd Rg.MGT_EVT_CTL [] 7 4
  let page := t.fd Rg.MGT_EVT_BASE [] 19 0
  if s.inReserved (page * 65536) (32 * 2 ^ size) then
    { t with mgt := { t.mgt with ringEn := true, ringSize := size, ringPage := page, wr := 0, rd := 0, sent := 0, full := false } }
  else invalidWrite Rg.MGT_EVT_CTL.at s

/-- en goes to 0 (R353): the writer stops at a record boundary, and what it has not written is read through the head window. -/
def ringDisable (v : Word) (s : State) : State :=
  let t := storeWrite Rg.MGT_EVT_CTL [] v s
  { t with mgt := { t.mgt with ringEn := false, full := false, queue := t.mgt.writer ++ t.mgt.queue, writer := [] } }

/-- The write of MGT_EVT_CTL (R352, R353, R394). -/
def evtCtlOp (v : Word) (s : State) : State :=
  if bit v 0 then
    fromReady Rg.MGT_EVT_CTL.at (fun s => if s.mgt.ringEn then storeWrite Rg.MGT_EVT_CTL [] v s else ringEnable v s) s
  else if s.mgt.ringEn then ringDisable v s
  else storeWrite Rg.MGT_EVT_CTL [] v s

/-- EVENT_RING_ENABLE (R352): a write whose en is 1. -/
def doEventRingEnable (src : Source) (v : Word) (s : State) : Host.Outcome State Fault Refusal :=
  .next (gatedWrite src Rg.MGT_EVT_CTL.at (setBit v 0 true) (evtCtlOp (setBit v 0 true)) s)

/-- EVENT_RING_DISABLE (R352): a write whose en is 0. -/
def doEventRingDisable (src : Source) (v : Word) (s : State) : Host.Outcome State Fault Refusal :=
  .next (gatedWrite src Rg.MGT_EVT_CTL.at (setBit v 0 false) (evtCtlOp (setBit v 0 false)) s)

/-- EVENT_RING_CONSUME (R353): the read index moves up to the write index at most. -/
def evtRdOp (v : Word) (s : State) : State :=
  let i := fld v 12 0
  if (i + 8192 - s.mgt.rd) % 8192 ≤ (s.mgt.wr + 8192 - s.mgt.rd) % 8192 then
    { s with mgt := ({ s.mgt with rd := i } : Mgt).unfill }
  else invalidWrite Rg.MGT_EVT_RD.at s

def doEventRingConsume (src : Source) (v : Word) (s : State) : Host.Outcome State Fault Refusal :=
  .next (gatedWrite src Rg.MGT_EVT_RD.at v (evtRdOp v) s)

/-- EVENT_POP (R354): with the ring off, the oldest queued record is removed. -/
def evtPopOp (v : Word) (s : State) : State :=
  if bit v 0 && !s.mgt.ringEn then { s with mgt := { s.mgt with queue := s.mgt.queue.drop 1 } } else s

def doEventPop (src : Source) (v : Word) (s : State) : Host.Outcome State Fault Refusal :=
  .next (gatedWrite src Rg.MGT_EVT_POP.at (setBit v 0 true) (evtPopOp (setBit v 0 true)) s)

/-- The ingress port that LNK_CTL names for events, if delivery is on (R272). -/
def State.evtPort? (s : State) : Option Nat :=
  let p := s.fd Rg.LNK_CTL [] 20 16
  if bit (s.rd Rg.LNK_CTL) 0 && s.ingress p then some p else none

/-- EVENT_DELIVERY_CTL (R272, R353): sending begins, at the write index in force, when delivery is set on or its port changes;
in every other case every record counts as sent. -/
def lnkCtlOp (v : Word) (s : State) : State :=
  let t := storeWrite Rg.LNK_CTL [] v s
  match t.evtPort? with
  | none => { t with mgt := ({ t.mgt with sending := false, sent := t.mgt.wr } : Mgt).unfill }
  | some p => if s.evtPort? = some p ∧ t.mgt.sending then t
    else { t with mgt := ({ t.mgt with sending := true, sent := t.mgt.wr } : Mgt).unfill }

def doEventDeliveryCtl (src : Source) (v : Word) (s : State) : Host.Outcome State Fault Refusal :=
  .next (gatedWrite src Rg.LNK_CTL.at v (lnkCtlOp v) s)

/-- EVENT_TRANSACTION_SEND (R272, R353): the next record of the ring leaves on the named port, when it is ACTIVE and the record
can be sent. -/
def evtSendOp (s : State) : State :=
  match s.evtPort? with
  | none => s
  | some p =>
    let bs := s.dramLoad 0x11 (s.mgt.ringPage * 65536 + s.mgt.sent % 2 ^ s.mgt.ringSize * 32) 32
    let t : Txn := { type := 6, stream := 0, header := List.replicate 8 0, payload := bs }
    if !s.mgt.sending || s.mgt.sent == s.mgt.wr || (s.port p).state != 4 || !s.sendable p t then s else
    sendTxn p t { s with mgt := ({ s.mgt with sent := (s.mgt.sent + 1) % 8192 } : Mgt).unfill }

def execEventTransactionSend (s : State) : Host.Outcome State Fault Refusal := live evtSendOp s

/-! ### Checkpoints (R359, R362) -/

/-- The heads of a mask. -/
def State.inMask (s : State) (mask : Nat) (a : Nat) : Bool :=
  match s.headOfAddr a with
  | some h => mask.testBit h
  | none => false

/-- Whether a laser channel, or a colour group, belongs to a head of a mask. -/
def State.chanIn (s : State) (mask c : Nat) : Bool := match s.cfg.chanHead? c with | some h => mask.testBit h | none => false
def State.groupIn (s : State) (mask g : Nat) : Bool := match s.cfg.groupHead? g with | some h => mask.testBit h | none => false

/-- Whether a polder, or a sensor slot, belongs to a head of a mask. -/
def State.polderIn (s : State) (mask p : Nat) : Bool := (List.range 4).any fun h => mask.testBit h && (s.polderList h).contains p
def State.slotIn (s : State) (mask k : Nat) : Bool := (List.range 4).any fun h => mask.testBit h && (s.headSlots h).contains k

/-- The entries of a store whose keys satisfy `p`, put in the place of those of another. -/
def SMap.graft {α : Type} (p : Nat → Bool) (src dst : SMap α) : SMap α :=
  (src.filter fun e => p e.1).foldl (fun m e => m.insert e.1 e.2) (dst.filter fun e => !p e.1)

/-- The planes that the heads' layer states, in force or pending, name, as surface ranges (R362). -/
def State.namedPlanes (s : State) (mask : Nat) : List (Nat × Nat) :=
  let names := ((List.range 4).filter mask.testBit).flatMap fun h => (s.headViews h).flatMap fun v =>
    (layersOn v h).map fun l => vf v Rg.CMP_L_SURF [h, l] 11 0
  names.eraseDups.flatMap fun n => (s.desc n).planes.map fun p => (p.1, p.2.1 * p.2.2.1)

/-- The DRAM ranges of those planes. -/
def State.planeRanges (s : State) (mask : Nat) : List (Nat × Nat) :=
  ((s.namedPlanes mask).flatMap fun p => pagesIn p.1 p.2).eraseDups.filterMap fun p =>
    let e := (translate 0x11 (p % 2 ^ 20) s).1
    if pteValid e then some (ptePage e, 65536) else none

/-- Whether a DRAM address lies in one of some ranges. -/
def inRanges (rs : List (Nat × Nat)) (a : Nat) : Bool := rs.any fun r => decide (r.1 ≤ a) && decide (a < r.1 + r.2)

/-- The checkpoint of the heads of a mask now (R362). -/
def State.snapshot (s : State) (mask : Nat) (planes : Bool) : Ckpt :=
  let rs := if planes then s.planeRanges mask else []
  { digest := s.sec.digest, stamp := s.stamp, mask := mask
    regs := s.regs.filter fun e => s.inMask mask e.1
    force := s.force.filter fun e => s.inMask mask e.1
    tgn := s.tgn.filter fun e => mask.testBit e.1
    pnl := s.pnl.filter fun e => mask.testBit e.1
    polders := s.polders.filter fun e => s.polderIn mask e.1
    chans := s.lsc.chans.filter fun e => s.chanIn mask e.1
    coefs := s.lsc.coefs.filter fun e => s.chanIn mask (e.1 / 1024)
    groups := s.lsc.groups.filter fun e => s.groupIn mask e.1
    outer := s.lsc.outer.filter fun e => mask.testBit e.1
    slots := s.lsc.slots.filter fun e => s.slotIn mask e.1
    planes := if planes then s.namedPlanes mask else []
    ranges := rs
    cells := s.dram.filter fun c => inRanges rs c.1
    tls := s.sfm.tl }

/-- A checkpoint loaded into the recorded heads and channels (R365). -/
def loadCkpt (c : Ckpt) (s : State) : State :=
  { s with
    regs := SMap.graft (s.inMask c.mask) c.regs s.regs
    force := SMap.graft (s.inMask c.mask) c.force s.force
    tgn := SMap.graft c.mask.testBit c.tgn s.tgn
    pnl := SMap.graft c.mask.testBit c.pnl s.pnl
    polders := SMap.graft (s.polderIn c.mask) c.polders s.polders
    dram := SMap.graft (inRanges c.ranges) c.cells s.dram
    lsc := { s.lsc with
      chans := SMap.graft (s.chanIn c.mask) c.chans s.lsc.chans
      coefs := SMap.graft (fun k => s.chanIn c.mask (k / 1024)) c.coefs s.lsc.coefs
      groups := SMap.graft (s.groupIn c.mask) c.groups s.lsc.groups
      outer := SMap.graft c.mask.testBit c.outer s.lsc.outer
      slots := SMap.graft (s.slotIn c.mask) c.slots s.lsc.slots } }

/-- The digest as 48 values. -/
def digestVals (d : List Byte) : List Nat := (List.range 48).map fun i => (d.getD i 0).toNat

/-- A checkpoint starts (R360, R362): CKPT_BEGIN, then one CKPT_DATA item for each register word that is not at its reset value,
staged and in force; the model keeps what the other items hold beside them. -/
def startCkpt (s : State) : State :=
  let mask := fld s.recd.ctl 3 0
  let c := s.snapshot mask (bit s.recd.ctl 7)
  let at' := s.recd.head
  let addrs := (c.regs.map (·.1) ++ (c.force.map (·.1)).filter fun a => !c.regs.any (·.1 == a))
  let begin := digestVals s.sec.digest ++ [mask] ++ ((List.range 4).filter mask.testBit).map fun h => s.frameNo h % 2 ^ 32
  let s1 := recItem 0x01 0 noUnit begin { s with ckpts := s.ckpts.filter fun e => s.recd.items.any (·.offset == e.1) }
  let s2 := addrs.foldl (fun s a => recItem 0x02 ((s.headOfAddr a).getD 0) (unitOfAddr a) [a, (s.word a).toNat, (s.inForce a).toNat] s) s1
  { s2 with
    ckpts := s2.ckpts.insert at' c
    recd := { s2.recd with sinceCkpt := 0, ckptAt := 1 + addrs.length, ckptWait := 0 } }

/-! ### Recorder commands (R361, R364) -/

/-- A command the state does not take, or that is refused, ends with a result (R361). -/
def recRefuse (result : Nat) (s : State) : State :=
  raiseRefusal 0 noUnit Rg.MGT_REC_STATUS.at result 0 { s with recd := { s.recd with result := result } }

/-- Whether a head is recorded and in RUN, or recorded and not OFF. -/
def State.recordedRun (s : State) : Bool := (List.range 4).any fun h => bit (s.rd Rg.MGT_REC_CTL) h && (s.hd h).state == 4
def State.recordedOff (s : State) : Bool := (List.range 4).all fun h => !bit (s.rd Rg.MGT_REC_CTL) h || (s.hd h).state == 1

/-- RECORD (R361, R362): the first checkpoint is the state after the next latch of the lowest recorded head. -/
def recordOp (s : State) : State :=
  let base := s.fd Rg.MGT_REC_BASE [] 19 0 * 65536
  let mib := s.fd Rg.MGT_REC_SIZE [] 6 0 * 64
  if s.recd.state ≠ 0 ∧ s.recd.state ≠ 4 then recRefuse 6 s
  else if !s.inReserved base (mib * 1048576) then recRefuse 0x0A s
  else if !s.recordedRun then recRefuse 6 s
  else
    let r : Recorder := { state := s.recd.state, ctl := s.rd Rg.MGT_REC_CTL, base := base, sizeMib := mib, ckptWait := 1 }
    recTo 1 0 { s with recd := r, ckpts := [] }

/-- The end of a re-run (R366): every recorded head is left OFF. -/
def rerunEnd (result : Nat) (s : State) : State :=
  let off := fun (s : State) (h : Nat) => s.modHd h fun d => { d with state := 1, cur := none, past := [], disp := none, lastDisp := none, nextDisp := none }
  recTo 4 result (((List.range 4).filter (bit s.recd.ctl)).foldl off { s with recd := { s.recd with replayAt := [] } })

/-- STOP (R361, R366): OFF and CHECKPOINT do not list it. -/
def stopOp (s : State) : State :=
  match s.recd.state with
  | 0 => recRefuse 6 s
  | 1 => recRefuse 6 s
  | 4 => recTo 0 0 s
  | 5 => rerunEnd 4 s
  | _ => recTo 4 4 s

/-- The items of a re-run: from behind CKPT_BEGIN up to the one that UNTIL names, where it differs from FROM (R366, R368). -/
def State.rerunItems (s : State) (i : RecItem) : List RecItem :=
  let unit64 := fun (x : RecItem) => x.offset % s.recd.cap / 64
  let until' := s.fd Rg.MGT_REC_UNTIL [] 25 0
  let rest := (s.recd.items.dropWhile (· != i)).drop 1
  if until' = s.fd Rg.MGT_REC_FROM [] 25 0 ∨ !rest.any (fun x => unit64 x == until') then rest
  else rest.takeWhile (fun x => unit64 x != until') ++ (rest.find? fun x => unit64 x == until').toList

/-- REPLAY (R364, R365). -/
def replayOp (s : State) : State :=
  let from' := s.fd Rg.MGT_REC_FROM [] 25 0
  if s.recd.state ≠ 4 then recRefuse 6 s else
  match s.recd.items.find? fun i => i.kind == 1 && i.offset % s.recd.cap / 64 == from' with
  | none => recRefuse 7 s
  | some i =>
    let c := s.ckpts.get {} i.offset
    if digestVals c.digest ≠ digestVals s.sec.digest then recRefuse 5 s
    else if !s.recordedOff || (((List.range 4).any fun h => bit (s.rd Rg.MGT_REC_CTL) h && s.mirror h) && s.lsc.eng != 2) then recRefuse 6 s
    else
      let s1 := recTo 5 0 { s with recd := { s.recd with
        ctl := s.rd Rg.MGT_REC_CTL
        replayAt := s.rerunItems i
        diffKind := 0
        diffHead := 0
        diffChan := 0
        diffRects := 0
        diffFrame := 0
        diffSeen := false
        clock0 := s.stamp
        stamp0 := i.stamp
        fences := c.tls
        drives := [] } }
      loadCkpt { c with mask := c.mask &&& fld s1.recd.ctl 3 0 } s1

/-- The write of MGT_REC_CMD (R361, R394). -/
def recCmdOp (v : Word) (s : State) : State :=
  fromReady Rg.MGT_REC_CMD.at (fun s => match fld v 1 0 with
    | 1 => recordOp s
    | 2 => stopOp s
    | 3 => replayOp s
    | _ => s) s

/-- REC_RECORD, REC_STOP and REC_REPLAY (R361, R364): writes of MGT_REC_CMD. -/
def doRecRecord (src : Source) (s : State) : Host.Outcome State Fault Refusal :=
  .next (gatedWrite src Rg.MGT_REC_CMD.at 1 (recCmdOp 1) s)
def doRecStop (src : Source) (s : State) : Host.Outcome State Fault Refusal :=
  .next (gatedWrite src Rg.MGT_REC_CMD.at 2 (recCmdOp 2) s)
def doRecReplay (src : Source) (s : State) : Host.Outcome State Fault Refusal :=
  .next (gatedWrite src Rg.MGT_REC_CMD.at 3 (recCmdOp 3) s)

/-- REC_MARK (R360, R368): a MARK item in RECORDING or POST. -/
def recMarkOp (v : Word) (s : State) : State :=
  if s.recd.state = 2 ∨ s.recd.state = 3 then recItem 0x40 0 noUnit [v.toNat] s else s

def doRecMark (src : Source) (v : Word) (s : State) : Host.Outcome State Fault Refusal :=
  .next (gatedWrite src Rg.MGT_REC_MARK.at v (recMarkOp v) s)

/-- CHECKPOINT_END (R361, R362): the copy completes. -/
def ckptEndOp (s : State) : State :=
  if s.recd.state ≠ 1 ∨ s.recd.ckptWait ≠ 0 then s else
  let s1 := recItem 0x03 0 noUnit [s.recd.ckptAt] s
  if s1.recd.state = 1 then recTo 2 s1.recd.result s1 else s1

def doCheckpointEnd (s : State) : Host.Outcome State Fault Refusal := live ckptEndOp s

/-- CHECKPOINT_PERIODIC (R362): ckpt_frames boundaries have passed. -/
def ckptPeriodicOp (s : State) : State :=
  let n := fld s.recd.ctl 31 24
  if s.recd.state = 2 ∧ n ≠ 0 ∧ n ≤ s.recd.sinceCkpt then startCkpt (recTo 1 s.recd.result s) else s

def doCheckpointPeriodic (s : State) : Host.Outcome State Fault Refusal := live ckptPeriodicOp s

/-- POST_FRAMES_END (R361). -/
def postEndOp (s : State) : State := if s.recd.state = 3 ∧ s.recd.postLeft = 0 then recTo 4 2 s else s

def doPostFramesEnd (s : State) : Host.Outcome State Fault Refusal := live postEndOp s

/-- The newest `n` items were never written (R359): the ring ends before them. A saturated item count holds its value (R7). -/
def unwrite (n : Nat) (s : State) : State :=
  let r := s.recd
  let gone := r.items.drop (r.items.length - n)
  match gone with
  | [] => s
  | g :: _ => { s with
      recd := { r with items := r.items.take (r.items.length - n), head := g.offset, nextNum := r.nextNum - gone.length }
      counters := s.counters.upd {} Rg.MGT_REC_ITEM_CNT.at fun c => if c.val = cntMax then c else { c with val := c.val - gone.length } }

/-- GAP_ITEM_WRITE (R359): the last `n` items found the staging full and were dropped; there is room again, and one GAP item
carries the count. -/
def gapOp (n : Nat) (s : State) : State :=
  if n = 0 ∨ ¬ (s.recd.state = 1 ∨ s.recd.state = 2 ∨ s.recd.state = 3) then s
  else count Rg.MGT_REC_GAP_CNT [] n (recItem 0x41 0 noUnit [n] (unwrite n s))

def execGapItemWrite (n : Nat) (s : State) : Host.Outcome State Fault Refusal := live (gapOp n) s

/-- Why a re-run ends now (R366): at a GAP item, at the first mismatch with stop_diff, or at its last item. -/
def State.rerunResult? (s : State) : Option Nat :=
  if s.recd.state ≠ 5 then none
  else if s.recd.diffSeen && bit s.recd.ctl 8 then some 9
  else match s.recd.replayAt with
    | [] => some 1
    | i :: _ => if i.kind = 0x41 then some 8 else none

/-- REPLAY_END (R366). -/
def replayEndOp (s : State) : State :=
  match s.rerunResult? with
  | some r => rerunEnd r s
  | none => s

def doReplayEnd (s : State) : Host.Outcome State Fault Refusal := live replayEndOp s

/-! ### Registers (R10, R368, R396) -/

/-- Clears of MGT_CNT_CLR. -/
def mgtCntClrOp (v : Word) (s : State) : State :=
  onBits v [(0, clearCnt Rg.MGT_EVT_CNT []), (1, clearCnt Rg.MGT_EVT_LOST_CNT []),
    (2, fun s => clearCnt Rg.MGT_REC_ITEM_CNT [] (clearCnt Rg.MGT_REC_GAP_CNT [] (clearCnt Rg.MGT_REC_DIFF_CNT [] s))),
    (3, fun s => { s with mgt := { s.mgt with qPeak := s.mgt.queue.length } })] s

/-- MGT_CNT_CLR (R368). -/
def doMgtCntClr (src : Source) (v : Word) (s : State) : Host.Outcome State Fault Refusal :=
  .next (gatedWrite src Rg.MGT_CNT_CLR.at v (mgtCntClrOp v) s)

/-- MGT_ABSENT_REARM (R10): bits written 1 are cleared. -/
def doMgtAbsentRearm (src : Source) (v : Word) (s : State) : Host.Outcome State Fault Refusal :=
  .next (gatedWrite src Rg.MGT_ABSENT.at v (storeWrite Rg.MGT_ABSENT [] v) s)

/-- MGT_HEALTH. -/
def State.healthWord (s : State) : Word :=
  pack [(16, maskOf 16 fun n => s.bst n == 5), (0, maskOf 16 fun n => s.bst n == 4)]

/-- MGT_REC_OLDEST: the oldest checkpoint whose items are all present. -/
def State.oldestCkpt (s : State) : Nat :=
  match s.recd.items.find? (·.kind == 1) with
  | some i => if s.recd.cap = 0 then 0 else i.offset % s.recd.cap / 64
  | none => 0

/-- The word a report register of MGT reads. -/
def readMgt (a : Nat) (s : State) : Option Word :=
  let m := s.mgt
  let r := s.recd
  if a = Rg.MGT_EVT_WR.at then some (word m.wr)
  else if a = Rg.MGT_EVT_RD.at then some (word m.rd)
  else if a = Rg.MGT_EVT_SENT.at then some (word m.sent)
  else if a = Rg.MGT_EVT_STATUS.at then
    some (pack [(31, b2n m.full), (30, b2n (match m.waiting with | b :: _ => !m.fits b | [] => false)), (16, m.qPeak), (0, m.queue.length)])
  else if a = Rg.MGT_HEALTH.at then some s.healthWord
  else if a = Rg.MGT_REC_STATUS.at then some (pack [(24, r.result), (0, r.state)])
  else if a = Rg.MGT_REC_HEAD.at then some (word (if r.cap = 0 then 0 else r.head % r.cap / 64))
  else if a = Rg.MGT_REC_OLDEST.at then some (word s.oldestCkpt)
  else if a = Rg.MGT_REC_DIFF.at then some (pack [(30, r.diffKind), (28, r.diffHead), (16, r.diffChan), (0, r.diffRects)])
  else if a = Rg.MGT_REC_DIFF_FRAME.at then some (word r.diffFrame)
  else if a = Rg.MGT_BOOT_STATUS.at then
    some (pack [(16, s.boot.i3cCount), (10, b2n s.boot.i3c), (9, b2n s.boot.lanes), (8, b2n s.boot.dram), (0, s.boot.stage)])
  else match Rg.MGT_EVT_HEAD.ixOf a with
    | some [w] => some (if m.ringEn then 0 else match m.queue with
        | e :: _ => word (ofBytesLE ((e.bytes.drop (4 * w)).take 4))
        | [] => 0)
    | _ => none

end Sys2Proof.Machine
end

