-- ==== Sys2Proof/Machine/Sec.lean ====
section
/-!
DEFINITION. SEC in service: flash commands, fuses, attestation, link keys, debug unlock and the command lock (R46 to R48,
R369 to R384).
-/
namespace Sys2Proof.Machine

/-! ### Lifecycle and what every command shares (R379, R382, R383) -/

/-- The lifecycle (R379): 0 OPEN, 1 LOCKED, 3 RETURNED. -/
def lifeOf (o : Otp) : Nat := if o.life.testBit 1 then 3 else if o.life.testBit 0 then 1 else 0

/-- Whether debug is open: unlocked since power-on, or permanently in RETURNED (R379, R380). -/
def State.dbgOpen (s : State) : Bool := s.dbg.isOpen || lifeOf s.otp == 3

/-- The fields of SEC changed. -/
def State.modSec (s : State) (f : Sec → Sec) : State := { s with sec := f s.sec }

/-- The DONE record of a command that ends (R382, R347). -/
def secDone (reg : Reg) (result cmd : Nat) (s : State) : State := raiseDone 1 noUnit reg.at result cmd s

/-- The results of R383. -/
def resOk : Nat := 1
def resBusy : Nat := 2
def resRate : Nat := 3
def resExhausted : Nat := 4
def resRefused : Nat := 5
def resOtpFail : Nat := 6
def resRange : Nat := 7
def resState : Nat := 8
def resNoOffer : Nat := 9
def resBadKey : Nat := 10
def resInUse : Nat := 11
def resBadToken : Nat := 12

/-- Bytes of registers that hold byte 4n in [31:24] of word n (R384). -/
def bytesOfRegs (r : Reg) (n : Nat) (s : State) : List Byte := (List.range n).flatMap fun i => bytesBE (s.rd r [i]).toNat 4

/-- Word n of a byte string whose byte 4n stands in [31:24] (R384). -/
def beWord (bs : List Byte) (n : Nat) : Word := word (ofBytesBE ((List.range 4).map fun i => bs.getD (4 * n + i) 0))

/-- The device serial (R370, R373). -/
def serialBytes : List Byte := (List.range 16).map Config.serialByte

/-! ### Flash commands (R46, R47) -/

/-- A flash command is refused (R46): its status is recorded and nothing starts. -/
def flashRefuse (status cmd : Nat) (s : State) : State := s.modSec fun x => { x with flashResult := status, lastCmd := cmd }

/-- The banks of the replay-staging region, where VERIFY has the 8 MiB that its staging copy needs (R46). -/
def State.verifyBanks (s : State) : List Nat :=
  match (s.cfg.basin.zip s.dmc.regions).find? fun x => x.1.user == 3 with
  | some (_, some banks) => if 8 ≤ banks.length then banks else []
  | _ => []

/-- The SHA-384 digest of an image's signed range, in the 8 MiB of its slot (R33, R38). -/
def imageDigest (f : Image) : List Byte := sha384 (imgBytes f 0 (min (sigOff f) 0x800000))

/-- A flash command starts, with the window and the sector of PROGRAM as they stand at the command (log 50). VERIFY takes its staging
copy, or the digest of its first read. A later VERIFY is owed once the slot changes. -/
def flashStart (cmd slot : Nat) (s : State) : State :=
  let staged := cmd == 3 && !s.verifyBanks.isEmpty
  s.modSec fun x => { x with
    flashJob := some { cmd := cmd, slot := slot, sector := s.fd Rg.SEC_FLASH_ADDR [] 22 12
                       data := if cmd = 2 then bytesOfWords ((List.range 1024).map fun i => s.rd Rg.SEC_FLASH_WIN [i]) else []
                       staged := staged
                       copy := if staged then slotCopy s slot else []
                       digest := if cmd = 3 && !staged then imageDigest (withMagic (slotImage s slot)) else [] }
    verified := if cmd = 1 ∨ cmd = 2 then x.verified.filter (· != slot) else x.verified }

/-- The write of SEC_FLASH_CMD (R46). -/
def flashCmdOp (v : Word) (s : State) : State :=
  let cmd := fld v 3 0
  let slot := fld v 8 8
  if cmd = 0 then s
  else if 4 < cmd then invalidWrite Rg.SEC_FLASH_CMD.at s
  else
    let s1 := s.modSec fun x => { x with lastSlot := slot }
    if s.sec.flashJob.isSome then flashRefuse 0x16 cmd s1
    else if cmd = 1 && s.sec.src == slot + 1 && !s.sec.passed.contains (1 - slot) then flashRefuse 0x17 cmd s1
    else if cmd = 4 && !s.sec.verified.contains slot then flashRefuse 0x18 cmd s1
    else flashStart cmd slot s1

/-- The word of SEC_FLASH_CMD for a command and slot. -/
def flashWord (cmd slot : Nat) : Word := pack [(8, slot), (0, cmd)]

/-- FLASH_ERASE, FLASH_PROGRAM, FLASH_VERIFY and FLASH_COMMIT (R46). -/
def doFlashErase (src : Source) (slot : Fin 2) (s : State) : Host.Outcome State Fault Refusal :=
  .next (gatedWrite src Rg.SEC_FLASH_CMD.at (flashWord 1 slot.val) (flashCmdOp (flashWord 1 slot.val)) s)
def doFlashProgram (src : Source) (slot : Fin 2) (s : State) : Host.Outcome State Fault Refusal :=
  .next (gatedWrite src Rg.SEC_FLASH_CMD.at (flashWord 2 slot.val) (flashCmdOp (flashWord 2 slot.val)) s)
def doFlashVerify (src : Source) (slot : Fin 2) (s : State) : Host.Outcome State Fault Refusal :=
  .next (gatedWrite src Rg.SEC_FLASH_CMD.at (flashWord 3 slot.val) (flashCmdOp (flashWord 3 slot.val)) s)
def doFlashCommit (src : Source) (slot : Fin 2) (s : State) : Host.Outcome State Fault Refusal :=
  .next (gatedWrite src Rg.SEC_FLASH_CMD.at (flashWord 4 slot.val) (flashCmdOp (flashWord 4 slot.val)) s)

/-- A flash memory with one slot erased: its bytes unlisted. -/
def eraseSlot (slot : Nat) (m : Memory) : Memory := m.filter fun c => c.1 / 0x800000 != slot

/-- What a flash command leaves in the flash (R46): PROGRAM never touches bytes 0 to 3 of the slot. -/
def flashAfter (j : FlashJob) (m : Memory) : Memory :=
  let base := j.slot * 0x800000
  match j.cmd with
  | 1 => eraseSlot j.slot m
  | 2 => if j.sector = 0 then Memory.store 0xFF m (base + 4) (j.data.drop 4) else Memory.store 0xFF m (base + 4096 * j.sector) j.data
  | 4 => Memory.store 0xFF m base magicBytes
  | _ => m

/-- What VERIFY checks (R46), the magic taken as present: its staging copy, or its second read of the flash. -/
def State.verifyImage (s : State) (j : FlashJob) : Image := withMagic (if j.staged then copyImage j.copy else slotImage s j.slot)

/-- The status a flash command ends with (R45, R46): two reads of VERIFY with different digests are a read that failed (log 50). -/
def State.flashStatus (s : State) (j : FlashJob) (io : Bool) : Nat :=
  if io then 0x14
  else if j.cmd ≠ 3 then 0x00
  else if !j.staged && imageDigest (s.verifyImage j) != j.digest then 0x14
  else imageStatus (s.verifyImage j) s.otp (rollbackValue s.otp)

/-- FLASH_CMD_DONE (R47): `io` tells of a flash that does not respond, or a read that fails. VERIFY waits for the public-key
engine (R382). -/
def flashCmdDoneOp (io : Bool) (s : State) : State :=
  match s.sec.flashJob with
  | none => s
  | some j =>
    if j.cmd = 3 && s.sec.engine.isSome then s else
    let st := s.flashStatus j io
    let ok := j.cmd == 3 && st == 0
    let s1 := { s with flash := if io then s.flash else flashAfter j s.flash }
    secDone Rg.SEC_FLASH_STATUS st j.cmd (s1.modSec fun x => { x with
      flashJob := none, flashResult := st, lastCmd := j.cmd
      verified := if ok then j.slot :: x.verified.filter (· != j.slot) else x.verified
      passed := if ok then j.slot :: x.passed.filter (· != j.slot) else x.passed })

def execFlashCmdDone (io : Bool) (s : State) : Host.Outcome State Fault Refusal := live (flashCmdDoneOp io) s

/-! ### Fuses (R370 to R372, R379) -/

/-- An OTP command ends. -/
def otpEnd (result cmd : Nat) (s : State) : State := secDone Rg.SEC_OTP_STATUS result cmd (s.modSec fun x => { x with otpResult := result })

/-- An OTP command takes the programmer, or ends with BUSY (R382). -/
def otpStart (j : OtpJob) (cmd : Nat) (s : State) : State :=
  if s.sec.otpJob.isSome then otpEnd resBusy cmd s else s.modSec fun x => { x with otpJob := some j }

/-- ADVANCE with value v (R371). -/
def otpAdvance (v : Nat) (s : State) : State :=
  let cur := rollbackValue s.otp
  if s.sec.src = 0 ∨ v < cur ∨ s.sec.secVer < v then otpEnd resRange 1 s
  else if v = cur then otpEnd resOk 1 s
  else otpStart (.advance cur (v - 1)) 1 s

/-- REVOKE k (R372). -/
def otpRevoke (k : Nat) (s : State) : State :=
  if 4 ≤ k ∨ s.sec.src = 0 ∨ s.sec.keySet ≤ k then otpEnd resRange 2 s else otpStart (.revoke k) 2 s

/-- LOCK and RETURN (R379). -/
def otpLock (s : State) : State := if lifeOf s.otp ≠ 0 then otpEnd resState 3 s else otpStart .lock 3 s
def otpReturn (s : State) : State := if lifeOf s.otp ≠ 1 || !s.dbgOpen then otpEnd resState 4 s else otpStart .ret 4 s

/-- The write of SEC_OTP_CMD (R384). -/
def otpCmdOp (v : Word) (s : State) : State :=
  match fld v 31 28 with
  | 0 => s
  | 1 => otpAdvance (fld v 7 0) s
  | 2 => otpRevoke (fld v 7 0) s
  | 3 => otpLock s
  | 4 => otpReturn s
  | _ => invalidWrite Rg.SEC_OTP_CMD.at s

/-- A write of SEC_OTP_CMD with an op. -/
def otpWrite (src : Source) (op : Nat) (v : Word) (s : State) : State :=
  gatedWrite src Rg.SEC_OTP_CMD.at (setFld v 31 28 op) (otpCmdOp (setFld v 31 28 op)) s

/-- OTP_ADVANCE, OTP_REVOKE, OTP_LOCK and OTP_RETURN. -/
def doOtpAdvance (src : Source) (v : Word) (s : State) : Host.Outcome State Fault Refusal := .next (otpWrite src 1 v s)
def doOtpRevoke (src : Source) (v : Word) (s : State) : Host.Outcome State Fault Refusal := .next (otpWrite src 2 v s)
def doOtpLock (src : Source) (s : State) : Host.Outcome State Fault Refusal := .next (otpWrite src 3 0 s)
def doOtpReturn (src : Source) (s : State) : Host.Outcome State Fault Refusal := .next (otpWrite src 4 0 s)

/-! ### Attestation (R374 to R376) -/

/-- An attestation request ends. -/
def attEnd (result : Nat) (s : State) : State :=
  secDone Rg.SEC_ATT_STATUS result 1 (s.modSec fun x => { x with attResult := result })

/-- An attestation in progress ends: the engine and the grant are free. -/
def attFinish (result : Nat) (s : State) : State :=
  attEnd result (release 7 0 (s.modSec fun x => { x with attSign := false, engine := none }))

/-- A request (R374), steps 2 to 6. -/
def attRequestOp (s : State) : State :=
  if lifeOf s.otp == 3 || s.dbgOpen then attEnd resState s
  else if s.sec.engine.isSome || s.sec.otpJob.isSome then attEnd resBusy s
  else if (match s.sec.attLast with | some t => decide (s.now < t + 1000 * msCore) | none => false) then attEnd resRate s
  else if s.sec.attLeaf = 1048576 then attEnd resExhausted s
  else request 7 0 (s.modSec fun x => { x with
    engine := some .attest, attArrived := s.now, attFails := 0, attNonce := bytesOfRegs Rg.SEC_ATT_NONCE 12 s })

/-- The write of SEC_ATT_CTL. -/
def attCtlOp (v : Word) (s : State) : State := if bit v 0 then attRequestOp s else s

/-- ATTEST_REQUEST (R374). -/
def doAttestRequest (src : Source) (s : State) : Host.Outcome State Fault Refusal :=
  .next (gatedWrite src Rg.SEC_ATT_CTL.at 1 (attCtlOp 1) s)

/-- Step 7 (R374, R375): a leaf that begins a block not yet reserved has its fuse blown first; otherwise signing starts. -/
def attReserve (s : State) : State :=
  let q := s.sec.attLeaf
  if q % 256 ≠ 0 || s.otp.att.testBit (q / 256) then s.modSec fun x => { x with attSign := true }
  else if s.sec.otpJob.isSome then attFinish resBusy s
  else s.modSec fun x => { x with otpJob := some (.reserve (q / 256)) }

/-- ATTEST_GRANT (R374): the grant, or the refusal with its reason. -/
def attGrantOp (s : State) : State :=
  match takeGrant 7 0 s with
  | some s1 => attReserve (s1.modSec fun x => { x with attLast := some x.attArrived })
  | none => match takeRefusal 7 0 s with
    | some (r, s1) => attFinish resRefused (s1.modSec fun x => { x with attReason := r })
    | none => s

def execAttestGrant (s : State) : Host.Outcome State Fault Refusal := live attGrantOp s

/-- A reservation ends (R375): a fuse whose read-back fails counts as blown and the next block is reserved; a second failure
ends the request. -/
def reserveDone (b : Nat) (ok : Bool) (s : State) : State :=
  if ok then attReserve { s with otp := { s.otp with att := s.otp.att ||| 2 ^ b } }
  else
    let s1 := { s with otp := { s.otp with attBad := s.otp.attBad ||| 2 ^ b } }.modSec fun x => { x with attLeaf := 256 * (b + 1), attFails := x.attFails + 1 }
    if 2 ≤ s1.sec.attFails then attFinish resOtpFail s1
    else if s1.sec.attLeaf = 1048576 then attFinish resExhausted s1
    else attReserve s1

/-- OTP_PROGRAM_DONE (R370): one fuse has been programmed and read back. ADVANCE goes on to its next fuse. -/
def otpProgramDoneOp (ok : Bool) (s : State) : State :=
  match s.sec.otpJob with
  | none => s
  | some j =>
    let s1 := s.modSec fun x => { x with otpJob := none }
    match j with
    | .advance n last =>
      if !ok then otpEnd resOtpFail 1 s1 else
      let s2 := { s1 with otp := { s1.otp with rollback := s1.otp.rollback ||| 2 ^ n } }
      if n = last then otpEnd resOk 1 s2 else s2.modSec fun x => { x with otpJob := some (.advance (n + 1) last) }
    | .revoke k => if !ok then otpEnd resOtpFail 2 s1 else otpEnd resOk 2 { s1 with otp := { s1.otp with revoked := s1.otp.revoked ||| 2 ^ k } }
    | .lock => if !ok then otpEnd resOtpFail 3 s1 else otpEnd resOk 3 { s1 with otp := { s1.otp with life := s1.otp.life ||| 1 } }
    | .ret => if !ok then otpEnd resOtpFail 4 s1 else otpEnd resOk 4 { s1 with otp := { s1.otp with life := s1.otp.life ||| 2 } }
    | .reserve b => reserveDone b ok s1

def execOtpProgramDone (ok : Bool) (s : State) : Host.Outcome State Fault Refusal := live (otpProgramDoneOp ok) s

/-- The body of a report (R376). -/
def reportBody (s : State) : List Byte :=
  let x := s.sec
  [0x48, 0x46, 0x4C, 0x41] ++ bytesLE 1 2 ++ [0, 0] ++ serialBytes ++ (List.range 48).map (fun i => x.attNonce.getD i 0) ++
  (List.range 48).map (fun i => x.digest.getD i 0) ++ (List.range 16).map (fun i => x.buildId.getD i 0) ++
  bytesLE (rollbackValue s.otp) 2 ++ bytesLE x.secVer 1 ++
  [BitVec.ofNat 8 (lifeOf s.otp + 4 * b2n s.dbg.wasOpen + 8 * x.keySet)] ++ bytesLE x.attLeaf 4 ++ bytesLE s.stamp 8 ++ List.replicate 8 0

/-- ATTEST_SIGN_DONE (R374, R376): the report is written and the leaf is used. -/
def attSignDoneOp (s : State) : State :=
  if !s.sec.attSign then s else
  let body := reportBody s
  attFinish resOk (s.modSec fun x => { x with
    attReport := body ++ (List.range 2964).map (Config.hssByte body x.attLeaf), attLeaf := x.attLeaf + 1 })

def doAttestSignDone (s : State) : Host.Outcome State Fault Refusal := live attSignDoneOp s

/-! ### Link content keys (R377, R378) -/

/-- A key command ends. -/
def keyEnd (result cmd : Nat) (s : State) : State :=
  secDone Rg.SEC_KEY_STATUS result cmd (s.modSec fun x => { x with keyResult := result })

/-- The key slots of both epochs with one replaced. -/
def putSlot (l : List (Option KeySlot)) (e : Nat) (k : Option KeySlot) : List (Option KeySlot) :=
  (List.range 2).map fun i => if i = e then k else l.getD i none

/-- Whether the transmit slot of epoch e is the valid one in use (R378). -/
def State.slotInUse (s : State) (p e : Nat) : Bool := (s.port p).txEpoch == e && ((s.port p).txKey.getD e none).isSome

/-- OFFER (R377). -/
def keyOffer (p e : Nat) (s : State) : State :=
  if s.dbgOpen then keyEnd resState 1 s
  else if s.sec.engine.isSome then keyEnd resBusy 1 s
  else s.modSec fun x => { x with engine := some (.offer p e) }

/-- INSTALL (R377, R378). -/
def keyInstall (p e : Nat) (s : State) : State :=
  let open_ := match s.sec.offer with | some o => o.port == p && o.epoch == e | none => false
  if s.dbgOpen || !(s.port p).peerReports 0 then keyEnd resState 2 s
  else if !open_ then keyEnd resNoOffer 2 s
  else if s.slotInUse p e then keyEnd resInUse 2 s
  else if s.sec.engine.isSome then keyEnd resBusy 2 s
  else s.modSec fun x => { x with engine := some (.install p e (bytesOfRegs Rg.SEC_KEY_PEER 24 s)) }

/-- SELECT and CLEAR (R378). -/
def keySelect (p e : Nat) (s : State) : State :=
  if ((s.port p).txKey.getD e none).isNone then keyEnd resState 3 s else keyEnd resOk 3 (s.modPort p fun x => { x with txEpoch := e })
def clearKeys (p : Nat) (s : State) : State := s.modPort p fun x => { x with rxKey := [], txKey := [] }
def keyClear (p : Nat) (s : State) : State := keyEnd resOk 4 (clearKeys p s)

/-- The write of SEC_KEY_CMD (R377, R378): in RETURNED every key command ends with STATE, and a port that is UNUSED or beyond
23 with RANGE. -/
def keyCmdOp (v : Word) (s : State) : State :=
  let op := fld v 31 28
  let p := fld v 12 8
  let e := fld v 0 0
  if op = 0 then s
  else if 4 < op then invalidWrite Rg.SEC_KEY_CMD.at s
  else if lifeOf s.otp = 3 then keyEnd resState op s
  else if (s.port p).state = 0 then keyEnd resRange op s
  else if op = 1 then keyOffer p e s
  else if op = 2 then keyInstall p e s
  else if op = 3 then keySelect p e s
  else keyClear p s

/-- The word of SEC_KEY_CMD for a command. -/
def keyWord (op p e : Nat) : Word := pack [(28, op), (8, p), (0, e)]

/-- KEY_OFFER, KEY_INSTALL, KEY_SELECT and KEY_CLEAR. -/
def doKeyOffer (src : Source) (p : Fin 32) (e : Fin 2) (s : State) : Host.Outcome State Fault Refusal :=
  .next (gatedWrite src Rg.SEC_KEY_CMD.at (keyWord 1 p.val e.val) (keyCmdOp (keyWord 1 p.val e.val)) s)
def doKeyInstall (src : Source) (p : Fin 32) (e : Fin 2) (s : State) : Host.Outcome State Fault Refusal :=
  .next (gatedWrite src Rg.SEC_KEY_CMD.at (keyWord 2 p.val e.val) (keyCmdOp (keyWord 2 p.val e.val)) s)
def doKeySelect (src : Source) (p : Fin 32) (e : Fin 2) (s : State) : Host.Outcome State Fault Refusal :=
  .next (gatedWrite src Rg.SEC_KEY_CMD.at (keyWord 3 p.val e.val) (keyCmdOp (keyWord 3 p.val e.val)) s)
def doKeyClear (src : Source) (p : Fin 32) (s : State) : Host.Outcome State Fault Refusal :=
  .next (gatedWrite src Rg.SEC_KEY_CMD.at (keyWord 4 p.val 0) (keyCmdOp (keyWord 4 p.val 0)) s)

/-- The n-th ephemeral key pair's private key: a scalar from 1 up to the order of the base point. -/
def scalarOf (draw : Nat) : Nat := Config.randomScalar draw % (p384Order - 1) + 1

/-- The signed offer (R377): the 120-byte message, and its signature under the identity key with the random number of the draw after
the key pair's. -/
def offerMessage (p e draw : Nat) : List Byte :=
  [0x48, 0x46, 0x4C, 0x4F] ++ serialBytes ++ [BitVec.ofNat 8 p, BitVec.ofNat 8 e, 0, 0] ++ publicBytes (scalarOf draw)
def signedOffer (p e draw : Nat) : List Byte :=
  offerMessage p e draw ++ ecdsaSign Config.identityKey (scalarOf (draw + 1)) (offerMessage p e draw)

/-- The engine ends an OFFER: a new key pair, from the next draws of the random source (R373, R377). -/
def offerDone (p e : Nat) (s : State) : State :=
  keyEnd resOk 1 ({ s with free := s.free + 2 }.modSec fun x => { x with
    offer := some { port := p, epoch := e, draw := s.free }, offerBytes := signedOffer p e s.free })

/-- The key of direction d for port p and epoch e (R377): HKDF-SHA-384 over the shared X coordinate. -/
def linkKey (draw : Nat) (peer : List Byte) (p d e : Nat) : List Byte :=
  hkdf384 (sha384 (publicBytes (scalarOf draw) ++ peer)) (sharedX (scalarOf draw) peer)
    ([0x48#8, 0x46#8, 0x4C#8, 0x4B#8] ++ bytesBE p 1 ++ bytesBE d 1 ++ bytesBE e 1 ++ [0#8])

/-- The engine ends an INSTALL (R377, R378): the receive slot starts without a last counter, the transmit slot at counter 0;
the offer is discarded. -/
def installDone (p e : Nat) (peer : List Byte) (s : State) : State :=
  match s.sec.offer with
  | none => keyEnd resNoOffer 2 s
  | some o =>
    if !onCurve peer then keyEnd resBadKey 2 s
    else if s.slotInUse p e then keyEnd resInUse 2 s
    else
      let key := fun d => linkKey o.draw peer p d e
      keyEnd resOk 2 ((s.modPort p fun x => { x with
        rxKey := putSlot x.rxKey e (some { key := key 0, ctr := none })
        txKey := putSlot x.txKey e (some { key := key 1, ctr := some 0 }) }).modSec fun x => { x with offer := none })

/-! ### Debug unlock and locks (R380, R381) -/

/-- Whether an unlock token is good (R380): its header, serial and zero bytes, and both signatures under the key set in use. -/
def State.tokenOk (s : State) (t : List Byte) : Bool :=
  t.take 4 == [0x48, 0x46, 0x4C, 0x44] && (t.drop 4).take 16 == serialBytes && ((t.drop 24).take 8).all (· == 0) && s.sec.src != 0 &&
  ecdsaVerify (vendorEc s.sec.keySet) (t.take 32) ((t.drop 32).take 96) && lmsVerify (vendorLms s.sec.keySet) (t.take 32) ((t.drop 128).take 1612)

/-- An unlock ends. -/
def unlockEnd (result : Nat) (s : State) : State :=
  secDone Rg.SEC_DEBUG_STATUS result 1 (s.modSec fun x => { x with dbgResult := result })

/-- The engine ends an unlock (R380): on success every key slot of every port is cleared and debug opens. -/
def unlockDone (t : List Byte) (s : State) : State :=
  if !s.tokenOk t then unlockEnd resBadToken s else
  let s1 := (List.range 24).foldl (fun s p => clearKeys p s) s
  unlockEnd resOk { s1 with dbg := { isOpen := true, wasOpen := true, scope := ofBytesLE ((t.drop 20).take 4) } }

/-- The write of SEC_DEBUG_CMD (R380). -/
def debugCmdOp (v : Word) (s : State) : State :=
  if !bit v 0 then s
  else if s.sec.flashJob.isSome || s.sec.engine.isSome then unlockEnd resBusy s
  else s.modSec fun x => { x with engine := some (.unlock (bytesOfWords ((List.range 435).map fun i => s.rd Rg.SEC_FLASH_WIN [i]))) }

/-- DEBUG_UNLOCK (R380). -/
def doDebugUnlock (src : Source) (s : State) : Host.Outcome State Fault Refusal :=
  .next (gatedWrite src Rg.SEC_DEBUG_CMD.at 1 (debugCmdOp 1) s)

/-- PK_ENGINE_DONE (R382): an offer, install or unlock ends. -/
def engineDoneOp (s : State) : State :=
  let s1 := s.modSec fun x => { x with engine := none }
  match s.sec.engine with
  | some (.offer p e) => offerDone p e s1
  | some (.install p e peer) => installDone p e peer s1
  | some (.unlock t) => unlockDone t s1
  | _ => s

def execPkEngineDone (s : State) : Host.Outcome State Fault Refusal := live engineDoneOp s

/-- The write of SEC_LOCK (R381, R384): chan is read-only once lock is 1; lock and spi set and stay. -/
def secLockOp (v : Word) (s : State) : State :=
  let s1 := if s.sec.lock then s else s.wr Rg.SEC_LOCK [] (word (fld v 6 0))
  s1.modSec fun x => { x with lock := x.lock || bit v 31, lockSpi := x.lockSpi || bit v 8 }

/-- SOURCE_LOCK and SPI_LOCK (R381). -/
def doSourceLock (src : Source) (v : Word) (s : State) : Host.Outcome State Fault Refusal :=
  .next (gatedWrite src Rg.SEC_LOCK.at (setBit v 31 true) (secLockOp (setBit v 31 true)) s)
def doSpiLock (src : Source) (v : Word) (s : State) : Host.Outcome State Fault Refusal :=
  .next (gatedWrite src Rg.SEC_LOCK.at (setBit v 8 true) (secLockOp (setBit v 8 true)) s)

/-! ### Registers that report state (R48, R384, R396) -/

/-- A status word of R384. -/
def statusWord (busy : Bool) (reason result : Nat) : Word := pack [(31, b2n busy), (16, reason), (0, result)]

/-- Whether a command of SEC_OTP_CMD runs; a reservation is not one. -/
def Sec.otpBusy (x : Sec) : Bool :=
  match x.otpJob with
  | none => false
  | some (.reserve _) => false
  | some _ => true

/-- Whether an attestation, a key command or an unlock runs (R382). -/
def Sec.attBusy (x : Sec) : Bool := x.engine == some .attest
def Sec.keyBusy (x : Sec) : Bool :=
  match x.engine with
  | some (.offer _ _) => true
  | some (.install _ _ _) => true
  | _ => false
def Sec.dbgBusy (x : Sec) : Bool :=
  match x.engine with
  | some (.unlock _) => true
  | _ => false

/-- The word a report register of SEC reads. -/
def readSec (a : Nat) (s : State) : Option Word :=
  let x := s.sec
  if a = Rg.SEC_LOAD_STATUS.at then some (pack [(24, x.secVer), (22, x.src), (8, x.lastReject), (0, x.status)])
  else if a = Rg.SEC_FLASH_STATUS.at then
    some (pack [(31, b2n x.flashJob.isSome), (16, x.flashResult), (8, x.lastCmd), (0, b2n (x.lastCmd != 0 && x.verified.contains x.lastSlot))])
  else if a = Rg.SEC_LOAD_COUNT.at then some (word (s.boot.stream.length % 2 ^ 24))
  else if a = Rg.SEC_STATUS.at then
    some (pack [(30, lifeOf s.otp), (29, b2n s.dbgOpen), (28, b2n x.engine.isSome), (24, x.keySet), (16, s.otp.revoked % 16)])
  else if a = Rg.SEC_LOCK.at then some (pack [(31, b2n x.lock), (8, b2n x.lockSpi), (0, s.fd Rg.SEC_LOCK [] 6 0)])
  else if a = Rg.SEC_ROLLBACK.at then some (word (rollbackValue s.otp % 256))
  else if a = Rg.SEC_OTP_STATUS.at then some (statusWord x.otpBusy 0 x.otpResult)
  else if a = Rg.SEC_ATT_STATUS.at then some (statusWord x.attBusy x.attReason x.attResult)
  else if a = Rg.SEC_KEY_STATUS.at then some (statusWord x.keyBusy 0 x.keyResult)
  else if a = Rg.SEC_DEBUG_STATUS.at then some (statusWord x.dbgBusy 0 x.dbgResult)
  else if a = Rg.SEC_ATT_LEAF.at then some (word x.attLeaf)
  else if a = Rg.SEC_ATT_REMAIN.at then some (word (1048576 - x.attLeaf))
  else match Rg.SEC_SERIAL.ixOf a, Rg.SEC_KEY_OFFER.ixOf a, Rg.SEC_CERT.ixOf a, Rg.SEC_ATT_REPORT.ixOf a, Rg.SEC_LOAD_DIGEST.ixOf a with
    | some [n], _, _, _, _ => some (beWord serialBytes n)
    | _, some [n], _, _, _ => some (beWord x.offerBytes n)
    | _, _, some [n], _, _ => some (word (ofBytesBE ((List.range 4).map fun i => Config.certByte (4 * n + i))))
    | _, _, _, some [n], _ => some (beWord x.attReport n)
    | _, _, _, _, some [n] => some (beWord x.digest n)
    | _, _, _, _, _ => none

end Sys2Proof.Machine
end

