-- ==== Sys2Proof/Machine/RegRead.lean ====
section
/-!
DEFINITION. What a read of the control space returns, and what a read does (R4, R7, R10, R22, R26).
-/
namespace Sys2Proof.Machine

/-- Whether a copy of a repeated register stands for a unit that the structure uses: heads of the block's kind, driver
ports of its kind, assigned lanes, used ports and channels (R138, R163, R191, R206, R232, R278, R301, R331). The other
instances ignore writes. -/
def State.instLives (s : State) (a : Nat) : Bool :=
  let off := a % 0x100000
  let h := off / 0x10000 - 1
  let unit := (off - 0x10000) / 0x100
  let isHead := decide (0x10000 ≤ off) && decide (off < 0x50000)
  let isPort := decide (0x8000 ≤ off) && decide (off < 0x8180)
  match a / 0x100000 with
  | 3 => !decide (0x10000 ≤ off) || s.assigned unit
  | 4 => !decide (0x10000 ≤ off) || s.assigned unit
  | 5 => !decide (0x10000 ≤ off) || (s.cfg.port? unit).isSome
  | 6 => !decide (0x10000 ≤ off) || s.chUsed unit
  | 11 => !isHead || s.mirror h
  | 12 => (!isHead || s.mirror h) && (!isPort || s.ltePort ((off - 0x8000) / 16))
  | 13 => (!(decide (0x200 ≤ off) && decide (off < 0x240)) || s.mirror ((off - 0x200) / 16)) &&
      (!(decide (0x600 ≤ off) && decide (off < 0x700)) || s.mirror ((off - 0x600) / 0x40))
  | 14 => (!isHead || s.panel h) && (!isPort || s.pnlPort ((off - 0x8000) / 16))
  | _ => true

/-- The header registers of block n (R22, R23, R416). -/
def headerWord (n off : Nat) (s : State) : Word :=
  match off with
  | 0x0 => word (0x92560001 + n * 0x100)
  | 0x4 => pack [(8, b2n (s.cfg.inst n)), (0, s.bst n)]
  | 0x8 => pack [(16, s.cfgUnits n), (0, s.workUnits n)]
  | 0xC => if s.absent n then 0 else s.rd (hdrScratch n)
  | _ => 0

/-- The word a register of a block reads where the block reports state; none for a plain stored word. -/
def readBlock (a : Nat) (s : State) : Option Word :=
  match a / 0x100000 with
  | 0 => readMgt a s
  | 1 => readSec a s
  | 2 => readPwg a s
  | 3 => readCal a s
  | 4 => readLne a s
  | 5 => readLnk a s
  | 6 => readDmc a s
  | 7 => readSfm a s
  | 9 => readPxp a s
  | 10 => readTgn a s
  | 11 => readPsq a s
  | 12 => readLte a s
  | 13 => match readLsc a s with
    | some w => some w
    | none => readOuter a s
  | 14 => readPnl a s
  | 15 => readTim a s
  | _ => none

/-- The counter whose low register lies at `a` (R7); CAL's two 48-bit times follow the same rule (R331). -/
def State.counterAt (s : State) (a : Nat) : Counter :=
  if a = Rg.CAL_UPTIME.at then { val := s.uptimeMs }
  else match Rg.CAL_G_LAST.ixOf a with
    | some [g] => { val := (s.calGroup g).last }
    | _ => s.cnt a

/-- Whether a counter's low register lies at `a`. -/
def isCounter (a : Nat) : Bool := match lookupReg a with
  | some (r, _) => r.cnt
  | none => false

/-- The high register's word of a counter (R7). -/
def Counter.high (c : Counter) : Word := pack [(31, b2n c.ovf), (0, c.val / 2 ^ 32)]

/-- The word at an address of a present block beyond its header. -/
def peekBlock (a : Nat) (s : State) : Word :=
  match readBlock a s with
  | some w => w
  | none =>
    if !s.instLives a && a / 0x100000 != 4 then 0
    else if isCounter a then word (s.counterAt a).val
    else if isCounter (a - 4) then (s.counterAt (a - 4)).high
    else match lookupReg a with
      | some _ => s.word a
      | none => 0

/-- The word at a control-space address now: an unlisted offset and an absent block read 0 (R4, R10). -/
def peek (a : Nat) (s : State) : Word :=
  if a % 0x100000 < 0x100 then headerWord (a / 0x100000) (a % 0x100000) s
  else if s.absent (a / 0x100000) then 0 else peekBlock a s

/-- A counter's low register captures the high one (R7). -/
def counterCapture (a : Nat) (s : State) : State :=
  { s with hiCap := s.hiCap.insert (a + 4) (s.counterAt a).high.toNat }

/-- What a read does besides returning a word (R7, R67, R192, R319). -/
def readEffect (a : Nat) (s : State) : State :=
  if s.absent (a / 0x100000) then s
  else if isCounter a then (if s.instLives a then counterCapture a s else s)
  else if a = Rg.TIM_TIME_NS.at then timCapture false s
  else if a = Rg.TIM_ADDEND_LO.at then timCapture true s
  else match Rg.SFM_TL_LO.ixOf a with
    | some [n] => tlCapture n s
    | _ => if a = Rg.LSC_CTX_DATA.at [4] then ctxCapture s else { s with hiCap := s.hiCap.erase a }

/-- The word a read returns: a captured high register first (R7). -/
def readValue (a : Nat) (s : State) : Word :=
  match s.hiCap.find a with
  | some v => word v
  | none => peek a s

/-- A read of the control space. -/
def readReg (a : Nat) (s : State) : Word × State := (readValue a s, readEffect a s)

/-- Reads the addresses in order, each after the effects of the one before (R21). -/
def readAll : List Nat → State → List Word × State
  | [], s => ([], s)
  | a :: r, s =>
    let x := readReg a s
    let y := readAll r x.2
    (x.1 :: y.1, y.2)

/-- COUNTER_LOW_READ (R7). -/
def doCounterLowRead (_src : Source) (addr : Nat) (s : State) : Host.Outcome State Fault Refusal :=
  live (fun s => if isCounter addr then (readReg addr s).2 else s) s

/-- TIME_CAPTURE_READ (R319): of TIM_ADDEND_LO or of TIM_TIME_NS. -/
def doTimeCaptureRead (_src : Source) (addend : Bool) (s : State) : Host.Outcome State Fault Refusal :=
  live (fun s => (readReg (if addend then Rg.TIM_ADDEND_LO.at else Rg.TIM_TIME_NS.at) s).2) s

end Sys2Proof.Machine
end

