-- ==== Sys2Proof/Machine/Events.lean ====
section
/-!
DEFINITION. The acceptance of event batches.
-/
namespace Sys2Proof.Machine

/-- BATCH_ACCEPT (R349, R350): the oldest batch is accepted when the queue has room for it. With none waiting, the batch just
presented is complete. -/
def batchAcceptOp (s : State) : State := acceptBatch (if s.mgt.waiting.isEmpty then closeBatch peek s else s)

def doBatchAccept (s : State) : Host.Outcome State Fault Refusal := live batchAcceptOp s

end Sys2Proof.Machine
end

