-- ==== Sys2Proof/Machine/Fabric.lean ====
section
/-!
DEFINITION. The control fabric: what a write of each register does, and the accesses that reach it over the culvert and the
SPI target port (R5, R19 to R21, R26, R27, R271, R395).
-/
namespace Sys2Proof.Machine

/-! ### Writes, block by block: registers with behaviour of their own, then plain storing or staging -/

def writeMgt (r : Reg) (ix : List Nat) (v : Word) (s : State) : State :=
  match r.off with
  | 0x100 => evtCtlOp v s
  | 0x10C => evtRdOp v s
  | 0x114 => evtPopOp v s
  | 0x11C => mgtCntClrOp v s
  | 0x210 => recCmdOp v s
  | 0x228 => recMarkOp v s
  | 0x308 => softwareResetOp v s
  | _ => storeWrite r ix v s

def writeSec (r : Reg) (ix : List Nat) (v : Word) (s : State) : State :=
  match r.off with
  | 0x104 => secLockOp v s
  | 0x11C => otpCmdOp v s
  | 0x124 => attCtlOp v s
  | 0x180 => keyCmdOp v s
  | 0x300 => debugCmdOp v s
  | 0x408 => flashCmdOp v s
  | 0x420 => loadStreamOp v s
  | _ => storeWrite r ix v s

def writePwg (r : Reg) (ix : List Nat) (v : Word) (s : State) : State :=
  match r.off with
  | 0x104 => budgetWriteOp false v s
  | 0x108 => budgetWriteOp true v s
  | 0x11C => pwgCntClrOp v s
  | _ => storeWrite r ix v s

def writeCal (r : Reg) (ix : List Nat) (v : Word) (s : State) : State :=
  let n := ix.headD 0
  match r.off with
  | 0x110 => calCntClrOp v s
  | 0x200 => calCmdOp n v s
  | 0x10000 => fromBringup (r.at ix) (staticTrimOp n v) s
  | 0x10004 => fromBringup (r.at ix) (dynTrimOp n v) s
  | _ => storeWrite r ix v s

def writeLne (r : Reg) (ix : List Nat) (v : Word) (s : State) : State :=
  let n := ix.headD 0
  match r.off with
  | 0x200 => groupCtlOp n v s
  | 0x10000 => laneCtlOp n v s
  | 0x10020 => lneLCntClrOp n v s
  | _ => storeWrite r ix v s

def writeLnk (r : Reg) (ix : List Nat) (v : Word) (s : State) : State :=
  let p := ix.headD 0
  match r.off with
  | 0x100 => lnkCtlOp v s
  | 0x10000 => portCtlOp p v s
  | 0x10024 => lnkPCntClrOp p v s
  | _ => storeWrite r ix v s

def writeDmc (r : Reg) (ix : List Nat) (v : Word) (s : State) : State :=
  match r.off with
  | 0x10C => freqCtlOp v s
  | 0x128 => dmcCntClrOp v s
  | 0x240 => basinCmdOp v s
  | 0x10010 => dmcChCntClrOp (ix.headD 0) v s
  | _ => storeWrite r ix v s

def writeSfm (r : Reg) (ix : List Nat) (v : Word) (s : State) : State :=
  let n := ix.headD 0
  match r.off with
  | 0x108 => if bit v 0 then ptInvOp s else s
  | 0x11C => sfmCntClrOp v s
  | 0x800 => tlWriteOp n v s
  | 0x804 => tlHiOp n v s
  | 0x10000 => surfCtlOp n v s
  | 0x10004 => surfDescOp n 0 v s
  | 0x10008 => surfDescOp n 1 v s
  | 0x1000C => surfDescOp n 2 v s
  | 0x10010 => surfDescOp n 3 v s
  | 0x10014 => surfDescOp n 4 v s
  | _ => storeWrite r ix v s

def writeHead (r : Reg) (ix : List Nat) (v : Word) (s : State) : State :=
  let h := ix.headD 0
  match r.blk, r.off with
  | 8, 0x1001C => cmpHCntClrOp h v s
  | 9, 0x1000C => pxpStageOp h 0 v s
  | 9, 0x10010 => pxpStageOp h 1 v s
  | 9, 0x10014 => pxpStoreOp h v s
  | 10, 0x10000 => tgnCtlOp h v s
  | 10, 0x10008 => commitOp h v s
  | 10, 0x10080 => tgnHCntClrOp h v s
  | 11, 0x1001C => maskStageOp h v s
  | 11, 0x10020 => maskStoreOp h v s
  | 11, 0x10024 => psqHCntClrOp h v s
  | 12, 0x8000 => lteCalOp h v s
  | 12, 0x1001C => lteHCntClrOp h v s
  | 14, 0x8000 => pnlCalOp h v s
  | 14, 0x10010 => srWriteOp h v s
  | 14, 0x10040 => odStageOp h 0 v s
  | 14, 0x10044 => odStageOp h 1 v s
  | 14, 0x10048 => odStoreOp h v s
  | 14, 0x10054 => pnlHCntClrOp h v s
  | _, _ => storeWrite r ix v s

def writeLsc (r : Reg) (ix : List Nat) (v : Word) (s : State) : State :=
  let c := ix.headD 0
  match r.off with
  | 0x100 => lscCtlOp v s
  | 0x10C => coefStoreOp v s
  | 0x130 => lscCntClrOp v s
  | 0x600 => outerCtlOp c v s
  | 0x624 => lscOCntClrOp c v s
  | 0x10000 => chanCtlOp c v s
  | 0x10004 => chanStatusOp c v s
  | 0x10008 => spWriteOp c v s
  | 0x1000C => chanWrite r c v s
  | 0x10010 => chanWrite r c v s
  | 0x10014 => chanWrite r c v s
  | 0x10018 => chanWrite r c v s
  | 0x1001C => chanWrite r c v s
  | 0x10040 => driveWriteOp c (ix.getD 1 0) v s
  | _ => storeWrite r ix v s

def writeTim (r : Reg) (ix : List Nat) (v : Word) (s : State) : State :=
  let k := ix.headD 0
  match r.off with
  | 0x100 => timCtlOp v s
  | 0x130 => stepPermitOp v s
  | 0x164 => timCntClrOp v s
  | 0x200 => domCtlOp k v s
  | 0x400 => pulseCtlOp k v s
  | _ => storeWrite r ix v s

/-- The effect of a write of a listed register (R3, R26). -/
def writeReg (r : Reg) (ix : List Nat) (v : Word) (s : State) : State :=
  if r.off < 0x100 then storeWrite r ix v s else
  match r.blk with
  | 0 => writeMgt r ix v s
  | 1 => writeSec r ix v s
  | 2 => writePwg r ix v s
  | 3 => writeCal r ix v s
  | 4 => writeLne r ix v s
  | 5 => writeLnk r ix v s
  | 6 => writeDmc r ix v s
  | 7 => writeSfm r ix v s
  | 13 => writeLsc r ix v s
  | 15 => writeTim r ix v s
  | _ => writeHead r ix v s

/-- The effect of a write at an address: none where no register is listed (R4) or its copy is unused. -/
def regWrite (a : Nat) (v : Word) (s : State) : State :=
  match lookupReg a with
  | none => s
  | some (r, ix) => if s.instLives a then writeReg r ix v s else s

/-- A write from a source, through the gate every write passes. -/
def fullWrite (src : Source) (a : Nat) (v : Word) (s : State) : State := gatedWrite src a v (regWrite a v) s

/-- Writes words at their addresses, in order (R21). -/
def writeAll (src : Source) : List (Nat × Word) → State → State
  | [], s => s
  | (a, v) :: r, s => writeAll src r (fullWrite src a v s)

/-- REGISTER_WRITE (R26): one aligned 32-bit word; any other size or alignment, or an address beyond the control space,
changes nothing (R5, R19). -/
def registerWriteOp (src : Source) (be addr : Nat) (v : Word) (s : State) : State :=
  if be ≠ 0xF ∨ addr % 4 ≠ 0 ∨ 0x1000000 ≤ addr then s else fullWrite src addr v s

def doRegisterWrite (src : Source) (be addr : Nat) (v : Word) (s : State) : Host.Outcome State Fault Refusal :=
  .next (registerWriteOp src be addr v s)

/-! ### The culvert (R271) -/

/-- The addresses of a request of `n` words. -/
def wordAddrs (addr n : Nat) : List Nat := (List.range n).map fun i => addr + 4 * i

/-- The status of a culvert request, checked whole (R271). -/
def State.culvertStatus (s : State) (src : Source) (r : CulvertReq) : Nat :=
  let as := wordAddrs r.addr r.count
  if r.be ≠ 0xF ∨ r.addr % 4 ≠ 0 then 0x01
  else if as.any fun a => decide (0x1000000 ≤ a) then 0x02
  else if r.op = 2 && as.any (s.denied src) then 0x03
  else if (r.op ≠ 1 ∧ r.op ≠ 2) ∨ (r.op = 2 ∧ r.words.length ≠ r.count) ∨ (r.op = 1 ∧ r.words ≠ []) then 0x04
  else 0x00

/-- The source that culvert channel c of port p is (R271). -/
def culvertSource (p : Fin 24) (c : Fin 4) : Source := .culvert ⟨4 * p.val + c.val, by omega⟩

/-- Sends the one CULVERT_RESP of a request (R270, R271); a write that started a reset is not answered (R387). -/
def respond (p c status : Nat) (r : CulvertReq) (words : List Word) (s : State) : State :=
  if s.boot.held then s else
  sendTxn p { type := 4, stream := c, header := bytesLE status 1 ++ bytesLE (r.count - 1) 1 ++ bytesLE r.tag 2 ++ List.replicate 4 0,
              payload := bytesOfWords words } s

/-- The words of a payload cut to `n` bytes. -/
def wordsIn (bs : List Byte) (n : Nat) : List Word := wordsOfBytes (bs.take n)

/-- The request that an accepted CULVERT_REQ spells (R270). A payload that is not the header's words keeps every word it has. -/
def culvertReqOf (t : Txn) : CulvertReq :=
  let count := t.field 4 4 / 2 ^ 24 % 64 + 1
  { op := t.field 0 1 % 16, be := t.field 1 1 % 16, tag := t.field 2 2, addr := t.field 4 4 % 2 ^ 24, count := count
    words := wordsIn t.payload (if t.payload.length = (4 * count + 7) / 8 * 8 then 4 * count else t.payload.length) }

/-- The next request of a channel and the state without it: the oldest accepted one, whose buffer frees, or the one that the command
carries (R270, R271). -/
def nextCulvert (p : Fin 24) (c : Fin 4) (r : CulvertReq) (s : State) : CulvertReq × State :=
  match takeTxn p.val (fun t => t.type == 3 && t.stream == c.val) s with
  | (some t, s1) => (culvertReqOf t, freeTxn p.val t s1)
  | (none, s1) => (r, s1)

/-- A CULVERT_REQ: it is checked whole, acts, and is answered (R271). -/
def culvertOp (p : Fin 24) (c : Fin 4) (r0 : CulvertReq) (s : State) : State :=
  if (s.cfg.port? p.val).isNone then s else
  let src := culvertSource p c
  let q := nextCulvert p c r0 s
  let r := q.1
  let s1 := q.2
  let st := s1.culvertStatus src r
  if st ≠ 0 then respond p.val c.val st r [] s1
  else if r.op = 1 then
    let x := readAll (wordAddrs r.addr r.count) s1
    respond p.val c.val 0 r x.1 x.2
  else respond p.val c.val 0 r [] (writeAll src ((wordAddrs r.addr r.count).zip r.words) s1)

/-- CULVERT_READ (R271): a request whose op is not write. -/
def doCulvertRead (p : Fin 24) (c : Fin 4) (r : CulvertReq) (s : State) : Host.Outcome State Fault Refusal :=
  live (culvertOp p c { r with op := if r.op = 2 then 1 else r.op }) s

/-- CULVERT_WRITE (R271). -/
def doCulvertWrite (p : Fin 24) (c : Fin 4) (r : CulvertReq) (s : State) : Host.Outcome State Fault Refusal :=
  live (culvertOp p c { r with op := 2 }) s

/-! ### The SPI target port (R395) -/

/-- The address after a word: it advances by 4, but stays at SEC_LOAD_STREAM. -/
def spiNext (a : Nat) : Nat := if a = Rg.SEC_LOAD_STREAM.at then a else a + 4

/-- The addresses of `n` words from an address. -/
def spiAddrs : Nat → Nat → List Nat
  | _, 0 => []
  | a, n + 1 => a :: spiAddrs (spiNext a) n

/-- The status of one SPI access (R5, R42, R271, R381). -/
def State.spiStatusOf (s : State) (write : Bool) (a : Nat) : Nat :=
  if a % 4 ≠ 0 then 0x01
  else if 0x1000000 ≤ a then 0x02
  else if !s.spiReach a then 0x01
  else if write && s.denied .spi a then 0x03
  else 0x00

/-- Records the status of the last write or read; a reset clears it. -/
def setSpiStatus (st : Nat) (s : State) : State :=
  if s.boot.held then s else { s with boot := { s.boot with spiStatus := st } }

/-- The words of an SPI write, each an access of its own. -/
def spiWriteAll : List (Nat × Word) → State → State
  | [], s => s
  | (a, v) :: r, s =>
    let st := s.spiStatusOf true a
    spiWriteAll r (setSpiStatus st (if st = 0 then fullWrite .spi a v s else s))

/-- SPI_WRITE (R395). -/
def doSpiWrite (addr : Nat) (words : List Word) (s : State) : Host.Outcome State Fault Refusal :=
  live (spiWriteAll ((spiAddrs (addr % 2 ^ 24) words.length).zip words)) s

/-- The words of an SPI read; a refused one returns 0. -/
def spiReadAll : List Nat → State → List Word × State
  | [], s => ([], s)
  | a :: r, s =>
    let st := s.spiStatusOf false a
    let x := if st = 0 then readReg a s else (0, s)
    let y := spiReadAll r (setSpiStatus st x.2)
    (x.1 :: y.1, y.2)

/-- SPI_READ (R395): the words go out from bits [7:0] to bits [31:24]. -/
def spiReadOp (addr count : Nat) (s : State) : State :=
  let x := spiReadAll (spiAddrs (addr % 2 ^ 24) count) s
  emit (.spi (bytesOfWords x.1)) x.2

def doSpiRead (addr count : Nat) (s : State) : Host.Outcome State Fault Refusal := live (spiReadOp addr count) s

/-- SPI_STATUS (R395). -/
def execSpiStatus (s : State) : Host.Outcome State Fault Refusal :=
  live (fun s => emit (.spi (bytesLE s.boot.spiStatus 1)) s) s

end Sys2Proof.Machine
end

