-- ==== Sys2Proof/Machine/Links.lean ====
section
/-!
DEFINITION. Commands whose effect reaches more than one block: a lane group's grant, a port that becomes ACTIVE or changes its
width, the power orders of an idle port, and a DRAM read that returns.
-/
namespace Sys2Proof.Machine

/-- GROUP_GRANT (R242). -/
def doGroupGrant (g : Fin 12) (s : State) : Host.Outcome State Fault Refusal := live (groupGrantOp g.val) s

/-- The lanes or the rate of a port have changed: the load rules of the heads it feeds are evaluated again (R153, R228). -/
def portBudgets (p : Nat) (s : State) : State := pnlBudget p (lteBudget p s)

/-- The ports whose working lanes are not those that their time budgets were computed for (R153, R228, R252). -/
def State.unbudgeted (s : State) : List Nat := (List.range 24).filter fun p => (s.port p).mask != (s.port p).budgeted

/-- At the end of a clock the time budgets of those ports are computed again (R153, R228, R252). -/
def rebudget (s : State) : State :=
  s.unbudgeted.foldl (fun s p => portBudgets p (s.modPort p fun x => { x with budgeted := x.mask })) s

/-- A port has become ACTIVE: the calibration that starts by itself (R143, R207). -/
def portCameUp (p : Nat) (s : State) : State := calPortUp p s

/-- CAPS_RECEIVE (R269). -/
def doCapsReceive (p : Fin 24) (body : List Byte) (s : State) : Host.Outcome State Fault Refusal :=
  live (capsReceiveOp portCameUp p.val body) s

/-- WIDTH_RECEIVE (R261). -/
def doWidthReceive (p : Fin 24) (mask : Nat) (s : State) : Host.Outcome State Fault Refusal :=
  live (widthReceiveOp portCameUp p.val mask) s

/-- ALIGN_RECEIVE (R259). -/
def doAlignReceive (n : Fin 96) (number : Nat) (inStripe : Bool) (s : State) : Host.Outcome State Fault Refusal :=
  live (alignReceiveOp portCameUp n.val number inStripe) s

/-- An idle port's lanes go to a power state that both ends allow (R276): bit `en` of LNK_P_CTL permits it, bit `cap` of the
peer's CAPS reports it, and `code` is the state ordered. Trims of the direction that waited for a boundary then take effect (R327). -/
def sleepOp (p en cap code : Nat) (s : State) : State :=
  let x := s.port p
  if x.idle && bit (s.rd Rg.LNK_P_CTL [p]) en && x.peerReports cap && s.maySleep (s.lsc.eng == 2) p then
    ((s.cfg.port? p).toList.flatMap (·.lanes)).foldl (fun s n => calCheckApply (n / 8) (settleTrims n s)) (orderPm p code s)
  else s

/-- PORT_QUIET_IDLE (R276). -/
def doPortQuietIdle (p : Fin 24) (s : State) : Host.Outcome State Fault Refusal := live (sleepOp p.val 1 2 1) s

/-- PORT_DORMANT_IDLE (R276). -/
def doPortDormantIdle (p : Fin 24) (s : State) : Host.Outcome State Fault Refusal := live (sleepOp p.val 2 3 2) s

/-- DRAM_READ_COMPLETE (R293). -/
def execDramReadComplete (x : ReadDone) (s : State) : Host.Outcome State Fault Refusal := live (readDoneOp abandonLayer x) s

end Sys2Proof.Machine
end

