-- ==== Sys2Proof/Machine/Line.lean ====
section
/-!
DEFINITION. What the lanes send (R235 to R239, R245, R246, R249, R251, R255) and how a port's blocks fall into stripes (R258, R259, R262,
R273). Each core clock period sends what falls due in it.
-/
namespace Sys2Proof.Machine

/-! ### Block times (R235) -/

/-- Whether a block time of a rate code ends in the core clock period that follows `now`: a lane passes 5 × 2^k half bits in a period,
and a block is 132 of them. The blocks of all lanes of one rate keep in step (assumption log 51). -/
def blockTime (k now : Nat) : Bool := now * (5 * 2 ^ k) / 132 != (now + 1) * (5 * 2 ^ k) / 132

/-! ### Blocks (R238, R239, R245, R259, R262) -/

/-- A payload scrambled, and the history afterwards (R238): `hist` holds the last 58 bits sent, newest in bit 0. -/
def scramble (hist d : Nat) : Nat × Nat :=
  (List.range 64).foldl (fun acc i =>
    let b := (b2n (d.testBit i) + b2n (acc.2.testBit 38) + b2n (acc.2.testBit 57)) % 2
    (acc.1 + b * 2 ^ i, (acc.2 * 2 + b) % 2 ^ 58)) (0, hist)

/-- The payload of a TRAIN block of a lane index and step (R245). -/
def trainPayload (idx step : Nat) : Nat := 0x2D + 0xFFFFF * 2 ^ 8 + step * 2 ^ 48 + idx * 2 ^ 56

/-- IDLE, FILL, ALIGN and LANE_PM blocks (R239, R259, R262). -/
def idleBlock : Block := (2, 0x1E)
def fillBlock : Block := (2, 0x80)
def alignBlock (idx n number : Nat) : Block := (2, ofBytesLE ([0x4B, BitVec.ofNat 8 idx, BitVec.ofNat 8 n, 0] ++ bytesLE number 4))
def pmBlock (code : Nat) : Block := (2, 0x55 + code * 256)

/-! ### Stripes (R258, R259, R262, R273) -/

/-- Places that nothing fills take FILL. -/
def fillTo (n : Nat) (bs : List Block) : List Block := bs ++ List.replicate (n - bs.length) fillBlock

/-- The next stripe of a port over the lane indices `idx`, and the port afterwards: ALIGN once every 16,384 stripes; else the rest of the
packet in progress, then link controls in the places that it leaves; else link controls; else the next packet, where packets may
`start`; else IDLE. -/
def formStripe (idx : List Nat) (start : Bool) (x : Port) : List Block × Port :=
  let n := idx.length
  if 16383 ≤ x.stripes then
    (idx.map fun i => alignBlock i n x.marker, { x with stripes := 0, marker := (x.marker + 1) % 2 ^ 32 })
  else
    let y := { x with stripes := x.stripes + 1 }
    let z := if y.cur.isEmpty && y.ctl.isEmpty && start then { y with cur := y.line.headD [], line := y.line.drop 1 } else y
    let links := z.cur.take n ++ z.ctl.take (n - z.cur.length)
    (if links.isEmpty then List.replicate n idleBlock else fillTo n links,
     { z with cur := z.cur.drop n, ctl := z.ctl.drop (n - z.cur.length) })

/-- The lane indices on which a port sends stripes: those of its width in CAPS and ACTIVE, those that can bond in BOND and REBOND. -/
def State.stripeIdx (s : State) (r : PortCfg) : List Nat :=
  let st := (s.port r.port).state
  let m := if st = 3 ∨ st = 4 then (s.port r.port).mask else if st = 2 ∨ st = 5 then s.bondMask r else 0
  (List.range r.count).filter fun i => m.testBit i

/-- The place of a lane index in a stripe; IDLE where the stripe has none for it. -/
def placeOf (idx : List Nat) (bs : List Block) (i : Nat) : Block := bs.getD (idx.idxOf i) idleBlock

/-! ### Lanes -/

/-- Whether a training lane sends ready (R245): both locks held, and its own index received over the 64 blocks. -/
def Lane.ready (l : Lane) : Bool := l.cdrLock && l.commaLock && l.ownRun == 64

/-- The next `n` bits of PRBS31 (R255), first bit first, and the generator afterwards: its last 31 bits, newest in bit 0. -/
def prbsBits : Nat → Nat → List Bool × Nat
  | 0, g => ([], g)
  | n + 1, g =>
    let b := xor (g.testBit 27) (g.testBit 30)
    let r := prbsBits n ((g * 2 + b2n b) % 2 ^ 31)
    (b :: r.1, r.2)

/-- The number whose bits are given, bit 0 first. -/
def ofBits (bs : List Bool) : Nat := bs.foldr (fun b a => b2n b + 2 * a) 0

/-- Line bits as a header, its first bit as bit 1, and a payload (R237). -/
def blockOfBits (bs : List Bool) : Block := (2 * b2n (bs.getD 0 false) + b2n (bs.getD 1 false), ofBits (bs.drop 2))

/-- A scrambled block, and the lane afterwards. -/
def Lane.scrambled (l : Lane) (b : Block) : Option Block × Lane :=
  let r := scramble l.txScr b.2
  (some (b.1, r.1), { l with txScr := r.2 })

/-- What an ACTIVE lane in a transmitter power state sends (R249): its LANE_PM blocks, then nothing; at its exit, from quiet scrambled IDLE;
from dormant nothing for 10 µs, TRAIN blocks for 2 µs and 80 blocks, then scrambled IDLE. -/
def Lane.pmSend (l : Lane) (idx rate now : Nat) : Option Block × Lane :=
  match l.txWake with
  | none => if l.pmOut = 0 then (none, l) else { l with pmOut := l.pmOut - 1 }.scrambled (pmBlock l.txPm)
  | some t =>
    let dt := now - t
    if l.txPm = 1 then l.scrambled idleBlock
    else if dt < 12800 then (none, l)
    else if (dt - 12800 - 2560) * (5 * 2 ^ rate) < 80 * 132 then (some (2, trainPayload idx 0), l)
    else l.scrambled idleBlock

/-- What a lane in TEST sends (R255): with near-end loopback the line idles; far-end, TRAIN blocks until comma lock, then loop acknowledge,
then what it receives; as requester, TRAIN blocks with loop request, then the pattern. -/
def Lane.testSend (l : Lane) (idx : Nat) : Option Block × Lane :=
  if l.test = 3 then
    if !l.looping then (some (2, trainPayload idx 0), l)
    else if l.acks < loopAcks then (some (2, trainPayload idx 3), { l with acks := l.acks + 1 })
    else (l.loopBuf.head?, { l with loopBuf := l.loopBuf.drop 1 })
  else if l.test = 4 then
    if !l.prbs then (some (2, trainPayload idx 2), l)
    else
      let r := prbsBits 66 l.prbsTx
      (some (blockOfBits r.1), { l with prbsTx := r.2 })
  else (none, l)

/-- The block that a lane sends in a block time, none at electrical idle, and the lane afterwards; `place` is its place in the port's
stripe. -/
def Lane.send (l : Lane) (idx rate now : Nat) (place : Block) : Option Block × Lane :=
  let train := (some (2, trainPayload idx (b2n l.ready)), l)
  match l.state with
  | 2 => train
  | 3 => train
  | 4 => l.scrambled idleBlock
  | 5 => if l.txPm = 0 then l.scrambled place else l.pmSend idx rate now
  | 6 => if l.phase = 0 then train else l.scrambled idleBlock
  | 7 => l.testSend idx
  | _ => (none, l)

/-- A block as the line carries it: every bit inverted where the lane's record asks for it (R240). -/
def onLine (inv : Bool) (b : Block) : Block := if inv then (3 - b.1, 2 ^ 64 - 1 - b.2) else b

/-- A lane in near-end loopback generates and checks its own pattern (R255). -/
def nearEnd (n : Nat) (s : State) : State :=
  let l := s.lane n
  if l.state ≠ 7 || (l.test ≠ 1 && l.test ≠ 2) then s else
  let g := prbsBits 66 l.prbsTx
  let r := prbsCheck l.prbsHist g.1
  count Rg.LNE_L_PRBS_ERR [n] r.2.1 (count Rg.LNE_L_PRBS_BITS [n] r.1
    (s.modLane n fun l => { l with prbsTx := g.2, prbsHist := r.2.2 }))

/-- Lane n sends in a block time (R237). -/
def laneSend (n : Nat) (place : Block) (s : State) : State :=
  let r := (s.lane n).send (s.laneIdx n) (s.group (n / 8)).rate s.now place
  let s1 := nearEnd n (s.setLane n r.2)
  match r.1 with
  | none => s1
  | some b =>
    let w := onLine (s.cfg.eq.getD n {}).txInv b
    emit (.block n w.1 w.2) s1

/-- Whether a lane sends or checks anything. -/
def Lane.busy (l : Lane) : Bool := decide (2 ≤ l.state) && l.state != 8

/-- A port's part of a core clock period: its stripe, the blocks of its lanes, and the end of the exits from power states, after which
what waited is sent (R249, R258, R276). -/
def portSend (s : State) (r : PortCfg) : State :=
  if r.lanes.all fun n => !(s.lane n).busy then s else
  let p := r.port
  let idx := s.stripeIdx r
  let st := (s.port p).state
  let f := if blockTime (s.portRate r) s.now && !idx.isEmpty then formStripe idx ((st == 3 || st == 4) && s.awake p) (s.port p)
    else ([], s.port p)
  let s1 := r.lanes.foldl (fun s n =>
    if blockTime (s.group (n / 8)).rate s.now then laneSend n (placeOf idx f.1 (n - r.first)) s else s) (s.setPort p f.2)
  if (s1.port p).waiting.isEmpty then s1 else pump p (wakeLanes p s1)

/-- Every port sends what falls due in a core clock period. -/
def transmit (s : State) : State := s.cfg.ports.foldl portSend s

end Sys2Proof.Machine
end

