-- ==== Sys2Proof/Machine/Tick.lean ====
section
/-!
DEFINITION. One core clock period that no command fills: time passes, a batch of event records completes at the end of its control
clock (R349), and a deterministic re-run applies the items that have fallen due (R365, R366).
-/
namespace Sys2Proof.Machine

/-! ### The items of a re-run (R360, R365, R366) -/

/-- A difference between the re-run and the recording (R366): counted, and the first one held. -/
def rerunDiff (kind h chan rects frame : Nat) (s : State) : State :=
  let s1 := count1 Rg.MGT_REC_DIFF_CNT [] s
  if s1.recd.diffSeen then s1
  else { s1 with recd := { s1.recd with
    diffSeen := true
    diffKind := kind
    diffHead := h
    diffChan := chan
    diffRects := rects
    diffFrame := frame % 2 ^ 32 } }

/-- A recorded write of TGN_H_CTL: the head's enable is not requested again, and a disable stops it at its next boundary (R100). -/
def rerunCtl (h : Nat) (v : Word) (s : State) : State :=
  let s1 := storeWrite Rg.TGN_H_CTL [h] v s
  if bit v 0 then s1 else
  match (s.hd h).state with
  | 2 => s1.modHd h fun d => { d with state := 1, pend := [] }
  | 3 => disableOp h s1
  | 4 => disableOp h s1
  | _ => s1

/-- A REG item writes its register (R365). -/
def rerunReg (h a : Nat) (v : Word) (s : State) : State :=
  if a = Rg.TGN_H_CTL.at [h] then rerunCtl h v s else regWrite a v s

/-- A COMMIT item fixes the boundary of the commit just accepted, and whether it was late. -/
def rerunCommit (h status target late : Nat) (s : State) : State :=
  if status ≠ 0 then s else
  s.modHd h fun d => { d with pend := match d.pend.getLast? with
    | some c => d.pend.dropLast ++ [{ c with target := target, late := late == 1 }]
    | none => [] }

/-- A BOUNDARY item: the frame number, the genlock error and the holdover flag of the boundary that follows. -/
def rerunBoundary (h num e held : Nat) (s : State) : State :=
  boundaryOp h { s with
    recd := { s.recd with glErr := sext 32 e, holdover := held == 1 }
    counters := s.counters.put {} (Rg.TGN_H_FRAME.at [h]) { val := (num - 1) % 2 ^ 48 } }

/-- A MON item: the record arrives now, so its stamp moves as far as its arrival has (R365). -/
def rerunMon (c : Nat) (vals : List Nat) (s : State) : State :=
  let x := fun i => vals.getD i 0
  recordIn c { chan := x 0, flags := x 1, seq := x 2, mon := x 3, aux := x 4
               stamp := (x 5 + s.lteTime + (2 ^ 32 - x 6 % 2 ^ 32)) % 2 ^ 32 } s

/-- A SENSOR item. -/
def rerunSensor (h k : Nat) (bs : List Byte) (s : State) : State :=
  let s1 := slotOutcome h k (some bs) s
  if (s.outerOf h).waiting && (s1.outerOf h).asked.isEmpty then outerCompute h s1 else s1

/-- The low bytes of recorded values. -/
def bytesOf (vals : List Nat) : List Byte := vals.map fun v => BitVec.ofNat 8 v

/-- A CRC item: the frame's rectangles, results and masks are compared (R366). -/
def rerunCrc (h : Nat) (vals : List Nat) (s : State) : State :=
  let w := s.rd Rg.TGN_H_CRC_STAT [h]
  let differs := fun r => decide ((s.rd Rg.TGN_R_RESULT [h, r]).toNat ≠ vals.getD (r + 1) 0) ||
    fld w 7 0 / 2 ^ r % 2 != vals.getD 9 0 / 2 ^ r % 2 || fld w 15 8 / 2 ^ r % 2 != vals.getD 10 0 / 2 ^ r % 2 ||
    fld w 23 16 / 2 ^ r % 2 != vals.getD 11 0 / 2 ^ r % 2
  let m := maskOf 8 differs
  if m = 0 then s else rerunDiff 1 h 0 m (vals.getD 0 0) s

/-- A DRIVE item: the codes that the channel sent in the frame's display period are compared (R366). -/
def rerunDrive (h : Nat) (vals : List Nat) (s : State) : State :=
  let x := (vals.getD 0 0, vals.getD 1 0, vals.getD 2 0, vals.getD 3 0)
  let s1 := { s with recd := { s.recd with drives := s.recd.drives.filter fun d => !(d.1 == x.1 && d.2.1 == x.2.1) } }
  if s.recd.drives.contains x then s1 else rerunDiff 2 h x.2.1 0 x.1 s1

/-- One item takes its effect (R365). -/
def rerunItem (i : RecItem) (s : State) : State :=
  let x := fun k => i.vals.getD k 0
  match i.kind with
  | 0x10 => rerunReg i.head (x 0) (word (x 1)) s
  | 0x11 => rerunCommit i.head (x 1) (x 2) (x 3) s
  | 0x12 => { s with recd := { s.recd with fences := s.recd.fences.put 0 (x 0) (x 1) } }
  | 0x13 => rerunBoundary i.head (x 0) (x 2) (x 3) s
  | 0x14 => if x 0 = 12 then lateBreach i.head s else breachOp i.head (x 0) s
  | 0x20 => rerunMon i.unit i.vals s
  | 0x21 => rerunSensor i.head i.unit (bytesOf (i.vals.drop 1)) s
  | 0x22 => tempReplyOp i.head (some (bytesOf i.vals)) s
  | 0x23 => (landBlock (x 0) (bytesOf (i.vals.drop 1)) s).2
  | 0x24 => if s.ltePort (x 0) then lteEvent (· == i.head) (x 0) (x 1) (x 2 % 65536) s else pnlEvent (· == i.head) (x 0) (x 1) (x 2 % 65536) s
  | 0x30 => rerunCrc i.head i.vals s
  | 0x31 => rerunDrive i.head i.vals s
  | _ => s

/-- Whether an item has fallen due on the replay clock (R365). -/
def State.itemDue (s : State) (i : RecItem) : Bool := decide (i.stamp + s.recd.clock0 ≤ s.stamp + s.recd.stamp0)

/-- The items that are due take effect in order, up to a GAP, an item of a head that the re-run does not hold apart, and with
stop_diff up to the first difference (R366). -/
def rerunDue : List RecItem → State → State
  | [], s => { s with recd := { s.recd with replayAt := [] } }
  | i :: r, s =>
    if s.recd.state ≠ 5 ∨ !s.itemDue i ∨ i.kind = 0x41 ∨ (s.recd.diffSeen ∧ bit s.recd.ctl 8) then
      { s with recd := { s.recd with replayAt := i :: r } }
    else rerunDue r (if bit s.recd.ctl i.head then rerunItem i s else s)

/-! ### The period -/

/-- The replay clock stands still while a head that the re-run holds apart has no freeboard left (R365). -/
def rerunPause (s : State) : State :=
  if (List.range 4).any fun h => bit s.recd.ctl h && decide (3 ≤ (s.hd h).state) && (s.hd h).fbNow == 0 then
    { s with recd := { s.recd with clock0 := s.recd.clock0 + 1 } }
  else s

/-- A new control clock: a re-run that must pause, and the checkpoint that follows a latch (R362, R365). -/
def newClock (s : State) : State :=
  if s.recd.state = 5 then rerunPause s else if s.recd.state = 1 ∧ s.recd.ckptWait = 2 then startCkpt s else s

/-- A core clock period passes (R153, R258, R346, R349, R362, R365); held in reset, none does. -/
def tick (s : State) : State :=
  if s.boot.held then s else
  let sb := rebudget s
  let s1 := transmit (if s.now % 2 = 0 then closeBatch peek sb else sb)
  let s0 := { s1 with now := s1.now + 1 }
  let s2 := if s.now % 2 = 0 then newClock s0 else s0
  if s2.recd.state = 5 then rerunDue s2.recd.replayAt s2 else s2

end Sys2Proof.Machine
end

