-- ==== Sys2Proof/Machine/Order.lean ====
section
/-!
DEFINITION. The order of happenings that fall in one clock (R21, R66, R155, R169, R175, R185, R192, R199, R205, R224, R256, R277, R300,
R318, R329, R344, R367): a happening whose place lies before one that its unit has already evaluated in this clock belongs to the next
clock (assumption log 49).
-/
namespace Sys2Proof.Machine

/-- The clock that an order counts in: the core clock, the control clock, the time-base tick, or the DRAM CK. -/
inductive ClockKind where
  | core
  | control
  | base
  | dram
  deriving DecidableEq, Repr

/-- The number of the clock in progress. -/
def State.clockNo (s : State) : ClockKind → Nat
  | .core => s.now
  | .control => s.stamp
  | .base => s.tick
  | .dram => s.now * 40 / accessTenths s.dmc.rate

/-- The place of a happening among those of a unit in one clock. One that `tests` nothing is only noted. -/
structure Turn where
  unit  : Nat
  clock : ClockKind
  place : Nat
  tests : Bool := true
  deriving DecidableEq, Repr

/-- Whether something that comes behind the happening has been evaluated in this clock. -/
def State.overtaken (s : State) (t : Turn) : Bool :=
  t.tests && match s.order.find t.unit with
    | some (c, p) => c == s.clockNo t.clock && decide (t.place < p)
    | none => false

/-- Core clock periods pass until a happening with these places is overtaken in none of its clocks. -/
def awaitTurn : Nat → List Turn → State → State
  | 0, _, s => s
  | n + 1, ts, s => if ts.any s.overtaken then awaitTurn n ts (tick s) else s

/-- The place of the last happening of the unit in this clock, once this one is evaluated. -/
def State.placeAfter (s : State) (t : Turn) : Nat :=
  match s.order.find t.unit with
  | some (c, p) => if c = s.clockNo t.clock then max p t.place else t.place
  | none => t.place

/-- Notes a happening at its place. -/
def noteTurn (s : State) (t : Turn) : State := { s with order := s.order.insert t.unit (s.clockNo t.clock, s.placeAfter t) }

/-- The state in which a happening with these places is evaluated. No clock of the device has more than four core periods. -/
def State.atTurn (s : State) (ts : List Turn) : State := if s.boot.held then s else ts.foldl noteTurn (awaitTurn 4 ts s)

end Sys2Proof.Machine
end

