-- ==== Sys2Proof/Machine/Rows.lean ====
section
/-!
DEFINITION. The commands that have a place in the order of their clock: which place, and the meaning at that place.
-/
namespace Sys2Proof.Machine

/-! ### Places -/

/-- R66: lease retires, fence signals, latches, register writes, commit acceptance. -/
def fabricTurn (place : Nat) : Turn := { unit := 0, clock := .core, place := place }
def retireTurn : Turn := fabricTurn 1
def signalTurn : Turn := fabricTurn 2

/-- R277: lane and port state changes come before every happening of other blocks, which are noted. -/
def linkTurn : Turn := { unit := 1, clock := .core, place := 0 }
def linkSeen : Turn := { unit := 1, clock := .core, place := 1 }

/-- R367: drains, acceptance, the recorder's state changes, register writes. -/
def mgtTurn (place : Nat) : Turn := { unit := 2, clock := .control, place := place }

/-- R318: steps 10, pulse targets 20, messages of domain d 30 + d, state changes of domain d 40 + d, register writes 60. -/
def timTurn (place : Nat) : Turn := { unit := 3, clock := .base, place := place }

/-- R344: the thermal state, releases, arrivals, grant decisions, deadlines, register writes. -/
def pwgTurn (place : Nat) : Turn := { unit := 4, clock := .control, place := place }
def releaseTurn : Turn := pwgTurn 2
def arrivalTurn : Turn := pwgTurn 4

/-- R175: computations commit in ascending channel number. -/
def loopTurn (c : Nat) : Turn := { unit := 5, clock := .control, place := c }

/-- R169: samples enter the queue in ascending channel number. -/
def entryTurn (c : Nat) : Turn := { unit := 6, clock := .control, place := c }

/-- R205: heads stage their set-points in ascending number. -/
def stageTurn (h : Nat) : Turn := { unit := 7, clock := .control, place := h }

/-- R155, R224: entry into HOLD or OFF, exclusions, the stream or line check, the issue of commands. -/
def lteTurn (h place : Nat) : Turn := { unit := 16 + h, clock := .core, place := place }

/-- R205: a head's outer sample comes before a write of its mode. -/
def outerTurn (h place : Nat) : Turn := { unit := 24 + h, clock := .control, place := place }

/-- R185, R199: a head's change of state comes before, and its staging of set-points behind, what happens to its channels. -/
def headTurn (h : Nat) : Turn := { unit := 32 + h, clock := .control, place := 0 }
def headSeen (h : Nat) : Turn := { unit := 32 + h, clock := .control, place := 1 }
def headStages (h : Nat) : Turn := { unit := 32 + h, clock := .control, place := 2 }

/-- R277: lane state changes, received link controls, replay expiry. -/
def portTurn (p place : Nat) : Turn := { unit := 64 + p, clock := .core, place := place }

/-- R300: frequency changes 1, self-refresh 2, burst ends 3, the command slot 4, register writes 5. -/
def dramTurn (c place : Nat) : Turn := { unit := 96 + c, clock := .dram, place := place }

/-- R329: the group's state 1, lane state changes 2, eye_go 3, sub-window ends 4, register writes 5, application 6. -/
def calTurn (g place : Nat) : Turn := { unit := 112 + g, clock := .control, place := place }

/-- R256: the group's state 1, scan completion 2, drop-out and limits 3, power orders 4, tracker windows 5, register writes 6. -/
def laneTurn (n place : Nat) : Turn := { unit := 128 + n, clock := .control, place := place }

/-- R185: the hold timer and ramps 2, records 3, the sample boundary 4, the commit 5; R192: coefficient writes 6. -/
def chanTurn (c place : Nat) : Turn := { unit := 256 + c, clock := .control, place := place }

/-- R21: the firmware's accesses of a block come first, then the culvert channels', then the SPI target port's. -/
def srcPlace : Source → Nat
  | .firmware => 0
  | .culvert c => 1 + c.val
  | .spi => 97

def accessTurn (src : Source) (a : Nat) : Turn := { unit := 512 + a / 0x100000, clock := .control, place := srcPlace src }

/-! ### Register writes (R66, R155, R192, R205, R256, R300, R318, R329, R344, R367) -/

/-- The first index of the register at an address. -/
def instOf (a : Nat) : Nat := match lookupReg a with | some (_, i :: _) => i | _ => 0

/-- A write of a lane group's command is a group down with bit 30, a register write else. -/
def groupWriteTurns (g : Nat) (v : Word) : List Turn :=
  calTurn g (if bit v 30 then 1 else 5) :: (List.range 8).map fun i => laneTurn (8 * g + i) (if bit v 30 then 1 else 6)

/-- A write in LNE. -/
def lneTurns (a : Nat) (v : Word) : List Turn :=
  let i := instOf a
  if a % 0x100000 < 0x200 then []
  else if a % 0x100000 < 0x10000 then groupWriteTurns i v
  else if a = Rg.LNE_L_CTL.at [i] ∧ bit v 0 then [laneTurn i 6, calTurn (i / 8) 3]
  else [laneTurn i 6]

/-- A write in the registers of the heads: commit acceptance comes last. -/
def headWriteTurns (a : Nat) (v : Word) : List Turn :=
  [fabricTurn (if a = Rg.TGN_H_COMMIT.at [instOf a] ∧ bit v 31 then 5 else 4)]

/-- A write in LSC: what is written into a coefficient store comes behind its channel's sample boundary. -/
def State.lscTurns (s : State) (a : Nat) : List Turn :=
  if a = Rg.LSC_COEF_DATA.at then [fabricTurn 4, chanTurn (s.fd Rg.LSC_COEF_ADDR [] 23 16) 6]
  else if a = Rg.LSC_O_CTL.at [instOf a] then [fabricTurn 4, outerTurn (instOf a) 2]
  else [fabricTurn 4]

/-- The places of a write in the order of its block. -/
def State.blockWriteTurns (s : State) (a : Nat) (v : Word) : List Turn :=
  match a / 0x100000 with
  | 0 => [mgtTurn 3]
  | 3 => if a % 0x100000 < 0x200 then [] else [calTurn (if a % 0x100000 < 0x10000 then instOf a else instOf a / 8) 5]
  | 4 => lneTurns a v
  | 6 => if a % 0x100000 < 0x10000 then (List.range 16).map fun c => dramTurn c 5 else [dramTurn (instOf a) 5]
  | 7 => [fabricTurn (if a = Rg.SFM_TL_LO.at [instOf a] then 2 else 4)]
  | 8 => headWriteTurns a v
  | 9 => headWriteTurns a v
  | 10 => headWriteTurns a v
  | 11 => headWriteTurns a v
  | 12 => headWriteTurns a v
  | 13 => s.lscTurns a
  | 14 => headWriteTurns a v
  | 15 => [timTurn 60]
  | _ => []

/-- The places of a write. What a write asks of PWG counts from the next clock. -/
def State.accessTurns (s : State) (src : Source) (a : Nat) (v : Word) : List Turn :=
  accessTurn src a :: linkSeen :: pwgTurn 7 :: s.blockWriteTurns a v

/-- The places of a culvert request, by its first word. -/
def State.culvertTurns (s : State) (p : Fin 24) (c : Fin 4) (r : CulvertReq) : List Turn :=
  let q := (nextCulvert p c r s).1
  if q.op = 2 then s.accessTurns (culvertSource p c) q.addr (q.words.headD 0) else [accessTurn (culvertSource p c) q.addr]

/-! ### Heads, channels, lanes -/

/-- A boundary: the latch (R66); with it the head's state may change (R155, R185, R224) and an outer sample is taken (R205). -/
def State.boundaryTurns (s : State) (h : Nat) : List Turn :=
  [fabricTurn 3, linkSeen, lteTurn h 1, outerTurn h 1, { headTurn h with tests := decide ((s.hd h).state ≠ 4) || !(s.hd h).pend.isEmpty }]

/-- What happens to a channel; its head is noted. -/
def State.chanTurns (s : State) (c place : Nat) : List Turn :=
  chanTurn c place :: match s.cfg.chanHead? c with
    | some h => [{ headSeen h with tests := false }]
    | none => []

/-- The hold timer and ramp steps, which may exclude the channel (R155). -/
def State.rampTurns (s : State) (c : Nat) : List Turn :=
  s.chanTurns c 2 ++ match s.cfg.chanHead? c with
    | some h => [lteTurn h 2]
    | none => []

/-- A record: the one accepted by the port, or the command's. -/
def State.sampleTurns (s : State) (p : Nat) (x0 : MonRec) : List Turn :=
  let x := match (takeResponse p (· == 0x82) s).1 with | some bs => monRecOf bs | none => x0
  match s.portDriver? p with
  | some d => entryTurn (16 * d + x.chan % 16) :: s.chanTurns (16 * d + x.chan % 16) 3
  | none => []

/-- The sample boundary of the channel whose sample is next. -/
def State.takeTurns (s : State) : List Turn :=
  match s.nextSample with
  | some q => s.chanTurns q.chan 4
  | none => []

/-- A reply or the end of the read window may let the head compute. -/
def replyTurns (h : Nat) : List Turn := [stageTurn h, headStages h]

/-- The state of a lane group changes. -/
def groupTurns (g : Nat) : List Turn := linkTurn :: calTurn g 1 :: (List.range 8).map fun i => laneTurn (8 * g + i) 1

/-- The state of a lane changes. -/
def State.laneTurns (s : State) (n : Nat) : List Turn :=
  linkTurn :: laneTurn n 3 :: calTurn (n / 8) 2 :: match s.cfg.portOfLane? n with
    | some r => [portTurn r.port 1]
    | none => []

/-- A block changes the state of a lane that is not yet ACTIVE. -/
def State.blockTurns (s : State) (n : Nat) : List Turn := if (s.lane n).state = 5 then [] else s.laneTurns n

/-- Power orders to the lanes of a port. -/
def State.sleepTurns (s : State) (p : Nat) : List Turn :=
  match s.cfg.port? p with
  | some r => r.lanes.map fun n => laneTurn n 4
  | none => []

/-- Trims of a port's lanes take effect. -/
def State.trimTurns (s : State) (p : Nat) : List Turn :=
  (List.range 12).filterMap fun g =>
    match s.cfg.port? p with
    | some r => if r.lanes.any fun n => n / 8 == g then some (calTurn g 6) else none
    | none => none

/-- Every working channel enters or leaves CHANGING. -/
def State.freqTurns (s : State) : List Turn := s.dmc.working.map fun c => dramTurn c 1

/-- A message of domain d; with a permitted step ahead, it may step the clock. -/
def State.messageTurns (s : State) (d : Nat) : List Turn := [timTurn (if s.tim.armed then 10 else 30 + d)]

/-! ### The place of each command -/

/-- The places of an access over the control fabric (R21). -/
def State.accessOf (s : State) : Instr → List Turn
  | .registerWrite src _ addr v => s.accessTurns src addr v
  | .mgtAbsentRearm src v => s.accessTurns src Rg.MGT_ABSENT.at v
  | .counterLowRead src addr => [accessTurn src addr]
  | .timeCaptureRead src addend => [accessTurn src (if addend then Rg.TIM_ADDEND_LO.at else Rg.TIM_TIME_NS.at)]
  | .sfmCntClr src v => s.accessTurns src Rg.SFM_CNT_CLR.at v
  | .cmpHCntClr src h v => s.accessTurns src (Rg.CMP_H_CNT_CLR.at [h.val]) v
  | .tgnHCntClr src h v => s.accessTurns src (Rg.TGN_H_CNT_CLR.at [h.val]) v
  | .psqHCntClr src h v => s.accessTurns src (Rg.PSQ_H_CNT_CLR.at [h.val]) v
  | .lteHCntClr src h v => s.accessTurns src (Rg.LTE_H_CNT_CLR.at [h.val]) v
  | .lscCntClr src v => s.accessTurns src Rg.LSC_CNT_CLR.at v
  | .lscOCntClr src h v => s.accessTurns src (Rg.LSC_O_CNT_CLR.at [h.val]) v
  | .pnlHCntClr src h v => s.accessTurns src (Rg.PNL_H_CNT_CLR.at [h.val]) v
  | .lneLCntClr src n v => s.accessTurns src (Rg.LNE_L_CNT_CLR.at [n.val]) v
  | .lnkPCntClr src p v => s.accessTurns src (Rg.LNK_P_CNT_CLR.at [p.val]) v
  | .dmcCntClr src v => s.accessTurns src Rg.DMC_CNT_CLR.at v
  | .dmcChCntClr src c v => s.accessTurns src (Rg.DMC_CH_CNT_CLR.at [c.val]) v
  | .timCntClr src v => s.accessTurns src Rg.TIM_CNT_CLR.at v
  | .calCntClr src v => s.accessTurns src Rg.CAL_CNT_CLR.at v
  | .pwgCntClr src v => s.accessTurns src Rg.PWG_CNT_CLR.at v
  | .mgtCntClr src v => s.accessTurns src Rg.MGT_CNT_CLR.at v
  | .softwareReset src v => s.accessTurns src Rg.MGT_RST_CMD.at v
  | .loadStreamWrite src v => s.accessTurns src Rg.SEC_LOAD_STREAM.at v
  | .flashErase src slot => s.accessTurns src Rg.SEC_FLASH_CMD.at (flashWord 1 slot.val)
  | .flashProgram src slot => s.accessTurns src Rg.SEC_FLASH_CMD.at (flashWord 2 slot.val)
  | .flashVerify src slot => s.accessTurns src Rg.SEC_FLASH_CMD.at (flashWord 3 slot.val)
  | .flashCommit src slot => s.accessTurns src Rg.SEC_FLASH_CMD.at (flashWord 4 slot.val)
  | .timelineWrite src n v => s.accessTurns src (Rg.SFM_TL_LO.at [n.val]) v
  | .ptInvalidate src => s.accessTurns src Rg.SFM_PT_INV.at 1
  | .surfaceDescriptorWrite src n r v => s.accessTurns src ((descReg r.val).at [n.val]) v
  | .surfaceValidate src n => s.accessTurns src (Rg.SFM_SURF_CTL.at [n.val]) 1
  | .surfaceFree src n => s.accessTurns src (Rg.SFM_SURF_CTL.at [n.val]) 0
  | .commitSubmit src h v => s.accessTurns src (Rg.TGN_H_COMMIT.at [h.val]) (setBit v 31 true)
  | .headEnable src h v => s.accessTurns src (Rg.TGN_H_CTL.at [h.val]) (setBit v 0 true)
  | .headDisable src h v => s.accessTurns src (Rg.TGN_H_CTL.at [h.val]) (setBit v 0 false)
  | .pxpTableStore src h v => s.accessTurns src (Rg.PXP_H_TBL_D2.at [h.val]) v
  | .psqMaskStore src h v => s.accessTurns src (Rg.PSQ_H_TBL_HI.at [h.val]) v
  | .portCalibrate src p => s.accessTurns src (Rg.LTE_P_CAL.at [p.val]) 1
  | .channelEnable src c v => s.accessTurns src (Rg.LSC_CH_CTL.at [c.val]) (setBit v 0 true)
  | .channelDisable src c v => s.accessTurns src (Rg.LSC_CH_CTL.at [c.val]) (setBit v 0 false)
  | .channelRestore src c v => s.accessTurns src (Rg.LSC_CH_CTL.at [c.val]) (setBit v 8 true)
  | .driveWrite src c t v => s.accessTurns src (Rg.LSC_CH_DRIVE.at [c.val, t.val]) v
  | .coefStore src v => s.accessTurns src Rg.LSC_COEF_DATA.at v
  | .engineStart src => s.accessTurns src Rg.LSC_CTL.at 1
  | .engineStop src => s.accessTurns src Rg.LSC_CTL.at 0
  | .outerModeDirect src h v => s.accessTurns src (Rg.LSC_O_CTL.at [h.val]) (setFld v 1 0 0)
  | .outerModeManual src h v => s.accessTurns src (Rg.LSC_O_CTL.at [h.val]) (setFld v 1 0 1)
  | .outerModeAuto src h v => s.accessTurns src (Rg.LSC_O_CTL.at [h.val]) (setFld v 1 0 2)
  | .outerTest src h v => s.accessTurns src (Rg.LSC_O_CTL.at [h.val]) (setBit v 4 true)
  | .panelPortCalibrate src p => s.accessTurns src (Rg.PNL_P_CAL.at [p.val]) 1
  | .selfRequest src h v => s.accessTurns src (Rg.PNL_H_SR.at [h.val]) (setBit v 0 true)
  | .selfExitRequest src h v => s.accessTurns src (Rg.PNL_H_SR.at [h.val]) (setBit v 0 false)
  | .odTableStore src h v => s.accessTurns src (Rg.PNL_H_TBL_D2.at [h.val]) v
  | .groupGo src g v => s.accessTurns src (Rg.LNE_G_CTL.at [g.val]) (setBit v 31 true)
  | .groupDown src g v => s.accessTurns src (Rg.LNE_G_CTL.at [g.val]) (setBit v 30 true)
  | .laneRetry src n v => s.accessTurns src (Rg.LNE_L_CTL.at [n.val]) (setBit v 31 true)
  | .laneStop src n v => s.accessTurns src (Rg.LNE_L_CTL.at [n.val]) (setBit v 30 true)
  | .laneTestMode src n v => s.accessTurns src (Rg.LNE_L_CTL.at [n.val]) v
  | .eyeGo src n v => s.accessTurns src (Rg.LNE_L_CTL.at [n.val]) (setBit v 0 true)
  | .eyeStop src n v => s.accessTurns src (Rg.LNE_L_CTL.at [n.val]) (setBit v 1 true)
  | .portRetrain src p v => s.accessTurns src (Rg.LNK_P_CTL.at [p.val]) (setBit v 31 true)
  | .eventDeliveryCtl src v => s.accessTurns src Rg.LNK_CTL.at v
  | .freqChangeRequest src v => s.accessTurns src Rg.DMC_FREQ_CTL.at (setBit v 31 true)
  | .freqChangeCancel src v => s.accessTurns src Rg.DMC_FREQ_CTL.at (setBit v 30 true)
  | .basinClear src v => s.accessTurns src Rg.DMC_BASIN_CMD.at (basinWord 0 v)
  | .basinLoad src v => s.accessTurns src Rg.DMC_BASIN_CMD.at (basinWord 1 v)
  | .basinStore src v => s.accessTurns src Rg.DMC_BASIN_CMD.at (basinWord 2 v)
  | .timPortEnable src v => s.accessTurns src Rg.TIM_CTL.at (setBit v 31 true)
  | .stepArm src => s.accessTurns src Rg.TIM_STEP_PERMIT.at 1
  | .stepDisarm src => s.accessTurns src Rg.TIM_STEP_PERMIT.at 2
  | .domainEnable src d v => s.accessTurns src (Rg.TIM_D_CTL.at [d.val]) (setBit v 31 true)
  | .domainDisable src d v => s.accessTurns src (Rg.TIM_D_CTL.at [d.val]) (setBit v 31 false)
  | .pulseOutputEnable src k v => s.accessTurns src (Rg.TIM_P_CTL.at [k.val]) (setBit v 31 true)
  | .calGo src g => s.accessTurns src (Rg.CAL_G_CMD.at [g.val]) 1
  | .calStop src g => s.accessTurns src (Rg.CAL_G_CMD.at [g.val]) 2
  | .dynTrimWrite src n v => s.accessTurns src (Rg.CAL_L_DYN.at [n.val]) v
  | .staticTrimWrite src n v => s.accessTurns src (Rg.CAL_L_STATIC.at [n.val]) v
  | .budgetWrite src base v => s.accessTurns src (if base then Rg.PWG_BASE.at else Rg.PWG_BUDGET.at) v
  | .eventRingEnable src v => s.accessTurns src Rg.MGT_EVT_CTL.at (setBit v 0 true)
  | .eventRingDisable src v => s.accessTurns src Rg.MGT_EVT_CTL.at (setBit v 0 false)
  | .eventRingConsume src v => s.accessTurns src Rg.MGT_EVT_RD.at v
  | .eventPop src v => s.accessTurns src Rg.MGT_EVT_POP.at (setBit v 0 true)
  | .recRecord src => s.accessTurns src Rg.MGT_REC_CMD.at 1
  | .recStop src => s.accessTurns src Rg.MGT_REC_CMD.at 2
  | .recReplay src => s.accessTurns src Rg.MGT_REC_CMD.at 3
  | .recMark src v => s.accessTurns src Rg.MGT_REC_MARK.at v
  | .otpAdvance src _ => s.accessTurns src Rg.SEC_OTP_CMD.at 0
  | .otpRevoke src _ => s.accessTurns src Rg.SEC_OTP_CMD.at 0
  | .otpLock src => s.accessTurns src Rg.SEC_OTP_CMD.at 0
  | .otpReturn src => s.accessTurns src Rg.SEC_OTP_CMD.at 0
  | .attestRequest src => s.accessTurns src Rg.SEC_ATT_CTL.at 1
  | .keyOffer src p e => s.accessTurns src Rg.SEC_KEY_CMD.at (keyWord 1 p.val e.val)
  | .keyInstall src p e => s.accessTurns src Rg.SEC_KEY_CMD.at (keyWord 2 p.val e.val)
  | .keySelect src p e => s.accessTurns src Rg.SEC_KEY_CMD.at (keyWord 3 p.val e.val)
  | .keyClear src p => s.accessTurns src Rg.SEC_KEY_CMD.at (keyWord 4 p.val 0)
  | .debugUnlock src => s.accessTurns src Rg.SEC_DEBUG_CMD.at 1
  | .sourceLock src v => s.accessTurns src Rg.SEC_LOCK.at (setBit v 31 true)
  | .spiLock src v => s.accessTurns src Rg.SEC_LOCK.at (setBit v 8 true)
  | _ => []

/-- The places of a happening that is no access. -/
def State.happeningOf (s : State) : Instr → List Turn
  | .pllLock => [arrivalTurn]
  | .polderSelfTestDone _ => [releaseTurn]
  | .dramTrainStepDone _ _ => [releaseTurn]
  | .spiWrite addr words => s.accessTurns .spi (addr % 2 ^ 24) (words.headD 0)
  | .spiRead addr _ => [accessTurn .spi (addr % 2 ^ 24)]
  | .culvertRead p c r => s.culvertTurns p c r
  | .culvertWrite p c r => s.culvertTurns p c r
  | .doorbell _ _ _ _ => [signalTurn]
  | .frameBoundary h => s.boundaryTurns h.val
  | .holdEnd h => s.boundaryTurns h.val
  | .frameRetire _ => [retireTurn]
  | .headGrant h => [headTurn h.val, linkSeen]
  | .headStopComplete h => [lteTurn h.val 1, releaseTurn, linkSeen]
  | .planeLoadWindowOpen _ _ => [linkSeen]
  | .loadWindowClose h _ _ => [lteTurn h.val 3, linkSeen]
  | .pulseIssue h _ => [lteTurn h.val 4, linkSeen]
  | .monSample p x => s.sampleTurns p.val x
  | .sampleArrivalTimeout c => s.chanTurns c.val 3
  | .sampleBoundary => s.takeTurns
  | .loopComputeCommit c _ => loopTurn c.val :: s.chanTurns c.val 5
  | .holdTimerExpiry c => s.rampTurns c.val
  | .rampStep c => s.rampTurns c.val
  | .sensorReply slot _ => replyTurns (s.fd Rg.LSC_S_CFG [slot.val] 29 28)
  | .outerReadWindowExpiry h => replyTurns h.val
  | .rowIssue h _ => [lteTurn h.val 4, linkSeen]
  | .lineLatchDue h _ _ => [lteTurn h.val 3, linkSeen]
  | .groupGrant g => groupTurns g.val
  | .groupGrantRefusal g => groupTurns g.val
  | .detectTest n _ => s.laneTurns n.val
  | .detectTimeout n => s.laneTurns n.val
  | .trainTimeout n => s.laneTurns n.val
  | .syncTimeout n => s.laneTurns n.val
  | .attemptWaitEnd n => s.laneTurns n.val
  | .recoverTimeout n => s.laneTurns n.val
  | .trainBlockReceive n _ => s.blockTurns n.val
  | .idleBlockReceive n _ => s.blockTurns n.val
  | .dataBlockReceive n _ _ _ => s.blockTurns n.val
  | .lanePmReceive n _ _ => s.blockTurns n.val
  | .laneWake n => s.laneTurns n.val
  | .laneWakeTimeout n => s.laneTurns n.val
  | .laneDropout n => s.laneTurns n.val
  | .loopbackSignalLoss n => s.laneTurns n.val
  | .eyeScanComplete n _ => [laneTurn n.val 2]
  | .trackerWindowEnd n => [laneTurn n.val 5]
  | .alignReceive n _ _ => s.laneTurns n.val
  | .bondTimeout p => [linkTurn, portTurn p.val 1]
  | .capsReceive p _ => [linkTurn, portTurn p.val 2]
  | .capsTimeout p => [linkTurn, portTurn p.val 1]
  | .ackReceive p _ => [portTurn p.val 2]
  | .nakReceive p _ => [linkTurn, portTurn p.val 2]
  | .creditReceive p _ _ _ => [portTurn p.val 2]
  | .widthReceive p _ => [linkTurn, portTurn p.val 2]
  | .replayTimeout p => [linkTurn, portTurn p.val 3]
  | .portQuietIdle p => s.sleepTurns p.val
  | .portDormantIdle p => s.sleepTurns p.val
  | .refreshInterval c _ _ => [dramTurn c.val 4]
  | .captureBurstStart c => [dramTurn c.val 4, arrivalTurn]
  | .captureBurstEnd c _ => [dramTurn c.val 3, releaseTurn]
  | .applyPause c => [dramTurn c.val 4]
  | .freqChangeStart => s.freqTurns
  | .freqWindowTimeout => [releaseTurn]
  | .freqChangeDone _ => releaseTurn :: s.freqTurns
  | .dramSelfRefreshEntry c => [dramTurn c.val 2]
  | .dramSelfRefreshExit c => [dramTurn c.val 2]
  | .powerDownEntry c _ => [dramTurn c.val 4]
  | .basinCmdDone _ => [releaseTurn]
  | .syncReceive d _ => s.messageTurns d.val
  | .followUpReceive d _ => s.messageTurns d.val
  | .announceReceive d _ => s.messageTurns d.val
  | .delayRespReceive d _ => s.messageTurns d.val
  | .announceTimeout d => [timTurn (40 + d.val)]
  | .syncPairTimeout d => [timTurn (40 + d.val)]
  | .pathHoldoffExpiry d => [timTurn (40 + d.val)]
  | .revertTimer => [timTurn 45]
  | .pulseOutputFire _ => [timTurn 20]
  | .pulseWidthEnd _ => [timTurn 20]
  | .calSubwindowEnd n _ => [calTurn (n.val / 8) 4]
  | .calTrimApply p => s.trimTurns p.val
  | .trimRampStep n _ => [calTurn (n.val / 8) 6]
  | .grantDecision => [pwgTurn 5]
  | .grantDeadline _ _ => [pwgTurn 6]
  | .thermalSample _ => [pwgTurn 1]
  | .batchAccept => [mgtTurn 1]
  | .collectorDrain => [mgtTurn 0]
  | .checkpointEnd => [mgtTurn 2]
  | .checkpointPeriodic => [mgtTurn 2]
  | .postFramesEnd => [mgtTurn 2]
  | .replayEnd => [mgtTurn 2]
  | .attestSignDone => [releaseTurn]
  | .dramTrainGrant c => [dramTurn c.val 4]
  | .selfRefreshExitDone c => [dramTurn c.val 2]
  | _ => []

/-- The places of a command. -/
def State.turns (s : State) (c : Instr) : List Turn := s.accessOf c ++ s.happeningOf c

/-- The state in which a command is evaluated. -/
def State.turn (s : State) (c : Instr) : State := s.atTurn (s.turns c)

/-- BATCH_ACCEPT with no batch complete waits for the end of the control clock that has one in progress (R349). -/
def batchEnd (s : State) : State :=
  if !s.mgt.waiting.isEmpty || s.mgt.places.1.isEmpty then s
  else if s.now % 2 = 0 then tick s else tick (tick s)

/-! ### The meanings -/

def execRegisterWrite (src : Source) (be addr : Nat) (v : Word) (s : State) : Host.Outcome State Fault Refusal :=
  doRegisterWrite src be addr v (s.turn (.registerWrite src be addr v))

def execMgtAbsentRearm (src : Source) (v : Word) (s : State) : Host.Outcome State Fault Refusal :=
  doMgtAbsentRearm src v (s.turn (.mgtAbsentRearm src v))

def execCounterLowRead (src : Source) (addr : Nat) (s : State) : Host.Outcome State Fault Refusal :=
  doCounterLowRead src addr (s.turn (.counterLowRead src addr))

def execTimeCaptureRead (src : Source) (addend : Bool) (s : State) : Host.Outcome State Fault Refusal :=
  doTimeCaptureRead src addend (s.turn (.timeCaptureRead src addend))

def execSfmCntClr (src : Source) (v : Word) (s : State) : Host.Outcome State Fault Refusal :=
  doSfmCntClr src v (s.turn (.sfmCntClr src v))

def execCmpHCntClr (src : Source) (h : Fin 4) (v : Word) (s : State) : Host.Outcome State Fault Refusal :=
  doCmpHCntClr src h v (s.turn (.cmpHCntClr src h v))

def execTgnHCntClr (src : Source) (h : Fin 4) (v : Word) (s : State) : Host.Outcome State Fault Refusal :=
  doTgnHCntClr src h v (s.turn (.tgnHCntClr src h v))

def execPsqHCntClr (src : Source) (h : Fin 4) (v : Word) (s : State) : Host.Outcome State Fault Refusal :=
  doPsqHCntClr src h v (s.turn (.psqHCntClr src h v))

def execLteHCntClr (src : Source) (h : Fin 4) (v : Word) (s : State) : Host.Outcome State Fault Refusal :=
  doLteHCntClr src h v (s.turn (.lteHCntClr src h v))

def execLscCntClr (src : Source) (v : Word) (s : State) : Host.Outcome State Fault Refusal :=
  doLscCntClr src v (s.turn (.lscCntClr src v))

def execLscOCntClr (src : Source) (h : Fin 4) (v : Word) (s : State) : Host.Outcome State Fault Refusal :=
  doLscOCntClr src h v (s.turn (.lscOCntClr src h v))

def execPnlHCntClr (src : Source) (h : Fin 4) (v : Word) (s : State) : Host.Outcome State Fault Refusal :=
  doPnlHCntClr src h v (s.turn (.pnlHCntClr src h v))

def execLneLCntClr (src : Source) (n : Fin 96) (v : Word) (s : State) : Host.Outcome State Fault Refusal :=
  doLneLCntClr src n v (s.turn (.lneLCntClr src n v))

def execLnkPCntClr (src : Source) (p : Fin 24) (v : Word) (s : State) : Host.Outcome State Fault Refusal :=
  doLnkPCntClr src p v (s.turn (.lnkPCntClr src p v))

def execDmcCntClr (src : Source) (v : Word) (s : State) : Host.Outcome State Fault Refusal :=
  doDmcCntClr src v (s.turn (.dmcCntClr src v))

def execDmcChCntClr (src : Source) (c : Fin 16) (v : Word) (s : State) : Host.Outcome State Fault Refusal :=
  doDmcChCntClr src c v (s.turn (.dmcChCntClr src c v))

def execTimCntClr (src : Source) (v : Word) (s : State) : Host.Outcome State Fault Refusal :=
  doTimCntClr src v (s.turn (.timCntClr src v))

def execCalCntClr (src : Source) (v : Word) (s : State) : Host.Outcome State Fault Refusal :=
  doCalCntClr src v (s.turn (.calCntClr src v))

def execPwgCntClr (src : Source) (v : Word) (s : State) : Host.Outcome State Fault Refusal :=
  doPwgCntClr src v (s.turn (.pwgCntClr src v))

def execMgtCntClr (src : Source) (v : Word) (s : State) : Host.Outcome State Fault Refusal :=
  doMgtCntClr src v (s.turn (.mgtCntClr src v))

def execSoftwareReset (src : Source) (v : Word) (s : State) : Host.Outcome State Fault Refusal :=
  doSoftwareReset src v (s.turn (.softwareReset src v))

def execPllLock (s : State) : Host.Outcome State Fault Refusal :=
  doPllLock (s.turn .pllLock)

def execLoadStreamWrite (src : Source) (v : Word) (s : State) : Host.Outcome State Fault Refusal :=
  doLoadStreamWrite src v (s.turn (.loadStreamWrite src v))

def execPolderSelfTestDone (bad : List (Fin 40960)) (s : State) : Host.Outcome State Fault Refusal :=
  doPolderSelfTestDone bad (s.turn (.polderSelfTestDone bad))

def execDramTrainStepDone (c : Fin 16) (ok : Bool) (s : State) : Host.Outcome State Fault Refusal :=
  doDramTrainStepDone c ok (s.turn (.dramTrainStepDone c ok))

def execSpiWrite (addr : Nat) (words : List Word) (s : State) : Host.Outcome State Fault Refusal :=
  doSpiWrite addr words (s.turn (.spiWrite addr words))

def execSpiRead (addr count : Nat) (s : State) : Host.Outcome State Fault Refusal :=
  doSpiRead addr count (s.turn (.spiRead addr count))

def execFlashErase (src : Source) (slot : Fin 2) (s : State) : Host.Outcome State Fault Refusal :=
  doFlashErase src slot (s.turn (.flashErase src slot))

def execFlashProgram (src : Source) (slot : Fin 2) (s : State) : Host.Outcome State Fault Refusal :=
  doFlashProgram src slot (s.turn (.flashProgram src slot))

def execFlashVerify (src : Source) (slot : Fin 2) (s : State) : Host.Outcome State Fault Refusal :=
  doFlashVerify src slot (s.turn (.flashVerify src slot))

def execFlashCommit (src : Source) (slot : Fin 2) (s : State) : Host.Outcome State Fault Refusal :=
  doFlashCommit src slot (s.turn (.flashCommit src slot))

def execCulvertRead (p : Fin 24) (c : Fin 4) (r : CulvertReq) (s : State) : Host.Outcome State Fault Refusal :=
  doCulvertRead p c r (s.turn (.culvertRead p c r))

def execCulvertWrite (p : Fin 24) (c : Fin 4) (r : CulvertReq) (s : State) : Host.Outcome State Fault Refusal :=
  doCulvertWrite p c r (s.turn (.culvertWrite p c r))

def execDoorbell (p : Fin 24) (st : Fin 8) (tl : Fin 256) (value : Nat) (s : State) : Host.Outcome State Fault Refusal :=
  doDoorbell p st tl value (s.turn (.doorbell p st tl value))

def execTimelineWrite (src : Source) (n : Fin 256) (v : Word) (s : State) : Host.Outcome State Fault Refusal :=
  doTimelineWrite src n v (s.turn (.timelineWrite src n v))

def execPtInvalidate (src : Source) (s : State) : Host.Outcome State Fault Refusal :=
  doPtInvalidate src (s.turn (.ptInvalidate src))

def execSurfaceDescriptorWrite (src : Source) (n : Fin 4096) (r : Fin 5) (v : Word) (s : State) : Host.Outcome State Fault Refusal :=
  doSurfaceDescriptorWrite src n r v (s.turn (.surfaceDescriptorWrite src n r v))

def execSurfaceValidate (src : Source) (n : Fin 4096) (s : State) : Host.Outcome State Fault Refusal :=
  doSurfaceValidate src n (s.turn (.surfaceValidate src n))

def execSurfaceFree (src : Source) (n : Fin 4096) (s : State) : Host.Outcome State Fault Refusal :=
  doSurfaceFree src n (s.turn (.surfaceFree src n))

def execFrameBoundary (h : Fin 4) (s : State) : Host.Outcome State Fault Refusal :=
  doFrameBoundary h (s.turn (.frameBoundary h))

def execHoldEnd (h : Fin 4) (s : State) : Host.Outcome State Fault Refusal :=
  doHoldEnd h (s.turn (.holdEnd h))

def execCommitSubmit (src : Source) (h : Fin 4) (v : Word) (s : State) : Host.Outcome State Fault Refusal :=
  doCommitSubmit src h v (s.turn (.commitSubmit src h v))

def execFrameRetire (h : Fin 4) (s : State) : Host.Outcome State Fault Refusal :=
  doFrameRetire h (s.turn (.frameRetire h))

def execHeadEnable (src : Source) (h : Fin 4) (v : Word) (s : State) : Host.Outcome State Fault Refusal :=
  doHeadEnable src h v (s.turn (.headEnable src h v))

def execHeadDisable (src : Source) (h : Fin 4) (v : Word) (s : State) : Host.Outcome State Fault Refusal :=
  doHeadDisable src h v (s.turn (.headDisable src h v))

def execHeadGrant (h : Fin 4) (s : State) : Host.Outcome State Fault Refusal :=
  doHeadGrant h (s.turn (.headGrant h))

def execHeadStopComplete (h : Fin 4) (s : State) : Host.Outcome State Fault Refusal :=
  doHeadStopComplete h (s.turn (.headStopComplete h))

def execPxpTableStore (src : Source) (h : Fin 4) (v : Word) (s : State) : Host.Outcome State Fault Refusal :=
  doPxpTableStore src h v (s.turn (.pxpTableStore src h v))

def execPsqMaskStore (src : Source) (h : Fin 4) (v : Word) (s : State) : Host.Outcome State Fault Refusal :=
  doPsqMaskStore src h v (s.turn (.psqMaskStore src h v))

def execPortCalibrate (src : Source) (p : Fin 24) (s : State) : Host.Outcome State Fault Refusal :=
  doPortCalibrate src p (s.turn (.portCalibrate src p))

def execPlaneLoadWindowOpen (h : Fin 4) (j : Nat) (s : State) : Host.Outcome State Fault Refusal :=
  doPlaneLoadWindowOpen h j (s.turn (.planeLoadWindowOpen h j))

def execLoadWindowClose (h : Fin 4) (j : Nat) (sent : Bool) (s : State) : Host.Outcome State Fault Refusal :=
  doLoadWindowClose h j sent (s.turn (.loadWindowClose h j sent))

def execPulseIssue (h : Fin 4) (j : Nat) (s : State) : Host.Outcome State Fault Refusal :=
  doPulseIssue h j (s.turn (.pulseIssue h j))

def execMonSample (p : Fin 24) (x : MonRec) (s : State) : Host.Outcome State Fault Refusal :=
  doMonSample p x (s.turn (.monSample p x))

def execSampleArrivalTimeout (c : Fin 256) (s : State) : Host.Outcome State Fault Refusal :=
  doSampleArrivalTimeout c (s.turn (.sampleArrivalTimeout c))

def execSampleBoundary (s : State) : Host.Outcome State Fault Refusal :=
  doSampleBoundary (s.turn .sampleBoundary)

def execLoopComputeCommit (c : Fin 256) (lane : Fin 4) (s : State) : Host.Outcome State Fault Refusal :=
  doLoopComputeCommit c lane (s.turn (.loopComputeCommit c lane))

def execHoldTimerExpiry (c : Fin 256) (s : State) : Host.Outcome State Fault Refusal :=
  doHoldTimerExpiry c (s.turn (.holdTimerExpiry c))

def execRampStep (c : Fin 256) (s : State) : Host.Outcome State Fault Refusal :=
  doRampStep c (s.turn (.rampStep c))

def execChannelEnable (src : Source) (c : Fin 256) (v : Word) (s : State) : Host.Outcome State Fault Refusal :=
  doChannelEnable src c v (s.turn (.channelEnable src c v))

def execChannelDisable (src : Source) (c : Fin 256) (v : Word) (s : State) : Host.Outcome State Fault Refusal :=
  doChannelDisable src c v (s.turn (.channelDisable src c v))

def execChannelRestore (src : Source) (c : Fin 256) (v : Word) (s : State) : Host.Outcome State Fault Refusal :=
  doChannelRestore src c v (s.turn (.channelRestore src c v))

def execDriveWrite (src : Source) (c : Fin 256) (t : Fin 8) (v : Word) (s : State) : Host.Outcome State Fault Refusal :=
  doDriveWrite src c t v (s.turn (.driveWrite src c t v))

def execCoefStore (src : Source) (v : Word) (s : State) : Host.Outcome State Fault Refusal :=
  doCoefStore src v (s.turn (.coefStore src v))

def execEngineStart (src : Source) (s : State) : Host.Outcome State Fault Refusal :=
  doEngineStart src (s.turn (.engineStart src))

def execEngineStop (src : Source) (s : State) : Host.Outcome State Fault Refusal :=
  doEngineStop src (s.turn (.engineStop src))

def execSensorReply (slot : Fin 8) (reply : Option (List Byte)) (s : State) : Host.Outcome State Fault Refusal :=
  doSensorReply slot reply (s.turn (.sensorReply slot reply))

def execOuterReadWindowExpiry (h : Fin 4) (s : State) : Host.Outcome State Fault Refusal :=
  doOuterReadWindowExpiry h (s.turn (.outerReadWindowExpiry h))

def execOuterModeDirect (src : Source) (h : Fin 4) (v : Word) (s : State) : Host.Outcome State Fault Refusal :=
  doOuterModeDirect src h v (s.turn (.outerModeDirect src h v))

def execOuterModeManual (src : Source) (h : Fin 4) (v : Word) (s : State) : Host.Outcome State Fault Refusal :=
  doOuterModeManual src h v (s.turn (.outerModeManual src h v))

def execOuterModeAuto (src : Source) (h : Fin 4) (v : Word) (s : State) : Host.Outcome State Fault Refusal :=
  doOuterModeAuto src h v (s.turn (.outerModeAuto src h v))

def execOuterTest (src : Source) (h : Fin 4) (v : Word) (s : State) : Host.Outcome State Fault Refusal :=
  doOuterTest src h v (s.turn (.outerTest src h v))

def execPanelPortCalibrate (src : Source) (p : Fin 24) (s : State) : Host.Outcome State Fault Refusal :=
  doPanelPortCalibrate src p (s.turn (.panelPortCalibrate src p))

def execRowIssue (h : Fin 4) (line : Nat) (s : State) : Host.Outcome State Fault Refusal :=
  doRowIssue h line (s.turn (.rowIssue h line))

def execLineLatchDue (h : Fin 4) (row : Nat) (sent : Bool) (s : State) : Host.Outcome State Fault Refusal :=
  doLineLatchDue h row sent (s.turn (.lineLatchDue h row sent))

def execSelfRequest (src : Source) (h : Fin 4) (v : Word) (s : State) : Host.Outcome State Fault Refusal :=
  doSelfRequest src h v (s.turn (.selfRequest src h v))

def execSelfExitRequest (src : Source) (h : Fin 4) (v : Word) (s : State) : Host.Outcome State Fault Refusal :=
  doSelfExitRequest src h v (s.turn (.selfExitRequest src h v))

def execOdTableStore (src : Source) (h : Fin 4) (v : Word) (s : State) : Host.Outcome State Fault Refusal :=
  doOdTableStore src h v (s.turn (.odTableStore src h v))

def execGroupGo (src : Source) (g : Fin 12) (v : Word) (s : State) : Host.Outcome State Fault Refusal :=
  doGroupGo src g v (s.turn (.groupGo src g v))

def execGroupDown (src : Source) (g : Fin 12) (v : Word) (s : State) : Host.Outcome State Fault Refusal :=
  doGroupDown src g v (s.turn (.groupDown src g v))

def execGroupGrant (g : Fin 12) (s : State) : Host.Outcome State Fault Refusal :=
  doGroupGrant g (s.turn (.groupGrant g))

def execGroupGrantRefusal (g : Fin 12) (s : State) : Host.Outcome State Fault Refusal :=
  doGroupGrantRefusal g (s.turn (.groupGrantRefusal g))

def execDetectTest (n : Fin 96) (term : Bool) (s : State) : Host.Outcome State Fault Refusal :=
  doDetectTest n term (s.turn (.detectTest n term))

def execDetectTimeout (n : Fin 96) (s : State) : Host.Outcome State Fault Refusal :=
  doDetectTimeout n (s.turn (.detectTimeout n))

def execTrainTimeout (n : Fin 96) (s : State) : Host.Outcome State Fault Refusal :=
  doTrainTimeout n (s.turn (.trainTimeout n))

def execSyncTimeout (n : Fin 96) (s : State) : Host.Outcome State Fault Refusal :=
  doSyncTimeout n (s.turn (.syncTimeout n))

def execAttemptWaitEnd (n : Fin 96) (s : State) : Host.Outcome State Fault Refusal :=
  doAttemptWaitEnd n (s.turn (.attemptWaitEnd n))

def execRecoverTimeout (n : Fin 96) (s : State) : Host.Outcome State Fault Refusal :=
  doRecoverTimeout n (s.turn (.recoverTimeout n))

def execTrainBlockReceive (n : Fin 96) (raw : BitVec 64) (s : State) : Host.Outcome State Fault Refusal :=
  doTrainBlockReceive n raw (s.turn (.trainBlockReceive n raw))

def execIdleBlockReceive (n : Fin 96) (raw : BitVec 64) (s : State) : Host.Outcome State Fault Refusal :=
  doIdleBlockReceive n raw (s.turn (.idleBlockReceive n raw))

def execDataBlockReceive (n : Fin 96) (hdr : Fin 4) (raw : BitVec 64) (eye : Nat) (s : State) : Host.Outcome State Fault Refusal :=
  doDataBlockReceive n hdr raw eye (s.turn (.dataBlockReceive n hdr raw eye))

def execLanePmReceive (n : Fin 96) (raw : BitVec 64) (idle : Bool) (s : State) : Host.Outcome State Fault Refusal :=
  doLanePmReceive n raw idle (s.turn (.lanePmReceive n raw idle))

def execLaneWake (n : Fin 96) (s : State) : Host.Outcome State Fault Refusal :=
  doLaneWake n (s.turn (.laneWake n))

def execLaneWakeTimeout (n : Fin 96) (s : State) : Host.Outcome State Fault Refusal :=
  doLaneWakeTimeout n (s.turn (.laneWakeTimeout n))

def execLaneDropout (n : Fin 96) (s : State) : Host.Outcome State Fault Refusal :=
  doLaneDropout n (s.turn (.laneDropout n))

def execLaneRetry (src : Source) (n : Fin 96) (v : Word) (s : State) : Host.Outcome State Fault Refusal :=
  doLaneRetry src n v (s.turn (.laneRetry src n v))

def execLaneStop (src : Source) (n : Fin 96) (v : Word) (s : State) : Host.Outcome State Fault Refusal :=
  doLaneStop src n v (s.turn (.laneStop src n v))

def execLaneTestMode (src : Source) (n : Fin 96) (v : Word) (s : State) : Host.Outcome State Fault Refusal :=
  doLaneTestMode src n v (s.turn (.laneTestMode src n v))

def execLoopbackSignalLoss (n : Fin 96) (s : State) : Host.Outcome State Fault Refusal :=
  doLoopbackSignalLoss n (s.turn (.loopbackSignalLoss n))

def execEyeGo (src : Source) (n : Fin 96) (v : Word) (s : State) : Host.Outcome State Fault Refusal :=
  doEyeGo src n v (s.turn (.eyeGo src n v))

def execEyeStop (src : Source) (n : Fin 96) (v : Word) (s : State) : Host.Outcome State Fault Refusal :=
  doEyeStop src n v (s.turn (.eyeStop src n v))

def execEyeScanComplete (n : Fin 96) (errs : Nat) (s : State) : Host.Outcome State Fault Refusal :=
  doEyeScanComplete n errs (s.turn (.eyeScanComplete n errs))

def execTrackerWindowEnd (n : Fin 96) (s : State) : Host.Outcome State Fault Refusal :=
  doTrackerWindowEnd n (s.turn (.trackerWindowEnd n))

def execAlignReceive (n : Fin 96) (number : Nat) (inStripe : Bool) (s : State) : Host.Outcome State Fault Refusal :=
  doAlignReceive n number inStripe (s.turn (.alignReceive n number inStripe))

def execBondTimeout (p : Fin 24) (s : State) : Host.Outcome State Fault Refusal :=
  doBondTimeout p (s.turn (.bondTimeout p))

def execCapsReceive (p : Fin 24) (body : List Byte) (s : State) : Host.Outcome State Fault Refusal :=
  doCapsReceive p body (s.turn (.capsReceive p body))

def execCapsTimeout (p : Fin 24) (s : State) : Host.Outcome State Fault Refusal :=
  doCapsTimeout p (s.turn (.capsTimeout p))

def execAckReceive (p : Fin 24) (q : Nat) (s : State) : Host.Outcome State Fault Refusal :=
  doAckReceive p q (s.turn (.ackReceive p q))

def execNakReceive (p : Fin 24) (q : Nat) (s : State) : Host.Outcome State Fault Refusal :=
  doNakReceive p q (s.turn (.nakReceive p q))

def execCreditReceive (p : Fin 24) (cls hdr data : Nat) (s : State) : Host.Outcome State Fault Refusal :=
  doCreditReceive p cls hdr data (s.turn (.creditReceive p cls hdr data))

def execWidthReceive (p : Fin 24) (mask : Nat) (s : State) : Host.Outcome State Fault Refusal :=
  doWidthReceive p mask (s.turn (.widthReceive p mask))

def execReplayTimeout (p : Fin 24) (s : State) : Host.Outcome State Fault Refusal :=
  doReplayTimeout p (s.turn (.replayTimeout p))

def execPortRetrain (src : Source) (p : Fin 24) (v : Word) (s : State) : Host.Outcome State Fault Refusal :=
  doPortRetrain src p v (s.turn (.portRetrain src p v))

def execPortQuietIdle (p : Fin 24) (s : State) : Host.Outcome State Fault Refusal :=
  doPortQuietIdle p (s.turn (.portQuietIdle p))

def execPortDormantIdle (p : Fin 24) (s : State) : Host.Outcome State Fault Refusal :=
  doPortDormantIdle p (s.turn (.portDormantIdle p))

def execEventDeliveryCtl (src : Source) (v : Word) (s : State) : Host.Outcome State Fault Refusal :=
  doEventDeliveryCtl src v (s.turn (.eventDeliveryCtl src v))

def execRefreshInterval (c : Fin 16) (issued : List Nat) (split : Bool) (s : State) : Host.Outcome State Fault Refusal :=
  doRefreshInterval c issued split (s.turn (.refreshInterval c issued split))

def execCaptureBurstStart (c : Fin 16) (s : State) : Host.Outcome State Fault Refusal :=
  doCaptureBurstStart c (s.turn (.captureBurstStart c))

def execCaptureBurstEnd (c : Fin 16) (result : Option (Nat × Int)) (s : State) : Host.Outcome State Fault Refusal :=
  doCaptureBurstEnd c result (s.turn (.captureBurstEnd c result))

def execApplyPause (c : Fin 16) (s : State) : Host.Outcome State Fault Refusal :=
  doApplyPause c (s.turn (.applyPause c))

def execFreqChangeRequest (src : Source) (v : Word) (s : State) : Host.Outcome State Fault Refusal :=
  doFreqChangeRequest src v (s.turn (.freqChangeRequest src v))

def execFreqChangeCancel (src : Source) (v : Word) (s : State) : Host.Outcome State Fault Refusal :=
  doFreqChangeCancel src v (s.turn (.freqChangeCancel src v))

def execFreqChangeStart (s : State) : Host.Outcome State Fault Refusal :=
  doFreqChangeStart (s.turn .freqChangeStart)

def execFreqWindowTimeout (s : State) : Host.Outcome State Fault Refusal :=
  doFreqWindowTimeout (s.turn .freqWindowTimeout)

def execFreqChangeDone (captures : List (Option (Nat × Int))) (s : State) : Host.Outcome State Fault Refusal :=
  doFreqChangeDone captures (s.turn (.freqChangeDone captures))

def execDramSelfRefreshEntry (c : Fin 16) (s : State) : Host.Outcome State Fault Refusal :=
  doDramSelfRefreshEntry c (s.turn (.dramSelfRefreshEntry c))

def execDramSelfRefreshExit (c : Fin 16) (s : State) : Host.Outcome State Fault Refusal :=
  doDramSelfRefreshExit c (s.turn (.dramSelfRefreshExit c))

def execPowerDownEntry (c : Fin 16) (rank : Fin 2) (s : State) : Host.Outcome State Fault Refusal :=
  doPowerDownEntry c rank (s.turn (.powerDownEntry c rank))

def execBasinClear (src : Source) (v : Word) (s : State) : Host.Outcome State Fault Refusal :=
  doBasinClear src v (s.turn (.basinClear src v))

def execBasinLoad (src : Source) (v : Word) (s : State) : Host.Outcome State Fault Refusal :=
  doBasinLoad src v (s.turn (.basinLoad src v))

def execBasinStore (src : Source) (v : Word) (s : State) : Host.Outcome State Fault Refusal :=
  doBasinStore src v (s.turn (.basinStore src v))

def execBasinCmdDone (poisoned : List Nat) (s : State) : Host.Outcome State Fault Refusal :=
  doBasinCmdDone poisoned (s.turn (.basinCmdDone poisoned))

def execTimPortEnable (src : Source) (v : Word) (s : State) : Host.Outcome State Fault Refusal :=
  doTimPortEnable src v (s.turn (.timPortEnable src v))

def execSyncReceive (d : Fin 2) (m : PtpMsg) (s : State) : Host.Outcome State Fault Refusal :=
  doSyncReceive d m (s.turn (.syncReceive d m))

def execFollowUpReceive (d : Fin 2) (m : PtpMsg) (s : State) : Host.Outcome State Fault Refusal :=
  doFollowUpReceive d m (s.turn (.followUpReceive d m))

def execAnnounceReceive (d : Fin 2) (m : PtpMsg) (s : State) : Host.Outcome State Fault Refusal :=
  doAnnounceReceive d m (s.turn (.announceReceive d m))

def execDelayRespReceive (d : Fin 2) (m : PtpMsg) (s : State) : Host.Outcome State Fault Refusal :=
  doDelayRespReceive d m (s.turn (.delayRespReceive d m))

def execAnnounceTimeout (d : Fin 2) (s : State) : Host.Outcome State Fault Refusal :=
  doAnnounceTimeout d (s.turn (.announceTimeout d))

def execSyncPairTimeout (d : Fin 2) (s : State) : Host.Outcome State Fault Refusal :=
  doSyncPairTimeout d (s.turn (.syncPairTimeout d))

def execPathHoldoffExpiry (d : Fin 2) (s : State) : Host.Outcome State Fault Refusal :=
  doPathHoldoffExpiry d (s.turn (.pathHoldoffExpiry d))

def execRevertTimer (s : State) : Host.Outcome State Fault Refusal :=
  doRevertTimer (s.turn .revertTimer)

def execStepArm (src : Source) (s : State) : Host.Outcome State Fault Refusal :=
  doStepArm src (s.turn (.stepArm src))

def execStepDisarm (src : Source) (s : State) : Host.Outcome State Fault Refusal :=
  doStepDisarm src (s.turn (.stepDisarm src))

def execDomainEnable (src : Source) (d : Fin 2) (v : Word) (s : State) : Host.Outcome State Fault Refusal :=
  doDomainEnable src d v (s.turn (.domainEnable src d v))

def execDomainDisable (src : Source) (d : Fin 2) (v : Word) (s : State) : Host.Outcome State Fault Refusal :=
  doDomainDisable src d v (s.turn (.domainDisable src d v))

def execPulseOutputEnable (src : Source) (k : Fin 8) (v : Word) (s : State) : Host.Outcome State Fault Refusal :=
  doPulseOutputEnable src k v (s.turn (.pulseOutputEnable src k v))

def execPulseOutputFire (k : Fin 8) (s : State) : Host.Outcome State Fault Refusal :=
  doPulseOutputFire k (s.turn (.pulseOutputFire k))

def execPulseWidthEnd (k : Fin 8) (s : State) : Host.Outcome State Fault Refusal :=
  doPulseWidthEnd k (s.turn (.pulseWidthEnd k))

def execCalGo (src : Source) (g : Fin 12) (s : State) : Host.Outcome State Fault Refusal :=
  doCalGo src g (s.turn (.calGo src g))

def execCalStop (src : Source) (g : Fin 12) (s : State) : Host.Outcome State Fault Refusal :=
  doCalStop src g (s.turn (.calStop src g))

def execCalSubwindowEnd (n : Fin 96) (x : SubWindow) (s : State) : Host.Outcome State Fault Refusal :=
  doCalSubwindowEnd n x (s.turn (.calSubwindowEnd n x))

def execCalTrimApply (p : Fin 24) (s : State) : Host.Outcome State Fault Refusal :=
  doCalTrimApply p (s.turn (.calTrimApply p))

def execTrimRampStep (n : Fin 96) (kind : Fin 8) (s : State) : Host.Outcome State Fault Refusal :=
  doTrimRampStep n kind (s.turn (.trimRampStep n kind))

def execDynTrimWrite (src : Source) (n : Fin 96) (v : Word) (s : State) : Host.Outcome State Fault Refusal :=
  doDynTrimWrite src n v (s.turn (.dynTrimWrite src n v))

def execStaticTrimWrite (src : Source) (n : Fin 96) (v : Word) (s : State) : Host.Outcome State Fault Refusal :=
  doStaticTrimWrite src n v (s.turn (.staticTrimWrite src n v))

def execGrantDecision (s : State) : Host.Outcome State Fault Refusal :=
  doGrantDecision (s.turn .grantDecision)

def execGrantDeadline (cls : Fin 8) (unit : Nat) (s : State) : Host.Outcome State Fault Refusal :=
  doGrantDeadline cls unit (s.turn (.grantDeadline cls unit))

def execThermalSample (readings : List (Int × Bool)) (s : State) : Host.Outcome State Fault Refusal :=
  doThermalSample readings (s.turn (.thermalSample readings))

def execBudgetWrite (src : Source) (base : Bool) (v : Word) (s : State) : Host.Outcome State Fault Refusal :=
  doBudgetWrite src base v (s.turn (.budgetWrite src base v))

def execBatchAccept (s : State) : Host.Outcome State Fault Refusal :=
  doBatchAccept (batchEnd (s.turn .batchAccept))

def execCollectorDrain (s : State) : Host.Outcome State Fault Refusal :=
  doCollectorDrain (s.turn .collectorDrain)

def execEventRingEnable (src : Source) (v : Word) (s : State) : Host.Outcome State Fault Refusal :=
  doEventRingEnable src v (s.turn (.eventRingEnable src v))

def execEventRingDisable (src : Source) (v : Word) (s : State) : Host.Outcome State Fault Refusal :=
  doEventRingDisable src v (s.turn (.eventRingDisable src v))

def execEventRingConsume (src : Source) (v : Word) (s : State) : Host.Outcome State Fault Refusal :=
  doEventRingConsume src v (s.turn (.eventRingConsume src v))

def execEventPop (src : Source) (v : Word) (s : State) : Host.Outcome State Fault Refusal :=
  doEventPop src v (s.turn (.eventPop src v))

def execRecRecord (src : Source) (s : State) : Host.Outcome State Fault Refusal :=
  doRecRecord src (s.turn (.recRecord src))

def execRecStop (src : Source) (s : State) : Host.Outcome State Fault Refusal :=
  doRecStop src (s.turn (.recStop src))

def execRecReplay (src : Source) (s : State) : Host.Outcome State Fault Refusal :=
  doRecReplay src (s.turn (.recReplay src))

def execRecMark (src : Source) (v : Word) (s : State) : Host.Outcome State Fault Refusal :=
  doRecMark src v (s.turn (.recMark src v))

def execCheckpointEnd (s : State) : Host.Outcome State Fault Refusal :=
  doCheckpointEnd (s.turn .checkpointEnd)

def execCheckpointPeriodic (s : State) : Host.Outcome State Fault Refusal :=
  doCheckpointPeriodic (s.turn .checkpointPeriodic)

def execPostFramesEnd (s : State) : Host.Outcome State Fault Refusal :=
  doPostFramesEnd (s.turn .postFramesEnd)

def execReplayEnd (s : State) : Host.Outcome State Fault Refusal :=
  doReplayEnd (s.turn .replayEnd)

def execOtpAdvance (src : Source) (v : Word) (s : State) : Host.Outcome State Fault Refusal :=
  doOtpAdvance src v (s.turn (.otpAdvance src v))

def execOtpRevoke (src : Source) (v : Word) (s : State) : Host.Outcome State Fault Refusal :=
  doOtpRevoke src v (s.turn (.otpRevoke src v))

def execOtpLock (src : Source) (s : State) : Host.Outcome State Fault Refusal :=
  doOtpLock src (s.turn (.otpLock src))

def execOtpReturn (src : Source) (s : State) : Host.Outcome State Fault Refusal :=
  doOtpReturn src (s.turn (.otpReturn src))

def execAttestRequest (src : Source) (s : State) : Host.Outcome State Fault Refusal :=
  doAttestRequest src (s.turn (.attestRequest src))

def execAttestSignDone (s : State) : Host.Outcome State Fault Refusal :=
  doAttestSignDone (s.turn .attestSignDone)

def execKeyOffer (src : Source) (p : Fin 32) (e : Fin 2) (s : State) : Host.Outcome State Fault Refusal :=
  doKeyOffer src p e (s.turn (.keyOffer src p e))

def execKeyInstall (src : Source) (p : Fin 32) (e : Fin 2) (s : State) : Host.Outcome State Fault Refusal :=
  doKeyInstall src p e (s.turn (.keyInstall src p e))

def execKeySelect (src : Source) (p : Fin 32) (e : Fin 2) (s : State) : Host.Outcome State Fault Refusal :=
  doKeySelect src p e (s.turn (.keySelect src p e))

def execKeyClear (src : Source) (p : Fin 32) (s : State) : Host.Outcome State Fault Refusal :=
  doKeyClear src p (s.turn (.keyClear src p))

def execDebugUnlock (src : Source) (s : State) : Host.Outcome State Fault Refusal :=
  doDebugUnlock src (s.turn (.debugUnlock src))

def execSourceLock (src : Source) (v : Word) (s : State) : Host.Outcome State Fault Refusal :=
  doSourceLock src v (s.turn (.sourceLock src v))

def execSpiLock (src : Source) (v : Word) (s : State) : Host.Outcome State Fault Refusal :=
  doSpiLock src v (s.turn (.spiLock src v))

def execDramTrainGrant (c : Fin 16) (s : State) : Host.Outcome State Fault Refusal :=
  doDramTrainGrant c (s.turn (.dramTrainGrant c))

def execSelfRefreshExitDone (c : Fin 16) (s : State) : Host.Outcome State Fault Refusal :=
  doSelfRefreshExitDone c (s.turn (.selfRefreshExitDone c))

end Sys2Proof.Machine
end

