-- ==== Sys2Proof/Machine/Dispatch.lean ====
section
/-!
DEFINITION. The dispatch: one arm for each command, each one direct call of its meaning.
-/
namespace Sys2Proof.Machine

/-- The effect of one command on everything but the queue. -/
def exec (i : Instr) (s : State) : Host.Outcome State Fault Refusal :=
  match i with
  | .registerWrite src be addr v => Sys2Proof.Machine.execRegisterWrite src be addr v s
  | .mgtAbsentRearm src v => Sys2Proof.Machine.execMgtAbsentRearm src v s
  | .counterLowRead src addr => Sys2Proof.Machine.execCounterLowRead src addr s
  | .timeCaptureRead src addend => Sys2Proof.Machine.execTimeCaptureRead src addend s
  | .sfmCntClr src v => Sys2Proof.Machine.execSfmCntClr src v s
  | .cmpHCntClr src h v => Sys2Proof.Machine.execCmpHCntClr src h v s
  | .tgnHCntClr src h v => Sys2Proof.Machine.execTgnHCntClr src h v s
  | .psqHCntClr src h v => Sys2Proof.Machine.execPsqHCntClr src h v s
  | .lteHCntClr src h v => Sys2Proof.Machine.execLteHCntClr src h v s
  | .lscCntClr src v => Sys2Proof.Machine.execLscCntClr src v s
  | .lscOCntClr src h v => Sys2Proof.Machine.execLscOCntClr src h v s
  | .pnlHCntClr src h v => Sys2Proof.Machine.execPnlHCntClr src h v s
  | .lneLCntClr src n v => Sys2Proof.Machine.execLneLCntClr src n v s
  | .lnkPCntClr src p v => Sys2Proof.Machine.execLnkPCntClr src p v s
  | .dmcCntClr src v => Sys2Proof.Machine.execDmcCntClr src v s
  | .dmcChCntClr src c v => Sys2Proof.Machine.execDmcChCntClr src c v s
  | .timCntClr src v => Sys2Proof.Machine.execTimCntClr src v s
  | .calCntClr src v => Sys2Proof.Machine.execCalCntClr src v s
  | .pwgCntClr src v => Sys2Proof.Machine.execPwgCntClr src v s
  | .mgtCntClr src v => Sys2Proof.Machine.execMgtCntClr src v s
  | .powerOnReset => Sys2Proof.Machine.execPowerOnReset s
  | .warmReset => Sys2Proof.Machine.execWarmReset s
  | .softwareReset src v => Sys2Proof.Machine.execSoftwareReset src v s
  | .clockFaultReset => Sys2Proof.Machine.execClockFaultReset s
  | .resetRelease bootsel => Sys2Proof.Machine.execResetRelease bootsel s
  | .thermalTripRelease => Sys2Proof.Machine.execThermalTripRelease s
  | .pllLock => Sys2Proof.Machine.execPllLock s
  | .pllLockTimeout => Sys2Proof.Machine.execPllLockTimeout s
  | .basinTestDone bad => Sys2Proof.Machine.execBasinTestDone bad s
  | .slotLoadDone io => Sys2Proof.Machine.execSlotLoadDone io s
  | .loadStreamWrite src v => Sys2Proof.Machine.execLoadStreamWrite src v s
  | .loadStreamStall => Sys2Proof.Machine.execLoadStreamStall s
  | .polderSelfTestDone bad => Sys2Proof.Machine.execPolderSelfTestDone bad s
  | .firmwareStart => Sys2Proof.Machine.execFirmwareStart s
  | .dramTrainStepDone c ok => Sys2Proof.Machine.execDramTrainStepDone c ok s
  | .i3cEntdaaDone devs => Sys2Proof.Machine.execI3cEntdaaDone devs s
  | .spiWrite addr words => Sys2Proof.Machine.execSpiWrite addr words s
  | .spiRead addr count => Sys2Proof.Machine.execSpiRead addr count s
  | .spiStatus => Sys2Proof.Machine.execSpiStatus s
  | .flashErase src slot => Sys2Proof.Machine.execFlashErase src slot s
  | .flashProgram src slot => Sys2Proof.Machine.execFlashProgram src slot s
  | .flashVerify src slot => Sys2Proof.Machine.execFlashVerify src slot s
  | .flashCommit src slot => Sys2Proof.Machine.execFlashCommit src slot s
  | .flashCmdDone io => Sys2Proof.Machine.execFlashCmdDone io s
  | .culvertRead p c r => Sys2Proof.Machine.execCulvertRead p c r s
  | .culvertWrite p c r => Sys2Proof.Machine.execCulvertWrite p c r s
  | .surfaceWrite p st addr data => Sys2Proof.Machine.execSurfaceWrite p st addr data s
  | .pixelStream p st x => Sys2Proof.Machine.execPixelStream p st x s
  | .parkRelease p st => Sys2Proof.Machine.execParkRelease p st s
  | .doorbell p st tl value => Sys2Proof.Machine.execDoorbell p st tl value s
  | .timelineWrite src n v => Sys2Proof.Machine.execTimelineWrite src n v s
  | .ptInvalidate src => Sys2Proof.Machine.execPtInvalidate src s
  | .ptInvalidateDone => Sys2Proof.Machine.execPtInvalidateDone s
  | .surfaceDescriptorWrite src n r v => Sys2Proof.Machine.execSurfaceDescriptorWrite src n r v s
  | .surfaceValidate src n => Sys2Proof.Machine.execSurfaceValidate src n s
  | .surfaceFree src n => Sys2Proof.Machine.execSurfaceFree src n s
  | .fetchTranslationFault h l polder page => Sys2Proof.Machine.execFetchTranslationFault h l polder page s
  | .frameBoundary h => Sys2Proof.Machine.execFrameBoundary h s
  | .holdEnd h => Sys2Proof.Machine.execHoldEnd h s
  | .commitSubmit src h v => Sys2Proof.Machine.execCommitSubmit src h v s
  | .frameRetire h => Sys2Proof.Machine.execFrameRetire h s
  | .headEnable src h v => Sys2Proof.Machine.execHeadEnable src h v s
  | .headDisable src h v => Sys2Proof.Machine.execHeadDisable src h v s
  | .headGrant h => Sys2Proof.Machine.execHeadGrant h s
  | .headGrantRefusal h => Sys2Proof.Machine.execHeadGrantRefusal h s
  | .headStopComplete h => Sys2Proof.Machine.execHeadStopComplete h s
  | .breach h buf => Sys2Proof.Machine.execBreach h buf s
  | .freeboardPanic h ns => Sys2Proof.Machine.execFreeboardPanic h ns s
  | .crcCheck h => Sys2Proof.Machine.execCrcCheck h s
  | .composeTileRow h ty => Sys2Proof.Machine.execComposeTileRow h ty s
  | .pxpTableStore src h v => Sys2Proof.Machine.execPxpTableStore src h v s
  | .psqMaskStore src h v => Sys2Proof.Machine.execPsqMaskStore src h v s
  | .portCalibrate src p => Sys2Proof.Machine.execPortCalibrate src p s
  | .echoReply p tag t0 t1 counter replayed => Sys2Proof.Machine.execEchoReply p tag t0 t1 counter replayed s
  | .echoNoReply p => Sys2Proof.Machine.execEchoNoReply p s
  | .planeLoadWindowOpen h j => Sys2Proof.Machine.execPlaneLoadWindowOpen h j s
  | .loadWindowClose h j sent => Sys2Proof.Machine.execLoadWindowClose h j sent s
  | .pulseIssue h j => Sys2Proof.Machine.execPulseIssue h j s
  | .peripheralEvent p opcode code detail counter => Sys2Proof.Machine.execPeripheralEvent p opcode code detail counter s
  | .monSample p x => Sys2Proof.Machine.execMonSample p x s
  | .sampleArrivalTimeout c => Sys2Proof.Machine.execSampleArrivalTimeout c s
  | .sampleBoundary => Sys2Proof.Machine.execSampleBoundary s
  | .loopComputeCommit c lane => Sys2Proof.Machine.execLoopComputeCommit c lane s
  | .holdTimerExpiry c => Sys2Proof.Machine.execHoldTimerExpiry c s
  | .rampStep c => Sys2Proof.Machine.execRampStep c s
  | .channelEnable src c v => Sys2Proof.Machine.execChannelEnable src c v s
  | .channelDisable src c v => Sys2Proof.Machine.execChannelDisable src c v s
  | .channelRestore src c v => Sys2Proof.Machine.execChannelRestore src c v s
  | .driveWrite src c t v => Sys2Proof.Machine.execDriveWrite src c t v s
  | .coefStore src v => Sys2Proof.Machine.execCoefStore src v s
  | .engineStart src => Sys2Proof.Machine.execEngineStart src s
  | .engineStop src => Sys2Proof.Machine.execEngineStop src s
  | .engineGrant => Sys2Proof.Machine.execEngineGrant s
  | .engineGrantRefusal => Sys2Proof.Machine.execEngineGrantRefusal s
  | .sensorReply slot reply => Sys2Proof.Machine.execSensorReply slot reply s
  | .outerReadWindowExpiry h => Sys2Proof.Machine.execOuterReadWindowExpiry h s
  | .outerModeDirect src h v => Sys2Proof.Machine.execOuterModeDirect src h v s
  | .outerModeManual src h v => Sys2Proof.Machine.execOuterModeManual src h v s
  | .outerModeAuto src h v => Sys2Proof.Machine.execOuterModeAuto src h v s
  | .outerTest src h v => Sys2Proof.Machine.execOuterTest src h v s
  | .panelPortCalibrate src p => Sys2Proof.Machine.execPanelPortCalibrate src p s
  | .rowIssue h line => Sys2Proof.Machine.execRowIssue h line s
  | .lineDataSend h line => Sys2Proof.Machine.execLineDataSend h line s
  | .lineLatchDue h row sent => Sys2Proof.Machine.execLineLatchDue h row sent s
  | .panelTempReply h reply => Sys2Proof.Machine.execPanelTempReply h reply s
  | .selfRequest src h v => Sys2Proof.Machine.execSelfRequest src h v s
  | .selfExitRequest src h v => Sys2Proof.Machine.execSelfExitRequest src h v s
  | .odTableStore src h v => Sys2Proof.Machine.execOdTableStore src h v s
  | .groupGo src g v => Sys2Proof.Machine.execGroupGo src g v s
  | .groupDown src g v => Sys2Proof.Machine.execGroupDown src g v s
  | .groupGrant g => Sys2Proof.Machine.execGroupGrant g s
  | .groupGrantRefusal g => Sys2Proof.Machine.execGroupGrantRefusal g s
  | .detectTest n term => Sys2Proof.Machine.execDetectTest n term s
  | .detectTimeout n => Sys2Proof.Machine.execDetectTimeout n s
  | .trainTimeout n => Sys2Proof.Machine.execTrainTimeout n s
  | .syncTimeout n => Sys2Proof.Machine.execSyncTimeout n s
  | .attemptWaitEnd n => Sys2Proof.Machine.execAttemptWaitEnd n s
  | .recoverTimeout n => Sys2Proof.Machine.execRecoverTimeout n s
  | .recoverBudgetDecay n => Sys2Proof.Machine.execRecoverBudgetDecay n s
  | .trainBlockReceive n raw => Sys2Proof.Machine.execTrainBlockReceive n raw s
  | .idleBlockReceive n raw => Sys2Proof.Machine.execIdleBlockReceive n raw s
  | .dataBlockReceive n hdr raw eye => Sys2Proof.Machine.execDataBlockReceive n hdr raw eye s
  | .lanePmReceive n raw idle => Sys2Proof.Machine.execLanePmReceive n raw idle s
  | .laneWake n => Sys2Proof.Machine.execLaneWake n s
  | .laneWakeTimeout n => Sys2Proof.Machine.execLaneWakeTimeout n s
  | .laneDropout n => Sys2Proof.Machine.execLaneDropout n s
  | .laneRetry src n v => Sys2Proof.Machine.execLaneRetry src n v s
  | .laneStop src n v => Sys2Proof.Machine.execLaneStop src n v s
  | .laneTestMode src n v => Sys2Proof.Machine.execLaneTestMode src n v s
  | .loopbackSignalLoss n => Sys2Proof.Machine.execLoopbackSignalLoss n s
  | .eyeGo src n v => Sys2Proof.Machine.execEyeGo src n v s
  | .eyeStop src n v => Sys2Proof.Machine.execEyeStop src n v s
  | .eyeScanComplete n errs => Sys2Proof.Machine.execEyeScanComplete n errs s
  | .trackerWindowEnd n => Sys2Proof.Machine.execTrackerWindowEnd n s
  | .alignReceive n number inStripe => Sys2Proof.Machine.execAlignReceive n number inStripe s
  | .bondTimeout p => Sys2Proof.Machine.execBondTimeout p s
  | .capsSend p => Sys2Proof.Machine.execCapsSend p s
  | .capsReceive p body => Sys2Proof.Machine.execCapsReceive p body s
  | .capsTimeout p => Sys2Proof.Machine.execCapsTimeout p s
  | .linkPacketReceive p k => Sys2Proof.Machine.execLinkPacketReceive p k s
  | .ackReceive p q => Sys2Proof.Machine.execAckReceive p q s
  | .nakReceive p q => Sys2Proof.Machine.execNakReceive p q s
  | .creditReceive p cls hdr data => Sys2Proof.Machine.execCreditReceive p cls hdr data s
  | .widthReceive p mask => Sys2Proof.Machine.execWidthReceive p mask s
  | .creditSend p => Sys2Proof.Machine.execCreditSend p s
  | .replayTimeout p => Sys2Proof.Machine.execReplayTimeout p s
  | .portRetrain src p v => Sys2Proof.Machine.execPortRetrain src p v s
  | .portQuietIdle p => Sys2Proof.Machine.execPortQuietIdle p s
  | .portDormantIdle p => Sys2Proof.Machine.execPortDormantIdle p s
  | .eventDeliveryCtl src v => Sys2Proof.Machine.execEventDeliveryCtl src v s
  | .eventTransactionSend => Sys2Proof.Machine.execEventTransactionSend s
  | .dramReadComplete x => Sys2Proof.Machine.execDramReadComplete x s
  | .refreshInterval c issued split => Sys2Proof.Machine.execRefreshInterval c issued split s
  | .hotRowClear => Sys2Proof.Machine.execHotRowClear s
  | .captureBurstStart c => Sys2Proof.Machine.execCaptureBurstStart c s
  | .captureBurstEnd c result => Sys2Proof.Machine.execCaptureBurstEnd c result s
  | .applyPause c => Sys2Proof.Machine.execApplyPause c s
  | .patrolScrub corrected => Sys2Proof.Machine.execPatrolScrub corrected s
  | .freqChangeRequest src v => Sys2Proof.Machine.execFreqChangeRequest src v s
  | .freqChangeCancel src v => Sys2Proof.Machine.execFreqChangeCancel src v s
  | .freqGrant => Sys2Proof.Machine.execFreqGrant s
  | .freqChangeStart => Sys2Proof.Machine.execFreqChangeStart s
  | .freqWindowTimeout => Sys2Proof.Machine.execFreqWindowTimeout s
  | .freqChangeDone captures => Sys2Proof.Machine.execFreqChangeDone captures s
  | .dramSelfRefreshEntry c => Sys2Proof.Machine.execDramSelfRefreshEntry c s
  | .dramSelfRefreshExit c => Sys2Proof.Machine.execDramSelfRefreshExit c s
  | .powerDownEntry c rank => Sys2Proof.Machine.execPowerDownEntry c rank s
  | .basinClear src v => Sys2Proof.Machine.execBasinClear src v s
  | .basinLoad src v => Sys2Proof.Machine.execBasinLoad src v s
  | .basinStore src v => Sys2Proof.Machine.execBasinStore src v s
  | .basinCmdDone poisoned => Sys2Proof.Machine.execBasinCmdDone poisoned s
  | .timPortEnable src v => Sys2Proof.Machine.execTimPortEnable src v s
  | .ethLinkChange up supported => Sys2Proof.Machine.execEthLinkChange up supported s
  | .ethFrameDiscard => Sys2Proof.Machine.execEthFrameDiscard s
  | .syncReceive d m => Sys2Proof.Machine.execSyncReceive d m s
  | .followUpReceive d m => Sys2Proof.Machine.execFollowUpReceive d m s
  | .announceReceive d m => Sys2Proof.Machine.execAnnounceReceive d m s
  | .delayRespReceive d m => Sys2Proof.Machine.execDelayRespReceive d m s
  | .delayReqSend d => Sys2Proof.Machine.execDelayReqSend d s
  | .tsqEntryExpiry => Sys2Proof.Machine.execTsqEntryExpiry s
  | .announceTimeout d => Sys2Proof.Machine.execAnnounceTimeout d s
  | .syncPairTimeout d => Sys2Proof.Machine.execSyncPairTimeout d s
  | .pathHoldoffExpiry d => Sys2Proof.Machine.execPathHoldoffExpiry d s
  | .revertTimer => Sys2Proof.Machine.execRevertTimer s
  | .stepArm src => Sys2Proof.Machine.execStepArm src s
  | .stepDisarm src => Sys2Proof.Machine.execStepDisarm src s
  | .domainEnable src d v => Sys2Proof.Machine.execDomainEnable src d v s
  | .domainDisable src d v => Sys2Proof.Machine.execDomainDisable src d v s
  | .pulseOutputEnable src k v => Sys2Proof.Machine.execPulseOutputEnable src k v s
  | .pulseOutputFire k => Sys2Proof.Machine.execPulseOutputFire k s
  | .pulseWidthEnd k => Sys2Proof.Machine.execPulseWidthEnd k s
  | .calGo src g => Sys2Proof.Machine.execCalGo src g s
  | .calStop src g => Sys2Proof.Machine.execCalStop src g s
  | .calTempRead g => Sys2Proof.Machine.execCalTempRead g s
  | .calPeriodExpiry g => Sys2Proof.Machine.execCalPeriodExpiry g s
  | .calSubwindowEnd n x => Sys2Proof.Machine.execCalSubwindowEnd n x s
  | .calTrimApply p => Sys2Proof.Machine.execCalTrimApply p s
  | .trimRampStep n kind => Sys2Proof.Machine.execTrimRampStep n kind s
  | .calApplyTimeout g => Sys2Proof.Machine.execCalApplyTimeout g s
  | .dynTrimWrite src n v => Sys2Proof.Machine.execDynTrimWrite src n v s
  | .staticTrimWrite src n v => Sys2Proof.Machine.execStaticTrimWrite src n v s
  | .grantDecision => Sys2Proof.Machine.execGrantDecision s
  | .grantDeadline cls unit => Sys2Proof.Machine.execGrantDeadline cls unit s
  | .standingRampDone => Sys2Proof.Machine.execStandingRampDone s
  | .thermalSample readings => Sys2Proof.Machine.execThermalSample readings s
  | .budgetWrite src base v => Sys2Proof.Machine.execBudgetWrite src base v s
  | .batchAccept => Sys2Proof.Machine.execBatchAccept s
  | .collectorDrain => Sys2Proof.Machine.execCollectorDrain s
  | .ringWrite => Sys2Proof.Machine.execRingWrite s
  | .eventRingEnable src v => Sys2Proof.Machine.execEventRingEnable src v s
  | .eventRingDisable src v => Sys2Proof.Machine.execEventRingDisable src v s
  | .eventRingConsume src v => Sys2Proof.Machine.execEventRingConsume src v s
  | .eventPop src v => Sys2Proof.Machine.execEventPop src v s
  | .recRecord src => Sys2Proof.Machine.execRecRecord src s
  | .recStop src => Sys2Proof.Machine.execRecStop src s
  | .recReplay src => Sys2Proof.Machine.execRecReplay src s
  | .recMark src v => Sys2Proof.Machine.execRecMark src v s
  | .checkpointEnd => Sys2Proof.Machine.execCheckpointEnd s
  | .checkpointPeriodic => Sys2Proof.Machine.execCheckpointPeriodic s
  | .postFramesEnd => Sys2Proof.Machine.execPostFramesEnd s
  | .gapItemWrite n => Sys2Proof.Machine.execGapItemWrite n s
  | .replayEnd => Sys2Proof.Machine.execReplayEnd s
  | .otpAdvance src v => Sys2Proof.Machine.execOtpAdvance src v s
  | .otpRevoke src v => Sys2Proof.Machine.execOtpRevoke src v s
  | .otpLock src => Sys2Proof.Machine.execOtpLock src s
  | .otpReturn src => Sys2Proof.Machine.execOtpReturn src s
  | .otpProgramDone ok => Sys2Proof.Machine.execOtpProgramDone ok s
  | .attestRequest src => Sys2Proof.Machine.execAttestRequest src s
  | .attestGrant => Sys2Proof.Machine.execAttestGrant s
  | .attestSignDone => Sys2Proof.Machine.execAttestSignDone s
  | .keyOffer src p e => Sys2Proof.Machine.execKeyOffer src p e s
  | .keyInstall src p e => Sys2Proof.Machine.execKeyInstall src p e s
  | .keySelect src p e => Sys2Proof.Machine.execKeySelect src p e s
  | .keyClear src p => Sys2Proof.Machine.execKeyClear src p s
  | .pkEngineDone => Sys2Proof.Machine.execPkEngineDone s
  | .debugUnlock src => Sys2Proof.Machine.execDebugUnlock src s
  | .sourceLock src v => Sys2Proof.Machine.execSourceLock src v s
  | .spiLock src v => Sys2Proof.Machine.execSpiLock src v s
  | .dramTrainGrant c => Sys2Proof.Machine.execDramTrainGrant c s
  | .basinBulkGrant => Sys2Proof.Machine.execBasinBulkGrant s
  | .selfTestGrant => Sys2Proof.Machine.execSelfTestGrant s
  | .selfRefreshExitDone c => Sys2Proof.Machine.execSelfRefreshExitDone c s

end Sys2Proof.Machine
end

