-- ==== Sys2Proof/Decode.lean ====
section
/-!
DEFINITION. The decoder asked of a block: the command that a word spells by the table's bits. The opcode table of this
device gives no row any bits (its commands are register accesses, transactions and events, not words), so no word
spells a command.
-/
namespace Sys2Proof

/-- The command spelt by a word of `nbits` bits: none, since no row of the table gives bits. -/
def decodeTableWord (_nbits _w : Nat) : Option Instr := none

end Sys2Proof
end

