-- ==== Sys2Proof/Safety.lean ====
section
/-!
DEFINITION. What counts as a good state (the canonical form of every store, counters within their width), when a register write
takes effect, and what a counter clear leaves.
-/
namespace Sys2Proof.Machine

/-! ### Good states -/

/-- A counter within its 48 bits (R7). -/
def Counter.inRange (c : Counter) : Bool := decide (c.val ≤ cntMax)

/-- Every counter holds at most 2^48 − 1 (R7). -/
def State.countersOk (s : State) : Bool := s.counters.all fun x => x.2.inRange

/-- The byte memories are in canonical form. -/
def State.memoriesOk (s : State) : Bool := Memory.wf 0 s.dram && Memory.wf 0 s.basin && Memory.wf 0xFF s.flash

/-- The keys of a store rise strictly from `lo` on. -/
def SMap.risingFrom {α : Type} : Option Nat → SMap α → Bool
  | _, [] => true
  | lo, (j, _) :: m => (match lo with | none => true | some l => decide (l < j)) && SMap.risingFrom (some j) m

/-- The keys of a store rise strictly. -/
def SMap.rising {α : Type} (m : SMap α) : Bool := SMap.risingFrom none m

/-- The keys of the register words, of the counters, of every record kept per unit and of the places of a clock rise strictly. -/
def State.storesOk (s : State) : Bool :=
  s.order.rising && s.regs.rising && s.force.rising && s.counters.rising && s.hiCap.rising && s.blkState.rising && s.unitsOut.rising &&
  s.lanes.rising && s.groups.rising && s.ports.rising && s.calLanes.rising && s.calGroups.rising && s.dramCh.rising &&
  s.tgn.rising && s.headPolders.rising && s.polders.rising && s.cals.rising && s.pnl.rising && s.ckpts.rising

/-- The memory bytes that checkpoints keep are in canonical form. -/
def State.ckptsOk (s : State) : Bool := s.ckpts.all fun c => Memory.wf 0 c.2.cells

/-- The invariant that every step keeps: every store and memory in its one form, every counter within its width. -/
def State.inv (s : State) : Bool := s.storesOk && s.countersOk && s.memoriesOk && s.ckptsOk

/-! ### Register writes -/

/-- Whether a register write takes effect: the device is not held in reset, the source may write (R381), the SPI target port
reaches the address (R42), the block is present (R10) and no re-run holds its head (R365). -/
def State.takes (s : State) (src : Source) (a : Nat) : Bool :=
  !s.boot.held && !s.denied src a && !(src == .spi && !s.spiReach a) && !s.absent (a / 0x100000) &&
  !(match s.headOfAddr a with | some h => s.replaying h | none => false)

/-- What a write of a counter-clear register leaves (R7, R355): the counters listed with a bit that is 1 in the written word hold 0
with their overflow bit clear, but for what counts in the same clock; every other counter is as before, and so is the rest of the
device. -/
def State.cleared (s : State) (l : List (Nat × Nat)) (v : Word) (t : State) : Prop :=
  t = { s with counters := t.counters } ∧
  ∀ a, t.cnt a = if l.any (fun x => x.2 == a && bit v x.1) then (s.cnt a).afterClear s.now else s.cnt a

/-! ### What a command leaves alone -/

/-- The register words outside some blocks are as before. -/
def State.wordsKept (s : State) (blks : List Nat) (t : State) : Prop := ∀ a, blks.contains (a / 0x100000) = false → t.word a = s.word a

/-- What happens on a lane reaches its group, its port, their calibrations, the boot's progress, units, counters and events, and
nothing else: no memory, no time, no grant, no head, no loop, and nothing is sent but the NAK of a framing error; a value that the
spec leaves open may be drawn. Register words change in LNE and LNK alone, but for the note of an absent block in MGT. -/
def State.laneFrame (s t : State) : Prop :=
  s.wordsKept [0, 4, 5] t ∧ (t.wire = s.wire ∨ ∃ p q, t.wire = .nak p q 3 :: s.wire) ∧
  t = { s with
    wire := t.wire, free := t.free, regs := t.regs, counters := t.counters, unitsOut := t.unitsOut, blkState := t.blkState, boot := t.boot,
    mgt := { s.mgt with fresh := t.mgt.fresh }, lanes := t.lanes, groups := t.groups, ports := t.ports, cals := t.cals,
    calLanes := t.calLanes, calGroups := t.calGroups }

/-- What happens on a port reaches beside that its output. -/
def State.portFrame (s t : State) : Prop :=
  s.wordsKept [0, 4, 5] t ∧ State.laneFrame { s with regs := t.regs, wire := t.wire } t

/-- What DMC does between reads reaches its channels, its own record, the grants it asks for, counters and events, and the layer
that a failed fetch abandons; no memory byte. A value that the spec leaves open may be drawn. -/
def State.dramFrame (s t : State) : Prop :=
  s.wordsKept [0, 2, 6, 8] t ∧
  t = { s with
    free := t.free, regs := t.regs, counters := t.counters, dramCh := t.dramCh, dmc := t.dmc, pwg := t.pwg, tgn := t.tgn
    mgt := { s.mgt with fresh := t.mgt.fresh } }

/-- A new request waits in PWG's queue, or is on its way back refused. -/
def State.asked (s t : State) : Prop :=
  t.pwg.queue.length = s.pwg.queue.length + 1 ∨ t.pwg.refused.length = s.pwg.refused.length + 1

/-- A counter has gone up by `k`, saturating. -/
def State.counted (s : State) (a k : Nat) (t : State) : Prop := (t.cnt a).val = min cntMax ((s.cnt a).val + k)

/-- What TIM does reaches its own record and registers, counters and events, and the frames it sends. -/
def State.timFrame (s t : State) : Prop :=
  s.wordsKept [0, 15] t ∧
  t = { s with regs := t.regs, counters := t.counters, tim := t.tim, mgt := { s.mgt with fresh := t.mgt.fresh }, wire := t.wire }

/-- What an admission decision reaches: PWG's record and registers, counters and events. -/
def State.grantFrame (s t : State) : Prop :=
  s.wordsKept [0, 2] t ∧ t = { s with regs := t.regs, counters := t.counters, pwg := t.pwg, mgt := { s.mgt with fresh := t.mgt.fresh } }

end Sys2Proof.Machine
end

