-- ==== Sys2Proof/WellFormed.lean ====
section
/-!
DEFINITION. Which commands are well formed: every operand within the width that the spec gives the field it stands for.
-/
namespace Sys2Proof

/-- A number of at most `n` bits. -/
def fits (n v : Nat) : Bool := decide (v < 2 ^ n)

/-- The fields of a culvert request (R270): operation, byte enables, tag, address, and 1 to 64 words. -/
def CulvertReq.wf (r : CulvertReq) : Bool :=
  fits 4 r.op && fits 4 r.be && fits 16 r.tag && fits 24 r.addr && decide (1 ≤ r.count) && decide (r.count ≤ 64)

/-- The fields of a PIXEL_STREAM header (R270), and 1 to 8,192 bytes. -/
def PixelTxn.wf (x : PixelTxn) : Bool :=
  fits 12 x.surface && fits 1 x.plane && fits 14 x.line && fits 12 x.offset &&
  decide (1 ≤ x.data.length) && decide (x.data.length ≤ 8192)

/-- The fields of START and END (R262). -/
def LinkPkt.wf (k : LinkPkt) : Bool :=
  fits 4 k.type && fits 3 k.stream && fits 12 k.seq && fits 16 k.blocks && fits 1 k.epoch && fits 12 k.seq2 && fits 32 k.crc

/-- The fields of a MON_SAMPLE record (R160). -/
def MonRec.wf (x : MonRec) : Bool :=
  fits 8 x.chan && fits 16 x.seq && fits 8 x.flags && fits 16 x.mon && fits 16 x.aux && fits 32 x.stamp

/-- The fields of a PTP message (R303, R309). -/
def PtpMsg.wf (m : PtpMsg) : Bool :=
  fits 80 m.source && fits 16 m.seq && fits 4 m.version && fits 4 m.minor && fits 48 m.sec && fits 32 m.ns &&
  fits 80 m.requesting && fits 8 m.p1 && fits 8 m.cls && fits 8 m.acc && fits 16 m.var && fits 8 m.p2 && fits 64 m.gm &&
  fits 16 m.steps && decide (-128 ≤ m.interval) && decide (m.interval ≤ 127)

/-- A returned read names a requester code, an outcome, and a layer slot or 9. -/
def ReadDone.wf (x : ReadDone) : Bool := decide (x.outcome ≤ 3) && decide (x.layer ≤ 9) && decide (1 ≤ x.kind) && decide (x.kind ≤ 3)

/-- A device of ENTDAA (R393): a 48-bit provisional ID and two characteristics bytes. -/
def I3cDevice.wf (d : I3cDevice) : Bool := fits 48 d.pid && fits 8 d.bcr && fits 8 d.dcr

/-- Whether a command's operands lie within their fields. -/
def Instr.wf : Instr → Bool
  | .registerWrite _ be addr _ => fits 4 be && fits 32 addr
  | .counterLowRead _ addr => fits 24 addr && addr % 4 == 0
  | .i3cEntdaaDone devs => devs.all I3cDevice.wf
  | .spiWrite addr _ => fits 24 addr
  | .spiRead addr _ => fits 24 addr
  | .culvertRead _ _ r => r.wf
  | .culvertWrite _ _ r => r.wf
  | .surfaceWrite _ _ addr data =>
    fits 36 addr && addr % 64 == 0 && data.length % 64 == 0 && decide (64 ≤ data.length) && decide (data.length ≤ 8192)
  | .pixelStream _ _ x => x.wf
  | .doorbell _ _ _ value => fits 48 value
  | .monSample _ x => x.wf
  | .echoReply _ tag t0 t1 counter _ => fits 16 tag && fits 64 t0 && fits 64 t1 && fits 64 counter
  | .linkPacketReceive _ k => k.wf
  | .ackReceive _ q => fits 12 q
  | .nakReceive _ q => fits 12 q
  | .creditReceive _ cls hdr data => decide (cls < 4) && fits 16 hdr && fits 24 data
  | .widthReceive _ mask => fits 16 mask
  | .capsReceive _ body => decide (body.length ≤ 64)
  | .dramReadComplete x => x.wf
  | .refreshInterval _ issued _ => decide (issued.length ≤ 2)
  | .syncReceive _ m => m.wf
  | .followUpReceive _ m => m.wf
  | .announceReceive _ m => m.wf
  | .delayRespReceive _ m => m.wf
  | .thermalSample readings => decide (readings.length = 16)
  | .composeTileRow _ ty => decide (ty < 136)
  | .freeboardPanic _ ns => fits 16 ns
  | _ => true

end Sys2Proof
end

