-- ==== Sys2Proof/Certificates/Slice0/Obligations.lean ====
section
/-!
DEFINITION. The statements for the provers.

A command whose place in the order of a clock lies before something already evaluated in that clock is evaluated in the
next one (Machine/Order.lean, log entry 49). What such a command does is stated at its turn: s0 is the state it is
commanded in, and s, with `s0.turn c = s`, the state at its turn, which QueueAndWire describes. Every s0 has one such s;
a command without a place, and any command that nothing overtakes, has it at once.
-/

open Sys2Proof Sys2Proof.Machine

/-- A step runs the command at the front of the queue. For every command c, queue rest and state s, a step of s with c in
front of rest is exec of c on s with the queue rest. -/
def Obligations.StepRunsFront : Prop :=
  ∀ (c : Instr) (rest : List Instr) (s : State), step { s with pending := c :: rest } = exec c { s with pending := rest }

/-- What the device holds right after the release of a power-on reset. At State.reset the boot stage is ROM, every block
reads its identifier, its state reads 1 (RESET) and its units 0; MGT_RST_CAUSE, MGT_EVT_CTL, MGT_REC_CTL,
PSQ_SLOT_CTL, PWG_CLASS_CTL and DMC_TRAIN_CTL read the reset values of their register maps; no counter, memory byte or
unit record is listed, the wire is empty and no command waits. (That an unlisted DRAM byte reads 0 is the model's
choice, log entry 4.) -/
def Obligations.ResetValues : Prop :=
  (∀ n : Fin 16, peek (n.val * 0x100000) State.reset = word (0x92560001 + n.val * 0x100) ∧
    peek (n.val * 0x100000 + 4) State.reset = 1 ∧ peek (n.val * 0x100000 + 8) State.reset = 0 ∧
    peek (n.val * 0x100000 + 0xC) State.reset = 0) ∧
  peek Rg.MGT_BOOT_STATUS.at State.reset = 0 ∧ peek Rg.MGT_EVT_CTL.at State.reset = 0xC0 ∧
  peek Rg.MGT_REC_CTL.at State.reset = 0x783C0140 ∧ peek (Rg.PSQ_SLOT_CTL.at [0, 0]) State.reset = 0x51010008 ∧
  peek (Rg.PWG_CLASS_CTL.at [3]) State.reset = 0xA7100FA0 ∧ peek Rg.DMC_TRAIN_CTL.at State.reset = 0x10080400 ∧
  State.reset.counters = [] ∧ State.reset.dram = [] ∧ State.reset.basin = [] ∧ State.reset.flash = [] ∧
  State.reset.wire = [] ∧ State.reset.pending = []

/-- Writes that are turned away, and absent blocks. A REGISTER_WRITE that is not one whole aligned word of the control
space (R5), any write while the device is held in reset, one from a source that R381 denies, and one by the SPI target
port beyond its reach (R42) leave the whole state as it was. A write of an absent block's header, or of an absent
block whose event has been raised, does the same; the first write of an absent block beyond its header sets its bit in
MGT_ABSENT, raises one record and changes nothing else (R10). A write of MGT_ABSENT that takes effect clears exactly
the bits written 1 and changes nothing else. During a re-run a write at a register of a head that the re-run holds
changes nothing but that one invalid-write record of the block is presented (R365). -/
def Obligations.WriteTurnedAway : Prop :=
  ∀ (src : Source) (be a : Nat) (v : Word) (s : State),
    (be ≠ 0xF ∨ a % 4 ≠ 0 ∨ 0x1000000 ≤ a ∨ s.boot.held = true ∨ s.denied src a = true ∨ (src = .spi ∧ s.spiReach a = false) →
      ∀ s0, s0.turn (.registerWrite src be a v) = s → exec (.registerWrite src be a v) s0 = .next s) ∧
    (be = 0xF → a % 4 = 0 → a < 0x1000000 → s.boot.held = false → s.denied src a = false → (src = .spi → s.spiReach a = true) →
      s.absent (a / 0x100000) = true →
      (a % 0x100000 < 0x10 ∨ bit (s.rd Rg.MGT_ABSENT) (a / 0x100000) = true → ∀ s0, s0.turn (.registerWrite src be a v) = s → exec (.registerWrite src be a v) s0 = .next s) ∧
      (0x10 ≤ a % 0x100000 → bit (s.rd Rg.MGT_ABSENT) (a / 0x100000) = false →
        ∀ s0, s0.turn (.registerWrite src be a v) = s → ∃ t, exec (.registerWrite src be a v) s0 = .next t ∧ t = { s with regs := t.regs, mgt := { s.mgt with fresh := t.mgt.fresh } } ∧
          bit (t.rd Rg.MGT_ABSENT) (a / 0x100000) = true ∧ t.mgt.fresh.length = s.mgt.fresh.length + 1 ∧
          t.mgt.fresh.take s.mgt.fresh.length = s.mgt.fresh ∧
          ∀ x ∈ t.mgt.fresh.getLast?, x.sub = 0 ∧ x.kind = 6 ∧ x.reg = a ∧ x.arg0 = 2 ∧ x.arg1 = a / 0x100000)) ∧
    (s.regs.rising = true → s.takes src Rg.MGT_ABSENT.at = true →
      ∀ s0, s0.turn (.mgtAbsentRearm src v) = s → ∃ t, exec (.mgtAbsentRearm src v) s0 = .next t ∧ t = { s with regs := t.regs } ∧
        (∀ n < 16, bit (t.rd Rg.MGT_ABSENT) n = (bit (s.rd Rg.MGT_ABSENT) n && !bit v n)) ∧
        ∀ b, b ≠ Rg.MGT_ABSENT.at → t.word b = s.word b) ∧
    (∀ h, s.boot.held = false → s.denied src a = false → (src = .spi → s.spiReach a = true) → a % 4 = 0 → a < 0x1000000 →
      s.absent (a / 0x100000) = false → s.headOfAddr a = some h → s.recd.state = 5 → bit s.recd.ctl h = true →
      ∀ s0, s0.turn (.registerWrite src 0xF a v) = s → exec (.registerWrite src 0xF a v) s0 = .next { s with mgt := { s.mgt with fresh := s.mgt.fresh ++
        [{ stamp := s.stamp, sub := a / 0x100000, kind := 6, unit := unitOfAddr a, reg := a, arg0 := 0, arg1 := 0 }] } })

/-- What a register write stores. A REGISTER_WRITE that takes effect on a register without behaviour of its own (one of
those listed, of every block) leaves the RW and RWS bits as written, the W1C bits that were written 1 clear and every
other bit as it was (R3), except that a field with a value that R8 does not admit keeps its value, in which case one
invalid-write record of the block is raised. Every other register word, and everything else, is as it was, but for the
REG item of a recorded head (recReg, R360). At an address that no register map lists nothing is stored (R4). -/
def Obligations.WriteStores : Prop :=
  ∀ (r : Reg) (ix : List Nat) (src : Source) (v : Word) (s : State), s.storesOk = true → s.takes src (r.at ix) = true →
    r.at ix < 0x1000000 → r.at ix % 4 = 0 →
    (lookupReg (r.at ix) = none → ∀ s0, s0.turn (.registerWrite src 0xF (r.at ix) v) = s → exec (.registerWrite src 0xF (r.at ix) v) s0 = .next (recReg src (r.at ix) v s)) ∧
    (r ∈ [Rg.MGT_REC_BASE, Rg.MGT_REC_SIZE, Rg.SEC_LOAD_NEXT, Rg.PWG_THERM_CTL, Rg.PWG_FLAGS, Rg.CAL_CTL, Rg.LNE_TRK_CTL, Rg.LNK_TIMERS,
        Rg.DMC_TRAIN_CTL, Rg.SFM_PT_BASE, Rg.CMP_L_SURF, Rg.PXP_H_GMTX, Rg.TGN_H_HTIME, Rg.PSQ_SLOT_CTL, Rg.LTE_H_FRONT,
        Rg.LSC_CTX_ADDR, Rg.PNL_H_LEAD, Rg.TIM_SERVO_KP] →
      lookupReg (r.at ix) = some (r, ix) → s.instLives (r.at ix) = true →
      ∀ s0, s0.turn (.registerWrite src 0xF (r.at ix) v) = s → ∃ t, exec (.registerWrite src 0xF (r.at ix) v) s0 = .next t ∧
        t = { recReg src (r.at ix) v s with regs := t.regs, mgt := t.mgt } ∧
        t.word (r.at ix) = r.merge (s.word (r.at ix)) (keepIllegal (s.word (r.at ix)) r.legal v) ∧
        (∀ b, b ≠ r.at ix → t.word b = s.word b) ∧
        t.mgt = (if anyIllegal r.legal v then invalidWrite (r.at ix) (recReg src (r.at ix) v s) else recReg src (r.at ix) v s).mgt)

/-- Reads that capture. COUNTER_LOW_READ of a counter in a present block captures the high register in the same instant,
so that the next read of it returns what it held then (R7), and changes nothing else; at any other address the row
does nothing. TIME_CAPTURE_READ of TIM_TIME_NS captures seconds and fraction of the clock now, and that of
TIM_ADDEND_LO the high part of the addend (R319); nothing else changes. -/
def Obligations.CounterReads : Prop :=
  ∀ (src : Source) (a : Nat) (s : State), s.boot.held = false → s.hiCap.rising = true →
    (isCounter a = false → ∀ s0, s0.turn (.counterLowRead src a) = s → exec (.counterLowRead src a) s0 = .next s) ∧
    (isCounter a = true → s.absent (a / 0x100000) = false → s.instLives a = true →
      ∀ s0, s0.turn (.counterLowRead src a) = s → ∃ t, exec (.counterLowRead src a) s0 = .next t ∧ t = { s with hiCap := t.hiCap } ∧
        readValue (a + 4) t = (s.counterAt a).high ∧ ∀ b, b ≠ a + 4 → t.hiCap.find b = s.hiCap.find b) ∧
    (s.absent 15 = false →
      (∀ s0, s0.turn (.timeCaptureRead src true) = s → exec (.timeCaptureRead src true) s0 = .next { s with tim := { s.tim with capAdd := s.tim.addend / 2 ^ 32 } }) ∧
      ∀ s0, s0.turn (.timeCaptureRead src false) = s → exec (.timeCaptureRead src false) s0 = .next { s with tim := { s.tim with
        capSecLo := clkSec s.clkTick % 2 ^ 32, capSecHi := clkSec s.clkTick / 2 ^ 32, capFrac := clkFrac s.clkTick } })

/-- No command faults and none is refused. In every state every command of the table answers a next state. -/
def Obligations.AlwaysAnswers : Prop :=
  ∀ (c : Instr) (s : State), ∃ t, exec c s = .next t

/-- The invariant holds after reset. State.reset meets the invariant: every store has rising keys, every memory is
canonical, every counter is within 48 bits. -/
def Obligations.InvAtReset : Prop := State.reset.inv = true

/-- Every step keeps the invariant. From every state that meets the invariant (rising keys in every store of register
words, counters and unit records; DRAM, basin and flash canonical; no counter above 2^48 - 1, R7; the bytes that
checkpoints keep canonical), every step, whatever command is in front or none, gives a state that meets it. -/
def Obligations.InvKept : Prop :=
  ∀ s t : State, s.inv = true → step s = .next t → t.inv = true

/-- A command leaves the queue alone, never takes back what was sent, and waits its turn. Whatever command runs, the
queue of waiting commands is as it was, and what the device has put out on its pins, lanes and buses only grows: the
transcript before is the tail of the transcript after. A step takes exactly the front command off the queue. The state
at a command's turn, which the other statements speak of, is the state itself while the device is held in reset, and,
where nothing that comes behind the command has been evaluated in its clocks, the state with only the command's place
noted; else one to four core clock periods have passed, and by then every such clock is over. (That the order within a
clock holds in this form is the model's choice, log entry 49.) -/
def Obligations.QueueAndWire : Prop :=
  (∀ (c : Instr) (s t : State), exec c s = .next t → t.pending = s.pending ∧ s.wire <:+ t.wire) ∧
  (∀ s t : State, step s = .next t → t.pending = s.pending.tail) ∧
  ∀ (c : Instr) (s : State),
    (s.boot.held = true → s.turn c = s) ∧
    (s.boot.held = false →
      s.now ≤ (s.turn c).now ∧ (s.turn c).now ≤ s.now + 4 ∧
      ((∀ t, t ∈ s.turns c → s.overtaken t = false) → s.turn c = { s with order := (s.turn c).order }) ∧
      ((∃ t, t ∈ s.turns c ∧ s.overtaken t = true) → s.now < (s.turn c).now) ∧
      (s.inv = true → ∀ t, t ∈ s.turns c →
        (t.tests = true → ∀ k p, s.order.find t.unit = some (k, p) → k ≤ s.clockNo t.clock →
          p ≤ t.place ∨ k < (s.turn c).clockNo t.clock) ∧
        ∃ q, (s.turn c).order.find t.unit = some ((s.turn c).clockNo t.clock, q) ∧ t.place ≤ q))

/-- What a device held in reset does. While the device is held in reset no command changes any of its state, but for a
further power-on or warm reset, the release, a thermal sample and the end of a thermal trip's hold (R343, R387). -/
def Obligations.HeldDoesNothing : Prop :=
  ∀ (c : Instr) (s : State), s.boot.held = true →
    (match c with
      | .powerOnReset | .warmReset | .resetRelease _ | .thermalTripRelease | .thermalSample _ => True
      | _ => exec c s = .next s)

/-- Fuses change only by OTP_PROGRAM_DONE, and a blown fuse stays blown. No command but OTP_PROGRAM_DONE changes a fuse,
and no reset clears one (R370, R387). OTP_PROGRAM_DONE leaves every fuse that was blown blown. -/
def Obligations.FusesOnlyBlown : Prop :=
  ∀ (c : Instr) (s t : State), exec c s = .next t →
    ((∀ ok, c ≠ .otpProgramDone ok) → t.otp = s.otp) ∧
    ∀ k, (s.otp.revoked.testBit k → t.otp.revoked.testBit k) ∧ (s.otp.life.testBit k → t.otp.life.testBit k) ∧
      (s.otp.rollback.testBit k → t.otp.rollback.testBit k) ∧ (s.otp.att.testBit k → t.otp.att.testBit k) ∧
      (s.otp.attBad.testBit k → t.otp.attBad.testBit k)

/-- Debug opens only by a finished unlock and ends only with a power-on reset. Every command but POWER_ON_RESET and
PK_ENGINE_DONE leaves the debug state as it was; PK_ENGINE_DONE never closes debug that is open; POWER_ON_RESET closes
it (R380). -/
def Obligations.DebugEndsAtPowerOn : Prop :=
  ∀ (c : Instr) (s t : State), exec c s = .next t →
    (c ≠ .powerOnReset → c ≠ .pkEngineDone → t.dbg = s.dbg) ∧
    (c = .pkEngineDone → s.dbg.isOpen = true → t.dbg.isOpen = true) ∧
    (c = .powerOnReset → t.dbg.isOpen = false ∧ t.dbg.wasOpen = false)

/-- The structure is applied once a boot. The structure in force changes only at APPLY (POLDER_SELF_TEST_DONE) or by a
reset, which holds the device; flash changes only by FLASH_CMD_DONE or by a reset, which may interrupt a flash command
(R25, R46, R47, R387). -/
def Obligations.StructureFixed : Prop :=
  ∀ (c : Instr) (s t : State), exec c s = .next t →
    ((∀ bad, c ≠ .polderSelfTestDone bad) → t.cfg = s.cfg ∨ t.boot.held = true) ∧
    ((∀ io, c ≠ .flashCmdDone io) → t.flash = s.flash ∨ t.boot.held = true)

/-- Counter clears of the surface manager, the heads and the light loops. A write of SFM_CNT_CLR, CMP_H_CNT_CLR,
TGN_H_CNT_CLR, PSQ_H_CNT_CLR, LTE_H_CNT_CLR, LSC_O_CNT_CLR, PNL_H_CNT_CLR or LSC_CNT_CLR that takes effect clears,
with its overflow bit, every counter whose bit is 1 in the word (TGN's bit 4 starts the least freeboard afresh; LSC
clears those of channel [23:16], or with bit 31 of all 256, and its bit 2 the queue peak) and changes nothing else;
recReg is the REG item of a recorded head (R360). In the registers of a head of another mode the write does nothing
(R138, R163, R206, R232). -/
def Obligations.CounterClearsHeads : Prop :=
  ∀ (src : Source) (v : Word) (h : Fin 4) (s : State), s.counters.rising = true →
    (s.takes src Rg.SFM_CNT_CLR.at = true → ∀ s0, s0.turn (.sfmCntClr src v) = s → ∃ t, exec (.sfmCntClr src v) s0 = .next t ∧
      s.cleared [(0, Rg.SFM_EARLY_FREE_CNT.at), (1, Rg.SFM_XLATE_FAULT_CNT.at), (2, Rg.SFM_PARK_CNT.at), (3, Rg.SFM_DISCARD_CNT.at)] v t) ∧
    (s.takes src (Rg.CMP_H_CNT_CLR.at [h.val]) = true → ∀ s0, s0.turn (.cmpHCntClr src h v) = s → ∃ t, exec (.cmpHCntClr src h v) s0 = .next t ∧
      (recReg src (Rg.CMP_H_CNT_CLR.at [h.val]) v s).cleared [(0, Rg.CMP_H_NR_CNT.at [h.val]), (1, Rg.CMP_H_SKIP_CNT.at [h.val]),
        (2, Rg.CMP_H_CLAMP_CNT.at [h.val])] v t) ∧
    (s.takes src (Rg.TGN_H_CNT_CLR.at [h.val]) = true → ∀ s0, s0.turn (.tgnHCntClr src h v) = s → ∃ t, exec (.tgnHCntClr src h v) s0 = .next t ∧
      (if bit v 4 then (recReg src (Rg.TGN_H_CNT_CLR.at [h.val]) v s).modHd h.val fun d => { d with fbMin := 65535 }
        else recReg src (Rg.TGN_H_CNT_CLR.at [h.val]) v s).cleared
        [(0, Rg.TGN_H_BREACH_CNT.at [h.val]), (1, Rg.TGN_H_LATE_CNT.at [h.val]), (2, Rg.TGN_H_CRC_FAIL_CNT.at [h.val]),
          (3, Rg.TGN_H_REFUSE_CNT.at [h.val])] v t) ∧
    (s.takes src (Rg.PSQ_H_CNT_CLR.at [h.val]) = true → ∀ s0, s0.turn (.psqHCntClr src h v) = s → ∃ t, exec (.psqHCntClr src h v) s0 = .next t ∧
      (recReg src (Rg.PSQ_H_CNT_CLR.at [h.val]) v s).cleared (if s.mirror h.val then
        [(0, Rg.PSQ_H_CLASS_CNT.at [h.val]), (1, Rg.PSQ_H_CODED_CNT.at [h.val])] else []) v t) ∧
    (s.takes src (Rg.LTE_H_CNT_CLR.at [h.val]) = true → ∀ s0, s0.turn (.lteHCntClr src h v) = s → ∃ t, exec (.lteHCntClr src h v) s0 = .next t ∧
      (recReg src (Rg.LTE_H_CNT_CLR.at [h.val]) v s).cleared (if s.mirror h.val then [(0, Rg.LTE_H_LATE_CNT.at [h.val]),
        (1, Rg.LTE_H_INCOMPLETE_CNT.at [h.val]), (2, Rg.LTE_H_DARK_CNT.at [h.val])] else []) v t) ∧
    (s.takes src (Rg.LSC_O_CNT_CLR.at [h.val]) = true → ∀ s0, s0.turn (.lscOCntClr src h v) = s → ∃ t, exec (.lscOCntClr src h v) s0 = .next t ∧
      (recReg src (Rg.LSC_O_CNT_CLR.at [h.val]) v s).cleared (if s.mirror h.val then [(0, Rg.LSC_O_SKIP_CNT.at [h.val]),
        (1, Rg.LSC_O_SMP_CNT.at [h.val])] else []) v t) ∧
    (s.takes src (Rg.PNL_H_CNT_CLR.at [h.val]) = true → ∀ s0, s0.turn (.pnlHCntClr src h v) = s → ∃ t, exec (.pnlHCntClr src h v) s0 = .next t ∧
      (recReg src (Rg.PNL_H_CNT_CLR.at [h.val]) v s).cleared (if s.panel h.val then [(0, Rg.PNL_H_LATE_CNT.at [h.val]),
        (1, Rg.PNL_H_INCOMPLETE_CNT.at [h.val]), (2, Rg.PNL_H_SR_FRAME_CNT.at [h.val])] else []) v t) ∧
    (s.takes src Rg.LSC_CNT_CLR.at = true → ∀ s0, s0.turn (.lscCntClr src v) = s → ∃ t, exec (.lscCntClr src v) s0 = .next t ∧
      (if bit v 2 then { s with lsc := { s.lsc with qPeak := 0 } } else s).cleared
        ((if bit v 31 then List.range 256 else [fld v 23 16]).flatMap fun c =>
          [(0, Rg.LSC_CH_DL_CNT.at [c]), (1, Rg.LSC_CH_HOLD_CNT.at [c])]) v t)

/-- Counter clears of the other blocks. A write of LNE_L_CNT_CLR, LNK_P_CNT_CLR, DMC_CNT_CLR, DMC_CH_CNT_CLR, TIM_CNT_CLR,
CAL_CNT_CLR, PWG_CNT_CLR or MGT_CNT_CLR that takes effect clears, with its overflow bit, every counter whose bit is 1
in the word (TIM's bit 4 the missed counts of the eight pulse outputs, MGT's bit 3 starts the queue peak afresh at the
queue's present length) and changes nothing else. In the registers of an unassigned lane or an unused port or channel
the write does nothing. -/
def Obligations.CounterClearsBlocks : Prop :=
  ∀ (src : Source) (v : Word) (n : Fin 96) (p : Fin 24) (c : Fin 16) (s : State), s.counters.rising = true →
    (s.takes src (Rg.LNE_L_CNT_CLR.at [n.val]) = true → ∀ s0, s0.turn (.lneLCntClr src n v) = s → ∃ t, exec (.lneLCntClr src n v) s0 = .next t ∧
      s.cleared (if s.assigned n.val then [(0, Rg.LNE_L_HDR_ERR_CNT.at [n.val]), (1, Rg.LNE_L_RECOVER_CNT.at [n.val]),
        (2, Rg.LNE_L_PRBS_ERR.at [n.val]), (2, Rg.LNE_L_PRBS_BITS.at [n.val])] else []) v t) ∧
    (s.takes src (Rg.LNK_P_CNT_CLR.at [p.val]) = true → ∀ s0, s0.turn (.lnkPCntClr src p v) = s → ∃ t, exec (.lnkPCntClr src p v) s0 = .next t ∧
      s.cleared (if (s.cfg.port? p.val).isSome then [(0, Rg.LNK_P_CRC_ERR_CNT.at [p.val]), (1, Rg.LNK_P_REPLAY_CNT.at [p.val]),
        (2, Rg.LNK_P_AUTH_FAIL_CNT.at [p.val]), (3, Rg.LNK_P_DROP_CNT.at [p.val]), (4, Rg.LNK_P_TX_PKT_CNT.at [p.val]),
        (5, Rg.LNK_P_RX_PKT_CNT.at [p.val])] else []) v t) ∧
    (s.takes src Rg.DMC_CNT_CLR.at = true → ∀ s0, s0.turn (.dmcCntClr src v) = s → ∃ t, exec (.dmcCntClr src v) s0 = .next t ∧
      s.cleared ([(0, Rg.DMC_CE_CNT.at), (1, Rg.DMC_UE_CNT.at), (2, Rg.DMC_RETRY_CNT.at), (3, Rg.DMC_LINK_CE_CNT.at),
        (4, Rg.DMC_BASIN_CE_CNT.at)] ++ (List.range 4).map fun h => (5, Rg.DMC_RT_PANIC_CNT.at [h])) v t) ∧
    (s.takes src (Rg.DMC_CH_CNT_CLR.at [c.val]) = true → ∀ s0, s0.turn (.dmcChCntClr src c v) = s → ∃ t, exec (.dmcChCntClr src c v) s0 = .next t ∧
      s.cleared (if s.chUsed c.val then [(0, Rg.DMC_CH_SPLIT_CNT.at [c.val]), (1, Rg.DMC_CH_RFM_CNT.at [c.val]),
        (2, Rg.DMC_CH_THROTTLE_CNT.at [c.val]), (3, Rg.DMC_CH_DRAIN_CNT.at [c.val]), (4, Rg.DMC_CH_SR_CNT.at [c.val])] else []) v t) ∧
    (s.takes src Rg.TIM_CNT_CLR.at = true → ∀ s0, s0.turn (.timCntClr src v) = s → ∃ t, exec (.timCntClr src v) s0 = .next t ∧
      (if bit v 4 then (List.range 8).foldl (fun s k => s.modOut k fun x => { x with missed := 0 }) s else s).cleared
        ([(0, Rg.TIM_TSQ_DROP_CNT.at), (1, Rg.TIM_RX_DISCARD_CNT.at), (2, Rg.TIM_SWITCH_CNT.at)] ++
          (List.range 2).flatMap fun d => [(3, Rg.TIM_D_PATH_CNT.at [d]), (3, Rg.TIM_D_SUSPECT_CNT.at [d])]) v t) ∧
    (s.takes src Rg.CAL_CNT_CLR.at = true → ∀ s0, s0.turn (.calCntClr src v) = s → ∃ t, exec (.calCntClr src v) s0 = .next t ∧
      s.cleared (((List.range 12).map fun g => (g, Rg.CAL_G_RUN_CNT.at [g])) ++
        (List.range 96).map fun n => (31, Rg.CAL_L_DISAGREE_CNT.at [n])) v t) ∧
    (s.takes src Rg.PWG_CNT_CLR.at = true → ∀ s0, s0.turn (.pwgCntClr src v) = s → ∃ t, exec (.pwgCntClr src v) s0 = .next t ∧
      s.cleared [(0, Rg.PWG_GRANT_CNT.at), (1, Rg.PWG_REFUSE_CNT.at)] v t) ∧
    (s.takes src Rg.MGT_CNT_CLR.at = true → ∀ s0, s0.turn (.mgtCntClr src v) = s → ∃ t, exec (.mgtCntClr src v) s0 = .next t ∧
      (if bit v 3 then { s with mgt := { s.mgt with qPeak := s.mgt.queue.length } } else s).cleared
        [(0, Rg.MGT_EVT_CNT.at), (1, Rg.MGT_EVT_LOST_CNT.at), (2, Rg.MGT_REC_ITEM_CNT.at), (2, Rg.MGT_REC_GAP_CNT.at),
          (2, Rg.MGT_REC_DIFF_CNT.at)] v t)

/-- What the resets leave. POWER_ON_RESET, WARM_RESET, a SOFTWARE_RESET that takes effect with key 0xA5 and go, and
CLOCK_FAULT_RESET in RUN leave the device held in reset with every register word, counter, record and memory of the
sixteen blocks at its reset value. The fuses, the thermal sensors, the flash (but for the magic of a slot whose flash
command was interrupted) and the transcript stay. A power-on reset also ends debug, sets MGT_RST_CAUSE to its own
cause alone and clears the other RWS fields; every other reset keeps debug and the RWS bits of SEC_LOAD_NEXT,
PWG_FLAGS and MGT_RST_CAUSE, and adds its cause bit (R3, R387); a clock fault also sets clk_fault (R333). A
SOFTWARE_RESET with another key only raises an invalid-write event, and with the key and go = 0 it does nothing
(R396). CLOCK_FAULT_RESET outside RUN does nothing. -/
def Obligations.ResetsClear : Prop :=
  ∀ (src : Source) (v : Word) (s : State),
    (∃ t, exec .powerOnReset s = .next t ∧
      t = { State.reset with
        flash := interruptFlash s, otp := s.otp, thermal := s.thermal, free := s.free, wire := s.wire, pending := s.pending,
        regs := t.regs, boot := { held := true, porHeld := true, bootsel := s.boot.bootsel } } ∧
      t.rd Rg.MGT_RST_CAUSE = 1 ∧ ∀ a, a ≠ Rg.MGT_RST_CAUSE.at → t.word a = resetWord a) ∧
    (∀ (c : Instr) (b : Nat), (c = .warmReset ∧ b = 1) ∨
        (c = .softwareReset src v ∧ b = 2 ∧ s.takes src Rg.MGT_RST_CMD.at = true ∧ fld v 31 24 = 0xA5 ∧ bit v 0 = true) ∨
        (c = .clockFaultReset ∧ b = 3 ∧ s.boot.held = false ∧ s.pwg.run = true ∧ s.regs.rising = true) →
      ∀ s0, s0.turn c = s → ∃ t, exec c s0 = .next t ∧
        t = { State.reset with
          flash := interruptFlash s, otp := s.otp, thermal := s.thermal, dbg := s.dbg, free := s.free, wire := s.wire,
          pending := s.pending, regs := t.regs,
          boot := { held := true, porHeld := s.boot.held && s.boot.porHeld, bootsel := s.boot.bootsel } } ∧
        t.rd Rg.MGT_RST_CAUSE = setBit (rwsWord s Rg.MGT_RST_CAUSE) b true ∧
        t.rd Rg.SEC_LOAD_NEXT = rwsWord s Rg.SEC_LOAD_NEXT ∧
        t.rd Rg.PWG_FLAGS = (if b = 3 then rwsWord (s.wr Rg.PWG_FLAGS [] (setBit (s.rd Rg.PWG_FLAGS) 5 true)) Rg.PWG_FLAGS
          else rwsWord s Rg.PWG_FLAGS) ∧
        ∀ a, a ≠ Rg.MGT_RST_CAUSE.at → a ≠ Rg.SEC_LOAD_NEXT.at → a ≠ Rg.PWG_FLAGS.at → t.word a = resetWord a) ∧
    (s.takes src Rg.MGT_RST_CMD.at = true →
      (fld v 31 24 ≠ 0xA5 → ∀ s0, s0.turn (.softwareReset src v) = s → exec (.softwareReset src v) s0 = .next (invalidWrite Rg.MGT_RST_CMD.at s)) ∧
      (fld v 31 24 = 0xA5 → bit v 0 = false → ∀ s0, s0.turn (.softwareReset src v) = s → exec (.softwareReset src v) s0 = .next s)) ∧
    (s.pwg.run = false → exec .clockFaultReset s = .next s)

/-- The release of a reset, the end of a thermal trip's hold and the PLL's lock. RESET_RELEASE of a held device whose
thermal trip has ended starts time at 0, ends the hold, samples BOOTSEL only if a power-on reset was among the causes,
sets the order of the boot's sources (R39) and the next attestation leaf from the fuses; it does nothing otherwise. THERMAL_TRIP_RELEASE ends a trip after
4,000 cool samples (R343) and else does nothing. PLL_LOCK outside RUN takes PWG to RUN, takes the boot to BASIN_TEST
and asks PWG for a SELF_TEST grant; in RUN it does nothing. PLL_LOCK_TIMEOUT outside RUN leaves the stage where it was
with the PLL unlocked. -/
def Obligations.ReleaseAndLock : Prop :=
  ∀ (bs : Fin 4) (s : State),
    (s.boot.held = true → s.thermal.tripped = false → exec (.resetRelease bs) s = .next { s with
      now := 0
      boot := { s.boot with held := false, porHeld := false, bootsel := if s.boot.porHeld then bs.val else s.boot.bootsel
                            sources := s.loadOrder (if s.boot.porHeld then bs.val else s.boot.bootsel) }
      sec := { s.sec with attLeaf := nextLeafOf s.otp } }) ∧
    (s.boot.held = false ∨ s.thermal.tripped = true → exec (.resetRelease bs) s = .next s) ∧
    (s.thermal.tripped = true → 4000 ≤ s.thermal.cool → exec .thermalTripRelease s = .next { s with
      thermal := { s.thermal with tripped := false, cool := 0 } }) ∧
    (s.thermal.tripped = false ∨ s.thermal.cool < 4000 → exec .thermalTripRelease s = .next s) ∧
    (s.boot.held = false → s.pwg.run = false → s.boot.stage = 0 → ∀ s0, s0.turn .pllLock = s → ∃ t, exec .pllLock s0 = .next t ∧
      t.pwg.run = true ∧ t.pwg.pllLock = true ∧ t.boot.stage = 1 ∧
      t = { s with boot := { s.boot with stage := 1 }, pwg := t.pwg, mgt := { s.mgt with fresh := t.mgt.fresh }, regs := t.regs, counters := t.counters } ∧
      (t.pwg.queue ≠ s.pwg.queue ∨ t.pwg.refused ≠ s.pwg.refused)) ∧
    (s.pwg.run = true → (∀ s0, s0.turn .pllLock = s → exec .pllLock s0 = .next s) ∧ exec .pllLockTimeout s = .next s) ∧
    (s.boot.held = false → s.pwg.run = false →
      exec .pllLockTimeout s = .next { s with pwg := { s.pwg with pllLock := false } })

/-- The boot's self-tests and their grants. SELF_TEST_GRANT in a test stage with no test running starts the test when PWG
has decided the grant, and after a refusal asks again (R389). BASIN_TEST_DONE of a running basin test gives the grant
back, takes the banks that did not fail as working and, with fewer than 8 of them, waits in LOAD_WAIT with status
0x13; otherwise it turns to the first source of the load order: LOAD for a slot, whose header is read in single mode at
25 MHz, LOAD_WAIT for the SPI target port (R38 to R40). POLDER_SELF_TEST_DONE of a running polder test puts the staged structure in force with every instantiated
block LOADED, raises RSTOUT_N and leaves security, memories and fuses alone (R23, R389). -/
def Obligations.BootTests : Prop :=
  ∀ (s s1 : State) (r : Nat) (bad : List (Fin 64)) (badP : List (Fin 40960)), s.boot.held = false →
    ((s.boot.stage = 1 ∨ s.boot.stage = 3) → s.boot.testing = false → takeGrant 6 0 s = some s1 →
      exec .selfTestGrant s = .next { s with boot := { s.boot with testing := true }, pwg := s1.pwg }) ∧
    ((s.boot.stage = 1 ∨ s.boot.stage = 3) → s.boot.testing = false → takeGrant 6 0 s = none → takeRefusal 6 0 s = some (r, s1) →
      exec .selfTestGrant s = .next (request 6 0 s1)) ∧
    (s.boot.stage = 1 → s.boot.testing = true → ∃ t, exec (.basinTestDone bad) s = .next t ∧
      t = { s with boot := t.boot, pwg := { s.pwg with held := dropReq 6 0 s.pwg.held }, dmc := { s.dmc with basinWork := t.dmc.basinWork },
                   sec := { s.sec with status := t.sec.status }, mgt := { s.mgt with fresh := t.mgt.fresh }, wire := t.wire } ∧
      t.boot.testing = false ∧ (∀ b, b ∈ t.dmc.basinWork ↔ b < 64 ∧ ∀ x ∈ bad, x.val ≠ b) ∧
      (t.dmc.basinWork.length < 8 → t.boot.stage = 6 ∧ t.sec.status = 0x13) ∧
      (t.dmc.basinWork.length < 8 → t.wire = s.wire) ∧
      (8 ≤ t.dmc.basinWork.length → t.sec.status = s.sec.status ∧ t.boot.sources = s.boot.sources ∧
        (∀ n rest, s.boot.sources = .slot n :: rest → t.boot.stage = 2 ∧ t.boot.copy = slotCopy s n ∧
          t.wire = .norRead (n * 0x800000) 64 1 25 :: s.wire) ∧
        (s.boot.sources.head? = some .spi → t.boot.stage = 6 ∧ t.wire = s.wire))) ∧
    (s.boot.stage = 3 → s.boot.testing = true → s.blkState.rising = true → ∀ s0, s0.turn (.polderSelfTestDone badP) = s → ∃ t, exec (.polderSelfTestDone badP) s0 = .next t ∧
      t.cfg = { s.boot.staged with applied := true } ∧ t.boot.rstoutN = true ∧ t.boot.testing = false ∧
      (∀ n < 16, t.bst n = if t.cfg.inst n then 2 else 0) ∧ t.sec = s.sec ∧ t.dram = s.dram ∧ t.basin = [] ∧ t.flash = s.flash ∧
      t.otp = s.otp ∧ t.recd = s.recd)

/-- The loader accepts or rejects a source. SLOT_LOAD_DONE in LOAD tests the staged copy of the slot that is its present
source (a failed read is 0x14), of which all but the header was read in the mode and at the clock of flash_mode (R31). On status 0 the boot enters SELF_TEST with the container's structure staged and its source, key set,
digest and build shown by SEC; on any other status both status fields take it and the loader turns to its next source
(R38 to R43). A write of SEC_LOAD_STREAM that takes effect in LOAD_WAIT with 8 or more working banks adds four bytes;
once the container is complete the same tests decide. In any other stage it is an invalid write. LOAD_STREAM_STALL
abandons an attempt that has begun with status 0x15. -/
def Obligations.LoaderTakes : Prop :=
  ∀ (src : Source) (v : Word) (io : Bool) (n : Nat) (rest : List LoadSrc) (s : State),
    (s.boot.held = false → s.boot.stage = 2 → s.boot.sources = .slot n :: rest → ∃ t, exec (.slotLoadDone io) s = .next t ∧
      t = { s with boot := t.boot, sec := t.sec, pwg := t.pwg, regs := t.regs, counters := t.counters, mgt := { s.mgt with fresh := t.mgt.fresh }, wire := t.wire } ∧
      (io = false → loadStatus (copyImage s.boot.copy) s.otp (rollbackValue s.otp) = 0 →
        t.boot.stage = 3 ∧ t.boot.staged = topoOf (copyImage s.boot.copy) ∧ t.sec.src = n + 1 ∧ t.sec.status = 0 ∧
        t.sec.digest = sha384 (imgBytes (copyImage s.boot.copy) 0 (sigOff (copyImage s.boot.copy))) ∧
        t.sec.secVer = imgNum (copyImage s.boot.copy) 0x0C 1 ∧ t.sec.lastReject = s.sec.lastReject) ∧
      (io = true → t.sec.status = 0x14 ∧ t.sec.lastReject = 0x14 ∧ t.boot.sources = rest) ∧
      (io = false → loadStatus (copyImage s.boot.copy) s.otp (rollbackValue s.otp) ≠ 0 →
        t.sec.status = loadStatus (copyImage s.boot.copy) s.otp (rollbackValue s.otp) ∧ t.sec.lastReject = t.sec.status ∧
        t.boot.sources = rest ∧ t.boot.stage = match rest with | .slot _ :: _ => 2 | _ => 6) ∧
      (.norRead (n * 0x800000 + 64) (min (contLen (copyImage s.boot.copy)) 8388608 - 64) (norLinesOf (flashMode (copyImage s.boot.copy)))
        (norMhzOf (flashMode (copyImage s.boot.copy))) :: s.wire) <:+ t.wire) ∧
    (s.takes src Rg.SEC_LOAD_STREAM.at = true →
      (s.boot.stage ≠ 6 ∨ s.dmc.basinWork.length < 8 →
        ∀ s0, s0.turn (.loadStreamWrite src v) = s → exec (.loadStreamWrite src v) s0 = .next (invalidWrite Rg.SEC_LOAD_STREAM.at s)) ∧
      (s.boot.stage = 6 → 8 ≤ s.dmc.basinWork.length → s.boot.stream.length + 4 < 64 →
        ∀ s0, s0.turn (.loadStreamWrite src v) = s → exec (.loadStreamWrite src v) s0 = .next { s with
          boot := { s.boot with stream := s.boot.stream ++ bytesLE v.toNat 4, streaming := true } }) ∧
      (s.boot.stage = 6 → 8 ≤ s.dmc.basinWork.length → 64 ≤ s.boot.stream.length + 4 →
        min (contLen (streamImage (s.boot.stream ++ bytesLE v.toNat 4))) 8388608 ≤ s.boot.stream.length + 4 →
        ∀ s0, s0.turn (.loadStreamWrite src v) = s → ∃ t, exec (.loadStreamWrite src v) s0 = .next t ∧ t.boot.stream = [] ∧ t.boot.streaming = false ∧ t.dram = s.dram ∧ t.cfg = s.cfg ∧
          (if loadStatus (streamImage (s.boot.stream ++ bytesLE v.toNat 4)) s.otp (rollbackValue s.otp) = 0 then
            t.boot.stage = 3 ∧ t.sec.src = 3 ∧ t.boot.staged = topoOf (streamImage (s.boot.stream ++ bytesLE v.toNat 4))
          else t.boot.stage = 6 ∧ t.sec.lastReject = loadStatus (streamImage (s.boot.stream ++ bytesLE v.toNat 4)) s.otp (rollbackValue s.otp)))) ∧
    (s.boot.held = false → s.boot.stage = 6 → s.boot.streaming = true → exec .loadStreamStall s = .next { s with
      sec := { s.sec with status := 0x15, lastReject := 0x15 }, boot := { s.boot with stream := [], streaming := false } })

/-- The parallel steps of BRINGUP. FIRMWARE_START after APPLY leaves SELF_TEST for BRINGUP or a later stage, and with
MGT_BOOT_CTL's i3c clear it sets i3c at once. DRAM_TRAIN_GRANT of a decided grant starts the channel's step.
DRAM_TRAIN_STEP_DONE of a running step that passed with rates left notes the rate trained and asks for the next step;
a failure before the third asks for the same step again, counting it (R291, R391). I3C_ENTDAA_DONE while BRINGUP waits
for it lists the first 16 devices in order of arbitration, counts them and sets i3c (R393). -/
def Obligations.BringupSteps : Prop :=
  ∀ (c : Fin 16) (devs : List I3cDevice) (r r' : Nat) (rest : List Nat) (s s1 : State), s.boot.held = false → s.inv = true →
    (s.boot.stage = 3 → s.boot.rstoutN = true → ∃ t, exec .firmwareStart s = .next t ∧
      (t.boot.stage = 4 ∨ t.boot.stage = 5 ∨ t.boot.stage = 7) ∧ (bit (s.rd Rg.MGT_BOOT_CTL) 1 = false → t.boot.i3c = true) ∧
      t.boot.i3cEn = bit (s.rd Rg.MGT_BOOT_CTL) 1 ∧ t.boot.autoIngress = bit (s.rd Rg.MGT_BOOT_CTL) 0 ∧
      t.cfg = s.cfg ∧ t.dram = s.dram ∧ t.sec = s.sec) ∧
    (takeGrant 0 c.val s = some s1 → (s.ch c.val).bootSteps ≠ [] → (s.ch c.val).stepOn = false → (s.ch c.val).state ≠ 5 →
      ∀ s0, s0.turn (.dramTrainGrant c) = s → ∃ t, exec (.dramTrainGrant c) s0 = .next t ∧ (t.ch c.val).stepOn = true ∧ t.pwg = s1.pwg ∧
        t = { s with dramCh := t.dramCh, pwg := t.pwg } ∧ ∀ d, d ≠ c.val → t.ch d = s.ch d) ∧
    ((s.ch c.val).stepOn = true → (s.ch c.val).bootSteps = r :: r' :: rest → ∀ s0, s0.turn (.dramTrainStepDone c true) = s → ∃ t, exec (.dramTrainStepDone c true) s0 = .next t ∧
      (t.ch c.val).bootSteps = r' :: rest ∧ (t.ch c.val).trained = (s.ch c.val).trained ++ [r] ∧ (t.ch c.val).stepOn = false ∧
      t = { s with dramCh := t.dramCh, pwg := t.pwg, regs := t.regs, counters := t.counters, mgt := { s.mgt with fresh := t.mgt.fresh } } ∧
      ∀ d, d ≠ c.val → t.ch d = s.ch d) ∧
    ((s.ch c.val).stepOn = true → (s.ch c.val).bootSteps = r :: rest → (s.ch c.val).bootFails < 2 →
      ∀ s0, s0.turn (.dramTrainStepDone c false) = s → ∃ t, exec (.dramTrainStepDone c false) s0 = .next t ∧ (t.ch c.val).bootSteps = r :: rest ∧
        (t.ch c.val).bootFails = (s.ch c.val).bootFails + 1 ∧ (t.ch c.val).stepOn = false ∧
        t = { s with dramCh := t.dramCh, pwg := t.pwg, regs := t.regs, counters := t.counters, mgt := { s.mgt with fresh := t.mgt.fresh } } ∧
        ∀ d, d ≠ c.val → t.ch d = s.ch d) ∧
    ((s.boot.stage = 4 ∨ s.boot.stage = 7) → s.boot.i3cEn = true → s.boot.i3c = false →
      ∃ t, exec (.i3cEntdaaDone devs) s = .next t ∧ t.boot.i3c = true ∧ t.boot.i3cCount = min 16 devs.length ∧
        t = { s with regs := t.regs, boot := t.boot, mgt := { s.mgt with fresh := t.mgt.fresh } } ∧
        ∀ k < 16, ∀ d ∈ devs[k]?, t.rd Rg.MGT_I3C_PID_LO [k] = word (d.pid % 2 ^ 32))

/-- The SPI target port. SPI_WRITE of one word at an aligned address within the port's reach has the effect of a whole
register write from the port and leaves status 0; SPI_WRITE of several words is the first, and then, in the same turn, the meaning of
SPI_WRITE on the rest from the address that follows (which stays at SEC_LOAD_STREAM); a refused access changes nothing but the status: 1 where it is
not aligned or beyond the port's reach, 3 where R381 denies it. SPI_READ of one word sends the word that the register
reads, low byte first, with the effects of the read; a refused one sends zeros. SPI_STATUS sends the status of the
last access. -/
def Obligations.SpiPort : Prop :=
  ∀ (a : Nat) (v : Word) (ws : List Word) (s : State), s.boot.held = false → a < 0xFFFFFC →
    (a % 4 = 0 → s.spiReach a = true → s.denied .spi a = false → ∀ s0, s0.turn (.registerWrite .spi 0xF a v) = s → ∃ t, exec (.registerWrite .spi 0xF a v) s0 = .next t ∧
      ∀ s0, s0.turn (.spiWrite a [v]) = s → exec (.spiWrite a [v]) s0 = .next (if t.boot.held then t else { t with boot := { t.boot with spiStatus := 0 } })) ∧
    (∀ s0, s0.turn (.spiWrite a [v]) = s → ∃ t, exec (.spiWrite a [v]) s0 = .next t ∧ (t.boot.held = false →
      ∀ s0, s0.turn (.spiWrite a (v :: ws)) = s → exec (.spiWrite a (v :: ws)) s0 = doSpiWrite (if a = Rg.SEC_LOAD_STREAM.at then a else a + 4) ws t)) ∧
    (a % 4 ≠ 0 ∨ s.spiReach a = false → (∀ s0, s0.turn (.spiWrite a [v]) = s → exec (.spiWrite a [v]) s0 = .next { s with boot := { s.boot with spiStatus := 1 } }) ∧
      ∀ s0, s0.turn (.spiRead a 1) = s → exec (.spiRead a 1) s0 = .next { s with
        boot := { s.boot with spiStatus := 1 }, wire := .spi [0, 0, 0, 0] :: s.wire }) ∧
    (a % 4 = 0 → s.spiReach a = true → s.denied .spi a = true →
      ∀ s0, s0.turn (.spiWrite a [v]) = s → exec (.spiWrite a [v]) s0 = .next { s with boot := { s.boot with spiStatus := 3 } }) ∧
    (a % 4 = 0 → s.spiReach a = true → ∀ s0, s0.turn (.spiRead a 1) = s → ∃ t, exec (.spiRead a 1) s0 = .next t ∧
      t.wire = .spi (bytesLE (readValue a s).toNat 4) :: s.wire ∧ t.boot = { s.boot with spiStatus := 0 } ∧
      t = { readEffect a s with boot := t.boot, wire := t.wire }) ∧
    exec .spiStatus s = .next { s with wire := .spi (bytesLE s.boot.spiStatus 1) :: s.wire }

/-- Flash commands start or are refused. FLASH_ERASE, FLASH_PROGRAM, FLASH_VERIFY and FLASH_COMMIT that take effect start
their command on the slot when no flash command runs, the erase does not lose the running image's only verified copy,
and a commit follows a verify (R46): the job holds the sector of SEC_FLASH_ADDR and, for a program, the window's
bytes, a verify the copy of the slot in the replay staging banks where the structure has them, and an erase or program ends the slot's verified state. Otherwise the status 0x16, 0x17 or 0x18 is recorded and
nothing starts. -/
def Obligations.FlashCommands : Prop :=
  ∀ (src : Source) (slot : Fin 2) (s : State), s.takes src Rg.SEC_FLASH_CMD.at = true →
    ∀ c k, ((c, k) = (.flashErase src slot, 1) ∨ (c, k) = (.flashProgram src slot, 2) ∨ (c, k) = (.flashVerify src slot, 3) ∨
        (c, k) = (.flashCommit src slot, 4)) →
      (s.sec.flashJob.isSome = true → ∀ s0, s0.turn c = s → exec c s0 = .next { s with
        sec := { s.sec with lastSlot := slot.val, flashResult := 0x16, lastCmd := k } }) ∧
      (s.sec.flashJob = none → k = 1 → s.sec.src = slot.val + 1 → s.sec.passed.contains (1 - slot.val) = false →
        ∀ s0, s0.turn c = s → exec c s0 = .next { s with sec := { s.sec with lastSlot := slot.val, flashResult := 0x17, lastCmd := k } }) ∧
      (s.sec.flashJob = none → k = 4 → s.sec.verified.contains slot.val = false →
        ∀ s0, s0.turn c = s → exec c s0 = .next { s with sec := { s.sec with lastSlot := slot.val, flashResult := 0x18, lastCmd := k } }) ∧
      (s.sec.flashJob = none → (k = 1 → s.sec.src ≠ slot.val + 1 ∨ s.sec.passed.contains (1 - slot.val) = true) →
        (k = 4 → s.sec.verified.contains slot.val = true) → ∀ s0, s0.turn c = s → ∃ t j, exec c s0 = .next t ∧ t.sec.flashJob = some j ∧
          t = { s with sec := { s.sec with
            lastSlot := slot.val, flashJob := some j
            verified := if k = 1 ∨ k = 2 then s.sec.verified.filter (· != slot.val) else s.sec.verified } } ∧
          j.cmd = k ∧ j.slot = slot.val ∧ j.sector = s.fd Rg.SEC_FLASH_ADDR [] 22 12 ∧
          (k = 2 → j.data = bytesOfWords ((List.range 1024).map fun i => s.rd Rg.SEC_FLASH_WIN [i])) ∧
          (k = 3 → (s.verifyBanks ≠ [] → j.staged = true ∧ j.copy = slotCopy s slot.val) ∧
            (s.verifyBanks = [] → j.staged = false ∧ j.digest = imageDigest (withMagic (slotImage s slot.val)))))

/-- What a flash command leaves in the flash. FLASH_CMD_DONE of a running command (VERIFY waits for the public-key engine)
ends it with one DONE record. ERASE leaves every byte of its slot reading 0xFF; PROGRAM stores its sector's bytes but
never bytes 0 to 3 of the slot; COMMIT stores the magic; VERIFY stores nothing and its status is that of R41's checks
with the magic taken as present, on its copy or, where two reads agree, on the slot (0x14 where they differ), 0 marking the slot
verified and passed; bytes outside those stored are as they were, and so is all else. A flash that
does not respond leaves every byte and status 0x14 (R46, R47). -/
def Obligations.FlashEffects : Prop :=
  ∀ (io : Bool) (j : FlashJob) (s : State), s.boot.held = false → s.sec.flashJob = some j → (j.cmd = 3 → s.sec.engine = none) →
    Memory.wf 0xFF s.flash = true →
    ∃ t, exec (.flashCmdDone io) s = .next t ∧
      t = { s with flash := t.flash, sec := t.sec, mgt := { s.mgt with fresh := t.mgt.fresh } } ∧
      t.mgt.fresh.length = s.mgt.fresh.length + 1 ∧ t.sec.flashJob = none ∧ t.sec.lastCmd = j.cmd ∧
      (io = true → t.flash = s.flash ∧ t.sec.flashResult = 0x14) ∧
      (io = false → (j.cmd = 3 → t.flash = s.flash ∧
          (j.staged = true → t.sec.flashResult = imageStatus (withMagic (copyImage j.copy)) s.otp (rollbackValue s.otp)) ∧
          (j.staged = false → t.sec.flashResult = if imageDigest (withMagic (slotImage s j.slot)) = j.digest
            then imageStatus (withMagic (slotImage s j.slot)) s.otp (rollbackValue s.otp) else 0x14) ∧
          (t.sec.flashResult = 0 → t.sec.verified.contains j.slot = true ∧ t.sec.passed.contains j.slot = true)) ∧
        (j.cmd ≠ 3 → t.sec.flashResult = 0) ∧
        (j.cmd = 1 → ∀ a, t.flash.byte 0xFF a = if a / 0x800000 = j.slot then 0xFF else s.flash.byte 0xFF a) ∧
        (j.cmd = 2 → ∀ a, t.flash.byte 0xFF a =
          if j.slot * 0x800000 + 4096 * j.sector ≤ a ∧ a < j.slot * 0x800000 + 4096 * j.sector + j.data.length ∧
              (j.sector = 0 → j.slot * 0x800000 + 4 ≤ a) then j.data.getD (a - (j.slot * 0x800000 + 4096 * j.sector)) 0xFF
          else s.flash.byte 0xFF a) ∧
        (j.cmd = 4 → ∀ a, t.flash.byte 0xFF a =
          if j.slot * 0x800000 ≤ a ∧ a < j.slot * 0x800000 + 4 then magicBytes.getD (a - j.slot * 0x800000) 0 else s.flash.byte 0xFF a))

/-- Fuse commands. OTP_ADVANCE to a value above the present one, within the loaded image's version, OTP_REVOKE of a key
set below the one in use, OTP_LOCK in OPEN and OTP_RETURN in LOCKED with debug open take a free programmer; a value
outside is RANGE, the present value is at once OK, a lifecycle outside is STATE and a busy programmer BUSY, each
ending with one DONE record (R371, R372, R379, R382). Nothing else changes. OTP_PROGRAM_DONE of each job blows exactly
its fuse, or ends with OTP_FAIL; an advance goes on to its next fuse and a reservation lets the signing start (R370,
R375). -/
def Obligations.FuseCommands : Prop :=
  ∀ (src : Source) (v : Word) (k n last : Nat) (s : State),
    (s.takes src Rg.SEC_OTP_CMD.at = true → s.sec.otpJob = none →
      (s.sec.src ≠ 0 → rollbackValue s.otp < fld v 7 0 → fld v 7 0 ≤ s.sec.secVer → ∀ s0, s0.turn (.otpAdvance src v) = s → exec (.otpAdvance src v) s0 = .next { s with
        sec := { s.sec with otpJob := some (.advance (rollbackValue s.otp) (fld v 7 0 - 1)) } }) ∧
      (s.sec.src ≠ 0 → rollbackValue s.otp = fld v 7 0 → fld v 7 0 ≤ s.sec.secVer →
        ∀ s0, s0.turn (.otpAdvance src v) = s → exec (.otpAdvance src v) s0 = .next (otpEnd 1 1 s)) ∧
      (s.sec.src = 0 ∨ fld v 7 0 < rollbackValue s.otp ∨ s.sec.secVer < fld v 7 0 →
        ∀ s0, s0.turn (.otpAdvance src v) = s → exec (.otpAdvance src v) s0 = .next (otpEnd 7 1 s)) ∧
      (s.sec.src ≠ 0 → fld v 7 0 < 4 → fld v 7 0 < s.sec.keySet →
        ∀ s0, s0.turn (.otpRevoke src v) = s → exec (.otpRevoke src v) s0 = .next { s with sec := { s.sec with otpJob := some (.revoke (fld v 7 0)) } }) ∧
      (lifeOf s.otp = 0 → ∀ s0, s0.turn (.otpLock src) = s → exec (.otpLock src) s0 = .next { s with sec := { s.sec with otpJob := some .lock } }) ∧
      (lifeOf s.otp ≠ 0 → ∀ s0, s0.turn (.otpLock src) = s → exec (.otpLock src) s0 = .next (otpEnd 8 3 s)) ∧
      (lifeOf s.otp = 1 → s.dbgOpen = true → ∀ s0, s0.turn (.otpReturn src) = s → exec (.otpReturn src) s0 = .next { s with sec := { s.sec with otpJob := some .ret } }) ∧
      (lifeOf s.otp ≠ 1 ∨ s.dbgOpen = false → ∀ s0, s0.turn (.otpReturn src) = s → exec (.otpReturn src) s0 = .next (otpEnd 8 4 s))) ∧
    (s.boot.held = false →
      (s.sec.otpJob = some (.revoke k) → exec (.otpProgramDone true) s = .next (otpEnd 1 2 { s with
        sec := { s.sec with otpJob := none }, otp := { s.otp with revoked := s.otp.revoked ||| 2 ^ k } }) ∧
        exec (.otpProgramDone false) s = .next (otpEnd 6 2 { s with sec := { s.sec with otpJob := none } })) ∧
      (s.sec.otpJob = some .lock → exec (.otpProgramDone true) s = .next (otpEnd 1 3 { s with
        sec := { s.sec with otpJob := none }, otp := { s.otp with life := s.otp.life ||| 1 } })) ∧
      (s.sec.otpJob = some .ret → exec (.otpProgramDone true) s = .next (otpEnd 1 4 { s with
        sec := { s.sec with otpJob := none }, otp := { s.otp with life := s.otp.life ||| 2 } })) ∧
      (s.sec.otpJob = some (.advance n last) → n ≠ last → exec (.otpProgramDone true) s = .next { s with
        sec := { s.sec with otpJob := some (.advance (n + 1) last) }, otp := { s.otp with rollback := s.otp.rollback ||| 2 ^ n } }) ∧
      (s.sec.otpJob = some (.advance last last) → exec (.otpProgramDone true) s = .next (otpEnd 1 1 { s with
        sec := { s.sec with otpJob := none }, otp := { s.otp with rollback := s.otp.rollback ||| 2 ^ last } })) ∧
      (s.sec.otpJob = some (.reserve k) → s.sec.attLeaf = 256 * k → exec (.otpProgramDone true) s = .next { s with
        sec := { s.sec with otpJob := none, attSign := true }, otp := { s.otp with att := s.otp.att ||| 2 ^ k } }) ∧
      (s.sec.otpJob = none → exec (.otpProgramDone true) s = .next s))

/-- Attestation from request to report. ATTEST_REQUEST that takes effect takes the engine, captures the nonce and the time
and asks PWG for its grant when debug is closed, the part is not RETURNED, engine and programmer are free, 1,000 ms
have passed since the last one and leaves remain; otherwise it ends with STATE, BUSY, RATE or EXHAUSTED in that order
(R374). ATTEST_GRANT of a decided grant notes the time; signing starts at once when the leaf's block is reserved, and
else its fuse is blown first. ATTEST_SIGN_DONE of a signing attestation forms a report of 3,120 bytes over the state's
body, uses up the leaf, frees engine and grant and ends with OK (R374 to R376). -/
def Obligations.Attestation : Prop :=
  ∀ (src : Source) (s s1 : State),
    (s.takes src Rg.SEC_ATT_CTL.at = true →
      (lifeOf s.otp = 3 ∨ s.dbgOpen = true → ∀ s0, s0.turn (.attestRequest src) = s → exec (.attestRequest src) s0 = .next (attEnd 8 s)) ∧
      (s.dbgOpen = false → (s.sec.engine.isSome ∨ s.sec.otpJob.isSome) → ∀ s0, s0.turn (.attestRequest src) = s → exec (.attestRequest src) s0 = .next (attEnd 2 s)) ∧
      (s.dbgOpen = false → s.sec.engine = none → s.sec.otpJob = none → ∀ l, s.sec.attLast = some l → s.now < l + 1000 * msCore →
        ∀ s0, s0.turn (.attestRequest src) = s → exec (.attestRequest src) s0 = .next (attEnd 3 s)) ∧
      (s.dbgOpen = false → s.sec.engine = none → s.sec.otpJob = none → (∀ l, s.sec.attLast = some l → l + 1000 * msCore ≤ s.now) →
        s.sec.attLeaf = 1048576 → ∀ s0, s0.turn (.attestRequest src) = s → exec (.attestRequest src) s0 = .next (attEnd 4 s)) ∧
      (s.dbgOpen = false → s.sec.engine = none → s.sec.otpJob = none → (∀ l, s.sec.attLast = some l → l + 1000 * msCore ≤ s.now) →
        s.sec.attLeaf ≠ 1048576 → ∀ s0, s0.turn (.attestRequest src) = s → ∃ t, exec (.attestRequest src) s0 = .next t ∧ t.sec.engine = some .attest ∧ t.sec.attArrived = s.now ∧
          t.sec.attNonce = bytesOfRegs Rg.SEC_ATT_NONCE 12 s ∧ t.sec.attFails = 0 ∧ t.sec.attLeaf = s.sec.attLeaf ∧
          t = { s with sec := t.sec, pwg := t.pwg, regs := t.regs, counters := t.counters, mgt := { s.mgt with fresh := t.mgt.fresh } } ∧
          (t.pwg.queue.length = s.pwg.queue.length + 1 ∨ t.pwg.refused.length = s.pwg.refused.length + 1))) ∧
    (s.boot.held = false → takeGrant 7 0 s = some s1 →
      (s.sec.attLeaf % 256 ≠ 0 ∨ s.otp.att.testBit (s.sec.attLeaf / 256) = true → exec .attestGrant s = .next { s with
        pwg := s1.pwg, sec := { s.sec with attLast := some s.sec.attArrived, attSign := true } }) ∧
      (s.sec.attLeaf % 256 = 0 → s.otp.att.testBit (s.sec.attLeaf / 256) = false → s.sec.otpJob = none → exec .attestGrant s = .next { s with
        pwg := s1.pwg, sec := { s.sec with attLast := some s.sec.attArrived, otpJob := some (.reserve (s.sec.attLeaf / 256)) } })) ∧
    (s.boot.held = false → s.sec.attSign = true → ∀ s0, s0.turn .attestSignDone = s → ∃ t, exec .attestSignDone s0 = .next t ∧
      t.sec.attReport.take 156 = (reportBody s).take 156 ∧ t.sec.attReport.length = (reportBody s).length + 2964 ∧
      t.sec.attLeaf = s.sec.attLeaf + 1 ∧ t.sec.attSign = false ∧ t.sec.engine = none ∧ t.sec.attResult = 1 ∧
      t.pwg = { s.pwg with held := dropReq 7 0 s.pwg.held } ∧
      t = { s with sec := t.sec, pwg := t.pwg, mgt := { s.mgt with fresh := t.mgt.fresh } })

/-- Link content keys. On a port in use, with the part not RETURNED: KEY_OFFER takes a free engine; KEY_INSTALL takes it
when the peer reports protection, the offer for that port and epoch is open and the transmit slot is not in use;
KEY_SELECT of a filled transmit slot puts its epoch in use; KEY_CLEAR empties every slot of the port (R377, R378).
PK_ENGINE_DONE of an offer opens it with a fresh key pair and publishes the signed offer; of an install with a peer key
on the curve it fills receive and transmit slot of the epoch with the keys of the two directions, the one without a
last counter and the other at counter 0, and closes the offer; of an unlock with a bad token it changes no debug state (R377, R380). -/
def Obligations.LinkKeys : Prop :=
  ∀ (src : Source) (p : Fin 32) (e : Fin 2) (peer tok : List Byte) (o : Offer) (s : State), s.inv = true →
    (s.takes src Rg.SEC_KEY_CMD.at = true → lifeOf s.otp ≠ 3 → (s.port p.val).state ≠ 0 →
      (s.dbgOpen = false → s.sec.engine = none → ∀ s0, s0.turn (.keyOffer src p e) = s → exec (.keyOffer src p e) s0 = .next { s with
        sec := { s.sec with engine := some (.offer p.val e.val) } }) ∧
      (s.dbgOpen = true → ∀ s0, s0.turn (.keyOffer src p e) = s → exec (.keyOffer src p e) s0 = .next (keyEnd 8 1 s)) ∧
      (s.dbgOpen = false → (s.port p.val).peerReports 0 = true → s.sec.offer = some o → o.port = p.val → o.epoch = e.val →
        s.slotInUse p.val e.val = false → s.sec.engine = none → ∀ s0, s0.turn (.keyInstall src p e) = s → exec (.keyInstall src p e) s0 = .next { s with
          sec := { s.sec with engine := some (.install p.val e.val (bytesOfRegs Rg.SEC_KEY_PEER 24 s)) } }) ∧
      (((s.port p.val).txKey.getD e.val none).isSome = true → ∀ s0, s0.turn (.keySelect src p e) = s → ∃ t, exec (.keySelect src p e) s0 = .next t ∧
        t.port p.val = { s.port p.val with txEpoch := e.val } ∧ (∀ q, q ≠ p.val → t.port q = s.port q) ∧ t.sec.keyResult = 1 ∧
        t = { s with ports := t.ports, sec := { s.sec with keyResult := t.sec.keyResult }, mgt := { s.mgt with fresh := t.mgt.fresh } }) ∧
      (∀ s0, s0.turn (.keyClear src p) = s → ∃ t, exec (.keyClear src p) s0 = .next t ∧ t.port p.val = { s.port p.val with rxKey := [], txKey := [] } ∧
        (∀ q, q ≠ p.val → t.port q = s.port q) ∧ t.sec.keyResult = 1 ∧
        t = { s with ports := t.ports, sec := { s.sec with keyResult := t.sec.keyResult }, mgt := { s.mgt with fresh := t.mgt.fresh } })) ∧
    (s.boot.held = false →
      (s.sec.engine = some (.offer p.val e.val) → ∃ t, exec .pkEngineDone s = .next t ∧ t.sec.engine = none ∧ t.free = s.free + 2 ∧
        t.sec.offer = some { port := p.val, epoch := e.val, draw := s.free } ∧ t.sec.offerBytes = signedOffer p.val e.val s.free ∧
        t.sec.keyResult = 1 ∧ t = { s with free := t.free, sec := t.sec, mgt := { s.mgt with fresh := t.mgt.fresh } }) ∧
      (s.sec.engine = some (.install p.val e.val peer) → s.sec.offer = some o → onCurve peer = true →
        s.slotInUse p.val e.val = false → ∃ t, exec .pkEngineDone s = .next t ∧ t.sec.engine = none ∧ t.sec.offer = none ∧
          (t.port p.val).rxKey.getD e.val none = some { key := linkKey o.draw peer p.val 0 e.val, ctr := none } ∧
          (t.port p.val).txKey.getD e.val none = some { key := linkKey o.draw peer p.val 1 e.val, ctr := some 0 } ∧
          (∀ q, q ≠ p.val → t.port q = s.port q) ∧
          t = { s with ports := t.ports, sec := t.sec, mgt := { s.mgt with fresh := t.mgt.fresh } }) ∧
      (s.sec.engine = some (.unlock tok) → s.tokenOk tok = false → ∃ t, exec .pkEngineDone s = .next t ∧ t.dbg = s.dbg ∧
        t.sec.dbgResult = 12 ∧ t = { s with sec := t.sec, mgt := { s.mgt with fresh := t.mgt.fresh } }) ∧
      (s.sec.engine = some (.unlock tok) → s.tokenOk tok = true → ∃ t, exec .pkEngineDone s = .next t ∧ t.dbg.isOpen = true ∧
        t.dbg.wasOpen = true ∧ t.sec.dbgResult = 1 ∧ ∀ q < 24, (t.port q).rxKey = [] ∧ (t.port q).txKey = []))

/-- Debug unlock and the command locks. DEBUG_UNLOCK that takes effect hands the token in the flash window to the engine
when no flash command and no engine job runs, and else ends with BUSY (R380). SOURCE_LOCK sets lock, which stays set;
the channel is taken from the word only while lock was 0. SPI_LOCK sets spi, which stays set (R381). -/
def Obligations.UnlockAndLocks : Prop :=
  ∀ (src : Source) (v : Word) (s : State),
    (s.takes src Rg.SEC_DEBUG_CMD.at = true →
      (s.sec.flashJob = none → s.sec.engine = none → ∀ s0, s0.turn (.debugUnlock src) = s → exec (.debugUnlock src) s0 = .next { s with sec := { s.sec with
        engine := some (.unlock (bytesOfWords ((List.range 435).map fun i => s.rd Rg.SEC_FLASH_WIN [i]))) } }) ∧
      (s.sec.flashJob.isSome ∨ s.sec.engine.isSome → ∀ s0, s0.turn (.debugUnlock src) = s → exec (.debugUnlock src) s0 = .next (unlockEnd 2 s))) ∧
    (s.takes src Rg.SEC_LOCK.at = true →
      (∀ s0, s0.turn (.sourceLock src v) = s → ∃ t, exec (.sourceLock src v) s0 = .next t ∧ t.sec.lock = true ∧ t.sec.lockSpi = (s.sec.lockSpi || bit v 8) ∧
        (s.sec.lock = false → t.fd Rg.SEC_LOCK [] 6 0 = fld v 6 0) ∧ (s.sec.lock = true → t.regs = s.regs) ∧
        t = { s with regs := t.regs, sec := { s.sec with lock := t.sec.lock, lockSpi := t.sec.lockSpi } }) ∧
      (∀ s0, s0.turn (.spiLock src v) = s → ∃ t, exec (.spiLock src v) s0 = .next t ∧ t.sec.lockSpi = true ∧ t.sec.lock = (s.sec.lock || bit v 31) ∧
        (s.sec.lock = true → t.regs = s.regs) ∧
        t = { s with regs := t.regs, sec := { s.sec with lock := t.sec.lock, lockSpi := t.sec.lockSpi } }))

/-- The surface table and the page table's invalidation. A descriptor write that takes effect is stored while its entry is
FREE and is otherwise ignored with reason 5; SURFACE_VALIDATE of a FREE entry makes it VALID when its descriptor
passes the checks, and otherwise, or in DRAINING (reason 4), records the refusal with its event; SURFACE_FREE of a
VALID entry makes it FREE, or DRAINING with a count and an event while leases are live (R54, R55, R63). PT_INVALIDATE
takes the table base when none runs, and PT_INVALIDATE_DONE puts that table in use with nothing kept of the old one
(R51). Nothing else changes. -/
def Obligations.SurfaceTable : Prop :=
  ∀ (src : Source) (n : Fin 4096) (r : Fin 5) (v : Word) (k : Nat) (s : State),
    (s.takes src ((descReg r.val).at [n.val]) = true → s.regs.rising = true →
      ((s.entry n.val).state ≠ 0 → ∀ s0, s0.turn (.surfaceDescriptorWrite src n r v) = s → exec (.surfaceDescriptorWrite src n r v) s0 = .next
        (raise 7 0x06 n.val ((descReg r.val).at [n.val]) 0 5 { s with sfm := { s.sfm with refuse := 5, refuseIdx := n.val } })) ∧
      ((s.entry n.val).state = 0 → ∀ s0, s0.turn (.surfaceDescriptorWrite src n r v) = s → ∃ t, exec (.surfaceDescriptorWrite src n r v) s0 = .next t ∧
        t = { s with regs := t.regs, mgt := { s.mgt with fresh := t.mgt.fresh } } ∧
        t.rd (descReg r.val) [n.val] = (descReg r.val).merge (s.rd (descReg r.val) [n.val])
          (keepIllegal (s.rd (descReg r.val) [n.val]) (descReg r.val).legal v) ∧
        (anyIllegal (descReg r.val).legal v = false → t.mgt = s.mgt) ∧
        ∀ a, a ≠ (descReg r.val).at [n.val] → t.word a = s.word a)) ∧
    (s.takes src (Rg.SFM_SURF_CTL.at [n.val]) = true → s.sfm.entries.rising = true →
      ((s.entry n.val).state = 0 → (s.desc n.val).refusal? = none → ∀ s0, s0.turn (.surfaceValidate src n) = s → ∃ t, exec (.surfaceValidate src n) s0 = .next t ∧
        t.entry n.val = { s.entry n.val with state := 1 } ∧ (∀ m, m ≠ n.val → t.entry m = s.entry m) ∧
        t = { s with sfm := { s.sfm with entries := t.sfm.entries } }) ∧
      ((s.entry n.val).state = 0 ∧ (s.desc n.val).refusal? = some k ∨ (s.entry n.val).state = 2 ∧ k = 4 →
        ∀ s0, s0.turn (.surfaceValidate src n) = s → exec (.surfaceValidate src n) s0 = .next (raiseRefusal 7 n.val Rg.SFM_STATUS.at k n.val
          { s with sfm := { s.sfm with refuse := k, refuseIdx := n.val } })) ∧
      ((s.entry n.val).state = 1 → ∀ s0, s0.turn (.surfaceValidate src n) = s → exec (.surfaceValidate src n) s0 = .next s) ∧
      ((s.entry n.val).state = 1 → ∀ s0, s0.turn (.surfaceFree src n) = s → ∃ t, exec (.surfaceFree src n) s0 = .next t ∧
        t.entry n.val = { s.entry n.val with state := if (s.entry n.val).leases = 0 then 0 else 2 } ∧
        (∀ m, m ≠ n.val → t.entry m = s.entry m) ∧
        t = { s with
          sfm := { s.sfm with entries := t.sfm.entries }
          counters := t.counters, mgt := { s.mgt with fresh := t.mgt.fresh } } ∧
        ((s.entry n.val).leases = 0 → t.counters = s.counters ∧ t.mgt = s.mgt) ∧
        ((s.entry n.val).leases ≠ 0 → (t.cnt Rg.SFM_EARLY_FREE_CNT.at).val = min cntMax ((s.cnt Rg.SFM_EARLY_FREE_CNT.at).val + 1) ∧
          t.mgt.fresh.length ≠ s.mgt.fresh.length)) ∧
      ((s.entry n.val).state ≠ 1 → ∀ s0, s0.turn (.surfaceFree src n) = s → exec (.surfaceFree src n) s0 = .next s)) ∧
    (s.takes src Rg.SFM_PT_INV.at = true →
      (s.sfm.invBusy = false → ∀ s0, s0.turn (.ptInvalidate src) = s → exec (.ptInvalidate src) s0 = .next { s with sfm := { s.sfm with
        invBusy := true, next := fld (s.rd Rg.SFM_PT_BASE) 19 0 * 65536 } }) ∧
      (s.sfm.invBusy = true → ∀ s0, s0.turn (.ptInvalidate src) = s → exec (.ptInvalidate src) s0 = .next s)) ∧
    (s.boot.held = false → s.sfm.invBusy = true → exec .ptInvalidateDone s = .next { s with sfm := { s.sfm with
      invBusy := false, table := some s.sfm.next, cache := [] } })

/-- Fence timelines advance and never fall back. A TIMELINE_WRITE that takes effect with the staged high and the written
low part above the timeline's value moves it there; an equal value has no effect and a lower one only raises a
fence-regression event (R58, R415). A DOORBELL on a stream of an ingress port that holds nothing moves its timeline to
the value given, if that is larger; on a stream that holds something it waits behind it and changes no timeline (R59,
R64). No other timeline changes. Where LNK has accepted a FENCE_SIGNAL of that stream, the oldest one is what reaches
SFM, behind everything accepted before it (R272); without one, a DOORBELL on a port that is no ingress port does
nothing. -/
def Obligations.Timelines : Prop :=
  ∀ (src : Source) (n : Fin 256) (v : Word) (x : Nat) (p : Fin 24) (st : Fin 8) (value : Nat) (s : State), s.sfm.tl.rising = true →
    s.sfm.streams.rising = true → x = s.sfm.tlHi.get 0 n.val * 2 ^ 32 + v.toNat →
    (s.takes src (Rg.SFM_TL_LO.at [n.val]) = true →
      (x < s.tlVal n.val → ∀ s0, s0.turn (.timelineWrite src n v) = s → exec (.timelineWrite src n v) s0 =
        .next (raiseReport 7 n.val (Rg.SFM_TL_LO.at [n.val]) x (x / 2 ^ 32 % 65536) s)) ∧
      (x = s.tlVal n.val → ∀ s0, s0.turn (.timelineWrite src n v) = s → exec (.timelineWrite src n v) s0 = .next s) ∧
      (s.tlVal n.val < x → ∀ s0, s0.turn (.timelineWrite src n v) = s → ∃ t, exec (.timelineWrite src n v) s0 = .next t ∧ t.tlVal n.val = x ∧
        (∀ m, m ≠ n.val → t.tlVal m = s.tlVal m) ∧
        t = { s with
          sfm := { s.sfm with tl := t.sfm.tl }
          dram := t.dram, recd := t.recd, counters := t.counters, mgt := { s.mgt with fresh := t.mgt.fresh } } ∧
        ((∀ h, s.recording h = false) → t = { s with sfm := { s.sfm with tl := t.sfm.tl } }))) ∧
    (s.boot.held = false → s.absent 7 = false → s.ingress p.val = true → s.posted p.val st.val = [] →
      (s.held (8 * p.val + st.val) = [] → ∀ s0, s0.turn (.doorbell p st n value) = s → ∃ t, exec (.doorbell p st n value) s0 = .next t ∧
        t.tlVal n.val = max (s.tlVal n.val) (value % 2 ^ 48) ∧ (∀ m, m ≠ n.val → t.tlVal m = s.tlVal m) ∧
        t.held (8 * p.val + st.val) = [] ∧ t.sfm.entries = s.sfm.entries ∧
        ((∀ h, s.recording h = false) → t.dram = s.dram)) ∧
      (s.held (8 * p.val + st.val) ≠ [] → ∀ s0, s0.turn (.doorbell p st n value) = s → ∃ t, exec (.doorbell p st n value) s0 = .next t ∧
        s.held (8 * p.val + st.val) ++ [.fence n.val (value % 2 ^ 48)] <+: t.held (8 * p.val + st.val) ∧
        (∀ m, t.tlVal m = s.tlVal m) ∧
        t = { s with sfm := { s.sfm with streams := t.sfm.streams }, ports := t.ports })) ∧
    (s.boot.held = false → s.absent 7 = false → ∀ ts r, s.posted p.val st.val = ts ++ r →
      (ts = [] → r = [] → s.ingress p.val = false → ∀ s0, s0.turn (.doorbell p st n value) = s → exec (.doorbell p st n value) s0 = .next s) ∧
      (∀ q r', r = q :: r' → q.type = 5 → (∀ y ∈ ts, y.type ≠ 5) →
        ∀ s0, s0.turn (.doorbell p st n value) = s → exec (.doorbell p st n value) s0 = .next (handOver p.val q (ts.foldl (fun s y => handOver p.val y s) s))))

/-- Where host writes land. With no head recorded, on a stream of an ingress port that holds nothing and for which LNK
has accepted nothing more, a SURFACE_WRITE of one block, and a PIXEL_STREAM of at most 64 bytes that names a place of a VALID entry, store their bytes at the page that the
translation gives, and no other byte of DRAM changes; a block whose page is not valid, not writable for the host or
reserved stores nothing and is a translation fault of kind 2 (a surface write) or 3; a PIXEL_STREAM that names no such
place stores nothing and is counted as discarded; a write that guard mode parks stores nothing and waits at the head
of its stream (R52, R53, R64). PARK_RELEASE of a block that is parked no more stores it so, and of one that still is
leaves it waiting. While the stream holds something, a new transaction waits behind it. Where LNK has accepted a
transaction of that type on the stream, the oldest one is what reaches SFM, behind everything accepted before it
(R272); without one, the command does nothing on a port that is no ingress port, and is refused by content protection
where the port requires it (R275). -/
def Obligations.HostWrites : Prop :=
  ∀ (p : Fin 24) (st : Fin 8) (addr a d e : Nat) (data : List Byte) (x : PixelTxn) (rest : List HostOp) (s : State),
    s.boot.held = false → s.absent 7 = false → s.beforeMap = false → s.inv = true → s.sfm.streams.rising = true → (∀ h, s.recording h = false) →
    e = (translate 0x10 (a / 65536 % 2 ^ 20) s).1 → d = ptePage e + a % 65536 → 0 < data.length → data.length ≤ 64 →
    (s.ingress p.val = true → s.posted p.val st.val = [] → s.unprotRefused p.val 1 = false →
      s.held (8 * p.val + st.val) = [] → a = addr / 64 * 64 % 2 ^ 36 → data.length = 64 →
      (s.parks a 64 = true → ∃ t, exec (.surfaceWrite p st addr data) s = .next t ∧ t.dram = s.dram ∧
        (t.held (8 * p.val + st.val)).head? = some (.block a true data)) ∧
      (s.parks a 64 = false → pteValid e = true → pteHostWr e = true → s.touchesReserved d 64 = false → d + 64 ≤ s.capBytes →
        ∃ t, exec (.surfaceWrite p st addr data) s = .next t ∧ t.held (8 * p.val + st.val) = [] ∧
          (∀ b, t.dram.byte 0 b = if d ≤ b ∧ b < d + 64 then data.getD (b - d) 0 else s.dram.byte 0 b) ∧
          t = { s with
            dram := t.dram, dmc := t.dmc, dramCh := t.dramCh, sfm := t.sfm, ports := t.ports, lanes := t.lanes, free := t.free, pnl := t.pnl
            tgn := t.tgn, regs := t.regs
            counters := t.counters, mgt := { s.mgt with fresh := t.mgt.fresh }, wire := t.wire }) ∧
      (s.parks a 64 = false → pteValid e = false ∨ pteHostWr e = false ∨ s.touchesReserved d 64 = true →
        ∃ t, exec (.surfaceWrite p st addr data) s = .next t ∧ t.dram = s.dram ∧ t.held (8 * p.val + st.val) = [] ∧
          t.sfm.faultKind = 2 ∧ t.sfm.faultPage = a / 65536 % 2 ^ 20)) ∧
    (s.ingress p.val = true → s.posted p.val st.val = [] → s.unprotRefused p.val 2 = false →
      s.held (8 * p.val + st.val) = [] → x.data = data →
      (s.pixelAddr (x.surface % 4096) (x.plane % 2) (x.line % 16384) (x.offset % 4096) data.length = some a → s.parks a data.length = true →
        ∃ t, exec (.pixelStream p st x) s = .next t ∧ t.dram = s.dram ∧ (t.held (8 * p.val + st.val)).head? =
          some (.pixels (x.surface % 4096) (x.plane % 2) (x.line % 16384) (x.offset % 4096) data)) ∧
      (s.pixelAddr (x.surface % 4096) (x.plane % 2) (x.line % 16384) (x.offset % 4096) data.length = some a → s.parks a data.length = false →
        pteValid e = true → pteHostWr e = true → s.touchesReserved d data.length = false → d + data.length ≤ s.capBytes →
        ∃ t, exec (.pixelStream p st x) s = .next t ∧ t.held (8 * p.val + st.val) = [] ∧
          ∀ b, t.dram.byte 0 b = if d ≤ b ∧ b < d + data.length then data.getD (b - d) 0 else s.dram.byte 0 b) ∧
      (s.pixelAddr (x.surface % 4096) (x.plane % 2) (x.line % 16384) (x.offset % 4096) data.length = some a → s.parks a data.length = false →
        pteValid e = false ∨ pteHostWr e = false ∨ s.touchesReserved d data.length = true →
        ∃ t, exec (.pixelStream p st x) s = .next t ∧ t.dram = s.dram ∧ t.sfm.faultKind = 3 ∧
          t.sfm.faultSurface = x.surface % 4096) ∧
      (s.pixelAddr (x.surface % 4096) (x.plane % 2) (x.line % 16384) (x.offset % 4096) data.length = none →
        ∃ t, exec (.pixelStream p st x) s = .next t ∧ t.dram = s.dram ∧ t.sfm = { s.sfm with streams := t.sfm.streams } ∧
          (t.cnt Rg.SFM_DISCARD_CNT.at).val = min cntMax ((s.cnt Rg.SFM_DISCARD_CNT.at).val + 1))) ∧
    (s.held (8 * p.val + st.val) = [.block a true data] →
      (s.parks a 64 = false → pteValid e = true → pteHostWr e = true → s.touchesReserved d data.length = false →
        d + data.length ≤ s.capBytes → ∃ t, exec (.parkRelease p st) s = .next t ∧ t.held (8 * p.val + st.val) = [] ∧
          ∀ b, t.dram.byte 0 b = if d ≤ b ∧ b < d + data.length then data.getD (b - d) 0 else s.dram.byte 0 b)) ∧
    (s.held (8 * p.val + st.val) = .block a true data :: rest →
      (s.parks a 64 = true → ∃ t, exec (.parkRelease p st) s = .next t ∧ t.dram = s.dram ∧ t.counters = s.counters ∧
        t.held (8 * p.val + st.val) = s.held (8 * p.val + st.val) ∧ t = { s with sfm := { s.sfm with streams := t.sfm.streams } }) ∧
      (∃ t, exec (.surfaceWrite p st addr data) s = .next t ∧ t.dram = s.dram ∧
        s.held (8 * p.val + st.val) <+: t.held (8 * p.val + st.val)) ∧
      (∃ t, exec (.pixelStream p st x) s = .next t ∧ t.dram = s.dram ∧
        s.held (8 * p.val + st.val) <+: t.held (8 * p.val + st.val))) ∧
    (∀ ts r, s.posted p.val st.val = ts ++ r →
      (ts = [] → r = [] → s.ingress p.val = false →
        exec (.surfaceWrite p st addr data) s = .next s ∧ exec (.pixelStream p st x) s = .next s) ∧
      (ts = [] → r = [] → s.unprotRefused p.val 1 = true → exec (.surfaceWrite p st addr data) s = .next (authFail p.val s)) ∧
      (ts = [] → r = [] → s.unprotRefused p.val 2 = true → exec (.pixelStream p st x) s = .next (authFail p.val s)) ∧
      (∀ q r', r = q :: r' → q.type = 1 → (∀ y ∈ ts, y.type ≠ 1) → exec (.surfaceWrite p st addr data) s =
        .next (handOver p.val q (ts.foldl (fun s y => handOver p.val y s) s))) ∧
      (∀ q r', r = q :: r' → q.type = 2 → (∀ y ∈ ts, y.type ≠ 2) → exec (.pixelStream p st x) s =
        .next (handOver p.val q (ts.foldl (fun s y => handOver p.val y s) s))))

/-- A fetch that finds no valid page. FETCH_TRANSLATION_FAULT of a layer that shows a surface in the frame being scanned,
the first of that layer and frame, of a page whose entry is not valid, abandons the layer's fetch from the tile named,
sets bit 28 of CMP_L_STATE, records kind 1, head, layer, surface and page, counts one fault and raises one event (R65,
R82); beside what the look-up itself does it changes nothing else. Of a page whose entry is valid there is only the
look-up. A later one of the same layer and frame, one of an aborted frame, one of a layer without a surface and one
outside any frame change nothing. -/
def Obligations.FetchFaults : Prop :=
  ∀ (h : Fin 4) (l : Fin 9) (polder page : Nat) (f : Frame) (n : Nat) (s u : State), s.boot.held = false → s.inv = true →
    ((s.hd h.val).cur = none → exec (.fetchTranslationFault h l polder page) s = .next s) ∧
    ((s.hd h.val).cur = some f → (f.shows.getD l.val {}).surface? h.val l.val = none ∨ (f.shows.getD l.val {}).fault.isSome = true ∨
      f.aborted = true → exec (.fetchTranslationFault h l polder page) s = .next s) ∧
    ((s.hd h.val).cur = some f → (f.shows.getD l.val {}).surface? h.val l.val = some n → (f.shows.getD l.val {}).fault = none →
      f.aborted = false → pteValid (translate h.val (page % 2 ^ 20) s).1 = true →
        exec (.fetchTranslationFault h l polder page) s = .next (translate h.val (page % 2 ^ 20) s).2) ∧
    ((s.hd h.val).cur = some f → (f.shows.getD l.val {}).surface? h.val l.val = some n → (f.shows.getD l.val {}).fault = none →
      f.aborted = false → u = (translate h.val (page % 2 ^ 20) s).2 → pteValid (translate h.val (page % 2 ^ 20) s).1 = false →
      ∃ t, exec (.fetchTranslationFault h l polder page) s = .next t ∧
        (t.hd h.val).cur = some { f with shows := f.shows.set l.val { f.shows.getD l.val {} with fault := some polder } } ∧
        (t.hd h.val) = { s.hd h.val with cur := (t.hd h.val).cur } ∧ (∀ k, k ≠ h.val → t.hd k = s.hd k) ∧
        t.rd Rg.CMP_L_STATE [h.val, l.val] = setBit (s.rd Rg.CMP_L_STATE [h.val, l.val]) 28 true ∧
        t.sfm = { u.sfm with faultKind := 1, faultHead := h.val, faultLayer := l.val, faultSurface := n, faultPage := page % 2 ^ 20 } ∧
        (t.cnt Rg.SFM_XLATE_FAULT_CNT.at).val = min cntMax ((s.cnt Rg.SFM_XLATE_FAULT_CNT.at).val + 1) ∧
        t = { u with tgn := t.tgn, regs := t.regs, sfm := t.sfm, counters := t.counters, mgt := { s.mgt with fresh := t.mgt.fresh } })

/-- Register access over the culvert. On a port in use, for whose channel LNK has accepted no request, a
CULVERT_WRITE whose request passes every check has the effect
of its words as whole register writes from that channel, in order, and is answered with status 0; a CULVERT_READ that
passes answers with the words read; one that fails a check changes no register and is answered with the status of the
first check that fails: 1 byte enables or alignment, 2 address, 3 denied, 4 malformed (R271). Where LNK has
accepted requests of the channel, the oldest one is what acts, by what it spells, and its buffer frees. On a port that
the topology does not use nothing happens. -/
def Obligations.CulvertAccess : Prop :=
  ∀ (p : Fin 24) (c : Fin 4) (r : CulvertReq) (v : Word) (s : State), s.boot.held = false →
    (s.cfg.port? p.val = none → (∀ s0, s0.turn (.culvertRead p c r) = s → exec (.culvertRead p c r) s0 = .next s) ∧ ∀ s0, s0.turn (.culvertWrite p c r) = s → exec (.culvertWrite p c r) s0 = .next s) ∧
    (∀ x, s.cfg.port? p.val = some x → (s.port p.val).accepted.find? (fun t => t.type == 3 && t.stream == c.val) = none →
      (r.be ≠ 0xF ∨ r.addr % 4 ≠ 0 → (∀ s0, s0.turn (.culvertWrite p c r) = s → exec (.culvertWrite p c r) s0 = .next (respond p.val c.val 1 r [] s)) ∧
        ∀ s0, s0.turn (.culvertRead p c r) = s → exec (.culvertRead p c r) s0 = .next (respond p.val c.val 1 r [] s)) ∧
      (r.be = 0xF → r.addr % 4 = 0 → 0 < r.count → 0x1000000 < r.addr + 4 * r.count →
        (∀ s0, s0.turn (.culvertWrite p c r) = s → exec (.culvertWrite p c r) s0 = .next (respond p.val c.val 2 r [] s)) ∧
        ∀ s0, s0.turn (.culvertRead p c r) = s → exec (.culvertRead p c r) s0 = .next (respond p.val c.val 2 r [] s)) ∧
      (r.be = 0xF → r.addr % 4 = 0 → r.addr + 4 * r.count ≤ 0x1000000 →
        (∃ i < r.count, s.denied (culvertSource p c) (r.addr + 4 * i) = true) →
        ∀ s0, s0.turn (.culvertWrite p c r) = s → exec (.culvertWrite p c r) s0 = .next (respond p.val c.val 3 r [] s)) ∧
      (r.be = 0xF → r.addr % 4 = 0 → r.addr + 4 * r.count ≤ 0x1000000 →
        (∀ i < r.count, s.denied (culvertSource p c) (r.addr + 4 * i) = false) →
        (r.words.length ≠ r.count → ∀ s0, s0.turn (.culvertWrite p c r) = s → exec (.culvertWrite p c r) s0 = .next (respond p.val c.val 4 r [] s)) ∧
        (r.words.length = r.count → ∀ s0, s0.turn (.culvertWrite p c r) = s → exec (.culvertWrite p c r) s0 = .next (respond p.val c.val 0 r []
          (writeAll (culvertSource p c) ((wordAddrs r.addr r.count).zip r.words) s))) ∧
        (r.words = [v] → r.count = 1 → ∀ s0, s0.turn (.registerWrite (culvertSource p c) 0xF r.addr v) = s → ∃ t, exec (.registerWrite (culvertSource p c) 0xF r.addr v) s0 = .next t ∧
          ∀ s0, s0.turn (.culvertWrite p c r) = s → exec (.culvertWrite p c r) s0 = .next (respond p.val c.val 0 r [] t))) ∧
      (r.be = 0xF → r.addr % 4 = 0 → r.addr + 4 * r.count ≤ 0x1000000 → r.op = 1 ∨ r.op = 2 → r.words = [] →
        ∀ s0, s0.turn (.culvertRead p c r) = s → exec (.culvertRead p c r) s0 = .next (respond p.val c.val 0 r (readAll (wordAddrs r.addr r.count) s).1
          (readAll (wordAddrs r.addr r.count) s).2)) ∧
      (r.be = 0xF → r.addr % 4 = 0 → r.addr + 4 * r.count ≤ 0x1000000 → (r.op ≠ 1 ∧ r.op ≠ 2) ∨ r.words ≠ [] →
        ∀ s0, s0.turn (.culvertRead p c r) = s → exec (.culvertRead p c r) s0 = .next (respond p.val c.val 4 r [] s))) ∧
    (∀ x t u, s.cfg.port? p.val = some x → (s.port p.val).accepted.find? (fun t => t.type == 3 && t.stream == c.val) = some t →
      u = freeTxn p.val t (s.modPort p.val fun y => { y with accepted := y.accepted.erase t }) →
      ∀ q k, q = culvertReqOf t → k = u.culvertStatus (culvertSource p c) q →
        (k ≠ 0 → (∀ s0, s0.turn (.culvertWrite p c r) = s → exec (.culvertWrite p c r) s0 = .next (respond p.val c.val k q [] u)) ∧
          ∀ s0, s0.turn (.culvertRead p c r) = s → exec (.culvertRead p c r) s0 = .next (respond p.val c.val k q [] u)) ∧
        (k = 0 → q.op = 1 → ∀ w, readAll (wordAddrs q.addr q.count) u = w →
          (∀ s0, s0.turn (.culvertWrite p c r) = s → exec (.culvertWrite p c r) s0 = .next (respond p.val c.val 0 q w.1 w.2)) ∧
          ∀ s0, s0.turn (.culvertRead p c r) = s → exec (.culvertRead p c r) s0 = .next (respond p.val c.val 0 q w.1 w.2)) ∧
        (k = 0 → q.op = 2 → ∀ w, writeAll (culvertSource p c) ((wordAddrs q.addr q.count).zip q.words) u = w →
          (∀ s0, s0.turn (.culvertWrite p c r) = s → exec (.culvertWrite p c r) s0 = .next (respond p.val c.val 0 q [] w)) ∧
          ∀ s0, s0.turn (.culvertRead p c r) = s → exec (.culvertRead p c r) s0 = .next (respond p.val c.val 0 q [] w)))

/-- A head's way from OFF to RUN and back. From READY on, a HEAD_ENABLE that takes effect on a head in OFF whose timing
(and, for a panel head, panel check) passes asks PWG for a grant and takes the head to GRANT_WAIT; with a timing that
fails it is refused with status 4 and the head keeps its state and its en bit. HEAD_GRANT of a head in GRANT_WAIT
takes it to HOLD with its hold frames, a frame count of 0 and nothing carried over; HEAD_GRANT_REFUSAL takes it to OFF
with the reason, no pending commit, the flag and one count. HEAD_DISABLE withdraws in GRANT_WAIT (to OFF) and stops in
HOLD and RUN (to STOPPING). HEAD_STOP_COMPLETE of a head in STOPPING past its stop boundary, with no frame awaiting
its retire, gives the grant back and takes it to OFF (R100, R102, R340). No other head changes. -/
def Obligations.HeadStates : Prop :=
  ∀ (src : Source) (h : Fin 4) (v : Word) (r : Nat) (s s1 : State), s.inv = true →
    (s.takes src (Rg.TGN_H_CTL.at [h.val]) = true → s.boot.stage = 5 → (s.hd h.val).state = 1 →
      (s.timingOk (s.forceOf h.val) h.val true = true → (s.panel h.val = true → s.cfg.inst 14 = true → s.pnlCheck (s.forceOf h.val) h.val = none) →
        ∀ s0, s0.turn (.headEnable src h v) = s → ∃ t, exec (.headEnable src h v) s0 = .next t ∧ t.hd h.val = { s.hd h.val with state := 2 } ∧ (∀ k, k ≠ h.val → t.hd k = s.hd k) ∧
          bit (t.rd Rg.TGN_H_CTL [h.val]) 0 = true ∧
          (t.pwg.queue.length = s.pwg.queue.length + 1 ∨ t.pwg.refused.length = s.pwg.refused.length + 1) ∧
          t = { s with
            regs := t.regs, tgn := t.tgn, pwg := t.pwg, counters := t.counters, mgt := { s.mgt with fresh := t.mgt.fresh }
            dram := t.dram, recd := t.recd }) ∧
      (s.timingOk (s.forceOf h.val) h.val true = false →
        ∀ s0, s0.turn (.headEnable src h v) = s → ∃ t, exec (.headEnable src h v) s0 = .next t ∧ t.hd h.val = { s.hd h.val with stCode := 4, stBlk := 0 } ∧
          (∀ k, k ≠ h.val → t.hd k = s.hd k) ∧ bit (t.rd Rg.TGN_H_CTL [h.val]) 0 = bit (s.rd Rg.TGN_H_CTL [h.val]) 0 ∧
          bit (t.rd Rg.TGN_H_FLAGS [h.val]) 0 = true ∧ t.pwg = s.pwg)) ∧
    (s.takes src (Rg.TGN_H_CTL.at [h.val]) = true → ∀ s0, s0.turn (.headDisable src h v) = s → ∃ t, exec (.headDisable src h v) s0 = .next t ∧
      bit (t.rd Rg.TGN_H_CTL [h.val]) 0 = false ∧ (∀ k, k ≠ h.val → t.hd k = s.hd k) ∧
      (t.hd h.val).state = (match (s.hd h.val).state with | 2 => 1 | 3 => 5 | 4 => 5 | n => n) ∧
      ((s.hd h.val).state = 2 → (t.hd h.val).pend = [] ∧ t.pwg.queue = dropReq 3 h.val s.pwg.queue) ∧
      ((s.hd h.val).state ≠ 2 → t.pwg = s.pwg)) ∧
    (s.boot.held = false → (s.hd h.val).state = 2 →
      (takeGrant 3 h.val s = some s1 → ∀ s0, s0.turn (.headGrant h) = s → ∃ t, exec (.headGrant h) s0 = .next t ∧ (t.hd h.val).state = 3 ∧
        (t.hd h.val).holdLeft = max 1 (s.fd Rg.TGN_H_CTL [h.val] 7 4) ∧ (t.hd h.val).start = s.now ∧ (t.hd h.val).cur = none ∧
        (t.hd h.val).past = [] ∧ (t.hd h.val).shows = [] ∧ (t.cnt (Rg.TGN_H_FRAME.at [h.val])).val = 0 ∧ t.pwg = s1.pwg ∧
        ∀ k, k ≠ h.val → t.hd k = s.hd k) ∧
      (takeRefusal 3 h.val s = some (r, s1) → ∃ t, exec (.headGrantRefusal h) s = .next t ∧
        t.hd h.val = { s.hd h.val with state := 1, reason := r, pend := [] } ∧ (∀ k, k ≠ h.val → t.hd k = s.hd k) ∧ t.pwg = s1.pwg ∧
        bit (t.rd Rg.TGN_H_FLAGS [h.val]) 0 = true ∧
        (t.cnt (Rg.TGN_H_REFUSE_CNT.at [h.val])).val = min cntMax ((s.cnt (Rg.TGN_H_REFUSE_CNT.at [h.val])).val + 1) ∧
        t = { s with regs := t.regs, tgn := t.tgn, pwg := t.pwg, counters := t.counters, mgt := { s.mgt with fresh := t.mgt.fresh } })) ∧
    (s.boot.held = false → s.replaying h.val = false → (s.hd h.val).state = 5 → (s.hd h.val).stopped = true → (s.hd h.val).past = [] →
      ∀ s0, s0.turn (.headStopComplete h) = s → ∃ t, exec (.headStopComplete h) s0 = .next t ∧ (t.hd h.val).state = 1 ∧ (t.hd h.val).pend = [] ∧
        (s.mirror h.val = true → (t.hd h.val).disp = none ∧ (t.hd h.val).nextDisp = none) ∧ (∀ k, k ≠ h.val → t.hd k = s.hd k) ∧
        t.pwg = { s.pwg with held := dropReq 3 h.val s.pwg.held } ∧ t.dmc.panic = s.dmc.panic.set h.val false)

/-- What becomes of a commit. A COMMIT_SUBMIT that takes effect captures the head's staged words. When a check of R102
fails, the status is the first that fails (1 with four commits pending, 2 in UNAVAILABLE or STOPPING), one refusal is
counted with its flag, and no commit, number or word in force changes. When all pass, the commit takes the next
number; in OFF its words come into force at once and its retire timeline advances (R101), and in any other state it
waits behind the others with the captured words and the boundary that R104 gives it, and no word in force changes
(R103, R104). -/
def Obligations.Commits : Prop :=
  ∀ (src : Source) (h : Fin 4) (v : Word) (trans : Bool) (words : SMap Word) (s u : State), s.inv = true → s.sfm.tl.rising = true →
    s.takes src (Rg.TGN_H_COMMIT.at [h.val]) = true → u = recReg src (Rg.TGN_H_COMMIT.at [h.val]) (setBit v 31 true) s →
    words = s.capture h.val → trans = (bit (setBit v 31 true) 9 || diffT words (s.reference h.val)) →
    ((commitChecks words h.val trans u).1 ≠ 0 → ∀ s0, s0.turn (.commitSubmit src h v) = s → ∃ t, exec (.commitSubmit src h v) s0 = .next t ∧
      t.hd h.val = { s.hd h.val with stCode := (commitChecks words h.val trans u).1, stBlk := (t.hd h.val).stBlk } ∧
      (4 ≤ (s.hd h.val).pend.length → (t.hd h.val).stCode = 1) ∧
      ((s.hd h.val).pend.length < 4 → (s.hd h.val).state = 0 ∨ (s.hd h.val).state = 5 → (t.hd h.val).stCode = 2) ∧
      t.force = s.force ∧ bit (t.rd Rg.TGN_H_FLAGS [h.val]) 0 = true ∧
      (t.cnt (Rg.TGN_H_REFUSE_CNT.at [h.val])).val = min cntMax ((s.cnt (Rg.TGN_H_REFUSE_CNT.at [h.val])).val + 1)) ∧
    ((commitChecks words h.val trans u).1 = 0 → (s.hd h.val).state ≠ 1 → ∀ s0, s0.turn (.commitSubmit src h v) = s → ∃ t c, exec (.commitSubmit src h v) s0 = .next t ∧
      t.hd h.val = { s.hd h.val with
        pend := (s.hd h.val).pend ++ [c], nextSeq := ((s.hd h.val).nextSeq + 1) % 65536, stSeq := (s.hd h.val).nextSeq
        stLate := (s.commitTarget h.val).2, stCode := 0, stBlk := 0 } ∧
      c.seq = (s.hd h.val).nextSeq ∧ c.words = words ∧ c.target = (s.commitTarget h.val).1 ∧ c.late = (s.commitTarget h.val).2 ∧
      c.trans = trans ∧ t.force = s.force ∧ ∀ k, k ≠ h.val → t.hd k = s.hd k) ∧
    ((commitChecks words h.val trans u).1 = 0 → (s.hd h.val).state = 1 → ∀ s0, s0.turn (.commitSubmit src h v) = s → ∃ t, exec (.commitSubmit src h v) s0 = .next t ∧
      (t.hd h.val).pend = (s.hd h.val).pend ∧ (t.hd h.val).lastSeq = some (s.hd h.val).nextSeq ∧
      (t.hd h.val).nextSeq = ((s.hd h.val).nextSeq + 1) % 65536 ∧ (t.hd h.val).state = 1 ∧
      t.force = (applyWords h.val words s).force ∧
      (bit (setBit v 31 true) 8 = true → s.fd Rg.TGN_H_RETIRE_HI [h.val] 15 0 * 2 ^ 32 + s.fd Rg.TGN_H_RETIRE_LO [h.val] 31 0 ≤
        t.tlVal (fld (setBit v 31 true) 7 0)))

/-- Boundaries, the end of HOLD, and retires. FRAME_BOUNDARY of a head in HOLD, RUN or STOPPING counts one frame, ends the
frame being scanned, which then awaits its retire, and marks the instant: in STOPPING nothing is latched; where a
transition is due the head enters HOLD with its hold frames; a HOLD with frames left counts one off; any other
boundary latches a new frame, numbered by the count, with the commits that are due, which leave the queue (R97, R105,
R107, R108). In any other state, and for a head under a re-run, nothing happens. HOLD_END is that boundary of a HOLD
with one hold frame left, and takes the head to RUN. FRAME_RETIRE in HOLD does nothing (R107); else it takes the oldest frame that awaits its retire, gives
back its leases, advances its retire timelines, and with ret_evt raises one RETIRE event with its number (R60, R106). -/
def Obligations.FrameBoundaries : Prop :=
  ∀ (h : Fin 4) (n : Nat) (f : Frame) (r : List Frame) (s : State), s.boot.held = false → s.inv = true →
    n = min cntMax ((s.cnt (Rg.TGN_H_FRAME.at [h.val])).val + 1) →
    ((s.hd h.val).state < 3 ∨ 5 < (s.hd h.val).state ∨ s.replaying h.val = true → ∀ s0, s0.turn (.frameBoundary h) = s → exec (.frameBoundary h) s0 = .next s) ∧
    (s.replaying h.val = false → 3 ≤ (s.hd h.val).state → (s.hd h.val).state ≤ 5 → ∀ s0, s0.turn (.frameBoundary h) = s → ∃ t, exec (.frameBoundary h) s0 = .next t ∧
      (t.cnt (Rg.TGN_H_FRAME.at [h.val])).val = n ∧ (t.hd h.val).start = s.now ∧
      (t.hd h.val).past.length = (s.hd h.val).past.length + (if (s.hd h.val).cur.isSome then 1 else 0) ∧
      ((s.hd h.val).state = 5 → (t.hd h.val).state = 5 ∧ (t.hd h.val).stopped = true ∧ (t.hd h.val).cur = none ∧
        (t.hd h.val).pend = (s.hd h.val).pend) ∧
      ((s.hd h.val).state ≠ 5 → ((s.hd h.val).pend.any fun c => decide (c.target ≤ n) && c.trans && !c.moved) = true →
        (t.hd h.val).state = 3 ∧ (t.hd h.val).holdLeft = max 1 (s.fd Rg.TGN_H_CTL [h.val] 7 4) ∧ (t.hd h.val).cur = none) ∧
      ((s.hd h.val).state = 3 → 1 < (s.hd h.val).holdLeft →
        ((s.hd h.val).pend.any fun c => decide (c.target ≤ n) && c.trans && !c.moved) = false →
        (t.hd h.val).state = 3 ∧ (t.hd h.val).holdLeft = (s.hd h.val).holdLeft - 1 ∧ (t.hd h.val).cur = none) ∧
      ((s.hd h.val).state = 4 ∨ (s.hd h.val).state = 3 ∧ (s.hd h.val).holdLeft ≤ 1 →
        ((s.hd h.val).pend.any fun c => decide (c.target ≤ n) && c.trans && !c.moved) = false →
        (t.hd h.val).state = 4 ∧ (∃ g, (t.hd h.val).cur = some g ∧ g.num = n ∧ g.aborted = false ∧ g.latched = [] ∧
          g.applied = (s.hd h.val).pend.any fun c => decide (c.target ≤ n)) ∧
        ∀ c ∈ (t.hd h.val).pend, c ∈ (s.hd h.val).pend ∧ n < c.target)) ∧
    ((s.hd h.val).state ≠ 3 ∨ 1 < (s.hd h.val).holdLeft → ∀ s0, s0.turn (.holdEnd h) = s → exec (.holdEnd h) s0 = .next s) ∧
    ((s.hd h.val).state = 3 → (s.hd h.val).holdLeft ≤ 1 → ∀ s0, s0.turn (.holdEnd h) = s → exec (.holdEnd h) s0 = exec (.frameBoundary h) s0) ∧
    ((s.hd h.val).state = 3 → (s.hd h.val).holdLeft ≤ 1 → s.replaying h.val = false →
      ((s.hd h.val).pend.any fun c => decide (c.target ≤ n) && c.trans && !c.moved) = false →
      ∀ s0, s0.turn (.holdEnd h) = s → ∃ t, exec (.holdEnd h) s0 = .next t ∧ (t.hd h.val).state = 4 ∧ (t.hd h.val).holdLeft = 0) ∧
    ((s.hd h.val).past = [] ∨ (s.hd h.val).state = 3 → ∀ s0, s0.turn (.frameRetire h) = s → exec (.frameRetire h) s0 = .next s) ∧
    ((s.hd h.val).past = f :: r → (s.hd h.val).state ≠ 3 → s.sfm.tl.rising = true → s.sfm.entries.rising = true → ∀ s0, s0.turn (.frameRetire h) = s → ∃ t, exec (.frameRetire h) s0 = .next t ∧
      t.hd h.val = { s.hd h.val with past := r } ∧ (∀ k, k ≠ h.val → t.hd k = s.hd k) ∧ t.force = s.force ∧ t.regs = s.regs ∧
      (s.replaying h.val = true → t.sfm = s.sfm) ∧
      (s.replaying h.val = false → (∀ m, (t.entry m).leases = (s.entry m).leases - f.leases.count m) ∧
        (∀ m, s.tlVal m ≤ t.tlVal m) ∧ (∀ x ∈ f.rets, x.2 ≤ t.tlVal x.1) ∧
        (s.fd Rg.TGN_H_CTL [h.val] 8 8 = 1 → t.mgt.fresh.getLast?.map (fun x => (x.kind, x.unit, x.arg0)) = some (9, h.val, f.num % 2 ^ 32))))

/-- Breach, freeboard, CRC check and composition of a frame. The first BREACH in a frame aborts it, sets the sticky flag
and counts one; any further one, one outside a frame and one of a buffer the head does not have change nothing (R109,
R110). FREEBOARD_PANIC keeps the freeboard and its least value, asserts panic below panic_ns (at least 400) and
releases it from twice that (R111); it keeps the freeboard over the buffers that DRAM feeds, which is the head's where it
feeds them all (else a free value no less; R284), and a channel in self-refresh that it no longer covers begins its exit
(R296). CRC_CHECK at the end of a frame that is not aborted stores the CRC-32 of each
enabled rectangle and the masks of those that pass and fail (R112), once a frame. COMPOSE_TILE_ROW forms every line of
its tile row inside the active area, keeps the lines formed before, composes the background alone where no layer shows
anything (R68), abandons a layer whose fetch meets an invalid page (R65, R82), and changes no polder context in force (R130,
R133). -/
def Obligations.BreachAndChecks : Prop :=
  ∀ (h : Fin 4) (buf : Fin 16) (ns ty : Nat) (f g : Frame) (s : State), s.boot.held = false → s.inv = true →
    ((s.hd h.val).cur = none ∨ (s.hd h.val).cur = some f ∧ f.aborted = true ∨ s.hasBuffer h.val buf.val = false →
      exec (.breach h buf) s = .next s) ∧
    (s.replaying h.val = false → (s.hd h.val).cur = some f → f.aborted = false → s.hasBuffer h.val buf.val = true →
      ∃ t, exec (.breach h buf) s = .next t ∧ t.hd h.val = { s.hd h.val with cur := some { f with aborted := true } } ∧
        (∀ k, k ≠ h.val → t.hd k = s.hd k) ∧ bit (t.rd Rg.TGN_H_FLAGS [h.val]) 2 = true ∧ t.force = s.force ∧ t.sfm = s.sfm ∧
        (t.cnt (Rg.TGN_H_BREACH_CNT.at [h.val])).val = min cntMax ((s.cnt (Rg.TGN_H_BREACH_CNT.at [h.val])).val + 1)) ∧
    ((s.hd h.val).state ≤ 1 → exec (.freeboardPanic h ns) s = .next s) ∧
    (1 < (s.hd h.val).state → s.dmc.panic.length = 4 → ∃ t, exec (.freeboardPanic h ns) s = .next t ∧
      t.hd h.val = { s.hd h.val with
        fbNow := min 65535 ns, fbMin := min (s.hd h.val).fbMin (min 65535 ns), fbDram := (t.hd h.val).fbDram } ∧
      (s.dramFeeds h.val = true → (t.hd h.val).fbDram = min 65535 ns) ∧ min 65535 ns ≤ (t.hd h.val).fbDram ∧ (t.hd h.val).fbDram ≤ 65535 ∧
      (∀ k, t.ch k = { s.ch k with exiting := (t.ch k).exiting } ∧ ((s.ch k).exiting = true → (t.ch k).exiting = true) ∧
        (k < 16 → (s.ch k).pm.contains 2 = true → (s.ch k).state = 3 → t.rtFreeboard h.val < (s.ch k).srExitNs + s.guardNs k →
          (t.ch k).exiting = true)) ∧
      (∀ k, k ≠ h.val → t.hd k = s.hd k ∧ t.dmc.panic[k]? = s.dmc.panic[k]?) ∧
      (min 65535 ns < max 400 (s.fd Rg.TGN_H_FB_CTL [h.val] 15 0) → t.dmc.panic[h.val]? = some true) ∧
      (2 * max 400 (s.fd Rg.TGN_H_FB_CTL [h.val] 15 0) ≤ min 65535 ns → t.dmc.panic[h.val]? = some false) ∧
      (max 400 (s.fd Rg.TGN_H_FB_CTL [h.val] 15 0) ≤ min 65535 ns → min 65535 ns < 2 * max 400 (s.fd Rg.TGN_H_FB_CTL [h.val] 15 0) →
        t.dmc.panic = s.dmc.panic) ∧
      t = { s with
        tgn := t.tgn, dmc := { s.dmc with panic := t.dmc.panic }, dramCh := t.dramCh, free := t.free
        counters := t.counters, mgt := { s.mgt with fresh := t.mgt.fresh } }) ∧
    ((s.hd h.val).cur = none ∨ (s.hd h.val).cur = some f ∧ (f.aborted = true ∨ f.crc = true) → exec (.crcCheck h) s = .next s) ∧
    ((s.hd h.val).cur = some f → f.aborted = false → f.crc = false → f.held = false → f.self = false →
      ((formLines h.val (vActive f.view h.val) s).hd h.val).cur = some g → ∃ t, exec (.crcCheck h) s = .next t ∧
        (t.hd h.val).cur = some { g with crc := true } ∧
        (∀ r ∈ rectsOn g.view h.val, t.rd Rg.TGN_R_RESULT [h.val, r] = word (rectCrc g.view h.val r (s.mirror h.val) g.taps)) ∧
        t.rd Rg.TGN_H_CRC_STAT [h.val] = pack [(16, 0),
          (8, maskOf 8 fun r => (rectsOn g.view h.val).contains r &&
            rectCrc g.view h.val r (s.mirror h.val) g.taps != vf g.view Rg.TGN_R_EXP [h.val, r] 31 0),
          (0, maskOf 8 fun r => (rectsOn g.view h.val).contains r &&
            rectCrc g.view h.val r (s.mirror h.val) g.taps == vf g.view Rg.TGN_R_EXP [h.val, r] 31 0)]) ∧
    ((s.hd h.val).cur = none ∨ (s.hd h.val).cur = some f ∧ (f.aborted = true ∨ f.self = true ∨ vActive (s.forceOf h.val) h.val ≤ 32 * ty) →
      exec (.composeTileRow h ty) s = .next s) ∧
    ((s.hd h.val).cur = some f → f.aborted = false → f.self = false → 32 * ty < vActive (s.forceOf h.val) h.val →
      ∃ t x, exec (.composeTileRow h ty) s = .next t ∧ (t.hd h.val).cur = some x ∧ t.polders = s.polders ∧ t.force = s.force ∧
        x = { f with taps := x.taps, staged := x.staged, pages := x.pages, shows := x.shows } ∧
        (∀ l, x.shows.getD l {} = { f.shows.getD l {} with fault := (x.shows.getD l {}).fault } ∧
          ((f.shows.getD l {}).fault.isSome = true → x.shows.getD l {} = f.shows.getD l {})) ∧
        (∀ y, 32 * ty ≤ y → y < 32 * ty + 32 → y < vActive (s.forceOf h.val) h.val → (x.taps.find y).isSome = true) ∧
        ((∀ l, (f.shows.getD l {}).mode = 0) → ∀ y, 32 * ty ≤ y → y < 32 * ty + 32 → y < vActive (s.forceOf h.val) h.val →
          f.taps.find y = none → (x.taps.find y).map (·.cmp) = some (List.replicate (hActive (s.forceOf h.val) h.val)
            (s.ff Rg.CMP_H_BG_R [h.val] 17 0, s.ff Rg.CMP_H_BG_G [h.val] 17 0, s.ff Rg.CMP_H_BG_B [h.val] 17 0))) ∧
        (∀ y l, f.taps.find y = some l → x.taps.find y = some l) ∧ (s.mirror h.val = false → x.staged = f.staged) ∧
        ∀ k, k ≠ h.val → t.hd k = s.hd k)

/-- Stores into the tables of PXP, PSQ, LSC and PNL. A PXP_TABLE_STORE, PSQ_MASK_STORE, COEF_STORE or OD_TABLE_STORE that
takes effect stores one entry (the staged components with the word written, the low word with the word written, the
coefficient, the staged components with the word written) at the place the address register names, and that register's
index goes on by one (R95, R139, R192, R233; a coefficient's from 64 to 0); every other entry is as it was. Where the
bank named is the one in force, or the index lies beyond the table (or a coefficient of index 64 is negative), nothing
is stored and the write is invalid. recReg is the REG item of a recorded head. -/
def Obligations.TableStores : Prop :=
  ∀ (src : Source) (h : Fin 4) (v a : Word) (k : Nat) (s u : State), s.inv = true →
    (s.takes src (Rg.PXP_H_TBL_D2.at [h.val]) = true → a = s.rd Rg.PXP_H_TBL_ADDR [h.val] → (s.hd h.val).tablesLut.rising = true →
      u = recReg src (Rg.PXP_H_TBL_D2.at [h.val]) v s →
      (fld a 31 31 = s.ff Rg.PXP_H_CTL [h.val] 8 8 ∨ tblLen (fld a 27 26) ≤ fld a 15 0 →
        ∀ s0, s0.turn (.pxpTableStore src h v) = s → exec (.pxpTableStore src h v) s0 = .next (invalidWrite (Rg.PXP_H_TBL_D2.at [h.val]) u)) ∧
      (fld a 31 31 ≠ s.ff Rg.PXP_H_CTL [h.val] 8 8 → fld a 15 0 < tblLen (fld a 27 26) → k = tblKey (fld a 31 31) (fld a 27 26) (fld a 15 0) 0 →
        ∀ s0, s0.turn (.pxpTableStore src h v) = s → ∃ t, exec (.pxpTableStore src h v) s0 = .next t ∧ t = { u with tgn := t.tgn, regs := t.regs } ∧
          t.rd Rg.PXP_H_TBL_ADDR [h.val] = setFld a 15 0 (fld a 15 0 + 1) ∧
          (t.hd h.val).tablesLut.find k = some ((s.hd h.val).tblStage.getD 0 0 % 2 ^ 18) ∧
          (t.hd h.val).tablesLut.find (k + 1) = some ((s.hd h.val).tblStage.getD 1 0 % 2 ^ 18) ∧
          (t.hd h.val).tablesLut.find (k + 2) = some (v.toNat % 2 ^ 18) ∧
          ∀ b c i x, ¬ (k ≤ tblKey b c i x ∧ tblKey b c i x ≤ k + 2) → t.pxpEntry h.val b c i x = s.pxpEntry h.val b c i x)) ∧
    (s.takes src (Rg.PSQ_H_TBL_HI.at [h.val]) = true → a = s.rd Rg.PSQ_H_TBL_ADDR [h.val] → (s.hd h.val).masks.rising = true →
      u = recReg src (Rg.PSQ_H_TBL_HI.at [h.val]) v s →
      (s.mirror h.val = false → ∀ s0, s0.turn (.psqMaskStore src h v) = s → exec (.psqMaskStore src h v) s0 = .next u) ∧
      (s.mirror h.val = true → fld a 31 31 = s.ff Rg.PSQ_H_CTL [h.val] 8 8 →
        ∀ s0, s0.turn (.psqMaskStore src h v) = s → exec (.psqMaskStore src h v) s0 = .next (invalidWrite (Rg.PSQ_H_TBL_HI.at [h.val]) u)) ∧
      (s.mirror h.val = true → fld a 31 31 ≠ s.ff Rg.PSQ_H_CTL [h.val] 8 8 → ∀ s0, s0.turn (.psqMaskStore src h v) = s → ∃ t, exec (.psqMaskStore src h v) s0 = .next t ∧
        t = { u with tgn := t.tgn, regs := t.regs } ∧ t.rd Rg.PSQ_H_TBL_ADDR [h.val] = setFld a 6 0 (fld a 6 0 + 1) ∧
        t.maskAt h.val (fld a 31 31) (fld a 27 24) (fld a 6 0) = v.toNat * 2 ^ 32 + (s.hd h.val).maskLo ∧
        ∀ b c i, maskKey b c i ≠ maskKey (fld a 31 31) (fld a 27 24) (fld a 6 0) → t.maskAt h.val b c i = s.maskAt h.val b c i)) ∧
    (s.takes src Rg.LSC_COEF_DATA.at = true → a = s.rd Rg.LSC_COEF_ADDR → s.lsc.coefs.rising = true →
      k = coefKey (fld a 23 16) (fld a 12 12) (fld a 9 8) (fld a 6 0) →
      (fld a 12 12 = s.bankF (fld a 23 16) ∨ 65 ≤ fld a 6 0 ∨ fld a 6 0 = 64 ∧ bit v 17 = true →
        ∀ s0, s0.turn (.coefStore src v) = s → exec (.coefStore src v) s0 = .next (invalidWrite Rg.LSC_COEF_DATA.at s)) ∧
      (fld a 12 12 ≠ s.bankF (fld a 23 16) → fld a 6 0 ≤ 64 → ¬ (fld a 6 0 = 64 ∧ bit v 17 = true) → ∀ s0, s0.turn (.coefStore src v) = s → ∃ t, exec (.coefStore src v) s0 = .next t ∧
        t = { s with lsc := { s.lsc with coefs := t.lsc.coefs }, regs := t.regs } ∧
        t.rd Rg.LSC_COEF_ADDR = setFld a 6 0 (if fld a 6 0 = 64 then 0 else fld a 6 0 + 1) ∧
        t.lsc.coefs.get 0 k = fld v 27 24 * 2 ^ 18 + fld v 17 0 ∧ ∀ j, j ≠ k → t.lsc.coefs.get 0 j = s.lsc.coefs.get 0 j)) ∧
    (s.takes src (Rg.PNL_H_TBL_D2.at [h.val]) = true → a = s.rd Rg.PNL_H_TBL_ADDR [h.val] → (s.hd h.val).odTables.rising = true →
      u = recReg src (Rg.PNL_H_TBL_D2.at [h.val]) v s →
      (s.panel h.val = false → ∀ s0, s0.turn (.odTableStore src h v) = s → exec (.odTableStore src h v) s0 = .next u) ∧
      (s.panel h.val = true → fld a 31 31 = s.ff Rg.PNL_H_CTL [h.val] 5 5 ∨ 289 ≤ fld a 8 0 →
        ∀ s0, s0.turn (.odTableStore src h v) = s → exec (.odTableStore src h v) s0 = .next (invalidWrite (Rg.PNL_H_TBL_D2.at [h.val]) u)) ∧
      (s.panel h.val = true → fld a 31 31 ≠ s.ff Rg.PNL_H_CTL [h.val] 5 5 → fld a 8 0 < 289 → k = odKey (fld a 31 31) (fld a 27 26) (fld a 8 0) 0 →
        ∀ s0, s0.turn (.odTableStore src h v) = s → ∃ t, exec (.odTableStore src h v) s0 = .next t ∧ t = { u with tgn := t.tgn, regs := t.regs } ∧
          t.rd Rg.PNL_H_TBL_ADDR [h.val] = setFld a 8 0 (fld a 8 0 + 1) ∧
          (t.hd h.val).odTables.find k = some ((s.hd h.val).odStage.getD 0 0 % 2 ^ 18) ∧
          (t.hd h.val).odTables.find (k + 1) = some ((s.hd h.val).odStage.getD 1 0 % 2 ^ 18) ∧
          (t.hd h.val).odTables.find (k + 2) = some (v.toNat % 2 ^ 18) ∧
          ∀ j, j < k ∨ k + 2 < j → (t.hd h.val).odTables.find j = (s.hd h.val).odTables.find j))

/-- Calibration of driver ports by echo. A PORT_CALIBRATE (LTE) or PANEL_PORT_CALIBRATE (PNL) that takes effect on a port
of its block with no calibration in progress starts one: the first ECHO goes out with the next id; otherwise it does
nothing. The id and the counter of a reply are those of the oldest accepted ECHO_REPLY, or the command's own where none
is accepted. A reply that is not awaited changes no calibration. A reply to a measuring exchange adds t1 - t0 - 1,024
unless the exchange was replayed, and the next ECHO goes out; the sixteenth clean one ends the measurement: a spread
above 4 fails with status 3, a served head in RUN defers with status 6, and otherwise half the mean plus asym goes out
by TIME_SET and four verify exchanges begin. The fourth verify exchange within 1 period ends with status OK and puts
the measurement in force. No reply fails with status 2 (R143, R144). -/
def Obligations.PortCalibration : Prop :=
  ∀ (src : Source) (p : Fin 24) (tag0 tag t0 t1 counter0 counter : Nat) (hi lo m : Int) (cl : List Int) (r : Option (List Byte)) (s : State),
    s.inv = true → r = (takeResponse p.val (· == 0x80) s).1 →
    tag = (match r with | some bs => byteField bs 2 2 | none => tag0) →
    counter = (match r with | some bs => byteField bs 4 4 | none => counter0) →
    (s.takes src (Rg.LTE_P_CAL.at [p.val]) = true → s.ltePort p.val = true → (s.pcal p.val).busy = false →
      ∀ s0, s0.turn (.portCalibrate src p) = s → ∃ t, exec (.portCalibrate src p) s0 = .next t ∧ (∀ q, q ≠ p.val → t.pcal q = s.pcal q) ∧ t.pcal p.val = { s.pcal p.val with
          busy := true, deferred := false, tries := 1, clean := [], verify := 0, newAsym := s.asym p.val
          echo := ((s.pcal p.val).echo + 1) % 65536 } ∧
        t = sendCmd p.val ([0x05#8, 0#8] ++ bytesLE (((s.pcal p.val).echo + 1) % 65536) 2 ++ [0#8, 0#8, 0#8, 0#8])
          { s with cals := t.cals }) ∧
    (s.takes src (Rg.PNL_P_CAL.at [p.val]) = true → s.pnlPort p.val = true → (s.pcal p.val).busy = false →
      ∀ s0, s0.turn (.panelPortCalibrate src p) = s → ∃ t, exec (.panelPortCalibrate src p) s0 = .next t ∧ (∀ q, q ≠ p.val → t.pcal q = s.pcal q) ∧ t.pcal p.val = { s.pcal p.val with
          busy := true, deferred := false, tries := 1, clean := [], verify := 0, newAsym := s.asym p.val
          echo := ((s.pcal p.val).echo + 1) % 65536 } ∧
        t = sendCmd p.val ([0x05#8, 0#8] ++ bytesLE (((s.pcal p.val).echo + 1) % 65536) 2 ++ [0#8, 0#8, 0#8, 0#8])
          { s with cals := t.cals }) ∧
    (s.takes src (Rg.LTE_P_CAL.at [p.val]) = true → s.ltePort p.val = false ∨ (s.pcal p.val).busy = true →
      ∀ s0, s0.turn (.portCalibrate src p) = s → exec (.portCalibrate src p) s0 = .next s) ∧
    (s.takes src (Rg.PNL_P_CAL.at [p.val]) = true → s.pnlPort p.val = false ∨ (s.pcal p.val).busy = true →
      ∀ s0, s0.turn (.panelPortCalibrate src p) = s → exec (.panelPortCalibrate src p) s0 = .next s) ∧
    (s.boot.held = false → ((s.pcal p.val).busy = false → exec (.echoNoReply p) s = .next s) ∧
      ((s.pcal p.val).busy = true → ∃ t, exec (.echoNoReply p) s = .next t ∧ (t.pcal p.val).busy = false ∧ (t.pcal p.val).status = 2 ∧
        (t.pcal p.val).force = (s.pcal p.val).force ∧
        (t.pcal p.val).meas = (if (s.pcal p.val).verify = 0 then (s.pcal p.val).meas else (s.pcal p.val).newMeas) ∧
        ∀ q, q ≠ p.val → t.pcal q = s.pcal q)) ∧
    (s.boot.held = false → (s.pcal p.val).busy = false ∨ (s.pcal p.val).echo ≠ tag →
      ∃ t, exec (.echoReply p tag0 t0 t1 counter0 false) s = .next t ∧ t = { s with ports := t.ports }) ∧
    (s.boot.held = false → (s.pcal p.val).busy = true → (s.pcal p.val).echo = tag → (s.pcal p.val).verify = 0 →
      ((s.pcal p.val).clean.length < 15 → (s.pcal p.val).tries < 64 → ∃ t, exec (.echoReply p tag0 t0 t1 counter0 false) s = .next t ∧
        t.pcal p.val = { s.pcal p.val with
          clean := (s.pcal p.val).clean ++ [(t1 : Int) - t0 - 1024], tries := (s.pcal p.val).tries + 1, echo := (tag + 1) % 65536 }) ∧
      ((s.pcal p.val).clean.length < 16 → (s.pcal p.val).tries < 64 → ∃ t, exec (.echoReply p tag0 t0 t1 counter0 true) s = .next t ∧
        t.pcal p.val = { s.pcal p.val with tries := (s.pcal p.val).tries + 1, echo := (tag + 1) % 65536 }) ∧
      ((s.pcal p.val).clean.length < 15 → 64 ≤ (s.pcal p.val).tries → ∃ t, exec (.echoReply p tag0 t0 t1 counter0 false) s = .next t ∧
        (t.pcal p.val).busy = false ∧ (t.pcal p.val).status = 5) ∧
      ((s.pcal p.val).clean.length = 15 → cl = (s.pcal p.val).clean ++ [(t1 : Int) - t0 - 1024] → hi ∈ cl → lo ∈ cl →
        (∀ x ∈ cl, lo ≤ x ∧ x ≤ hi) → m = (cl.sum + 16) / 32 + (s.pcal p.val).newAsym →
        (4 < hi - lo → ∃ t, exec (.echoReply p tag0 t0 t1 counter0 false) s = .next t ∧ (t.pcal p.val).busy = false ∧
          (t.pcal p.val).status = 3 ∧ (t.pcal p.val).force = (s.pcal p.val).force ∧ (t.pcal p.val).spread = min 255 (hi - lo).toNat) ∧
        (hi - lo ≤ 4 → ((s.portHeads p.val).any fun h => (s.hd h).state == 4) = true →
          ∃ t, exec (.echoReply p tag0 t0 t1 counter0 false) s = .next t ∧ (t.pcal p.val).busy = false ∧ (t.pcal p.val).deferred = true ∧
            (t.pcal p.val).status = 6 ∧ (t.pcal p.val).meas = m ∧ (t.pcal p.val).force = (s.pcal p.val).force ∧ t.wire = s.wire) ∧
        (hi - lo ≤ 4 → ((s.portHeads p.val).any fun h => (s.hd h).state == 4) = false →
          ∃ t, exec (.echoReply p tag0 t0 t1 counter0 false) s = .next t ∧ (t.pcal p.val).busy = true ∧ (t.pcal p.val).newMeas = m ∧
            (t.pcal p.val).verify = 4 ∧ (t.pcal p.val).newOff = 0 ∧ (t.pcal p.val).force = (s.pcal p.val).force))) ∧
    (s.boot.held = false → (s.pcal p.val).busy = true → (s.pcal p.val).echo = tag → (s.pcal p.val).verify = 1 → counter < 2 ^ 32 →
      (sext 32 (uint 32 ((counter : Int) - (t0 + (s.pcal p.val).newMeas)))).natAbs ≤ 1 →
      ∃ t, exec (.echoReply p tag0 t0 t1 counter0 false) s = .next t ∧ (t.pcal p.val).busy = false ∧ (t.pcal p.val).status = 1 ∧
        (t.pcal p.val).force = (s.pcal p.val).newMeas ∧ (t.pcal p.val).meas = (s.pcal p.val).newMeas)

/-- Load windows, pulses and what the peripherals report. PLANE_LOAD_WINDOW_OPEN for a plane of a frame that is not dark
opens its window, and LOAD_WINDOW_CLOSE of the open window sends PLANE_COMMIT to every working array when the planes
have left, or else darkens the frame from the plane's first minimum slot, lets no more of its planes go out and (unless
the frame was aborted already) counts a breach (R152, R154); neither changes anything else of the frame. PULSE_ISSUE of
minimum slot 0 (or, where the sequence begins with a DARK entry, of a slot that does not follow the last one issued)
first makes the waiting frame the one whose slots are issued, its display period cmd_lead ahead; it notes the slot with
its instant, counts a dark slot, and lights a slot only where a plane entry lies there and the frame is neither dark nor
aborted (R149, R152, R154). A response of a peripheral is the oldest accepted one, or what the command carries. PERIPHERAL_EVENT with an unused opcode
raises one invalid response event, and a fault report one report; a LATE or INCOMPLETE report of a laser driver counts
one for its head (R162). -/
def Obligations.PlaneStream : Prop :=
  ∀ (h : Fin 4) (p : Fin 24) (j op0 code0 detail0 counter opcode code detail : Nat) (d : Disp) (e : Nat × Nat × Word) (dark lit : Bool)
    (r : Option (List Byte)) (s : State), s.boot.held = false → s.inv = true →
    r = (takeResponse p.val (fun o => o != 0x80 && o != 0x82) s).1 →
    (opcode, code, detail) = (match r with
      | some bs => (byteField bs 0 1, byteField bs 1 1, byteField bs 2 2)
      | none => (op0, code0, detail0)) →
    (s.dispFor h.val j = none → (∀ s0, s0.turn (.planeLoadWindowOpen h j) = s → exec (.planeLoadWindowOpen h j) s0 = .next s) ∧ ∀ s0, s0.turn (.loadWindowClose h j true) = s → exec (.loadWindowClose h j true) s0 = .next s) ∧
    (s.dispFor h.val j = some d →
      (d.dark.isSome = true ∨ (planeStarts (seqOf d.view h.val)).length ≤ j → ∀ s0, s0.turn (.planeLoadWindowOpen h j) = s → exec (.planeLoadWindowOpen h j) s0 = .next s) ∧
      (d.dark = none → j < (planeStarts (seqOf d.view h.val)).length → ∀ s0, s0.turn (.planeLoadWindowOpen h j) = s → ∃ t, exec (.planeLoadWindowOpen h j) s0 = .next t ∧
        (if s.loadsNext h.val j then (t.hd h.val).nextDisp else (t.hd h.val).disp) = some { d with window := some j } ∧ (∀ k, k ≠ h.val → t.hd k = s.hd k) ∧
        t = { s with
          tgn := t.tgn, ports := t.ports, lanes := t.lanes, counters := t.counters, mgt := { s.mgt with fresh := t.mgt.fresh }, wire := t.wire }) ∧
      (d.window ≠ some j ∨ d.dark.isSome = true → (∀ s0, s0.turn (.loadWindowClose h j true) = s → exec (.loadWindowClose h j true) s0 = .next s) ∧ ∀ s0, s0.turn (.loadWindowClose h j false) = s → exec (.loadWindowClose h j false) s0 = .next s) ∧
      (d.window = some j → d.dark = none → (planeStarts (seqOf d.view h.val))[j]? = some e →
        (s.planeWaits h.val d.num j = false → ∀ s0, s0.turn (.loadWindowClose h j true) = s → ∃ t, exec (.loadWindowClose h j true) s0 = .next t ∧
          (if s.loadsNext h.val j then (t.hd h.val).nextDisp else (t.hd h.val).disp) = some { d with window := none } ∧
          (∀ k, k ≠ h.val → t.hd k = s.hd k) ∧ t = { toArrays h.val ([0x02#8, BitVec.ofNat 8 (vf d.view Rg.LTE_H_RESET [h.val] 0 0),
            BitVec.ofNat 8 (vf d.view Rg.LTE_H_RESET [h.val] 15 8), 0#8] ++ bytesLE (s.now + cmdLead d.view h.val) 4 ++
            bytesLE (planeTag d.num j) 2 ++ [0#8, 0#8]) s with tgn := t.tgn }) ∧
        (∀ sent, s.replaying h.val = false → sent = false ∨ s.planeWaits h.val d.num j = true →
          ∀ s0, s0.turn (.loadWindowClose h j sent) = s → ∃ t, exec (.loadWindowClose h j sent) s0 = .next t ∧
          (if s.loadsNext h.val j then (t.hd h.val).nextDisp else (t.hd h.val).disp) =
            some { d with window := none, dark := some e.2.1 } ∧ (∀ i, t.planeWaits h.val d.num i = false) ∧ (∀ k, k ≠ h.val → t.hd k = s.hd k) ∧
          (t.cnt (Rg.TGN_H_BREACH_CNT.at [h.val])).val = (if d.zero then (s.cnt (Rg.TGN_H_BREACH_CNT.at [h.val])).val
            else min cntMax ((s.cnt (Rg.TGN_H_BREACH_CNT.at [h.val])).val + 1))))) ∧
    ((s.hd h.val).disp = none → (s.hd h.val).nextDisp = none → ∀ s0, s0.turn (.pulseIssue h j) = s → exec (.pulseIssue h j) s0 = .next s) ∧
    ((s.hd h.val).nextDisp = some d → s.slotStarts h.val j = true → entryAt (seqOf d.view h.val) j = some e →
      ∀ s0, s0.turn (.pulseIssue h j) = s → ∃ t, exec (.pulseIssue h j) s0 = .next t ∧ (t.hd h.val).nextDisp = none ∧ (t.hd h.val).lastDisp = (s.hd h.val).disp ∧
        (t.hd h.val).disp = some { d with
          start := s.now + cmdLead d.view h.val - j * slotPeriods, issued := some (j, s.now + cmdLead d.view h.val) }) ∧
    ((s.hd h.val).nextDisp = none ∨ s.slotStarts h.val j = false → (s.hd h.val).disp = some d → entryAt (seqOf d.view h.val) j = some e →
      dark = (match d.dark with | some k => decide (k ≤ j) | none => false) → lit = (isPlane e.2.2 && !dark && !d.zero) →
      ∀ s0, s0.turn (.pulseIssue h j) = s → ∃ t, exec (.pulseIssue h j) s0 = .next t ∧
        (t.hd h.val).disp = some { d with issued := some (j, s.now + cmdLead d.view h.val) } ∧
        (t.hd h.val).litEnd = (if (lit && (s.driverPorts h.val).any fun x => !(s.pulseChans h.val x.1).isEmpty) = true
          then s.now + cmdLead d.view h.val + slotPeriods else (s.hd h.val).litEnd) ∧
        (t.cnt (Rg.LTE_H_DARK_CNT.at [h.val])).val = (if dark = true
          then min cntMax ((s.cnt (Rg.LTE_H_DARK_CNT.at [h.val])).val + 1) else (s.cnt (Rg.LTE_H_DARK_CNT.at [h.val])).val) ∧
        (lit = false → t = { s with tgn := t.tgn, counters := t.counters, mgt := { s.mgt with fresh := t.mgt.fresh } })) ∧
    (s.peerKind p.val = 0 → ∃ t, exec (.peripheralEvent p op0 code0 detail0 counter) s = .next t ∧ t = { s with ports := t.ports }) ∧
    (s.peerKind p.val ≠ 0 → opcode % 256 ≠ 0x81 → ∃ t, exec (.peripheralEvent p op0 code0 detail0 counter) s = .next t ∧
      t = { s with ports := t.ports, mgt := { s.mgt with fresh := t.mgt.fresh } } ∧
      t.mgt.fresh.getLast?.map (fun x => (x.sub, x.kind, x.unit)) = some (s.calBlock p.val, 6, p.val)) ∧
    (s.peerKind p.val ≠ 0 → opcode % 256 = 0x81 → code = 3 → ∃ t, exec (.peripheralEvent p op0 code0 detail0 counter) s = .next t ∧
      t.mgt.fresh.getLast?.map (fun x => (x.sub, x.kind, x.unit, x.arg0)) = some (s.calBlock p.val, 10, p.val, detail % 256)) ∧
    (s.peerKind p.val = 2 → s.portHeads p.val = [h.val] → s.mirror h.val = true → s.replaying h.val = false → opcode % 256 = 0x81 →
      code = 1 ∨ code = 2 → ∃ t, exec (.peripheralEvent p op0 code0 detail0 counter) s = .next t ∧
        (t.cnt ((if code = 1 then Rg.LTE_H_LATE_CNT else Rg.LTE_H_INCOMPLETE_CNT).at [h.val])).val =
          min cntMax ((s.cnt ((if code = 1 then Rg.LTE_H_LATE_CNT else Rg.LTE_H_INCOMPLETE_CNT).at [h.val])).val + 1) ∧
        (t.hd h.val).disp = (s.hd h.val).disp)

/-- Rows, lines, latches and the temperature of a panel. ROW_ISSUE of a raster line of a panel head in HOLD or
RUN sends one ROW to the row driver, with its row number (0xFFFF in blanking) and the instant cmd_lead ahead, unless
the line's frame is held, by the words that were in force for the line (R209, R210, R222); otherwise it does nothing. LINE_DATA_SEND of an active line of a frame
that is neither aborted nor held forms the row, once (R211). LINE_LATCH_DUE of a row that was formed and has left
notes it latched and writes the staged row to the store (R210, R213); one that has not left aborts the frame and
counts a breach (R225). PANEL_TEMP_REPLY with status 0 and a new sequence number sets the temperature, and any other
reply keeps it (R216). -/
def Obligations.PanelLines : Prop :=
  ∀ (h : Fin 4) (line row : Nat) (f : Frame) (bs : List Byte) (st : List Byte) (w : SMap Word × Bool) (s : State), s.boot.held = false → s.inv = true →
    (w = s.lineView h.val line →
     (s.panel h.val = false ∨ ((s.hd h.val).state ≠ 3 ∧ (s.hd h.val).state ≠ 4) ∨ w.2 = true ∨ vTotal w.1 h.val ≤ line →
        ∀ s0, s0.turn (.rowIssue h line) = s → exec (.rowIssue h line) s0 = .next s) ∧
     (s.panel h.val = true → (s.hd h.val).state = 3 ∨ (s.hd h.val).state = 4 → w.2 = false → line < vTotal w.1 h.val →
      ∃ flags len : Nat, flags = (if vf w.1 Rg.TGN_H_VSYNC [h.val] 13 0 ≤ line ∧
          line < vf w.1 Rg.TGN_H_VSYNC [h.val] 13 0 + vf w.1 Rg.TGN_H_VSYNC [h.val] 29 16 then 1 else 0) +
          (if line = 0 then 2 else 0) + (if line < vTotal w.1 h.val - vActive w.1 h.val then 4 else 0) ∧
        len = (if s.incUsed h.val = 0 then 0 else (rnd (vf w.1 Rg.TGN_H_HSYNC [h.val] 29 16 * 2 ^ 28 : Nat) (s.incUsed h.val)).toNat) ∧
        ∀ s0, s0.turn (.rowIssue h line) = s → exec (.rowIssue h line) s0 = .next (sendCmd (s.cfg.head h.val).rowPort ([0x21#8, BitVec.ofNat 8 flags] ++
          bytesLE (if line < vTotal w.1 h.val - vActive w.1 h.val then 0xFFFF else line - (vTotal w.1 h.val - vActive w.1 h.val)) 2 ++
          bytesLE (s.now + panelLead w.1 h.val) 4 ++ bytesLE len 2 ++ [0#8, 0#8]) s)) ∧
     (s.panel h.val = false ∨ line < vTotal w.1 h.val - vActive w.1 h.val ∨ vTotal w.1 h.val ≤ line →
        exec (.lineDataSend h line) s = .next s)) ∧
    (s.panel h.val = true → (s.hd h.val).cur = some f → f.aborted = false → f.held = false →
      s.lineBefore h.val line = false → line = row + (vTotal (s.forceOf h.val) h.val - vActive (s.forceOf h.val) h.val) → line + 1 < vTotal (s.forceOf h.val) h.val →
      ∃ t g l, exec (.lineDataSend h line) s = .next t ∧ (t.hd h.val).cur = some g ∧
        g = { f with taps := g.taps, rows := g.rows, pages := g.pages, shows := g.shows } ∧
        g.taps.find row = some l ∧ (f.self = true → g.rows = f.rows) ∧ t.force = s.force ∧ ∀ k, k ≠ h.val → t.hd k = s.hd k) ∧
    (s.panel h.val = true → s.latchesPast h.val row = false → (s.hd h.val).cur = some f → f.aborted = false → f.held = false →
      row < vActive f.view h.val →
      (((f.taps.find row).map (·.out)).getD [] ≠ [] → s.rowWaits h.val f.num row = false → ∀ s0, s0.turn (.lineLatchDue h row true) = s → ∃ t, exec (.lineLatchDue h row true) s0 = .next t ∧
        (t.hd h.val).cur = some { f with latched := f.latched ++ [row] } ∧
        (f.rows.find row = some st → (s.pn h.val).storeLoc = false →
          (s.pn h.val).storeAt + row * s.storePitch h.val + st.length ≤ s.capBytes → ∀ a, t.dram.byte 0 a =
            if (s.pn h.val).storeAt + row * s.storePitch h.val ≤ a ∧ a < (s.pn h.val).storeAt + row * s.storePitch h.val + st.length
            then st.getD (a - ((s.pn h.val).storeAt + row * s.storePitch h.val)) 0 else s.dram.byte 0 a) ∧
        (f.rows.find row = none → t.dram = s.dram)) ∧
      (∀ s0, s0.turn (.lineLatchDue h row false) = s → ∃ t, exec (.lineLatchDue h row false) s0 = .next t ∧ (t.hd h.val).cur = some { f with aborted := true } ∧ t.polders = s.polders ∧
        (t.cnt (Rg.TGN_H_BREACH_CNT.at [h.val])).val = min cntMax ((s.cnt (Rg.TGN_H_BREACH_CNT.at [h.val])).val + 1))) ∧
    ((s.hd h.val).cur = none → s.latchesPast h.val row = false → (∀ s0, s0.turn (.lineLatchDue h row true) = s → exec (.lineLatchDue h row true) s0 = .next s) ∧ ∀ s0, s0.turn (.lineLatchDue h row false) = s → exec (.lineLatchDue h row false) s0 = .next s) ∧
    (exec (.panelTempReply h none) s = .next s) ∧
    ((s.pn h.val).asked = false ∨ s.replaying h.val = true → exec (.panelTempReply h (some bs)) s = .next s) ∧
    ((s.pn h.val).asked = true → s.replaying h.val = false →
      (bs.getD 0 0 = 0 → (s.pn h.val).seq ≠ some (bs.getD 1 0).toNat → ∃ t, exec (.panelTempReply h (some bs)) s = .next t ∧
        t.pn h.val = { s.pn h.val with
          theta := sext 16 ((bs.getD 2 0).toNat + 256 * (bs.getD 3 0).toNat), seen := true, seq := some (bs.getD 1 0).toNat, got := true } ∧
        (∀ k, k ≠ h.val → t.pn k = s.pn k) ∧ (s.recording h.val = false → t = { s with pnl := t.pnl })) ∧
      (bs.getD 0 0 ≠ 0 ∨ (s.pn h.val).seq = some (bs.getD 1 0).toNat → ∃ t, exec (.panelTempReply h (some bs)) s = .next t ∧
        t.pnl = s.pnl ∧ (s.recording h.val = false → t = s)))

/-- Self-refresh of a panel head. A SELF_REQUEST that takes effect on a panel head stages req = 1 and changes no state of
self-refresh. At the next latching boundary of a head in RUN at which no commit applies, NORMAL with req = 1 enters
SELF with frame 0, sets the flag, and the frame composes nothing (R220, R221); at one where a commit applies it stays
NORMAL. A SELF_EXIT_REQUEST stages req = 0 and in SELF goes to EXITING with the boundary a commit accepted now would
target (R223); at that boundary, or where a commit applies, EXITING ends. On a head that is no panel head both do
nothing. -/
def Obligations.SelfRefresh : Prop :=
  ∀ (src : Source) (h : Fin 4) (v : Word) (n : Nat) (s u : State), s.inv = true → n = min cntMax ((s.cnt (Rg.TGN_H_FRAME.at [h.val])).val + 1) →
    (s.takes src (Rg.PNL_H_SR.at [h.val]) = true →
      (u = recReg src (Rg.PNL_H_SR.at [h.val]) (setBit v 0 true) s →
        (s.panel h.val = false → ∀ s0, s0.turn (.selfRequest src h v) = s → exec (.selfRequest src h v) s0 = .next u) ∧
        (s.panel h.val = true → ∀ s0, s0.turn (.selfRequest src h v) = s → ∃ t, exec (.selfRequest src h v) s0 = .next t ∧ t = { u with regs := t.regs } ∧
          bit (t.rd Rg.PNL_H_SR [h.val]) 0 = true ∧ ∀ a, a ≠ Rg.PNL_H_SR.at [h.val] → t.word a = s.word a)) ∧
      (u = recReg src (Rg.PNL_H_SR.at [h.val]) (setBit v 0 false) s →
        (s.panel h.val = false → ∀ s0, s0.turn (.selfExitRequest src h v) = s → exec (.selfExitRequest src h v) s0 = .next u) ∧
        (s.panel h.val = true → ∀ s0, s0.turn (.selfExitRequest src h v) = s → ∃ t, exec (.selfExitRequest src h v) s0 = .next t ∧ t = { u with regs := t.regs, pnl := t.pnl } ∧
          bit (t.rd Rg.PNL_H_SR [h.val]) 0 = false ∧ (∀ k, k ≠ h.val → t.pn k = s.pn k) ∧
          ((s.pn h.val).sr = 1 → t.pn h.val = { s.pn h.val with sr := 2, exitAt := (s.sluice h.val).1 } ∧
            bit (t.rd Rg.PNL_H_FLAGS [h.val]) 3 = true) ∧
          ((s.pn h.val).sr ≠ 1 → t.pn h.val = s.pn h.val)))) ∧
    (s.boot.held = false → s.replaying h.val = false → s.panel h.val = true → (s.hd h.val).state = 4 →
      (((s.hd h.val).pend.any fun c => decide (c.target ≤ n)) = false → ∀ s0, s0.turn (.frameBoundary h) = s → ∃ t, exec (.frameBoundary h) s0 = .next t ∧
        ((s.pn h.val).sr = 0 → bit (s.rd Rg.PNL_H_SR [h.val]) 0 = true → (t.pn h.val).sr = 1 ∧ (t.pn h.val).srFrame = 0 ∧
          bit (t.rd Rg.PNL_H_FLAGS [h.val]) 2 = true ∧ ∃ g, (t.hd h.val).cur = some g ∧ g.self = true ∧ g.shows = [] ∧ g.leases = []) ∧
        ((s.pn h.val).sr = 1 → (t.pn h.val).sr = 1 ∧ (t.pn h.val).srFrame = (s.pn h.val).srFrame + 1) ∧
        ((s.pn h.val).sr = 2 → (t.pn h.val).sr = (if (s.pn h.val).exitAt ≤ n then 0 else 2))) ∧
      (((s.hd h.val).pend.any fun c => decide (c.target ≤ n)) = true → ((s.hd h.val).pend.any fun c => c.trans) = false →
        ∀ s0, s0.turn (.frameBoundary h) = s → ∃ t, exec (.frameBoundary h) s0 = .next t ∧ (t.pn h.val).sr = 0 ∧ ∃ g, (t.hd h.val).cur = some g ∧ g.self = false ∧ g.held = false))

/-- Samples of the light loops. A MON_SAMPLE (the oldest accepted one of its port, or what the command carries) with the
expected number of a channel in OPEN takes the oldest point without a record off; with status 0 it is queued with the
drive code in force there (while fewer than 1,280 wait) and sets the last number and monitor code; with another status
it is missing, if it was expected. In CLOSED the second missing point in a row takes the channel to HOLD, with cause 1,
or 4 where the record reports a driver fault, and one count (R168, R181). A late number, and a record of a channel in
another state, change nothing of the loops. SAMPLE_ARRIVAL_TIMEOUT takes the oldest point off once lat_force + 896
periods have passed, as missing if it was expected and the channel has had its first record. SAMPLE_BOUNDARY gives the
oldest sample that may go to the lowest free lane, of four, and puts the channel's class S words in force, by which an
OPEN channel closes (R169, R170, R178). -/
def Obligations.LoopSamples : Prop :=
  ∀ (p : Fin 24) (c : Fin 256) (x0 x : MonRec) (pt : Point) (r : List Point) (d e l : Nat) (q sm : Sample) (rep : Option (List Byte)) (s : State),
    s.boot.held = false → s.inv = true → s.lsc.chans.rising = true → e < 65536 → rep = (takeResponse p.val (· == 0x82) s).1 →
    x = (match rep with | some bs => monRecOf bs | none => x0) →
    (s.portDriver? p.val = some d → c.val = 16 * d + x.chan % 16 → (∀ h, s.cfg.chanHead? c.val = some h → s.replaying h = false) →
      ((s.chanState c.val ≠ 2 ∧ s.chanState c.val ≠ 3 ∧ s.chanState c.val ≠ 5) ∨
          (s.chan c.val).expect = some e ∧ 32768 ≤ (x.seq + 65536 - e) % 65536 →
        ∀ s0, s0.turn (.monSample p x0) = s → ∃ t, exec (.monSample p x0) s0 = .next t ∧ t.lsc = s.lsc) ∧
      (s.chanState c.val = 2 → (s.chan c.val).expect = some e → x.seq = e → (s.chan c.val).points = pt :: r →
        (x.flags % 4 = 0 →
          sm = { chan := c.val, ts := pt.ts, tier := pt.tier, w4 := (s.chan c.val).codeAt pt.tier pt.ts, y1 := x.mon % 65536
                 y2 := x.aux % 4096, clk := s.stamp, gap := (s.chan c.val).missRun != 0 } →
          ∀ s0, s0.turn (.monSample p x0) = s → ∃ t, exec (.monSample p x0) s0 = .next t ∧
          t.chan c.val = { s.chan c.val with
            expect := some ((e + 1) % 65536), points := r, missRun := 0, lastSeq := e, lastMon := x.mon % 65536 } ∧
          t.lsc.queue = (if s.lsc.queue.length < 1280 then enqueue sm s.lsc.queue else s.lsc.queue) ∧
          (∀ k, k ≠ c.val → t.chan k = s.chan k)) ∧
        (x.flags % 4 ≠ 0 → ∀ s0, s0.turn (.monSample p x0) = s → ∃ t, exec (.monSample p x0) s0 = .next t ∧ t.lsc.queue = s.lsc.queue ∧
          t.chan c.val = { s.chan c.val with
            expect := some ((e + 1) % 65536), points := r
            missRun := (s.chan c.val).missRun + (if pt.exp = true then 1 else 0)
            good := if pt.exp = true ∧ (s.chan c.val).cause ≠ 3 then 0 else (s.chan c.val).good })) ∧
      (s.chanState c.val = 3 → (s.chan c.val).expect = some e → x.seq = e → (s.chan c.val).points = pt :: r →
        x.flags % 4 ≠ 0 → pt.exp = true → 1 ≤ (s.chan c.val).missRun → ∀ s0, s0.turn (.monSample p x0) = s → ∃ t, exec (.monSample p x0) s0 = .next t ∧
          (t.chan c.val).state = 5 ∧ (t.chan c.val).cause = (if x.flags % 4 = 3 then 4 else 1) ∧ t.lsc.queue = s.lsc.queue ∧
          (t.cnt (Rg.LSC_CH_HOLD_CNT.at [c.val])).val = min cntMax ((s.cnt (Rg.LSC_CH_HOLD_CNT.at [c.val])).val + 1))) ∧
    ((s.chan c.val).points = [] ∨ (s.chanState c.val ≠ 2 ∧ s.chanState c.val ≠ 3 ∧ s.chanState c.val ≠ 5) →
      ∀ s0, s0.turn (.sampleArrivalTimeout c) = s → exec (.sampleArrivalTimeout c) s0 = .next s) ∧
    ((s.chan c.val).points = pt :: r → s.chanState c.val = 2 ∨ s.chanState c.val = 3 ∨ s.chanState c.val = 5 →
      ((s.now : Int) < pt.ts + s.chanLat c.val + 896 → ∀ s0, s0.turn (.sampleArrivalTimeout c) = s → exec (.sampleArrivalTimeout c) s0 = .next s) ∧
      ((pt.ts : Int) + s.chanLat c.val + 896 ≤ s.now → ∀ s0, s0.turn (.sampleArrivalTimeout c) = s → ∃ t, exec (.sampleArrivalTimeout c) s0 = .next t ∧ (t.chan c.val).points = r ∧
        (t.chan c.val).expect = (s.chan c.val).expect.map (fun n => (n + 1) % 65536) ∧
        (t.chan c.val).missRun = (s.chan c.val).missRun + (if pt.exp = true ∧ (s.chan c.val).expect.isSome = true then 1 else 0) ∧
        (t.chan c.val).state = (if s.chanState c.val = 3 ∧ pt.exp = true ∧ (s.chan c.val).expect.isSome = true ∧ 1 ≤ (s.chan c.val).missRun
          then 5 else (s.chan c.val).state) ∧ (∀ k, k ≠ c.val → t.chan k = s.chan k) ∧ t.lsc.queue = s.lsc.queue)) ∧
    ((∀ k < 4, ∃ j ∈ s.lsc.jobs, j.lane = k) ∨ s.nextSample = none → ∀ s0, s0.turn .sampleBoundary = s → exec .sampleBoundary s0 = .next s) ∧
    (l < 4 → (∀ j ∈ s.lsc.jobs, j.lane ≠ l) → (∀ k < l, ∃ j ∈ s.lsc.jobs, j.lane = k) → s.nextSample = some q →
      ∀ s0, s0.turn .sampleBoundary = s → ∃ t, exec .sampleBoundary s0 = .next t ∧ t.lsc.queue = s.lsc.queue.erase q ∧
      t.lsc.jobs = s.lsc.jobs ++ [{ q with lane := l }] ∧
      (∀ g ∈ classSRegs, t.inForce (g.at [q.chan]) = mix g.s (s.inForce (g.at [q.chan])) (s.rd g [q.chan])) ∧
      (∀ k, k ≠ q.chan → t.chan k = s.chan k) ∧
      (s.chanState q.chan = 2 → (t.chan q.chan).state = if bit (s.rd Rg.LSC_CH_CTL [q.chan]) 1 then 3 else 2) ∧
      (s.chanState q.chan = 3 → (t.chan q.chan).state = if bit (s.rd Rg.LSC_CH_CTL [q.chan]) 1 then 3 else 2) ∧
      (s.chanState q.chan = 2 → bit (s.rd Rg.LSC_CH_CTL [q.chan]) 1 = true → (t.chan q.chan).preset = List.range 8))

/-- The loop computation, HOLD and RAMP. LOOP_COMPUTE_COMMIT ends the channel's computation in its lane. In CLOSED and
before the issue deadline it stores the observer outputs of the sample's tier, forms the drive code from output 4 and
the integral part limited to 0 to UMAX, commits it as the tier's code, integrates output 5 when the code was not
limited, and presets z the first time after closing (R172, R173, R179); in CLOSED and past the deadline it commits
nothing and counts one missed deadline (R174); the sample that completes the run of following errors takes the channel
to HOLD with the codes in force kept, and commits nothing (R181, log entry 32); in OPEN it stores the outputs and
commits no code; in HOLD it changes neither contexts nor codes. HOLD_TIMER_EXPIRY takes a channel in HOLD to RAMP with
the codes then in force, and RAMP_STEP j of 20 lowers each by j twentieths; the twentieth excludes the channel and maps
it out (R183). In any other state the last two do nothing. -/
def Obligations.LoopComputation : Prop :=
  ∀ (c : Fin 256) (l : Fin 4) (q : Sample) (out : List Int) (ki : Int × Nat) (z0 u : Int) (s : State),
    s.boot.held = false → s.inv = true → s.lsc.chans.rising = true → (s.chan c.val).ctx.rising = true → s.unitsOut.rising = true →
    (s.lsc.jobs.find? (·.chan == c.val) = none → ∀ s0, s0.turn (.loopComputeCommit c l) = s → exec (.loopComputeCommit c l) s0 = .next s) ∧
    (s.lsc.jobs.find? (·.chan == c.val) = some q → q.lane ≠ l.val → ∀ s0, s0.turn (.loopComputeCommit c l) = s → exec (.loopComputeCommit c l) s0 = .next s) ∧
    (s.lsc.jobs.find? (·.chan == c.val) = some q → q.lane = l.val → out = s.loopOut q → ki = s.kiF c.val q.tier →
      (s.chanState c.val = 3 → s.followTrips c.val (out.getD 6 0) = true → ∀ s0, s0.turn (.loopComputeCommit c l) = s → ∃ t, exec (.loopComputeCommit c l) s0 = .next t ∧
        (t.chan c.val).state = 5 ∧ (t.chan c.val).cause = 3 ∧ (t.chan c.val).ctx = (s.chan c.val).ctx ∧
        ((s.chan c.val).codes.length = 8 → ∀ k < 8, (t.chan c.val).codes.getD k 0 =
          if k ∈ (s.chan c.val).pendingTiers s.now then (s.chan c.val).codeAt k s.now else (s.chan c.val).codes.getD k 0) ∧
        ((s.chan c.val).pendingTiers s.now = [] → t.wire = s.wire) ∧ t.lsc.jobs = s.lsc.jobs.eraseP (·.chan == c.val) ∧
        (t.cnt (Rg.LSC_CH_DL_CNT.at [c.val])).val = (if s.pastDeadline q = true
          then min cntMax ((s.cnt (Rg.LSC_CH_DL_CNT.at [c.val])).val + 1) else (s.cnt (Rg.LSC_CH_DL_CNT.at [c.val])).val)) ∧
      (s.chanState c.val = 3 → s.pastDeadline q = false → s.followTrips c.val (out.getD 6 0) = false →
        z0 = (if ki.1 = 0 then 0 else if (s.chan c.val).preset.contains q.tier then presetZ ki ((q.w4 : Int) - out.getD 4 0)
          else ((s.chan c.val).ctx.get {} q.tier).z) →
        u = clampI 0 (s.ff Rg.LSC_CH_UMAX [c.val] 17 0 : Nat) (out.getD 4 0 + integralPart ki z0) →
        ∀ s0, s0.turn (.loopComputeCommit c l) = s → ∃ t, exec (.loopComputeCommit c l) s0 = .next t ∧ t.lsc.jobs = s.lsc.jobs.eraseP (·.chan == c.val) ∧
          (t.chan c.val).codes = (s.chan c.val).codes.set q.tier u.toNat ∧
          ((t.chan c.val).ctx.get {} q.tier).x = out.take 4 ∧
          ((t.chan c.val).ctx.get {} q.tier).z =
            (if u = out.getD 4 0 + integralPart ki z0 ∧ (s.chan c.val).preset.contains q.tier = false ∧ ki.1 ≠ 0
              then sat48 (z0 + 256 * out.getD 5 0) else z0) ∧
          (∀ k, k ≠ q.tier → (t.chan c.val).ctx.get {} k = (s.chan c.val).ctx.get {} k) ∧
          (t.chan c.val).sat = decide (u ≠ out.getD 4 0 + integralPart ki z0) ∧ (t.chan c.val).aux = out.getD 7 0 ∧
          ∀ k, k ≠ c.val → t.chan k = s.chan k) ∧
      (s.chanState c.val = 3 → s.pastDeadline q = true → s.followTrips c.val (out.getD 6 0) = false →
        ∀ s0, s0.turn (.loopComputeCommit c l) = s → ∃ t, exec (.loopComputeCommit c l) s0 = .next t ∧
        t.chan c.val = { s.chan c.val with dl := true, sat := s.loopSat q, feRun := (t.chan c.val).feRun } ∧
        t.lsc.jobs = s.lsc.jobs.eraseP (·.chan == c.val) ∧ t.wire = s.wire ∧
        (t.cnt (Rg.LSC_CH_DL_CNT.at [c.val])).val = min cntMax ((s.cnt (Rg.LSC_CH_DL_CNT.at [c.val])).val + 1)) ∧
      (s.chanState c.val = 2 → ∀ s0, s0.turn (.loopComputeCommit c l) = s → ∃ t, exec (.loopComputeCommit c l) s0 = .next t ∧ (t.chan c.val).codes = (s.chan c.val).codes ∧
        ((t.chan c.val).ctx.get {} q.tier).x = out.take 4 ∧
        ((t.chan c.val).ctx.get {} q.tier).z = (if ki.1 = 0 then 0 else ((s.chan c.val).ctx.get {} q.tier).z) ∧ t.wire = s.wire) ∧
      (s.chanState c.val = 5 → ∀ s0, s0.turn (.loopComputeCommit c l) = s → ∃ t, exec (.loopComputeCommit c l) s0 = .next t ∧ (t.chan c.val).codes = (s.chan c.val).codes ∧
        (t.chan c.val).ctx = (s.chan c.val).ctx ∧ t.wire = s.wire)) ∧
    (s.chanState c.val ≠ 5 → ∀ s0, s0.turn (.holdTimerExpiry c) = s → exec (.holdTimerExpiry c) s0 = .next s) ∧
    (s.chanState c.val = 5 → ∀ s0, s0.turn (.holdTimerExpiry c) = s → ∃ t, exec (.holdTimerExpiry c) s0 = .next t ∧ (t.chan c.val).state = 6 ∧ (t.chan c.val).ramp = 0 ∧
      (t.chan c.val).uHold = (s.chan c.val).codesAt s.now ∧ ∀ k, k ≠ c.val → t.chan k = s.chan k) ∧
    (s.chanState c.val ≠ 6 → ∀ s0, s0.turn (.rampStep c) = s → exec (.rampStep c) s0 = .next s) ∧
    (s.chanState c.val = 6 → ∀ s0, s0.turn (.rampStep c) = s → ∃ t, exec (.rampStep c) s0 = .next t ∧ (t.chan c.val).ramp = (s.chan c.val).ramp + 1 ∧
      ((s.chan c.val).codes.length = 8 → (s.chan c.val).uHold.length = 8 → ∀ k < 8, (t.chan c.val).codes.getD k 0 =
        (((s.chan c.val).uHold.getD k 0 * (20 - ((s.chan c.val).ramp + 1)) + 10) / 20)) ∧
      ((s.chan c.val).ramp + 1 < 20 → (t.chan c.val).state = 6) ∧
      (20 ≤ (s.chan c.val).ramp + 1 → (t.chan c.val).state = 7 ∧ (t.outUnits 13).contains c.val = true))

/-- Channels and the engine of the light loops. A CHANNEL_ENABLE that takes effect opens a channel in OFF while the engine
runs, and moves no other channel; CHANNEL_DISABLE takes a channel that is neither UNUSED, OFF nor EXCLUDED to OFF,
with every context and drive code reset and its samples dropped; CHANNEL_RESTORE returns an EXCLUDED channel to OFF
and to service when its head is OFF or in HOLD and the cause is not CALIBRATION, and leaves it EXCLUDED otherwise
(R178, R186); with en set it opens again while the engine runs. DRIVE_WRITE of a channel in OPEN sends the code for its tier; in any other state it is an invalid write
(R191). ENGINE_START from READY asks for a grant, ENGINE_STOP withdraws the request or gives the grant back and takes
every channel to OFF, ENGINE_GRANT starts the engine and opens the channels in OFF whose en is set, and
ENGINE_GRANT_REFUSAL ends the wait (R178, R188). -/
def Obligations.LoopChannels : Prop :=
  ∀ (src : Source) (c : Fin 256) (k : Fin 8) (v : Word) (r : Nat) (s s1 u : State), s.inv = true → s.lsc.chans.rising = true →
    (s.takes src (Rg.LSC_CH_CTL.at [c.val]) = true →
      (bit v 8 = false → ∀ s0, s0.turn (.channelEnable src c v) = s → ∃ t, exec (.channelEnable src c v) s0 = .next t ∧ bit (t.rd Rg.LSC_CH_CTL [c.val]) 0 = true ∧
        (t.chan c.val).state = (if s.chanState c.val = 1 ∧ s.lsc.eng = 2 then 2 else (s.chan c.val).state) ∧
        (t.chan c.val).codes = (s.chan c.val).codes ∧ (∀ j, j ≠ c.val → t.chan j = s.chan j) ∧ t.wire = s.wire) ∧
      (bit v 8 = false → ∀ s0, s0.turn (.channelDisable src c v) = s → ∃ t, exec (.channelDisable src c v) s0 = .next t ∧ bit (t.rd Rg.LSC_CH_CTL [c.val]) 0 = false ∧
        (∀ j, j ≠ c.val → t.chan j = s.chan j) ∧
        (s.chanState c.val = 0 ∨ s.chanState c.val = 1 ∨ s.chanState c.val = 7 → (t.chan c.val).state = (s.chan c.val).state ∧ t.wire = s.wire) ∧
        (2 ≤ s.chanState c.val → s.chanState c.val < 7 → (t.chan c.val).state = 1 ∧ (t.chan c.val).ctx = [] ∧
          (∀ x ∈ t.lsc.queue ++ t.lsc.jobs, x.chan ≠ c.val) ∧ ∀ j < 8, (t.chan c.val).codes.getD j 0 = 0)) ∧
      (s.chanState c.val = 7 → s.unitsOut.rising = true →
        ((s.chan c.val).cause ≠ 5 → (∃ h, s.cfg.chanHead? c.val = some h ∧ ((s.hd h).state = 1 ∨ (s.hd h).state = 3)) →
          (s.outUnits 13).Nodup → ∀ s0, s0.turn (.channelRestore src c v) = s → ∃ t, exec (.channelRestore src c v) s0 = .next t ∧
            (t.chan c.val).state = (if bit v 0 = true ∧ s.lsc.eng = 2 then 2 else 1) ∧
            (t.outUnits 13).contains c.val = false ∧ ∀ j, j ≠ c.val → t.chan j = s.chan j) ∧
        ((s.chan c.val).cause = 5 ∨ (∀ h, s.cfg.chanHead? c.val = some h → (s.hd h).state ≠ 1 ∧ (s.hd h).state ≠ 3) →
          ∀ s0, s0.turn (.channelRestore src c v) = s → ∃ t, exec (.channelRestore src c v) s0 = .next t ∧ (t.chan c.val).state = 7 ∧ t.unitsOut = s.unitsOut ∧
            t.mgt.fresh.getLast?.map (fun x => (x.sub, x.kind, x.unit)) = some (13, 6, c.val)))) ∧
    (s.takes src (Rg.LSC_CH_DRIVE.at [c.val, k.val]) = true → u = recReg src (Rg.LSC_CH_DRIVE.at [c.val, k.val]) v s →
      (s.chanState c.val ≠ 2 → ∀ s0, s0.turn (.driveWrite src c k v) = s → exec (.driveWrite src c k v) s0 = .next (invalidWrite (Rg.LSC_CH_DRIVE.at [c.val, k.val]) u)) ∧
      (s.chanState c.val = 2 → ∀ s0, s0.turn (.driveWrite src c k v) = s → ∃ t, exec (.driveWrite src c k v) s0 = .next t ∧
        t.chan c.val = { s.chan c.val with
          sent := (s.chan c.val).sent ++ [{ tier := k.val, t := s.ahead (s.chanLat c.val + 768), code := fld v 17 0 }]
          codes := (s.chan c.val).codes.set k.val (fld v 17 0), frameCodes := (s.chan c.val).frameCodes ++ [fld v 17 0] } ∧
        ∀ j, j ≠ c.val → t.chan j = s.chan j)) ∧
    (s.takes src Rg.LSC_CTL.at = true →
      (s.boot.stage = 5 → s.lsc.eng = 0 → ∀ s0, s0.turn (.engineStart src) = s → ∃ t, exec (.engineStart src) s0 = .next t ∧ t.lsc = { s.lsc with eng := 1 } ∧
        (t.pwg.queue.length = s.pwg.queue.length + 1 ∨ t.pwg.refused.length = s.pwg.refused.length + 1) ∧
        bit (t.rd Rg.LSC_CTL) 0 = true ∧
        t = { s with regs := t.regs, lsc := t.lsc, pwg := t.pwg, counters := t.counters, mgt := { s.mgt with fresh := t.mgt.fresh } }) ∧
      (s.boot.stage = 5 → s.lsc.eng ≠ 0 → ∀ s0, s0.turn (.engineStart src) = s → ∃ t, exec (.engineStart src) s0 = .next t ∧ t = { s with regs := t.regs }) ∧
      (s.lsc.eng = 1 → ∀ s0, s0.turn (.engineStop src) = s → ∃ t, exec (.engineStop src) s0 = .next t ∧ t.lsc = { s.lsc with eng := 0 } ∧
        t.pwg.queue = dropReq 4 0 s.pwg.queue ∧ t.pwg.decided = dropReq 4 0 s.pwg.decided ∧ t.pwg.ramped = dropReq 4 0 s.pwg.ramped ∧
        t = { s with regs := t.regs, lsc := t.lsc, pwg := t.pwg }) ∧
      (s.lsc.eng = 2 → ∀ s0, s0.turn (.engineStop src) = s → ∃ t, exec (.engineStop src) s0 = .next t ∧ t.lsc.eng = 0 ∧
        t.pwg = { s.pwg with held := dropReq 4 0 s.pwg.held } ∧
        ∀ j < 256, s.chanState j ≠ 0 → (t.chan j).state = if s.chanState j = 7 then 7 else 1)) ∧
    (s.boot.held = false → (s.lsc.eng ≠ 1 → exec .engineGrant s = .next s ∧ exec .engineGrantRefusal s = .next s) ∧
      (s.lsc.eng = 1 → takeGrant 4 0 s = some s1 → ∃ t, exec .engineGrant s = .next t ∧
        t = { s with pwg := s1.pwg, lsc := { s.lsc with eng := 2, chans := t.lsc.chans } } ∧
        ∀ j < 256, (t.chan j).state = (if s.chanState j = 1 ∧ bit (s.rd Rg.LSC_CH_CTL [j]) 0 = true then 2 else (s.chan j).state) ∧
          (t.chan j).codes = (s.chan j).codes ∧ (t.chan j).ctx = (s.chan j).ctx) ∧
      (s.lsc.eng = 1 → takeRefusal 4 0 s = some (r, s1) → exec .engineGrantRefusal s = .next (raiseRefusal 13 noUnit Rg.LSC_STATUS.at r 0 { s with
        pwg := s1.pwg, lsc := { s.lsc with eng := 0, reason := r } })))

/-- The colorimetric outer loop. A SENSOR_REPLY that its head's outer sample awaits gives its slot an outcome: fresh with
status 0 and a new number, with the four codes; stale with anything else; no reply at all is stale with state 3
(R196); one that is not awaited changes nothing. When every reply is in, and at OUTER_READ_WINDOW_EXPIRY at the
latest, the sample is computed and nothing is awaited any more (R197). A mode write that takes effect on a mirror head
stores the mode; DIRECT enters phase 0; MANUAL enters phase 1 and from AUTO takes over q as the manual factors; AUTO
takes q from the manual factors within its limits and enters FAST from DIRECT and MANUAL (log entry 53); OUTER_TEST in SLOW goes back to
FAST (R201, R202). The next outer sample is the first after it. On another head these writes do nothing. -/
def Obligations.OuterLoop : Prop :=
  ∀ (src : Source) (k : Fin 8) (h : Fin 4) (v : Word) (bs : List Byte) (s : State), s.inv = true →
    s.lsc.slots.rising = true → s.lsc.outer.rising = true → s.lsc.groups.rising = true →
    (s.boot.held = false → h.val = s.fd Rg.LSC_S_CFG [k.val] 29 28 →
      (s.replaying h.val = true ∨ (s.outerOf h.val).waiting = false ∨ (s.outerOf h.val).asked.contains k.val = false →
        (∀ s0, s0.turn (.sensorReply k none) = s → exec (.sensorReply k none) s0 = .next s) ∧ ∀ s0, s0.turn (.sensorReply k (some bs)) = s → exec (.sensorReply k (some bs)) s0 = .next s) ∧
      (s.replaying h.val = false → (s.outerOf h.val).waiting = true → (s.outerOf h.val).asked.contains k.val = true →
        (∀ s0, s0.turn (.sensorReply k none) = s → ∃ t, exec (.sensorReply k none) s0 = .next t ∧ t.slot k.val = { s.slot k.val with
          stale := min 255 ((s.slot k.val).stale + 1), state := 3 } ∧ ∀ j, j ≠ k.val → t.slot j = s.slot j) ∧
        (∀ s0, s0.turn (.sensorReply k (some bs)) = s → ∃ t, exec (.sensorReply k (some bs)) s0 = .next t ∧ (∀ j, j ≠ k.val → t.slot j = s.slot j) ∧
          (bs.getD 0 0 = 0 → (s.slot k.val).seq ≠ some (bs.getD 1 0).toNat → t.slot k.val = {
            status := 0, seq := some (bs.getD 1 0).toNat, stale := 0, state := 1
            codes := (List.range 4).map fun j => (bs.getD (2 * j + 2) 0).toNat + 256 * (bs.getD (2 * j + 3) 0).toNat }) ∧
          (bs.getD 0 0 ≠ 0 ∨ (s.slot k.val).seq = some (bs.getD 1 0).toNat → t.slot k.val = { s.slot k.val with
            status := (bs.getD 0 0).toNat, stale := min 255 ((s.slot k.val).stale + 1), state := 2 }) ∧
          ((s.outerOf h.val).asked = [k.val] → (t.outerOf h.val).waiting = false ∧ (t.outerOf h.val).asked = []) ∧
          ((s.outerOf h.val).asked.erase k.val ≠ [] → (t.outerOf h.val).waiting = true ∧
            (t.outerOf h.val).asked = (s.outerOf h.val).asked.erase k.val)))) ∧
    (s.boot.held = false → ((s.outerOf h.val).waiting = false → ∀ s0, s0.turn (.outerReadWindowExpiry h) = s → exec (.outerReadWindowExpiry h) s0 = .next s) ∧
      ((s.outerOf h.val).waiting = true → ∀ s0, s0.turn (.outerReadWindowExpiry h) = s → ∃ t, exec (.outerReadWindowExpiry h) s0 = .next t ∧ (t.outerOf h.val).waiting = false ∧
        (t.outerOf h.val).asked = [] ∧ (∀ j ∈ (s.outerOf h.val).asked, (t.slot j).state = 3) ∧
        ∀ j, (s.outerOf h.val).asked.contains j = false → t.slot j = s.slot j)) ∧
    (s.takes src (Rg.LSC_O_CTL.at [h.val]) = true →
      (s.mirror h.val = false → ∀ s0, s0.turn (.outerModeDirect src h v) = s → ∃ t, exec (.outerModeDirect src h v) s0 = .next t ∧ t.regs = s.regs ∧ t.lsc = s.lsc) ∧
      (s.mirror h.val = true →
        (∀ s0, s0.turn (.outerModeDirect src h v) = s → ∃ t, exec (.outerModeDirect src h v) s0 = .next t ∧ t.fd Rg.LSC_O_CTL [h.val] 1 0 = 0 ∧ (t.outerOf h.val).phase = 0 ∧
          (t.outerOf h.val).waiting = false ∧ (t.outerOf h.val).since = none ∧ t.lsc.groups = s.lsc.groups) ∧
        (∀ s0, s0.turn (.outerModeManual src h v) = s → ∃ t, exec (.outerModeManual src h v) s0 = .next t ∧ t.fd Rg.LSC_O_CTL [h.val] 1 0 = 1 ∧ (t.outerOf h.val).phase = 1 ∧
          (t.outerOf h.val).since = none ∧ t.lsc.groups = s.lsc.groups ∧
          (2 ≤ (s.outerOf h.val).phase → ∀ g < 16, s.cfg.groupHead? g = some h.val → g < s.cfg.laser.groups.length →
            t.fd Rg.LSC_G_MAN [g] 19 0 = (s.grp g).q % 2 ^ 20) ∧
          ((s.outerOf h.val).phase ≤ 1 → ∀ g < 16, t.rd Rg.LSC_G_MAN [g] = s.rd Rg.LSC_G_MAN [g])) ∧
        (∀ s0, s0.turn (.outerModeAuto src h v) = s → ∃ t, exec (.outerModeAuto src h v) s0 = .next t ∧ t.fd Rg.LSC_O_CTL [h.val] 1 0 = 2 ∧ (t.outerOf h.val).since = none ∧
          ((s.outerOf h.val).phase ≤ 1 → (t.outerOf h.val).phase = 2 ∧ (t.outerOf h.val).settled = 0) ∧
          (∀ g ∈ s.headGroups h.val, (t.grp g).q = s.clampQ h.val (s.fd Rg.LSC_G_MAN [g] 19 0)) ∧
          (2 ≤ (s.outerOf h.val).phase → bit v 4 = false → (t.outerOf h.val).phase = (s.outerOf h.val).phase)) ∧
        (fld v 1 0 = 2 → (s.outerOf h.val).phase = 3 → ∀ s0, s0.turn (.outerTest src h v) = s → ∃ t, exec (.outerTest src h v) s0 = .next t ∧ bit (t.rd Rg.LSC_O_CTL [h.val]) 4 = true ∧
          (t.outerOf h.val).phase = 2 ∧ (t.outerOf h.val).settled = 0 ∧ bit (t.rd Rg.LSC_O_FLAGS [h.val]) 2 = true ∧
          ∀ g ∈ s.headGroups h.val, (t.grp g).q = s.clampQ h.val (s.fd Rg.LSC_G_MAN [g] 19 0))))

/-- The bring-up limits and drop-outs of a lane. Far-end termination takes a lane from DETECT to TRAIN, unless it waits
after a failed attempt (R243, R245). DETECT_TIMEOUT, TRAIN_TIMEOUT and SYNC_TIMEOUT in their states fail the attempt
with their cause: the first two failures lead to DETECT with the 1 ms wait, the third to FAILED, which maps the lane
out (R244). ATTEMPT_WAIT_END ends the wait. LANE_DROPOUT in an active receive direction and LANE_WAKE_TIMEOUT of a
waking one set the drop-out flag and send the lane to RECOVER while its recovery budget stays below rec_lim, and to
FAILED otherwise; RECOVER_TIMEOUT fails the lane; RECOVER_BUDGET_DECAY takes 1 off the budget (R250, R251). LANE_WAKE
starts the wake of a quiet or dormant lane (R249), and LOOPBACK_SIGNAL_LOSS ends a loopback (R255). In any other state
each of them does nothing. No other lane changes its state, and nothing outside the lanes, their ports and
calibrations and the boot's progress changes. -/
def Obligations.LaneLimits : Prop :=
  ∀ (n : Fin 96) (term : Bool) (l : Lane) (s : State), s.boot.held = false → s.inv = true → l = s.lane n.val →
    (∀ c, c ∈ [Instr.detectTest n term, .detectTimeout n, .trainTimeout n, .syncTimeout n, .attemptWaitEnd n, .recoverTimeout n,
        .recoverBudgetDecay n, .laneDropout n, .laneWake n, .laneWakeTimeout n, .loopbackSignalLoss n] →
      ∀ s0, s0.turn c = s → ∃ t, exec c s0 = .next t ∧ s.laneFrame t ∧ ∀ k, k ≠ n.val → (t.lane k).state = (s.lane k).state) ∧
    (∀ s0, s0.turn (.attemptWaitEnd n) = s → exec (.attemptWaitEnd n) s0 = .next (if l.state = 2 then s.setLane n.val { l with waiting := false } else s)) ∧
    exec (.recoverBudgetDecay n) s = .next (s.setLane n.val { l with budget := l.budget - 1 }) ∧
    (l.state ≠ 2 ∨ l.waiting = true ∨ term = false → ∀ s0, s0.turn (.detectTest n term) = s → exec (.detectTest n term) s0 = .next s) ∧
    (l.state = 2 → l.waiting = false → ∀ s0, s0.turn (.detectTest n true) = s → ∃ t, exec (.detectTest n true) s0 = .next t ∧ (t.lane n.val).state = 3 ∧
      (t.lane n.val).commaLock = false ∧ (t.lane n.val).commaRun = 0 ∧ (t.lane n.val).attempts = l.attempts) ∧
    (∀ c st cause, (c, st, cause) ∈ [(Instr.detectTimeout n, 2, 1), (.trainTimeout n, 3, 2), (.syncTimeout n, 4, 3)] →
      (l.state ≠ st ∨ (st = 2 ∧ l.waiting = true) → ∀ s0, s0.turn c = s → exec c s0 = .next s) ∧
      (l.state = st → (st = 2 → l.waiting = false) → l.attempts < 2 → ∀ s0, s0.turn c = s → ∃ t, exec c s0 = .next t ∧ (t.lane n.val).state = 2 ∧
        (t.lane n.val).waiting = true ∧ (t.lane n.val).attempts = l.attempts + 1 ∧ (t.lane n.val).cause = cause) ∧
      (l.state = st → (st = 2 → l.waiting = false) → 2 ≤ l.attempts → ∀ s0, s0.turn c = s → ∃ t, exec c s0 = .next t ∧ (t.lane n.val).state = 8 ∧
        (t.lane n.val).cause = cause ∧ (t.outUnits 4).contains n.val = true)) ∧
    (∀ c on, (c, on) ∈ [(Instr.laneDropout n, l.rxPm == 0), (.laneWakeTimeout n, l.waking)] →
      (l.state ≠ 5 ∨ on = false → ∀ s0, s0.turn c = s → exec c s0 = .next s) ∧
      (l.state = 5 → on = true → l.budget + 1 < s.recLim → ∀ s0, s0.turn c = s → ∃ t, exec c s0 = .next t ∧ (t.lane n.val).state = 6 ∧
        (t.lane n.val).phase = 0 ∧ (t.lane n.val).budget = l.budget + 1 ∧ bit (t.rd Rg.LNE_L_FLAGS [n.val]) 0 = true) ∧
      (l.state = 5 → on = true → s.recLim ≤ l.budget + 1 → ∀ s0, s0.turn c = s → ∃ t, exec c s0 = .next t ∧ (t.lane n.val).state = 8 ∧
        (t.lane n.val).cause = 6 ∧ bit (t.rd Rg.LNE_L_FLAGS [n.val]) 0 = true ∧ bit (t.rd Rg.LNE_L_FLAGS [n.val]) 2 = true ∧
        (t.outUnits 4).contains n.val = true)) ∧
    (l.state ≠ 6 → ∀ s0, s0.turn (.recoverTimeout n) = s → exec (.recoverTimeout n) s0 = .next s) ∧
    (l.state = 6 → ∀ s0, s0.turn (.recoverTimeout n) = s → ∃ t, exec (.recoverTimeout n) s0 = .next t ∧ (t.lane n.val).state = 8 ∧ (t.lane n.val).cause = 5 ∧
      bit (t.rd Rg.LNE_L_FLAGS [n.val]) 2 = true ∧ (t.outUnits 4).contains n.val = true) ∧
    (l.state ≠ 5 ∨ l.rxPm = 0 → ∀ s0, s0.turn (.laneWake n) = s → exec (.laneWake n) s0 = .next s) ∧
    (l.state = 5 → l.rxPm ≠ 0 → ∀ s0, s0.turn (.laneWake n) = s → exec (.laneWake n) s0 = .next (s.setLane n.val { l with
      waking := true, commaRun := 0, commaLock := l.rxPm == 1, ownRun := 0, hdrRun := 0, blkLock := false, idleRun := 0, trainRun := 0 })) ∧
    (l.state ≠ 7 ∨ l.test ≠ 3 ∨ l.looping = false → ∀ s0, s0.turn (.loopbackSignalLoss n) = s → exec (.loopbackSignalLoss n) s0 = .next s) ∧
    (l.state = 7 → l.test = 3 → l.looping = true → ∀ s0, s0.turn (.loopbackSignalLoss n) = s → ∃ t, exec (.loopbackSignalLoss n) s0 = .next t ∧ (t.lane n.val).state = 1)

/-- What arrives on a lane. A TRAIN, IDLE or LANE_PM block is a control block; lanes in OFF, DETECT and FAILED and a
sleeping receiver that is not waking take no block. In TRAIN, the 64th TRAIN block in a row gives comma lock, a block
that is none starts the run again, the 16th ready block with the own index leads to SYNC, and the 64th with a foreign
index fails the attempt with cause 4 (R243, R245). In SYNC, 64 valid headers in a row give block lock, an invalid one
loses it and is counted, the 16th correct IDLE block leads to ACTIVE, and the 4th TRAIN block in a row to RECOVER
(R246). In ACTIVE, the 16th invalid header in 1,024 blocks is a drop-out, the 4th TRAIN block in a row leads to
RECOVER, a data block counts in the window of a tracker that is enabled (R247, R250), and after the second LANE_PM block in a row with
one code electrical idle takes the receiver to that power state; 64 valid headers end a wake from quiet (R249). A
running eye scan counts 66 bits a block and completes at 2^dwell (R254). TRACKER_WINDOW_END freezes the trim when
fewer than 4,096 blocks counted, moves it by one step within −32 to 31 when the threshold is exceeded, and sets a flag
in place of a step beyond that range (R247). -/
def Obligations.LaneBlocks : Prop :=
  ∀ (n : Fin 96) (hdr : Fin 4) (raw : BitVec 64) (e plain bad : Nat) (d : Int) (l : Lane) (s : State), s.boot.held = false → s.inv = true →
    l = s.lane n.val → plain = (descramble l.scr raw.toNat).1 → bad = (l.badHdrs.filter fun k => decide (k < 1023)).length →
    d = (l.winOnes : Int) - 32 * l.winN →
    (∀ c, c ∈ [Instr.dataBlockReceive n hdr raw e, .trainBlockReceive n raw, .idleBlockReceive n raw, .lanePmReceive n raw true,
        .lanePmReceive n raw false, .trackerWindowEnd n, .eyeScanComplete n e] →
      ∀ s0, s0.turn c = s → ∃ t, exec c s0 = .next t ∧ s.laneFrame t ∧ ∀ k, k ≠ n.val → (t.lane k).state = (s.lane k).state) ∧
    (l.eyeBusy = false ∨ l.rxPm ≠ 0 → (∀ s0, s0.turn (.trainBlockReceive n raw) = s → exec (.trainBlockReceive n raw) s0 = exec (.dataBlockReceive n 2 raw 0) s0) ∧
      (∀ s0, s0.turn (.idleBlockReceive n raw) = s → exec (.idleBlockReceive n raw) s0 = exec (.dataBlockReceive n 2 raw 0) s0) ∧
      ∀ s0, s0.turn (.lanePmReceive n raw false) = s → exec (.lanePmReceive n raw false) s0 = exec (.dataBlockReceive n 2 raw 0) s0) ∧
    (l.state = 3 → l.eyeBusy = false → l.badIdxRun < 64 → l.readyRun < 16 → l.commaLock = false → isTrain raw.toNat = true → l.commaRun = 63 →
      ∀ s0, s0.turn (.trainBlockReceive n raw) = s → ∃ t, exec (.trainBlockReceive n raw) s0 = .next t ∧ (t.lane n.val).state = 3 ∧ (t.lane n.val).commaLock = true) ∧
    (l.state = 4 → l.eyeBusy = false → isTrain raw.toNat = false → plain = 0x1E → l.blkLock = true → 15 ≤ l.idleRun →
      ∀ s0, s0.turn (.idleBlockReceive n raw) = s → ∃ t, exec (.idleBlockReceive n raw) s0 = .next t ∧ (t.lane n.val).state = 5) ∧
    (l.state < 3 ∨ l.state = 8 ∨ (l.state = 5 ∧ l.rxPm ≠ 0 ∧ l.waking = false) → ∀ s0, s0.turn (.dataBlockReceive n hdr raw e) = s → exec (.dataBlockReceive n hdr raw e) s0 = .next s) ∧
    (l.state = 3 → l.eyeBusy = false → l.badIdxRun < 64 → l.readyRun < 16 → l.commaLock = false →
      (hdr.val = 2 → isTrain raw.toNat = true → l.commaRun = 63 → ∀ s0, s0.turn (.dataBlockReceive n hdr raw e) = s → ∃ t, exec (.dataBlockReceive n hdr raw e) s0 = .next t ∧
        (t.lane n.val).state = 3 ∧ (t.lane n.val).commaLock = true) ∧
      (hdr.val ≠ 2 ∨ isTrain raw.toNat = false → ∀ s0, s0.turn (.dataBlockReceive n hdr raw e) = s → ∃ t, exec (.dataBlockReceive n hdr raw e) s0 = .next t ∧
        (t.lane n.val).state = 3 ∧ (t.lane n.val).commaLock = false ∧ (t.lane n.val).commaRun = 0)) ∧
    (l.state = 3 → l.eyeBusy = false → l.commaLock = true → hdr.val = 2 → isTrain raw.toNat = true →
      (bitsOf raw.toNat 59 56 = s.laneIdx n.val → bitsOf raw.toNat 54 48 = 1 → 15 ≤ l.readyRun →
        ∀ s0, s0.turn (.dataBlockReceive n hdr raw e) = s → ∃ t, exec (.dataBlockReceive n hdr raw e) s0 = .next t ∧ (t.lane n.val).state = 4 ∧ (t.lane n.val).blkLock = false ∧
          (t.lane n.val).hdrRun = 0) ∧
      (bitsOf raw.toNat 59 56 ≠ s.laneIdx n.val → 63 ≤ l.badIdxRun → l.attempts < 2 →
        ∀ s0, s0.turn (.dataBlockReceive n hdr raw e) = s → ∃ t, exec (.dataBlockReceive n hdr raw e) s0 = .next t ∧ (t.lane n.val).state = 2 ∧ (t.lane n.val).waiting = true ∧
          (t.lane n.val).cause = 4 ∧ (t.lane n.val).attempts = l.attempts + 1)) ∧
    (l.state = 4 → l.eyeBusy = false →
      (hdr.val = 2 → isTrain raw.toNat = false → plain = 0x1E → l.blkLock = true → 15 ≤ l.idleRun →
        ∀ s0, s0.turn (.dataBlockReceive n hdr raw e) = s → ∃ t, exec (.dataBlockReceive n hdr raw e) s0 = .next t ∧ (t.lane n.val).state = 5) ∧
      (hdr.val = 1 ∨ hdr.val = 2 → l.blkLock = false → l.hdrRun = 63 → l.trainRun < 3 →
        ∀ s0, s0.turn (.dataBlockReceive n hdr raw e) = s → ∃ t, exec (.dataBlockReceive n hdr raw e) s0 = .next t ∧ (t.lane n.val).state = 4 ∧ (t.lane n.val).blkLock = true) ∧
      (hdr.val = 0 ∨ hdr.val = 3 → ∀ s0, s0.turn (.dataBlockReceive n hdr raw e) = s → ∃ t, exec (.dataBlockReceive n hdr raw e) s0 = .next t ∧ (t.lane n.val).state = 4 ∧
        (t.lane n.val).blkLock = false ∧ (t.lane n.val).hdrRun = 0 ∧
        (t.cnt (Rg.LNE_L_HDR_ERR_CNT.at [n.val])).val = min cntMax ((s.cnt (Rg.LNE_L_HDR_ERR_CNT.at [n.val])).val + 1)) ∧
      (hdr.val = 2 → isTrain raw.toNat = true → 3 ≤ l.trainRun → l.budget + 1 < s.recLim →
        ∀ s0, s0.turn (.dataBlockReceive n hdr raw e) = s → ∃ t, exec (.dataBlockReceive n hdr raw e) s0 = .next t ∧ (t.lane n.val).state = 6 ∧ (t.lane n.val).budget = l.budget + 1)) ∧
    (l.state = 5 → l.eyeBusy = false → l.rxPm = 0 →
      (hdr.val = 0 ∨ hdr.val = 3 → 15 ≤ bad → l.budget + 1 < s.recLim → ∀ s0, s0.turn (.dataBlockReceive n hdr raw e) = s → ∃ t, exec (.dataBlockReceive n hdr raw e) s0 = .next t ∧
        (t.lane n.val).state = 6 ∧ (t.lane n.val).budget = l.budget + 1 ∧ bit (t.rd Rg.LNE_L_FLAGS [n.val]) 0 = true) ∧
      (hdr.val = 1 → bad < 16 → ∀ s0, s0.turn (.dataBlockReceive n hdr raw e) = s → ∃ t, exec (.dataBlockReceive n hdr raw e) s0 = .next t ∧ (t.lane n.val).state = 5 ∧
        (t.lane n.val).winN = (if bit (s.rd Rg.LNE_TRK_CTL) 8 = true then l.winN + 1 else 0) ∧
        (t.lane n.val).winOnes = (if bit (s.rd Rg.LNE_TRK_CTL) 8 = true then l.winOnes + popCount 64 raw.toNat else 0)) ∧
      (hdr.val = 2 → isTrain raw.toNat = true → 3 ≤ l.trainRun → bad < 16 → l.budget + 1 < s.recLim →
        ∀ s0, s0.turn (.dataBlockReceive n hdr raw e) = s → ∃ t, exec (.dataBlockReceive n hdr raw e) s0 = .next t ∧ (t.lane n.val).state = 6 ∧ (t.lane n.val).budget = l.budget + 1) ∧
      (isTrain raw.toNat = false → bitsOf plain 7 0 = 0x55 → bitsOf plain 15 8 = 1 ∨ bitsOf plain 15 8 = 2 → bad < 16 →
        (l.pmCode = bitsOf plain 15 8 → 1 ≤ l.pmRun → ∀ s0, s0.turn (.lanePmReceive n raw true) = s → ∃ t, exec (.lanePmReceive n raw true) s0 = .next t ∧
          (t.lane n.val).state = 5 ∧ (t.lane n.val).rxPm = bitsOf plain 15 8) ∧
        (∀ s0, s0.turn (.lanePmReceive n raw false) = s → ∃ t, exec (.lanePmReceive n raw false) s0 = .next t ∧ (t.lane n.val).state = 5 ∧ (t.lane n.val).rxPm = 0 ∧
          (t.lane n.val).pmCode = bitsOf plain 15 8 ∧
          (t.lane n.val).pmRun = if l.pmCode = bitsOf plain 15 8 then l.pmRun + 1 else 1))) ∧
    (l.state = 5 → l.rxPm = 1 → l.waking = true → l.hdrRun = 63 → hdr.val = 1 ∨ hdr.val = 2 →
      ∀ s0, s0.turn (.dataBlockReceive n hdr raw e) = s → ∃ t, exec (.dataBlockReceive n hdr raw e) s0 = .next t ∧ (t.lane n.val).rxPm = 0 ∧ (t.lane n.val).waking = false) ∧
    (l.state = 5 → l.eyeBusy = true → l.rxPm = 0 → hdr.val = 1 → bad < 16 →
      (s.cnt (Rg.LNE_L_EYE_BITS.at [n.val])).val + 66 < 2 ^ s.fd Rg.LNE_L_EYE_CTL [n.val] 29 24 →
      ∀ s0, s0.turn (.dataBlockReceive n hdr raw e) = s → ∃ t, exec (.dataBlockReceive n hdr raw e) s0 = .next t ∧ (t.lane n.val).eyeBusy = true ∧
        (t.cnt (Rg.LNE_L_EYE_BITS.at [n.val])).val = min cntMax ((s.cnt (Rg.LNE_L_EYE_BITS.at [n.val])).val + 66) ∧
        (t.cnt (Rg.LNE_L_EYE_ERR.at [n.val])).val = min cntMax ((s.cnt (Rg.LNE_L_EYE_ERR.at [n.val])).val + min e 66)) ∧
    (l.eyeBusy = false ∨ l.rxPm ≠ 0 → ∀ s0, s0.turn (.eyeScanComplete n e) = s → exec (.eyeScanComplete n e) s0 = .next s) ∧
    (l.eyeBusy = true → l.rxPm = 0 → 2 ^ s.fd Rg.LNE_L_EYE_CTL [n.val] 29 24 ≤ cntMax →
      (s.cnt (Rg.LNE_L_EYE_BITS.at [n.val])).val ≤ 2 ^ s.fd Rg.LNE_L_EYE_CTL [n.val] 29 24 →
      ∀ s0, s0.turn (.eyeScanComplete n e) = s → ∃ t, exec (.eyeScanComplete n e) s0 = .next t ∧ (t.lane n.val).eyeBusy = false ∧ (t.lane n.val).eyeDone = true ∧
        (t.cnt (Rg.LNE_L_EYE_BITS.at [n.val])).val = 2 ^ s.fd Rg.LNE_L_EYE_CTL [n.val] 29 24 ∧
        (t.cnt (Rg.LNE_L_EYE_ERR.at [n.val])).val = min cntMax ((s.cnt (Rg.LNE_L_EYE_ERR.at [n.val])).val +
          min e (2 ^ s.fd Rg.LNE_L_EYE_CTL [n.val] 29 24 - (s.cnt (Rg.LNE_L_EYE_BITS.at [n.val])).val))) ∧
    (l.state ≠ 5 ∨ l.rxPm ≠ 0 ∨ bit (s.rd Rg.LNE_TRK_CTL) 8 = false → ∀ s0, s0.turn (.trackerWindowEnd n) = s → exec (.trackerWindowEnd n) s0 = .next s) ∧
    (l.state = 5 → l.rxPm = 0 → bit (s.rd Rg.LNE_TRK_CTL) 8 = true →
      (l.winN < 4096 → ∀ s0, s0.turn (.trackerWindowEnd n) = s → exec (.trackerWindowEnd n) s0 = .next (s.setLane n.val { l with
        winN := 0, winOnes := 0, frozen := true })) ∧
      (4096 ≤ l.winN → d.natAbs * 4096 ≤ max 1 (s.fd Rg.LNE_TRK_CTL [] 7 0) * 64 * l.winN →
        ∀ s0, s0.turn (.trackerWindowEnd n) = s → exec (.trackerWindowEnd n) s0 = .next (s.setLane n.val { l with winN := 0, winOnes := 0, frozen := false })) ∧
      (4096 ≤ l.winN → max 1 (s.fd Rg.LNE_TRK_CTL [] 7 0) * 64 * l.winN < d.natAbs * 4096 →
        (0 < d → l.trim < 31 → -33 ≤ l.trim → ∀ s0, s0.turn (.trackerWindowEnd n) = s → exec (.trackerWindowEnd n) s0 = .next (s.setLane n.val { l with
          winN := 0, winOnes := 0, frozen := false, trim := l.trim + 1 })) ∧
        (d ≤ 0 → -32 < l.trim → l.trim ≤ 32 → ∀ s0, s0.turn (.trackerWindowEnd n) = s → exec (.trackerWindowEnd n) s0 = .next (s.setLane n.val { l with
          winN := 0, winOnes := 0, frozen := false, trim := l.trim - 1 })) ∧
        ((0 < d ∧ 31 ≤ l.trim) ∨ (d ≤ 0 ∧ l.trim ≤ -32) → ∀ s0, s0.turn (.trackerWindowEnd n) = s → ∃ t, exec (.trackerWindowEnd n) s0 = .next t ∧
          (t.lane n.val).trim = l.trim ∧ bit (t.rd Rg.LNE_L_FLAGS [n.val]) 4 = true)))

/-- Commands of lanes and lane groups. A write of LNE_L_CTL that takes effect does nothing on an unassigned lane.
LANE_RETRY in OFF or FAILED of a group that is UP starts DETECT with no attempts, and returns a FAILED lane to
service; LANE_STOP takes a lane to OFF; EYE_GO in ACTIVE starts a scan with cleared counts and EYE_STOP ends it
incomplete; where the state does not take it, retry and eye_go raise an invalid-write event (R243, R244, R254, R257).
LANE_TEST_MODE with mode 1 to 4 enters TEST from OFF when the group is UP, 0 leaves it, and 5 to 7 and any other state
are invalid writes (R255). GROUP_GO in OFF, from BRINGUP onwards, asks for a grant; GROUP_DOWN withdraws the request
or gives the grant back and takes every lane that is not FAILED to OFF; GROUP_GRANT puts the staged rate in force,
restarts the attempts and takes lanes in OFF to DETECT, and GROUP_GRANT_REFUSAL returns the group to OFF with the
reason (R236, R242, R394). No other lane, and nothing outside what a lane reaches (and PWG, for a group), changes. -/
def Obligations.LaneCommands : Prop :=
  ∀ (src : Source) (n : Fin 96) (g : Fin 12) (v : Word) (r : Nat) (l : Lane) (s s1 : State), s.inv = true → l = s.lane n.val →
    (∀ c, c ∈ [Instr.laneRetry src n v, .laneStop src n v, .laneTestMode src n v, .eyeGo src n v, .eyeStop src n v] →
      ∀ s0, s0.turn c = s → ∃ t, exec c s0 = .next t ∧ s.laneFrame t ∧ ∀ k, k ≠ n.val → (t.lane k).state = (s.lane k).state) ∧
    (∀ c, c ∈ [Instr.groupGo src g v, .groupDown src g v, .groupGrant g, .groupGrantRefusal g] →
      ∀ s0, s0.turn c = s → ∃ t, exec c s0 = .next t ∧ s.wordsKept [0, 2, 4, 5] t ∧ State.laneFrame { s with pwg := t.pwg, regs := t.regs } t) ∧
    (s.takes src (Rg.LNE_L_CTL.at [n.val]) = true →
      (s.assigned n.val = false → ∀ c, c ∈ [Instr.laneRetry src n v, .laneStop src n v, .laneTestMode src n v, .eyeGo src n v, .eyeStop src n v] →
        ∀ s0, s0.turn c = s → exec c s0 = .next s) ∧
      (s.assigned n.val = true → bit v 31 = false → bit v 30 = false → bit v 1 = false → bit v 0 = false →
        (fld v 6 4 = 0 → s.fd Rg.LNE_L_CTL [n.val] 6 4 = 0 → l.state ≠ 7 →
          (l.state = 1 ∨ l.state = 8 → (s.group (n.val / 8)).state = 4 → ∀ s0, s0.turn (.laneRetry src n v) = s → ∃ t, exec (.laneRetry src n v) s0 = .next t ∧
            (t.lane n.val).state = 2 ∧ (t.lane n.val).attempts = 0 ∧ (t.lane n.val).waiting = false ∧
            (l.state = 8 → (s.outUnits 4).Nodup → (t.outUnits 4).contains n.val = false)) ∧
          ((l.state ≠ 1 ∧ l.state ≠ 8) ∨ (s.group (n.val / 8)).state ≠ 4 →
            ∀ s0, s0.turn (.laneRetry src n v) = s → exec (.laneRetry src n v) s0 = .next (invalidWrite (Rg.LNE_L_CTL.at [n.val]) s)) ∧
          (2 ≤ l.state → l.state ≤ 6 → ∀ s0, s0.turn (.laneStop src n v) = s → ∃ t, exec (.laneStop src n v) s0 = .next t ∧ (t.lane n.val).state = 1 ∧
            (t.lane n.val).waiting = false) ∧
          (l.state < 2 ∨ 7 < l.state → ∀ s0, s0.turn (.laneStop src n v) = s → exec (.laneStop src n v) s0 = .next s) ∧
          (l.state = 5 → l.eyeBusy = false → ∀ s0, s0.turn (.eyeGo src n v) = s → ∃ t, exec (.eyeGo src n v) s0 = .next t ∧ (t.lane n.val).eyeBusy = true ∧
            (t.lane n.val).eyeDone = false ∧ (t.lane n.val).eyeInc = false ∧ (t.cnt (Rg.LNE_L_EYE_BITS.at [n.val])).val = 0 ∧
            (t.cnt (Rg.LNE_L_EYE_ERR.at [n.val])).val = 0) ∧
          (l.state ≠ 5 ∨ l.eyeBusy = true → ∀ s0, s0.turn (.eyeGo src n v) = s → exec (.eyeGo src n v) s0 = .next (invalidWrite (Rg.LNE_L_CTL.at [n.val]) s)) ∧
          (l.eyeBusy = true → ∀ s0, s0.turn (.eyeStop src n v) = s → ∃ t, exec (.eyeStop src n v) s0 = .next t ∧ (t.lane n.val).eyeBusy = false ∧ (t.lane n.val).eyeInc = true ∧
            bit (t.rd Rg.LNE_L_FLAGS [n.val]) 3 = true ∧
            t.cnt (Rg.LNE_L_EYE_BITS.at [n.val]) = s.cnt (Rg.LNE_L_EYE_BITS.at [n.val])) ∧
          (l.eyeBusy = false → ∀ s0, s0.turn (.eyeStop src n v) = s → ∃ t, exec (.eyeStop src n v) s0 = .next t ∧ (t.lane n.val).eyeBusy = false ∧
            (t.lane n.val).eyeInc = l.eyeInc ∧ (t.lane n.val).state = l.state)) ∧
        (5 ≤ fld v 6 4 → ∀ s0, s0.turn (.laneTestMode src n v) = s → exec (.laneTestMode src n v) s0 = .next (invalidWrite (Rg.LNE_L_CTL.at [n.val]) s)) ∧
        (1 ≤ fld v 6 4 → fld v 6 4 ≤ 4 →
          (l.state = 1 → (s.group (n.val / 8)).state = 4 → ∀ s0, s0.turn (.laneTestMode src n v) = s → ∃ t, exec (.laneTestMode src n v) s0 = .next t ∧ (t.lane n.val).state = 7 ∧
            (t.lane n.val).test = fld v 6 4 ∧ (t.lane n.val).looping = false ∧ (t.lane n.val).prbs = decide (fld v 6 4 ≤ 2) ∧
            t.fd Rg.LNE_L_CTL [n.val] 6 4 = fld v 6 4) ∧
          (l.state = 1 → (s.group (n.val / 8)).state ≠ 4 → ∀ s0, s0.turn (.laneTestMode src n v) = s → exec (.laneTestMode src n v) s0 =
            .next (s.setWord (Rg.LNE_L_CTL.at [n.val]) (setFld (s.word (Rg.LNE_L_CTL.at [n.val])) 6 4 (fld v 6 4)))) ∧
          (l.state ≠ 1 → l.state ≠ 7 → ∀ s0, s0.turn (.laneTestMode src n v) = s → exec (.laneTestMode src n v) s0 = .next (invalidWrite (Rg.LNE_L_CTL.at [n.val]) s))) ∧
        (fld v 6 4 = 0 → l.state = 7 → ∀ s0, s0.turn (.laneTestMode src n v) = s → ∃ t, exec (.laneTestMode src n v) s0 = .next t ∧ (t.lane n.val).state = 1 ∧
          t.fd Rg.LNE_L_CTL [n.val] 6 4 = 0))) ∧
    (s.takes src (Rg.LNE_G_CTL.at [g.val]) = true →
      (bit v 30 = false → (s.boot.stage = 4 ∨ s.boot.stage = 5 ∨ s.boot.stage = 7) → (s.group g.val).state = 1 →
        ∀ s0, s0.turn (.groupGo src g v) = s → ∃ t, exec (.groupGo src g v) s0 = .next t ∧ (t.group g.val).state = 2 ∧ t.fd Rg.LNE_G_CTL [g.val] 1 0 = fld v 1 0 ∧
          t.lanes = s.lanes ∧ (t.pwg.queue.length = s.pwg.queue.length + 1 ∨ t.pwg.refused.length = s.pwg.refused.length + 1)) ∧
      (bit v 30 = false → (s.boot.stage ≠ 4 ∧ s.boot.stage ≠ 5 ∧ s.boot.stage ≠ 7) ∨ (s.group g.val).state ≠ 1 →
        ∀ s0, s0.turn (.groupGo src g v) = s → ∃ t, exec (.groupGo src g v) s0 = .next t ∧ t.groups = s.groups ∧ t.lanes = s.lanes ∧ t.pwg = s.pwg ∧
          t.mgt.fresh.length = s.mgt.fresh.length + 1) ∧
      (bit v 31 = false → (s.group g.val).state = 2 → ∀ s0, s0.turn (.groupDown src g v) = s → ∃ t, exec (.groupDown src g v) s0 = .next t ∧ (t.group g.val).state = 1 ∧
        t.pwg.queue = dropReq 2 g.val s.pwg.queue ∧ t.pwg.held = s.pwg.held ∧ t.lanes = s.lanes) ∧
      (bit v 31 = false → ((s.group g.val).state = 3 ∨ (s.group g.val).state = 4) → ∀ s0, s0.turn (.groupDown src g v) = s → ∃ t, exec (.groupDown src g v) s0 = .next t ∧
        (t.group g.val).state = 1 ∧ t.pwg = { s.pwg with held := dropReq 2 g.val s.pwg.held } ∧ (t.calGroup g.val).state = 0 ∧
        ∀ k, k ∈ s.groupLanes g.val → (t.lane k).state = if (s.lane k).state = 8 then 8 else 1) ∧
      (bit v 31 = false → (s.group g.val).state < 2 ∨ 4 < (s.group g.val).state → ∀ s0, s0.turn (.groupDown src g v) = s → ∃ t, exec (.groupDown src g v) s0 = .next t ∧
        t.groups = s.groups ∧ t.lanes = s.lanes ∧ t.pwg = s.pwg)) ∧
    (s.boot.held = false →
      ((s.group g.val).state ≠ 2 ∨ takeGrant 2 g.val s = none → ∀ s0, s0.turn (.groupGrant g) = s → exec (.groupGrant g) s0 = .next s) ∧
      ((s.group g.val).state = 2 → takeGrant 2 g.val s = some s1 → ∀ s0, s0.turn (.groupGrant g) = s → ∃ t, exec (.groupGrant g) s0 = .next t ∧ t.pwg = s1.pwg ∧
        (t.group g.val).rate = s.fd Rg.LNE_G_CTL [g.val] 1 0 ∧ ((t.group g.val).state = 3 ∨ (t.group g.val).state = 4) ∧
        ∀ k, k ∈ s.groupLanes g.val → (t.lane k).attempts = 0 ∧ (t.lane k).waiting = false ∧
          (t.lane k).state = if (s.lane k).state = 1 then 2 else (s.lane k).state) ∧
      (takeRefusal 2 g.val s = none → ∀ s0, s0.turn (.groupGrantRefusal g) = s → exec (.groupGrantRefusal g) s0 = .next s) ∧
      (takeRefusal 2 g.val s = some (r, s1) →
        ((s.group g.val).state ≠ 2 → ∀ s0, s0.turn (.groupGrantRefusal g) = s → exec (.groupGrantRefusal g) s0 = .next s1) ∧
        ((s.group g.val).state = 2 → ∀ s0, s0.turn (.groupGrantRefusal g) = s → exec (.groupGrantRefusal g) s0 = .next (raiseRefusal 4 g.val (Rg.LNE_G_STATUS.at [g.val]) r 0
          (s1.modGroup g.val fun x => { x with state := 1, reason := r })))))

/-- Ports bond, exchange capabilities, change width and sleep. An alignment marker on an ACTIVE lane is kept while its
port is in BOND or REBOND; when every lane that can bond has one of the same number, a port in BOND goes on to CAPS
with that width and one in REBOND, once all its lanes are ACTIVE or FAILED, sends WIDTH; in service a marker out of
its stripe or number is a drop-out (R259, R261). BOND_TIMEOUT and PORT_RETRAIN take the port to DOWN, with its lanes
retried, and a FAILED port works again on a retrain; a port whose lanes are all ACTIVE bonds at once (R260). In CAPS,
CAPS_SEND sends 16 bytes; the first peer CAPS is refused with cause 3, 4 or 5 or accepted, with sequences restarted
when either side is fresh; a later one that acknowledges makes the port ACTIVE; CAPS_TIMEOUT fails it with cause 2
(R260, R268, R269); the bytes of every peer CAPS are kept. Once WIDTH has gone and come, a port in REBOND returns to
ACTIVE with the lanes of both masks (R261).
PORT_QUIET_IDLE and PORT_DORMANT_IDLE order the transmit lanes of an idle port to sleep when the register and the peer
allow it and no head or engine needs the port (R276). In any other state each does nothing. -/
def Obligations.LinkBonding : Prop :=
  ∀ (src : Source) (n : Fin 96) (p : Fin 24) (num mask : Nat) (inStripe : Bool) (v : Word) (body : List Byte) (r : PortCfg) (x : Port)
    (l : Lane) (m i : Nat) (s : State), s.inv = true →
    (∀ c, c ∈ [Instr.alignReceive n num inStripe, .bondTimeout p, .capsSend p, .capsReceive p body, .capsTimeout p, .widthReceive p mask,
        .portRetrain src p v, .portQuietIdle p, .portDormantIdle p] → ∀ s0, s0.turn c = s → ∃ t, exec c s0 = .next t ∧ s.portFrame t) ∧
    (s.boot.held = false → s.cfg.portOfLane? n.val = none → ∀ s0, s0.turn (.alignReceive n num inStripe) = s → exec (.alignReceive n num inStripe) s0 = .next s) ∧
    (s.boot.held = false → s.cfg.portOfLane? n.val = some r → x = s.port r.port → l = s.lane n.val → m = s.bondMask r → i = n.val - r.first →
      (l.state ≠ 5 ∨ x.state < 2 ∨ 5 < x.state ∨ ((x.state = 3 ∨ x.state = 4) ∧ x.mask.testBit i = false) →
        ∀ s0, s0.turn (.alignReceive n num inStripe) = s → exec (.alignReceive n num inStripe) s0 = .next s) ∧
      (l.state = 5 → x.markers.rising = true → i < 16 → m.testBit i = true →
        (x.state = 2 ∨ x.state = 5 → ∀ s0, s0.turn (.alignReceive n num false) = s → exec (.alignReceive n num false) s0 = .next (s.setPort r.port { x with markers := x.markers.erase i })) ∧
        ((∀ j < 16, m.testBit j = true → j ≠ i → x.markers.find j = some num) →
          (x.state = 2 → ∀ s0, s0.turn (.alignReceive n num true) = s → ∃ t, exec (.alignReceive n num true) s0 = .next t ∧ (t.port r.port).state = 3 ∧ (t.port r.port).mask = m ∧
            (t.port r.port).capsOk = false) ∧
          (x.state = 5 → x.aligned = false → (∀ k, k ∈ r.lanes → (s.lane k).state = 5 ∨ (s.lane k).state = 8) →
            (x.peerMask = none → ∀ s0, s0.turn (.alignReceive n num true) = s → exec (.alignReceive n num true) s0 = .next { s.setPort r.port { x with
              aligned := true, sentMask := some m, markers := x.markers.insert i num, ctl := x.ctl ++ [(2, ofBytesLE (widthBytes m))] }
              with wire := .width r.port m :: s.wire }) ∧
            (∀ k, x.peerMask = some k → m &&& k ≠ 0 → ∀ s0, s0.turn (.alignReceive n num true) = s → ∃ t, exec (.alignReceive n num true) s0 = .next t ∧
              (t.port r.port).state = 4 ∧ (t.port r.port).mask = m &&& k))) ∧
        ((∃ j < 16, m.testBit j = true ∧ j ≠ i ∧ x.markers.find j ≠ some num) → x.state = 2 →
          ∀ s0, s0.turn (.alignReceive n num true) = s → exec (.alignReceive n num true) s0 = .next (s.setPort r.port { x with markers := x.markers.insert i num }))) ∧
      (l.state = 5 → x.state = 3 ∨ x.state = 4 → x.mask.testBit i = true →
        (x.markers.find i = none ∨ (∃ k, x.markers.find i = some k ∧ num = (k + 1) % 2 ^ 32) →
          ∀ s0, s0.turn (.alignReceive n num true) = s → exec (.alignReceive n num true) s0 = .next (s.setPort r.port { x with markers := x.markers.insert i num })) ∧
        (inStripe = false ∨ (∃ k, x.markers.find i = some k ∧ num ≠ (k + 1) % 2 ^ 32) → l.budget + 1 < s.recLim →
          ∀ s0, s0.turn (.alignReceive n num inStripe) = s → ∃ t, exec (.alignReceive n num inStripe) s0 = .next t ∧ (t.lane n.val).state = 6 ∧
            bit (t.rd Rg.LNE_L_FLAGS [n.val]) 0 = true))) ∧
    (s.boot.held = false → s.cfg.port? p.val = none →
      (∀ s0, s0.turn (.bondTimeout p) = s → exec (.bondTimeout p) s0 = .next s) ∧ exec (.capsSend p) s = .next s ∧ (∀ s0, s0.turn (.capsReceive p body) = s → exec (.capsReceive p body) s0 = .next s) ∧
      ∀ s0, s0.turn (.widthReceive p mask) = s → exec (.widthReceive p mask) s0 = .next s) ∧
    (s.takes src (Rg.LNK_P_CTL.at [p.val]) = true → s.cfg.port? p.val = none → ∀ s0, s0.turn (.portRetrain src p v) = s → exec (.portRetrain src p v) s0 = .next s) ∧
    (s.cfg.port? p.val = some r → x = s.port p.val →
      (∀ c cause, (c = Instr.bondTimeout p ∧ cause = 1 ∧ s.boot.held = false ∧ x.state = 2) ∨
          (c = .portRetrain src p v ∧ cause = 0 ∧ s.takes src (Rg.LNK_P_CTL.at [p.val]) = true) →
        ((∃ k, k ∈ r.lanes ∧ (s.lane k).state ≠ 5 ∧ (s.lane k).state ≠ 8) → ∀ s0, s0.turn c = s → ∃ t, exec c s0 = .next t ∧ (t.port p.val).state = 1 ∧
          (t.port p.val).cause = cause ∧ (t.port p.val).mask = 0 ∧ (t.port p.val).capsOk = false) ∧
        ((∀ k, k ∈ r.lanes → (s.lane k).state = 5) → r.lanes ≠ [] → ∀ s0, s0.turn c = s → ∃ t, exec c s0 = .next t ∧ (t.port p.val).state = 2 ∧
          (t.port p.val).markers = [] ∧ t.lanes = s.lanes)) ∧
      (s.takes src (Rg.LNK_P_CTL.at [p.val]) = true → x.state = 6 → (s.outUnits 5).Nodup →
        ∀ s0, s0.turn (.portRetrain src p v) = s → ∃ t, exec (.portRetrain src p v) s0 = .next t ∧ (t.outUnits 5).contains p.val = false) ∧
      (s.boot.held = false →
        (x.state ≠ 2 → ∀ s0, s0.turn (.bondTimeout p) = s → exec (.bondTimeout p) s0 = .next s) ∧
        (x.state ≠ 3 → exec (.capsSend p) s = .next s ∧ (∀ s0, s0.turn (.capsReceive p body) = s → exec (.capsReceive p body) s0 = .next s) ∧ ∀ s0, s0.turn (.capsTimeout p) = s → exec (.capsTimeout p) s0 = .next s) ∧
        (x.state = 3 →
          (∃ t b, exec (.capsSend p) s = .next t ∧ t.wire = .caps p.val b :: s.wire ∧
            t.port p.val = { x with line := x.line ++ [packetBlocks 15 0 true 0 (List.replicate 8 0 ++ b) false 0 false] } ∧
            t = { s with ports := t.ports, counters := t.counters, mgt := { s.mgt with fresh := t.mgt.fresh }, wire := t.wire } ∧
            (t.cnt (Rg.LNK_P_TX_PKT_CNT.at [p.val])).val = min cntMax ((s.cnt (Rg.LNK_P_TX_PKT_CNT.at [p.val])).val + 1) ∧ b.length = 16 ∧
            b.take 4 = [0x01, 0x05, BitVec.ofNat 8 r.count, 0x0F] ∧ (b.drop 4).take 4 = bytesLE 1040 2 ++ bytesLE x.rxExp 2 ∧
            b.getD 13 0 = BitVec.ofNat 8 (b2n x.capsOk + 2 * b2n x.fresh)) ∧
          (∀ s0, s0.turn (.capsTimeout p) = s → ∃ t, exec (.capsTimeout p) s0 = .next t ∧ (t.port p.val).state = 6 ∧ (t.port p.val).cause = 2 ∧ (t.port p.val).replay = [] ∧
            (t.outUnits 5).contains p.val = true) ∧
          (∀ cause, x.capsOk = false →
            (ofBytesLE (body.take 1) ≠ 1 ∧ cause = 3) ∨
            (ofBytesLE (body.take 1) = 1 ∧ ofBytesLE ((body.drop 1).take 1) ≠ r.kind ∧ cause = 4) ∨
            (ofBytesLE (body.take 1) = 1 ∧ ofBytesLE ((body.drop 1).take 1) = r.kind ∧
              (ofBytesLE ((body.drop 4).take 2) < 1040 ∨ ofBytesLE ((body.drop 2).take 1) ≠ r.count) ∧ cause = 5) →
            ∀ s0, s0.turn (.capsReceive p body) = s → ∃ t, exec (.capsReceive p body) s0 = .next t ∧ (t.port p.val).state = 6 ∧ (t.port p.val).cause = cause ∧
              (t.port p.val).caps = body ∧ (t.outUnits 5).contains p.val = true) ∧
          (ofBytesLE (body.take 1) = 1 → ofBytesLE ((body.drop 1).take 1) = r.kind → 1040 ≤ ofBytesLE ((body.drop 4).take 2) →
            ofBytesLE ((body.drop 2).take 1) = r.count →
            (x.capsOk = false → x.fresh = true ∨ bitsOf (ofBytesLE ((body.drop 13).take 1)) 1 1 = 1 →
              ∀ s0, s0.turn (.capsReceive p body) = s → exec (.capsReceive p body) s0 = .next (s.setPort p.val { x with
                capsOk := true, caps := body, txNext := 0, rxExp := 0, nakSent := false, replay := [], replays := 0,
                txCredit := [], rxCredit := [] })) ∧
            (x.capsOk = false → x.fresh = false → bitsOf (ofBytesLE ((body.drop 13).take 1)) 1 1 = 0 →
              ∀ s0, s0.turn (.capsReceive p body) = s → ∃ t, exec (.capsReceive p body) s0 = .next t ∧ (t.port p.val).state = 3 ∧ (t.port p.val).capsOk = true ∧
                (t.port p.val).txNext = x.txNext ∧ (t.port p.val).rxExp = x.rxExp ∧
                (t.port p.val).replay = freeAcked ((ofBytesLE ((body.drop 6).take 2) + 4095) % 4096) x.replay) ∧
            (x.capsOk = true → bitsOf (ofBytesLE ((body.drop 13).take 1)) 0 0 = 1 → ∀ s0, s0.turn (.capsReceive p body) = s → ∃ t, exec (.capsReceive p body) s0 = .next t ∧
              (t.port p.val).state = 4 ∧ (t.port p.val).fresh = false ∧ (t.port p.val).caps = body) ∧
            (x.capsOk = true → bitsOf (ofBytesLE ((body.drop 13).take 1)) 0 0 = 0 →
              ∀ s0, s0.turn (.capsReceive p body) = s → exec (.capsReceive p body) s0 = .next (s.setPort p.val { x with caps := body })))) ∧
        (x.state ≠ 5 → ∀ s0, s0.turn (.widthReceive p mask) = s → exec (.widthReceive p mask) s0 = .next s) ∧
        (x.state = 5 → x.sentMask = none ∨ (∃ k, x.sentMask = some k ∧ k &&& mask = 0) →
          ∀ s0, s0.turn (.widthReceive p mask) = s → exec (.widthReceive p mask) s0 = .next (s.setPort p.val { x with peerMask := some mask })) ∧
        (∀ k, x.state = 5 → x.sentMask = some k → k &&& mask ≠ 0 → ∀ s0, s0.turn (.widthReceive p mask) = s → ∃ t, exec (.widthReceive p mask) s0 = .next t ∧
          (t.port p.val).state = 4 ∧ (t.port p.val).mask = k &&& mask) ∧
        (∀ c en cap code, (c, en, cap, code) ∈ [(Instr.portQuietIdle p, 1, 2, 1), (.portDormantIdle p, 2, 3, 2)] →
          (x.idle = false ∨ bit (s.rd Rg.LNK_P_CTL [p.val]) en = false ∨ x.peerReports cap = false ∨
            s.maySleep (s.lsc.eng == 2) p.val = false → ∀ s0, s0.turn c = s → exec c s0 = .next s) ∧
          (x.idle = true → bit (s.rd Rg.LNK_P_CTL [p.val]) en = true → x.peerReports cap = true → s.maySleep (s.lsc.eng == 2) p.val = true →
            ∀ s0, s0.turn c = s → ∃ t, exec c s0 = .next t ∧
              (∀ k, (t.lane k).state = (s.lane k).state ∧
                ((s.activeLanes r).contains k = true → x.mask.testBit (k - r.first) = true → (t.lane k).txPm = code ∧ (t.lane k).txWake = none ∧
                  (t.lane k).pmOut = 4 ∧ .lanePm k code ∈ t.wire) ∧
                ((s.activeLanes r).contains k = false ∨ x.mask.testBit (k - r.first) = false → (t.lane k).txPm = (s.lane k).txPm))))))

/-- Packets, acknowledgement, replay, credits and events on a port. A packet on an ACTIVE port that is whole, has the
right CRC and the expected sequence number is acknowledged, counted and its transaction taken when credits allow; one
before it is acknowledged again; anything else sends one NAK, with reason 1 (counted), 2 or 3, until a packet is
accepted (R263). ACK_RECEIVE frees what it names; NAK_RECEIVE and REPLAY_TIMEOUT resend everything unacknowledged in
order and count one replay, unless rep_lim replays have passed without progress, when the port goes to DOWN (R264).
CREDIT_RECEIVE stores the limits of a class, CREDIT_SEND sends the limits of every class served (R266, R267).
EVENT_DELIVERY_CTL starts sending at the write index when delivery is set on an ingress port, and stops it otherwise;
EVENT_TRANSACTION_SEND sends the next record of the ring as an event transaction when its port can (R272, R353). On a
port in another state each of the port's rows does nothing. -/
def Obligations.LinkPackets : Prop :=
  ∀ (src : Source) (p : Fin 24) (k : LinkPkt) (q cls hdr data d : Nat) (v : Word) (bs : List Byte) (x : Port) (left : List TxPkt)
    (s : State), s.inv = true → x = s.port p.val →
    (∀ c, c ∈ [Instr.linkPacketReceive p k, .ackReceive p q, .nakReceive p q, .replayTimeout p, .creditReceive p cls hdr data, .creditSend p] →
      ∀ s0, s0.turn c = s → ∃ t, exec c s0 = .next t ∧ s.portFrame t) ∧
    (∀ c, c ∈ [Instr.eventTransactionSend, .eventDeliveryCtl src v] →
      ∀ s0, s0.turn c = s → ∃ t, exec c s0 = .next t ∧ State.portFrame { s with mgt := { t.mgt with fresh := s.mgt.fresh } } t ∧
        t.mgt.queue = s.mgt.queue ∧ t.mgt.wr = s.mgt.wr ∧ t.mgt.rd = s.mgt.rd) ∧
    (s.boot.held = false →
      (x.state ≠ 4 → exec (.linkPacketReceive p k) s = .next s ∧ (∀ s0, s0.turn (.ackReceive p q) = s → exec (.ackReceive p q) s0 = .next s) ∧ (∀ s0, s0.turn (.nakReceive p q) = s → exec (.nakReceive p q) s0 = .next s) ∧
        (∀ s0, s0.turn (.replayTimeout p) = s → exec (.replayTimeout p) s0 = .next s) ∧ exec (.creditSend p) s = .next s) ∧
      (k.unseq = true → exec (.linkPacketReceive p k) s = .next s) ∧
      (x.state = 4 → k.unseq = false → d = (x.rxExp + 4096 - k.seq) % 4096 →
        (∀ reason, (k.err = true ∨ x.rxErr = true ∨ k.body.length ≠ 8 * k.blocks ∨ k.blocks = 0 ∨ 1040 < k.blocks ∨
              (k.crc = packetCrc k.type k.stream k.unseq k.seq k.blocks k.body k.prot k.epoch k.retrans k.seq2 ∧ k.seq ≠ k.seq2)) ∧ reason = 3 ∨
            (k.err = false ∧ x.rxErr = false ∧ k.body.length = 8 * k.blocks ∧ k.blocks ≠ 0 ∧ k.blocks ≤ 1040 ∧
              k.crc = packetCrc k.type k.stream k.unseq k.seq k.blocks k.body k.prot k.epoch k.retrans k.seq2 ∧ k.seq = k.seq2 ∧
              k.seq ≠ x.rxExp ∧ (d = 0 ∨ 2047 < d)) ∧ reason = 2 →
          (x.nakSent = true → exec (.linkPacketReceive p k) s = .next (s.setPort p.val { x with rxErr := false })) ∧
          (x.nakSent = false → exec (.linkPacketReceive p k) s = .next { s.setPort p.val { x with
              rxErr := false, nakSent := true, ctl := x.ctl ++ [(2, ofBytesLE (nakBytes ((x.rxExp + 4095) % 4096) reason))] }
            with wire := .nak p.val ((x.rxExp + 4095) % 4096) reason :: s.wire })) ∧
        (k.err = false → x.rxErr = false → k.body.length = 8 * k.blocks → k.blocks ≠ 0 → k.blocks ≤ 1040 →
          (k.crc ≠ packetCrc k.type k.stream k.unseq k.seq k.blocks k.body k.prot k.epoch k.retrans k.seq2 →
            ∃ t, exec (.linkPacketReceive p k) s = .next t ∧ (t.port p.val).nakSent = true ∧ (t.port p.val).rxExp = x.rxExp ∧
              (t.port p.val).accepted = x.accepted ∧
              t.wire = (if x.nakSent then s.wire else .nak p.val ((x.rxExp + 4095) % 4096) 1 :: s.wire) ∧
              (t.cnt (Rg.LNK_P_CRC_ERR_CNT.at [p.val])).val = min cntMax ((s.cnt (Rg.LNK_P_CRC_ERR_CNT.at [p.val])).val + 1)) ∧
          (k.crc = packetCrc k.type k.stream k.unseq k.seq k.blocks k.body k.prot k.epoch k.retrans k.seq2 → k.seq = k.seq2 →
            (k.seq ≠ x.rxExp → 1 ≤ d → d ≤ 2047 → exec (.linkPacketReceive p k) s = .next { s.setPort p.val { x with
                ctl := x.ctl ++ [(2, ofBytesLE (ackBytes ((x.rxExp + 4095) % 4096)))] } with
              wire := .ack p.val ((x.rxExp + 4095) % 4096) :: s.wire }) ∧
            (k.seq = x.rxExp → ∃ t, exec (.linkPacketReceive p k) s = .next t ∧ (t.port p.val).rxExp = (x.rxExp + 1) % 4096 ∧
              (t.port p.val).nakSent = false ∧ t.wire.head? = some (.ack p.val k.seq) ∧
              (t.cnt (Rg.LNK_P_RX_PKT_CNT.at [p.val])).val = min cntMax ((s.cnt (Rg.LNK_P_RX_PKT_CNT.at [p.val])).val + 1) ∧
              (k.type = 3 ∨ k.type = 4 ∨ k.type = 8 → wellCounted k.type (k.body.take 8) (k.body.drop 8) = true →
                (s.rxCred p.val (txnClass k.type k.stream)).admits (dataUnits (k.body.drop 8).length) = true →
                t.wire = .ack p.val k.seq :: s.wire ∧ (t.port p.val).accepted = x.accepted ++
                  [{ type := k.type, stream := k.stream, header := k.body.take 8, payload := k.body.drop 8 }]))))) ∧
      (x.state = 4 → left = x.replay.filter (fun y => decide (2048 ≤ (q % 4096 + 4096 - y.seq) % 4096)) →
        (x.waiting = [] → ∀ s0, s0.turn (.ackReceive p q) = s → exec (.ackReceive p q) s0 = .next (s.setPort p.val { x with
          replay := left, replays := if left.length < x.replay.length then 0 else x.replays })) ∧
        (left = [] → x.waiting = [] → ∀ s0, s0.turn (.nakReceive p q) = s → exec (.nakReceive p q) s0 = .next (s.setPort p.val { x with
          replay := [], replays := if x.replay = [] then x.replays else 0 })) ∧
        (x.replay = [] ∨ x.replayClk = some s.now → ∀ s0, s0.turn (.replayTimeout p) = s → exec (.replayTimeout p) s0 = .next s) ∧
        (∀ c ks reps, (c, ks, reps) ∈ [(Instr.nakReceive p q, left, if left.length < x.replay.length then 0 else x.replays),
            (.replayTimeout p, x.replay, x.replays)] → ks ≠ [] → x.replayClk ≠ some s.now → x.waiting = [] →
          (reps < max 1 (s.fd Rg.LNK_TIMERS [] 19 16) → ∀ s0, s0.turn c = s → ∃ t, exec c s0 = .next t ∧ (t.port p.val).replays = reps + 1 ∧
            (t.port p.val).replay = ks ∧
            t.wire = (ks.map fun y => Sent.packet p.val y.type y.stream y.seq y.body y.prot y.epoch true).reverse ++ s.wire ∧
            (t.cnt (Rg.LNK_P_REPLAY_CNT.at [p.val])).val = min cntMax ((s.cnt (Rg.LNK_P_REPLAY_CNT.at [p.val])).val + 1)) ∧
          (max 1 (s.fd Rg.LNK_TIMERS [] 19 16) ≤ reps → ∀ s0, s0.turn c = s → ∃ t, exec c s0 = .next t ∧ ((t.port p.val).state = 1 ∨ (t.port p.val).state = 2) ∧
            (t.port p.val).mask = 0 ∧ (t.port p.val).replay = ks ∧ bit (t.rd Rg.LNK_P_FLAGS [p.val]) 2 = true ∧ t.wire = s.wire))) ∧
      (x.state = 0 ∨ 12 ≤ cls → ∀ s0, s0.turn (.creditReceive p cls hdr data) = s → exec (.creditReceive p cls hdr data) s0 = .next s) ∧
      (x.state ≠ 0 → cls < 12 → x.waiting = [] → ∀ s0, s0.turn (.creditReceive p cls hdr data) = s → exec (.creditReceive p cls hdr data) s0 = .next (s.setPort p.val { x with
        txCredit := x.txCredit.insert cls { (x.txCredit.get {} cls) with limH := hdr % 65536, limD := data % 16777216 } })) ∧
      (x.state = 4 → x.rxCredit.rising = true → ∃ t, exec (.creditSend p) s = .next t ∧
        t.wire.length = s.wire.length + (if s.ingress p.val then 12 else 4) ∧
        (∀ c < 9, s.ingress p.val = true ∨ c = 8 → .credit p.val c (s.rxCred p.val c).limH (s.rxCred p.val c).limD ∈ t.wire) ∧
        (∀ c, 9 ≤ c → c ≤ 11 → .credit p.val c (((s.rxCred p.val c).useH + 32767) % 65536) (((s.rxCred p.val c).useD + 8388607) % 16777216) ∈ t.wire)) ∧
      (s.evtPort? = none ∨ s.mgt.sending = false ∨ s.mgt.sent = s.mgt.wr → exec .eventTransactionSend s = .next s) ∧
      (s.evtPort? = some p.val → x.state ≠ 4 → exec .eventTransactionSend s = .next s) ∧
      (s.evtPort? = some p.val → s.mgt.sending = true → s.mgt.sent ≠ s.mgt.wr → x.state = 4 → s.awake p.val = true → x.waiting = [] →
        bs = s.dramLoad 0x11 (s.mgt.ringPage * 65536 + s.mgt.sent % 2 ^ s.mgt.ringSize * 32) 32 →
        s.sendable p.val { type := 6, stream := 0, header := List.replicate 8 0, payload := bs } = true →
        ∃ t, exec .eventTransactionSend s = .next t ∧ t.mgt.sent = (s.mgt.sent + 1) % 8192 ∧
          t.wire = .packet p.val 6 0 x.txNext (List.replicate 8 0 ++ bs) false 0 false :: s.wire ∧
          (t.port p.val).txNext = (x.txNext + 1) % 4096)) ∧
    (s.takes src Rg.LNK_CTL.at = true → ∀ s0, s0.turn (.eventDeliveryCtl src v) = s → ∃ t, exec (.eventDeliveryCtl src v) s0 = .next t ∧ t.fd Rg.LNK_CTL [] 20 16 = fld v 20 16 ∧
      bit (t.rd Rg.LNK_CTL) 0 = bit v 0 ∧
      (bit v 0 = false ∨ s.ingress (fld v 20 16) = false → t.mgt.sending = false ∧ t.mgt.sent = s.mgt.wr) ∧
      (bit v 0 = true → s.ingress (fld v 20 16) = true →
        (s.evtPort? = some (fld v 20 16) → s.mgt.sending = true → t.mgt = s.mgt) ∧
        (s.evtPort? ≠ some (fld v 20 16) ∨ s.mgt.sending = false → t.mgt.sending = true ∧ t.mgt.sent = s.mgt.wr)))

/-- Refresh, drift tracking, sleep, scrub and reads of the DRAM. REFRESH_INTERVAL of an ACTIVE channel adds 1 to every
waking rank's debt, at most 7, less the refreshes issued, one of which is forced at 7, wakes a powered-down rank that
was refreshed, and takes the class B settings; a forced refresh that splits a burst is counted (R287, R288). HOT_ROW_CLEAR empties every hot-row
table; a row whose activations reach hot_thr is flagged and counted (R289). CAPTURE_BURST_START asks for a grant where
the rule allows a burst; CAPTURE_BURST_END stores the result, a failure keeps the old values and the third sets the
flag; during CAPTURE_WAIT the result is discarded and the last burst leads to GRANT_WAIT (R290 to R292); APPLY_PAUSE
applies what is due in its freeboard window. Self-refresh entry and exit, power-down entry and the scrub act where R294
and R296 allow and do nothing elsewhere. No read is taken before the map is formed (R297); one above the capacity is a
range fault; a corrected, retried or uncorrectable read is counted, and the latter recorded, as is the read of a block
poisoned before (R281, R293); either of the failing reads, made for a layer that shows a surface, sets the
layer's fault bit (R82). No memory byte changes. -/
def Obligations.DramUpkeep : Prop :=
  ∀ (c : Fin 16) (rank : Fin 2) (issued : List Nat) (split corr : Bool) (res : Option (Nat × Int)) (rd : ReadDone) (y : DramCh)
    (out : Nat) (s : State), s.boot.held = false → s.inv = true → y = s.ch c.val →
    (∀ i, i ∈ [Instr.refreshInterval c issued split, .hotRowClear, .captureBurstStart c, .captureBurstEnd c res, .applyPause c,
        .patrolScrub corr, .dramSelfRefreshEntry c, .dramSelfRefreshExit c, .selfRefreshExitDone c, .powerDownEntry c rank,
        .dramReadComplete rd] → ∀ s0, s0.turn i = s → ∃ t, exec i s0 = .next t ∧ s.dramFrame t) ∧
    (y.state ≠ 3 → ∀ s0, s0.turn (.refreshInterval c issued split) = s → exec (.refreshInterval c issued split) s0 = .next s) ∧
    (y.state = 3 → ∀ s0, s0.turn (.refreshInterval c issued split) = s → ∃ t, exec (.refreshInterval c issued split) s0 = .next t ∧ (∀ k, k ≠ c.val → t.ch k = s.ch k) ∧
      (∀ r < 2, ∀ n, n = (if y.pm.getD r 0 ≠ 2 ∧ r < s.cfg.dram.ranks then max (issued.getD r 0) (y.debt.getD r 0 - 6) else 0) →
        (t.ch c.val).debt.getD r 0 = (if y.pm.getD r 0 ≠ 2 ∧ r < s.cfg.dram.ranks then min 7 (y.debt.getD r 0 + 1) - n else 0) ∧
        (t.ch c.val).pm.getD r 0 = (if y.pm.getD r 0 = 1 ∧ 0 < n then 0 else y.pm.getD r 0)) ∧ (t.ch c.val).hot = y.hot ∧
      (t.ch c.val).trainCtl = s.rd Rg.DMC_TRAIN_CTL ∧ (t.ch c.val).pmCtl = s.rd Rg.DMC_PM_CTL ∧ (t.ch c.val).rhCtl = s.rd Rg.DMC_RH_CTL ∧
      (split = true → (∃ r < 2, y.pm.getD r 0 ≠ 2 ∧ r < s.cfg.dram.ranks ∧ 6 ≤ y.debt.getD r 0) →
        s.counted (Rg.DMC_CH_SPLIT_CNT.at [c.val]) 1 t ∧ bit (t.rd Rg.DMC_CH_FLAGS [c.val]) 1 = true) ∧
      (split = false ∨ (∀ r < 2, y.pm.getD r 0 = 2 ∨ s.cfg.dram.ranks ≤ r ∨ y.debt.getD r 0 < 6) → t.regs = s.regs ∧ t.counters = s.counters)) ∧
    (∃ t, exec .hotRowClear s = .next t ∧ t = { s with dramCh := t.dramCh } ∧ ∀ k < 16, t.ch k = { s.ch k with hot := [] }) ∧
    (bit (s.rd Rg.DMC_CTL) 0 = false ∨ y.state ≠ 3 ∨ s.dmc.fstate ≠ 0 ∨ s.dmc.formed = false ∨ y.burst = true ∨ y.burstReq = true ∨
      y.pm.contains 2 = true → ∀ s0, s0.turn (.captureBurstStart c) = s → exec (.captureBurstStart c) s0 = .next s) ∧
    (bit (s.rd Rg.DMC_CTL) 0 = true → y.state = 3 → s.dmc.fstate = 0 → s.dmc.formed = true → y.burst = false → y.burstReq = false →
      y.pm.contains 2 = false → ∀ s0, s0.turn (.captureBurstStart c) = s → ∃ t, exec (.captureBurstStart c) s0 = .next t ∧ t.ch c.val = { y with burstReq := true } ∧ s.asked t) ∧
    (y.burst = false → ∀ s0, s0.turn (.captureBurstEnd c res) = s → exec (.captureBurstEnd c res) s0 = .next s) ∧
    (y.burst = true → s.dmc.fstate ≠ 1 →
      (∀ osc drift, res = some (osc, drift) → ∀ s0, s0.turn (.captureBurstEnd c res) = s → exec (.captureBurstEnd c res) s0 = .next { s with
        pwg := { s.pwg with held := dropReq 0 c.val s.pwg.held }
        dramCh := s.dramCh.put {} c.val { y with
          burst := false, osc := osc % 65536, drift := clampI (-128) 127 drift, fails := 0, discarded := false, applied := false
          applyDue := decide (max 1 (fld y.trainCtl 23 16) ≤ drift.natAbs) } }) ∧
      (res = none → ∀ s0, s0.turn (.captureBurstEnd c res) = s → ∃ t, exec (.captureBurstEnd c res) s0 = .next t ∧ t.ch c.val = { y with
          burst := false, fails := min 3 (y.fails + 1), discarded := false, applied := false } ∧
        (y.fails = 2 → bit (t.rd Rg.DMC_CH_FLAGS [c.val]) 4 = true) ∧ (y.fails ≠ 2 → t.regs = s.regs))) ∧
    (y.burst = true → s.dmc.fstate = 1 → ∀ s0, s0.turn (.captureBurstEnd c res) = s → ∃ t, exec (.captureBurstEnd c res) s0 = .next t ∧
      t.ch c.val = { y with burst := false, discarded := true, applied := false } ∧
      ((∃ k < 16, k ≠ c.val ∧ (s.ch k).burst = true) → t.dmc = s.dmc) ∧
      ((∀ k < 16, k ≠ c.val → (s.ch k).burst = false) → t.dmc = { s.dmc with fstate := 2 } ∧
        (t.pwg.queue.length = s.pwg.queue.length + 1 ∨ t.pwg.refused.length = s.pwg.refused.length + 1))) ∧
    (∀ s0, s0.turn (.applyPause c) = s → exec (.applyPause c) s0 = .next (if y.applyDue = true ∧ y.state = 3 ∧ s.dmc.fstate = 0 ∧ s.window c.val (200 + y.splitNs) = true
      then { s with dramCh := s.dramCh.put {} c.val { y with applyDue := false, applied := true } } else s)) ∧
    (s.dmc.formed = false ∨ s.cfg.dram.ecc = false ∨ bit (s.rd Rg.DMC_CTL) 4 = false → exec (.patrolScrub corr) s = .next s) ∧
    (s.dmc.formed = true → s.cfg.dram.ecc = true → bit (s.rd Rg.DMC_CTL) 4 = true → ∃ t, exec (.patrolScrub corr) s = .next t ∧
      t.dmc = { s.dmc with scrubPos := (s.dmc.scrubPos + 1) % max 1 (s.dmc.capMib * 16384) } ∧
      s.counted Rg.DMC_CE_CNT.at (if corr then 1 else 0) t) ∧
    (y.state ≠ 3 ∨ s.dmc.formed = false ∨ bit (s.rd Rg.DMC_CTL) 2 = false ∨ y.pm.contains 2 = true ∨ y.burst = true ∨ s.dmc.fstate = 4 ∨
        s.writesLeft c.val ≠ 0 ∨ s.freeboardOf (2 * (y.srExitNs + s.guardNs c.val)) = false →
      ∀ s0, s0.turn (.dramSelfRefreshEntry c) = s → exec (.dramSelfRefreshEntry c) s0 = .next s) ∧
    (y.state = 3 → s.dmc.formed = true → bit (s.rd Rg.DMC_CTL) 2 = true → y.pm.contains 2 = false → y.burst = false → s.dmc.fstate ≠ 4 →
      s.writesLeft c.val = 0 → s.freeboardOf (2 * (y.srExitNs + s.guardNs c.val)) = true →
      ∀ s0, s0.turn (.dramSelfRefreshEntry c) = s → ∃ t, exec (.dramSelfRefreshEntry c) s0 = .next t ∧ t.ch c.val = { y with
          pm := [2, if s.cfg.dram.ranks = 2 then 2 else 0], debt := [0, 0], exiting := false, rows := [], wq := 0, wqAt := s.now } ∧
        s.counted (Rg.DMC_CH_SR_CNT.at [c.val]) 1 t) ∧
    (∀ s0, s0.turn (.dramSelfRefreshExit c) = s → exec (.dramSelfRefreshExit c) s0 = .next (if y.state = 3 ∧ y.pm.contains 2 = true
      then { s with dramCh := s.dramCh.put {} c.val { y with exiting := true } } else s)) ∧
    (y.exiting = false → ∀ s0, s0.turn (.selfRefreshExitDone c) = s → exec (.selfRefreshExitDone c) s0 = .next s) ∧
    (y.exiting = true → ∀ s0, s0.turn (.selfRefreshExitDone c) = s → ∃ t, exec (.selfRefreshExitDone c) s0 = .next t ∧ (t.ch c.val).exiting = false ∧ (t.ch c.val).pm = [0, 0] ∧
      (t.ch c.val).debt = [0, 0] ∧
      (y.state = 3 → s.dmc.fstate = 0 → s.dmc.formed = true → y.burst = false → y.burstReq = false → (t.ch c.val).burstReq = true)) ∧
    (∀ s0, s0.turn (.powerDownEntry c rank) = s → exec (.powerDownEntry c rank) s0 = .next (if y.state = 3 ∧ bit (s.rd Rg.DMC_CTL) 1 = true ∧ y.pm.getD rank.val 0 = 0 ∧
        rank.val < s.cfg.dram.ranks then { s with dramCh := s.dramCh.put {} c.val { y with pm := y.pm.set rank.val 1 } } else s)) ∧
    (rd.kind ≠ 3 → s.dmc.formed = false → exec (.dramReadComplete rd) s = .next s) ∧
    (rd.kind ≠ 3 → s.dmc.formed = true → s.capBytes ≤ 64 * rd.block → ∃ t, exec (.dramReadComplete rd) s = .next t ∧
      s.counted Rg.DMC_UE_CNT.at 1 t ∧ t.dmc.errKind = 4 ∧ t.dmc.errReq = rd.requester % 256 ∧ t.dmc.errAddr = rd.block % 2 ^ 30 ∧
      t.dramCh = s.dramCh) ∧
    (rd.kind = 3 ∨ (s.dmc.formed = true ∧ 64 * rd.block < s.capBytes) →
      out = (if rd.kind ≠ 3 ∧ s.dmc.poison.contains rd.block = true then 3 else rd.outcome) → ∃ t, exec (.dramReadComplete rd) s = .next t ∧
      (rd.link = true → s.counted Rg.DMC_LINK_CE_CNT.at 1 t) ∧
      (out < 3 → t.dmc = { s.dmc with
          badReads := s.dmc.badReads.erase (rd.requester % 256, if rd.kind = 3 then basinBlock0 + rd.block else rd.block) } ∧ t.tgn = s.tgn ∧
        s.counted Rg.DMC_RETRY_CNT.at (if out = 2 then 1 else 0) t ∧
        s.counted Rg.DMC_CE_CNT.at (if out = 1 ∧ rd.kind ≠ 3 then 1 else 0) t ∧
        s.counted Rg.DMC_BASIN_CE_CNT.at (if out = 1 ∧ rd.kind = 3 then 1 else 0) t) ∧
      (3 ≤ out → s.counted Rg.DMC_UE_CNT.at 1 t ∧ t.dmc.errKind = rd.kind % 8 ∧ t.dmc.errReq = rd.requester % 256 ∧
        t.dmc.errAddr = rd.block % 2 ^ 30 ∧ (rd.merge = true → rd.kind ≠ 3 → t.dmc.poison.contains rd.block = true) ∧
        (rd.merge = false → t.dmc.poison = s.dmc.poison)) ∧
      (rd.kind = 3 → t.dramCh = s.dramCh) ∧
      (∀ q a, rd.kind ≠ 3 → rd.acts ≠ 0 → s.locate (64 * rd.block) = q →
        (s.ch q.channel).hot.find? (fun e => e.1 == q.key && e.2.1 == q.row) = some (q.key, q.row, a) →
        (q.key, q.row, a + rd.acts) ∈ (t.ch q.channel).hot ∧
        (a < max 1 (fld (s.ch q.channel).rhCtl 31 16) → max 1 (fld (s.ch q.channel).rhCtl 31 16) ≤ a + rd.acts →
          bit (t.rd Rg.DMC_CH_FLAGS [q.channel]) 2 = true ∧ (rd.requester < 4 → s.counted (Rg.DMC_CH_RFM_CNT.at [q.channel]) 1 t) ∧
          (4 ≤ rd.requester → bit (s.rd Rg.DMC_CTL) 3 = true → s.counted (Rg.DMC_CH_THROTTLE_CNT.at [q.channel]) 1 t)))) ∧
    (∀ f k, (rd.kind = 3 ∧ 3 ≤ rd.outcome) ∨
        (s.dmc.formed = true ∧ (3 ≤ rd.outcome ∨ rd.kind ≠ 3 ∧ (s.capBytes ≤ 64 * rd.block ∨ s.dmc.poison.contains rd.block = true))) →
      rd.requester < 4 → rd.layer < 9 →
      (s.hd rd.requester).cur = some f → f.aborted = false → k = f.shows.getD rd.layer {} →
      (k.surface? rd.requester rd.layer).isSome = true → k.fault = none →
      ∃ t, exec (.dramReadComplete rd) s = .next t ∧ bit (t.rd Rg.CMP_L_STATE [rd.requester, rd.layer]) 28 = true)

/-- Frequency changes and bulk commands of the basin. FREQ_CHANGE_REQUEST in READY ends with IN_PROGRESS while a change
runs, with DONE at the rate in force and with a refusal at an unavailable one; else it waits for capture bursts or
asks for its grant; before READY it is an invalid write. FREQ_CHANGE_CANCEL before CHANGING ends it with CANCELLED and
gives up request and grant; FREQ_GRANT leads to the wait for a window or ends the change with the reason;
FREQ_CHANGE_START, in a freeboard window, takes every working channel to self-refresh in FREQ_CHANGE; FREQ_WINDOW_TIMEOUT releases the grant;
FREQ_CHANGE_DONE makes the new rate the one in force, with every working channel ACTIVE (R292, R394). BASIN_CLEAR,
BASIN_LOAD and BASIN_STORE are refused for a region in use, absent, beyond the capacity or while a command runs, in
this order; else they ask for a grant. BASIN_CMD_DONE zeroes the region, fills it from DRAM or stores it there, and
changes no other byte; the first block found uncorrectable is written as zeros and ends the copy, which the result
tells (R299). -/
def Obligations.DramFrequencyAndBasin : Prop :=
  ∀ (src : Source) (v : Word) (caps : List (Option (Nat × Int))) (bad b : List Nat) (j : BasinJob) (r n : Nat) (stop : Option Nat) (s s1 : State), s.inv = true →
    (∀ i, i ∈ [Instr.freqChangeRequest src v, .freqChangeCancel src v, .freqGrant, .freqChangeStart, .freqWindowTimeout,
        .freqChangeDone caps, .basinClear src v, .basinLoad src v, .basinStore src v, .basinBulkGrant] →
      ∀ s0, s0.turn i = s → ∃ t, exec i s0 = .next t ∧ s.dramFrame t) ∧
    (∀ s0, s0.turn (.basinCmdDone bad) = s → ∃ t, exec (.basinCmdDone bad) s0 = .next t ∧ State.dramFrame { s with dram := t.dram, basin := t.basin } t) ∧
    (s.takes src Rg.DMC_FREQ_CTL.at = true →
      (bit v 30 = false → s.boot.stage ≠ 5 → ∀ s0, s0.turn (.freqChangeRequest src v) = s → ∃ t, exec (.freqChangeRequest src v) s0 = .next t ∧ t.dmc = s.dmc ∧ t.pwg = s.pwg ∧
        t.mgt.fresh.length = s.mgt.fresh.length + 1) ∧
      (bit v 30 = false → s.boot.stage = 5 → ∀ s0, s0.turn (.freqChangeRequest src v) = s → ∃ t, exec (.freqChangeRequest src v) s0 = .next t ∧ t.fd Rg.DMC_FREQ_CTL [] 1 0 = fld v 1 0 ∧
        (s.dmc.fstate ≠ 0 → t.dmc = { s.dmc with fresult := 4 } ∧ t.pwg = s.pwg) ∧
        (s.dmc.fstate = 0 → fld v 1 0 = s.dmc.rate → t.dmc = { s.dmc with fresult := 1 } ∧ t.pwg = s.pwg) ∧
        (s.dmc.fstate = 0 → fld v 1 0 ≠ s.dmc.rate → s.dmc.avail.testBit (fld v 1 0) = false →
          t.dmc = { s.dmc with fresult := 6 } ∧ t.pwg = s.pwg) ∧
        (s.dmc.fstate = 0 → fld v 1 0 ≠ s.dmc.rate → s.dmc.avail.testBit (fld v 1 0) = true →
          ((∃ k < 16, (s.ch k).burst = true) → t.dmc = { s.dmc with fstate := 1, ftarget := fld v 1 0 } ∧ t.pwg = s.pwg) ∧
          ((∀ k < 16, (s.ch k).burst = false) → t.dmc = { s.dmc with fstate := 2, ftarget := fld v 1 0 } ∧ s.asked t))) ∧
      (bit v 31 = false → ∀ s0, s0.turn (.freqChangeCancel src v) = s → ∃ t, exec (.freqChangeCancel src v) s0 = .next t ∧
        (s.dmc.fstate = 1 ∨ s.dmc.fstate = 2 ∨ s.dmc.fstate = 3 → t.dmc = { s.dmc with fstate := 0, fresult := 5 } ∧
          t.pwg.queue = dropReq 1 0 s.pwg.queue ∧ t.pwg.decided = dropReq 1 0 s.pwg.decided ∧ t.pwg.held = dropReq 1 0 s.pwg.held) ∧
        (s.dmc.fstate = 0 ∨ 4 ≤ s.dmc.fstate → t.dmc = s.dmc ∧ t.pwg = s.pwg))) ∧
    (s.boot.held = false →
      (takeGrant 1 0 s = some s1 →
        exec .freqGrant s = .next (if s.dmc.fstate = 2 then { s1 with dmc := { s.dmc with fstate := 3 } } else release 1 0 s1)) ∧
      (takeGrant 1 0 s = none → takeRefusal 1 0 s = none → exec .freqGrant s = .next s) ∧
      (takeGrant 1 0 s = none → takeRefusal 1 0 s = some (r, s1) →
        (s.dmc.fstate ≠ 2 → exec .freqGrant s = .next s1) ∧
        (s.dmc.fstate = 2 → exec .freqGrant s = .next (raiseRefusal 6 noUnit Rg.DMC_FREQ_STATUS.at 2 0 { s1 with
          dmc := { s.dmc with fstate := 0, fresult := 2, freason := r } }))) ∧
      (s.dmc.fstate ≠ 3 → (∀ s0, s0.turn .freqChangeStart = s → exec .freqChangeStart s0 = .next s) ∧ ∀ s0, s0.turn .freqWindowTimeout = s → exec .freqWindowTimeout s0 = .next s) ∧
      (s.dmc.fstate = 3 → (∃ k ∈ s.dmc.working, s.window k changeNs = false) → ∀ s0, s0.turn .freqChangeStart = s → exec .freqChangeStart s0 = .next s) ∧
      (s.dmc.fstate = 3 → s.dmc.working.Nodup →
        ((∀ k ∈ s.dmc.working, s.window k changeNs = true) → ∀ s0, s0.turn .freqChangeStart = s → ∃ t, exec .freqChangeStart s0 = .next t ∧ t.dmc = { s.dmc with fstate := 4 } ∧
          (∀ c, c ∈ s.dmc.working → (t.ch c).state = 4 ∧ (t.ch c).pm = [2, if s.cfg.dram.ranks = 2 then 2 else 0] ∧ (t.ch c).debt = [0, 0] ∧
            (t.ch c).applyDue = false) ∧
          (∀ c < 16, s.dmc.working.contains c = false → t.ch c = s.ch c)) ∧
        (∀ s0, s0.turn .freqWindowTimeout = s → ∃ t, exec .freqWindowTimeout s0 = .next t ∧ t.dmc = { s.dmc with fstate := 0, fresult := 3 } ∧
          t.pwg = { s.pwg with held := dropReq 1 0 s.pwg.held } ∧ t.dramCh = s.dramCh)) ∧
      (s.dmc.fstate ≠ 4 → ∀ s0, s0.turn (.freqChangeDone caps) = s → exec (.freqChangeDone caps) s0 = .next s) ∧
      (s.dmc.fstate = 4 → ∀ s0, s0.turn (.freqChangeDone caps) = s → ∃ t, exec (.freqChangeDone caps) s0 = .next t ∧ t.dmc = { s.dmc with rate := s.dmc.ftarget, fstate := 0, fresult := 1 } ∧
        t.pwg = { s.pwg with held := dropReq 1 0 s.pwg.held } ∧
        ∀ c, c ∈ s.dmc.working → (t.ch c).state = 3 ∧ (t.ch c).pm = [0, 0] ∧ (t.ch c).debt = [0, 0] ∧ (t.ch c).applyDue = false) ∧
      (takeGrant 5 0 s = some s1 → exec .basinBulkGrant s = .next { s1 with
        dmc := { s.dmc with basinJob := s.dmc.basinJob.map fun k => { k with granted := true } } }) ∧
      (takeGrant 5 0 s = none → takeRefusal 5 0 s = none → exec .basinBulkGrant s = .next s) ∧
      (takeGrant 5 0 s = none → takeRefusal 5 0 s = some (r, s1) →
        exec .basinBulkGrant s = .next (raiseRefusal 6 noUnit Rg.DMC_BASIN_STATUS.at 5 0 { s1 with
          dmc := { s.dmc with basinJob := none, basinResult := 5, basinReason := r } })) ∧
      (s.dmc.basinJob = none → ∀ s0, s0.turn (.basinCmdDone bad) = s → exec (.basinCmdDone bad) s0 = .next s) ∧
      (s.dmc.basinJob = some j → j.granted = false → ∀ s0, s0.turn (.basinCmdDone bad) = s → exec (.basinCmdDone bad) s0 = .next s) ∧
      (s.dmc.basinJob = some j → j.granted = true → s.regionBanks j.region = some b → ∀ s0, s0.turn (.basinCmdDone bad) = s → ∃ t, exec (.basinCmdDone bad) s0 = .next t ∧
        t.dmc.basinJob = none ∧ t.pwg = { s.pwg with held := dropReq 5 0 s.pwg.held } ∧
        (j.op = 0 → t.dram = s.dram ∧ t.dmc.basinResult = 1 ∧
          ∀ a, Memory.byte 0 t.basin a = if b.contains (a / 1048576) then 0 else Memory.byte 0 s.basin a) ∧
        (stop = s.copyStop j.op (j.page * 65536) (b.length * 1048576) bad →
          n = (match stop with | some k => 64 * k | none => b.length * 1048576) →
          (j.op ≠ 0 → t.dmc.basinResult = if stop.isSome then 6 else 1) ∧
          (j.op = 1 → b.Nodup → t.dram = s.dram ∧
            (∀ o < b.length * 1048576, Memory.byte 0 t.basin (regionAddr b o) = if o < n then Memory.byte 0 s.dram (j.page * 65536 + o)
              else if stop.isSome = true ∧ o < n + 64 then 0 else Memory.byte 0 s.basin (regionAddr b o)) ∧
            (∀ a, b.contains (a / 1048576) = false → Memory.byte 0 t.basin a = Memory.byte 0 s.basin a)) ∧
          (j.op = 2 → t.basin = s.basin ∧
            (∀ o < b.length * 1048576, Memory.byte 0 t.dram (j.page * 65536 + o) = if o < n then Memory.byte 0 s.basin (regionAddr b o)
              else if stop.isSome = true ∧ o < n + 64 then 0 else Memory.byte 0 s.dram (j.page * 65536 + o)) ∧
            (∀ a, a < j.page * 65536 ∨ j.page * 65536 + b.length * 1048576 ≤ a → Memory.byte 0 t.dram a = Memory.byte 0 s.dram a))))) ∧
    (∀ c op, (c, op) ∈ [(Instr.basinClear src v, 0), (.basinLoad src v, 1), (.basinStore src v, 2)] →
      s.takes src Rg.DMC_BASIN_CMD.at = true →
      (s.boot.stage ≠ 5 → ∀ s0, s0.turn c = s → exec c s0 = .next (invalidWrite Rg.DMC_BASIN_CMD.at s)) ∧
      (s.boot.stage = 5 →
        (s.regionInUse (fld v 10 8) = true → ∀ s0, s0.turn c = s → exec c s0 = .next { s with dmc := { s.dmc with basinResult := 2 } }) ∧
        (s.regionInUse (fld v 10 8) = false →
          (s.regionBanks (fld v 10 8) = none → ∀ s0, s0.turn c = s → exec c s0 = .next { s with dmc := { s.dmc with basinResult := 3 } }) ∧
          (s.regionBanks (fld v 10 8) = some b →
            (op ≠ 0 → s.capBytes < s.fd Rg.DMC_BASIN_PAGE [] 19 0 * 65536 + b.length * 1048576 →
              ∀ s0, s0.turn c = s → exec c s0 = .next { s with dmc := { s.dmc with basinResult := 4 } }) ∧
            (op = 0 ∨ s.fd Rg.DMC_BASIN_PAGE [] 19 0 * 65536 + b.length * 1048576 ≤ s.capBytes →
              (s.dmc.basinJob.isSome = true → ∀ s0, s0.turn c = s → exec c s0 = .next { s with dmc := { s.dmc with basinResult := 7 } }) ∧
              (s.dmc.basinJob = none → ∀ s0, s0.turn c = s → ∃ t, exec c s0 = .next t ∧ s.asked t ∧ t.dmc = { s.dmc with
                basinJob := some { op := op, region := fld v 10 8, page := s.fd Rg.DMC_BASIN_PAGE [] 19 0, granted := false } }))))))

/-- Messages and timers of the time domains. A message on a port that is off or without link does nothing; one whose frame,
transport or domain number no enabled domain takes (of two that both take it the one that the command names; log 53), with
a wrong version, a one-step Sync or a Delay_Resp for another port is discarded and counted (R303, R304). A Sync of the domain's master waits with its timestamp, corrected by rx_lat; its Follow_Up within 1 s completes
a pair, from which SLAVE and SUSPECT form the offset of R309: in SLAVE one within step_thr feeds the servo, which sets
the addend of the selected domain (R311), unless deviant exchanges are being counted, and a larger one leads to SUSPECT; four in a row within step_thr lead back;
with a step armed the clock steps by the offset (R306, R314). An Announce is kept and a better master starts
UNCALIBRATED (R309, R310). DELAY_REQ_SEND sends a frame and keeps its timestamp, or drops it when 16 wait (R308); a
Delay_Resp takes its entry and, with a pair, forms a path delay, which filters mpd_ref or, eight times out of
tolerance to one side, leads to the path event (R312), whose end takes the mean of the last exchanges. The Announce
and Sync timeouts lose the master; REVERT_TIMER returns to a consistent primary domain (R313). -/
def Obligations.NetworkTimeMessages : Prop :=
  ∀ (d0 d : Fin 2) (m : PtpMsg) (x : TimDom) (w : SyncWait) (e : TsqEntry) (p : TimPair) (o acc st raw : Int) (k : Nat) (s : State),
    s.boot.held = false → s.inv = true → s.tim.doms.rising = true → x = s.dom d.val →
    (∀ i, i ∈ [Instr.syncReceive d0 m, .followUpReceive d0 m, .announceReceive d0 m, .delayRespReceive d0 m, .delayReqSend d, .tsqEntryExpiry,
        .announceTimeout d, .syncPairTimeout d, .pathHoldoffExpiry d, .revertTimer, .ethFrameDiscard] →
      ∀ s0, s0.turn i = s → ∃ t, exec i s0 = .next t ∧ s.timFrame t) ∧
    (∀ i, i ∈ [Instr.syncReceive d0 m, .followUpReceive d0 m, .announceReceive d0 m, .delayRespReceive d0 m] →
      (s.tim.run = false ∨ s.tim.link = false ∨ s.absent 15 = true → ∀ s0, s0.turn i = s → exec i s0 = .next s) ∧
      (s.tim.run = true → s.tim.link = true → s.absent 15 = false →
        s.msgDomain? d0.val m = none ∨ m.version ≠ 2 ∨ 1 < m.minor ∨ (i = .syncReceive d0 m ∧ m.twoStep = false) ∨
          (i = .delayRespReceive d0 m ∧ m.requesting ≠ s.ownPort) →
        ∀ s0, s0.turn i = s → exec i s0 = .next (count1 Rg.TIM_RX_DISCARD_CNT [] s))) ∧
    (∀ k, s.msgDomain? d0.val m = some k → ∃ n, s.frameTransport? m.frame = some n ∧ (s.dom k).state ≠ 0 ∧ (s.dom k).dnum = m.dnum ∧
      (s.dom k).transport = n) ∧
    (∀ n, m.frame.fcs = false ∨ m.frame.tags ≠ s.tim.vlan.toList ∨ (m.frame.etype ≠ 0x88F7 ∧ m.frame.etype ≠ 0x0800 ∧ m.frame.etype ≠ 0x86DD) ∨
        (m.frame.etype = 0x88F7 ∧ m.frame.dest ≠ 0x011B19000000 ∧ m.frame.dest ≠ s.macAddr) ∨
        (m.frame.etype = 0x0800 ∧ ((m.frame.ipDest ≠ 0xE0000181 ∧ m.frame.ipDest ≠ (s.rd Rg.TIM_IPV4).toNat) ∨ m.frame.ihl ≠ 5 ∨
          m.frame.frag = true ∨ (m.frame.port ≠ 319 ∧ m.frame.port ≠ 320))) ∨
        (m.frame.etype = 0x86DD ∧ ((m.frame.ipDest ≠ ptpLocal ∧ m.frame.ipDest ≠ ptpGlobal ∧ m.frame.ipDest ≠ s.ipv6Addr) ∨
          m.frame.ext = true ∨ (m.frame.port ≠ 319 ∧ m.frame.port ≠ 320))) → s.frameTransport? m.frame ≠ some n) ∧
    exec .ethFrameDiscard s = .next (if s.tim.run = true ∧ s.tim.link = true ∧ s.absent 15 = false then
      count1 Rg.TIM_RX_DISCARD_CNT [] s else s) ∧
    (s.tim.run = true → s.tim.link = true → s.absent 15 = false → m.version = 2 → m.minor ≤ 1 → s.msgDomain? d0.val m = some d.val →
      (m.twoStep = true → x.master ≠ some m.source → ∀ s0, s0.turn (.syncReceive d0 m) = s → exec (.syncReceive d0 m) s0 = .next s) ∧
      (m.twoStep = true → x.master = some m.source → ∀ s0, s0.turn (.syncReceive d0 m) = s → exec (.syncReceive d0 m) s0 = .next { s with tim := { s.tim with
        doms := s.tim.doms.put {} d.val { x with
          group := groupOf x.group m.frame
          syncs := (x.syncs.filter fun y => decide (s.now ≤ y.at' + 1280000000) && y.seq != m.seq) ++
            [{ seq := m.seq, t2 := s.clkTick / 65536 - (s.fd Rg.TIM_LAT [] 15 0 * 65536 : Nat), corr := m.corr, at' := s.now }] } } }) ∧
      (x.master ≠ some m.source ∨ (x.syncs.find? fun y => y.seq == m.seq && decide (s.now ≤ y.at' + 1280000000)) = none →
        ∀ s0, s0.turn (.followUpReceive d0 m) = s → exec (.followUpReceive d0 m) s0 = .next s) ∧
      (x.master = some m.source → (x.syncs.find? fun y => y.seq == m.seq && decide (s.now ≤ y.at' + 1280000000)) = some w →
        p = { t1 := (m.sec * 1000000000 + m.ns : Nat) * 65536, t2 := w.t2, cs := rnd (w.corr + m.corr) 65536 } →
        o = rnd (p.t2 - p.t1) 65536 - p.cs - x.mpd - s.timAsym d.val →
        ∀ s0, s0.turn (.followUpReceive d0 m) = s → ∃ t, exec (.followUpReceive d0 m) s0 = .next t ∧ (t.dom d.val).pair = some p ∧ (t.dom d.val).pairs = x.pairs + 1 ∧
          (x.state = 2 → 4 ≤ x.delays.length → 3 ≤ x.pairs → (t.dom d.val).mpd = rnd ((x.delays.take 4).sum) 4 ∧
            ((t.dom d.val).state = 3 ∨ (t.dom d.val).state = 4)) ∧
          (3 ≤ x.state → (t.dom d.val).o = o) ∧
          (s.tim.armed = false →
            (x.state = 3 → s.stepThr < o.natAbs → (t.dom d.val).state = 4) ∧
            (x.state = 3 → o.natAbs ≤ s.stepThr → (t.dom d.val).state = 3 ∧
              (x.pathN ≠ 0 → (t.dom d.val).acc = x.acc ∧ (t.dom d.val).s = x.s ∧ (s.tim.state = 1 → s.tim.sel = d.val → t.tim.addend = s.tim.addend)) ∧
              (s.tim.state = 1 → s.tim.sel = d.val → x.pathN = 0 → acc = clampI (-(2 ^ 40)) (2 ^ 40) (x.acc + o) →
                st = clampI (-(s.slewPpm * 5369)) (s.slewPpm * 5369)
                  (rnd (o * s.fd Rg.TIM_SERVO_KP [] 23 0 + acc * s.fd Rg.TIM_SERVO_KI [] 23 0) 65536) →
                (t.dom d.val).acc = acc ∧ t.tim.addend = ((addendNominal : Int) - st).toNat ∧ t.clkTick = s.clkTick)) ∧
            (x.state = 4 → s.stepThr < o.natAbs → (t.dom d.val).state = 4 ∧ (t.dom d.val).good = 0) ∧
            (x.state = 4 → o.natAbs ≤ s.stepThr → x.good < 3 → (t.dom d.val).state = 4 ∧ (t.dom d.val).good = x.good + 1) ∧
            (x.state = 4 → o.natAbs ≤ s.stepThr → 3 ≤ x.good → (t.dom d.val).state = 3)) ∧
          (s.tim.armed = true → s.stepDomain? = some d.val → x.state = 3 ∨ x.state = 4 → s.stepThr < o.natAbs →
            t.tim.armed = false ∧ t.tim.stepDone = true ∧ t.clkTick = s.clkTick - o * (2 ^ 32 : Nat) ∧ t.tim.state = 1 ∧
            t.tim.sel = d.val)) ∧
      (m.source / 65536 = s.ownPort / 65536 ∨ 255 ≤ m.steps → ∀ s0, s0.turn (.announceReceive d0 m) = s → exec (.announceReceive d0 m) s0 = .next s) ∧
      (m.source / 65536 ≠ s.ownPort / 65536 → m.steps < 255 → ∀ s0, s0.turn (.announceReceive d0 m) = s → ∃ t, exec (.announceReceive d0 m) s0 = .next t ∧
        (t.dom d.val).foreign = noteForeign s.now m x.foreign ∧
        (∀ f, bestMaster s.now (noteForeign s.now m x.foreign) = some f →
          (t.dom d.val).master = some f.source ∧ (t.dom d.val).gm = f.gm ∧
          (x.master ≠ some f.source → (t.dom d.val).state = 2 ∧ (t.dom d.val).pairs = 0 ∧ (t.dom d.val).delays = [])) ∧
        (bestMaster s.now (noteForeign s.now m x.foreign) = none → (t.dom d.val).master = x.master ∧ (t.dom d.val).state = x.state)) ∧
      (m.requesting = s.ownPort →
        (x.master ≠ some m.source ∨ (s.tim.tsq.find? fun y => y.dom == d.val && y.seq == m.seq) = none →
          ∀ s0, s0.turn (.delayRespReceive d0 m) = s → exec (.delayRespReceive d0 m) s0 = .next s) ∧
        (x.master = some m.source → (s.tim.tsq.find? fun y => y.dom == d.val && y.seq == m.seq) = some e →
          (e.pair = none → ∀ s0, s0.turn (.delayRespReceive d0 m) = s → exec (.delayRespReceive d0 m) s0 = .next { s with tim := { s.tim with tsq := s.tim.tsq.erase e } }) ∧
          (e.pair = some p → raw = rnd ((p.t2 - p.t1) + (((m.sec * 1000000000 + m.ns : Nat) * 65536 : Int) - e.t3) -
              (p.cs + rnd m.corr 65536) * 65536) 131072 →
            k = (if x.pathN ≠ 0 ∧ decide (x.mpd < raw) = x.pathUp then x.pathN + 1 else 1) →
            ∀ s0, s0.turn (.delayRespReceive d0 m) = s → ∃ t, exec (.delayRespReceive d0 m) s0 = .next t ∧ t.tim.tsq = s.tim.tsq.erase e ∧
              (t.dom d.val).raws = (x.raws ++ [raw]).drop (x.raws.length + 1 - 8) ∧
              (x.state = 2 → (t.dom d.val).delays = x.delays ++ [raw]) ∧
              (x.state = 3 → (raw - x.mpd).natAbs ≤ s.pathThr d.val → (t.dom d.val).mpd = x.mpd + rnd (raw - x.mpd) 16 ∧
                (t.dom d.val).state = 3) ∧
              (x.state = 3 → s.pathThr d.val < (raw - x.mpd).natAbs → (t.dom d.val).mpd = x.mpd ∧
                (k < 8 → (t.dom d.val).pathN = k ∧ (t.dom d.val).state = 3) ∧
                (8 ≤ k → s.tim.stepTick = some s.tick → s.tim.sel = d.val → (t.dom d.val).pathN = 0 ∧ (t.dom d.val).state = 3) ∧
                (8 ≤ k → s.tim.stepTick ≠ some s.tick ∨ s.tim.sel ≠ d.val → (t.dom d.val).pathN = k ∧ (t.dom d.val).state = 5 ∧ (t.dom d.val).holdEnd = s.now + s.holdoffS d.val * 1280000000 ∧
                  s.counted (Rg.TIM_D_PATH_CNT.at [d.val]) 1 t)))))) ∧
    (x.state < 2 ∨ s.tim.run = false ∨ s.tim.link = false → exec (.delayReqSend d) s = .next s) ∧
    (2 ≤ x.state → s.tim.run = true → s.tim.link = true → ∃ t fr, exec (.delayReqSend d) s = .next t ∧ t.wire = .eth fr :: s.wire ∧
      (t.dom d.val).nextSeq = (x.nextSeq + 1) % 65536 ∧
      (s.tim.tsq.length < 16 → t.tim.tsq = s.tim.tsq ++ [TsqEntry.mk d.val x.nextSeq
        (s.clkTick / 65536 + (s.fd Rg.TIM_LAT [] 31 16 * 65536 : Nat)) x.pair]) ∧
      (16 ≤ s.tim.tsq.length → t.tim.tsq = s.tim.tsq ∧ s.counted Rg.TIM_TSQ_DROP_CNT.at 1 t ∧ bit (t.rd Rg.TIM_FLAGS) 6 = true)) ∧
    exec .tsqEntryExpiry s = .next { s with tim := { s.tim with tsq := s.tim.tsq.drop 1 } } ∧
    (∀ i drop, (i, drop) ∈ [(Instr.announceTimeout d, true), (.syncPairTimeout d, false)] →
      (x.state = 0 → ∀ s0, s0.turn i = s → exec i s0 = .next s) ∧
      (x.state ≠ 0 → ∀ s0, s0.turn i = s → ∃ t, exec i s0 = .next t ∧ (t.dom d.val).state = 1 ∧ (t.dom d.val).master = none ∧ (t.dom d.val).syncs = [] ∧
        (t.dom d.val).foreign = (if drop then x.foreign.filter fun f => some f.source != x.master else x.foreign) ∧
        (s.tim.state = 1 → s.tim.sel = d.val → s.consistent (1 - d.val) = false → t.tim.state = 2 ∧ bit (t.rd Rg.TIM_FLAGS) 3 = true) ∧
        (s.tim.state = 1 → s.tim.sel = d.val → s.consistent (1 - d.val) = true → t.tim.state = 1 ∧ t.tim.sel = 1 - d.val ∧
          t.tim.addend = s.tim.addend))) ∧
    (x.state ≠ 5 → ∀ s0, s0.turn (.pathHoldoffExpiry d) = s → exec (.pathHoldoffExpiry d) s0 = .next s) ∧
    (x.state = 5 → ∀ s0, s0.turn (.pathHoldoffExpiry d) = s → ∃ t, exec (.pathHoldoffExpiry d) s0 = .next t ∧ (t.dom d.val).state = 3 ∧ (t.dom d.val).pathN = 0 ∧
      (t.dom d.val).mpd = rnd x.raws.sum (max 1 x.raws.length)) ∧
    (s.tim.state ≠ 1 ∨ bit (s.rd Rg.TIM_CTL) 30 = false ∨ s.tim.sel = s.primaryDom ∨ s.consistent s.primaryDom = false →
      ∀ s0, s0.turn .revertTimer = s → exec .revertTimer s0 = .next s) ∧
    (s.tim.state = 1 → bit (s.rd Rg.TIM_CTL) 30 = true → s.tim.sel ≠ s.primaryDom → s.consistent s.primaryDom = true →
      ∀ s0, s0.turn .revertTimer = s → ∃ t, exec .revertTimer s0 = .next t ∧ t.tim.sel = s.primaryDom ∧ t.tim.state = 1 ∧ t.tim.addend = s.tim.addend ∧
        s.counted Rg.TIM_SWITCH_CNT.at 1 t ∧ bit (t.rd Rg.TIM_FLAGS) 4 = true)

/-- The time port, domains, permitted steps and pulse outputs. TIM_PORT_ENABLE reads eth and the VLAN as en goes to 1 and
leaves a running port as it is; in 1000BASE-X it then advertises full duplex without pause; ETH_LINK_CHANGE sets the link
of a running port, but keeps it down when the mode is not 1000 Mb/s full duplex, and sets a flag for such an SGMII word
(R302). STEP_ARM and STEP_DISARM set and clear armed (R314). DOMAIN_ENABLE
takes a disabled domain to LISTENING with nothing known, with transport and number as written; DOMAIN_DISABLE disables
it; a domain already so keeps its state (R310). PULSE_OUTPUT_ENABLE arms an output at its start, or, past it, at the
next whole period, or at nothing for a single pulse; PULSE_OUTPUT_FIRE makes an armed output whose target the clock has reached active with the next
target one period later, and PULSE_WIDTH_END ends the pulse (R315). -/
def Obligations.NetworkTimePorts : Prop :=
  ∀ (src : Source) (d : Fin 2) (k : Fin 8) (up ok : Bool) (v : Word) (x : TimDom) (y : PulseOut) (per : Nat) (start : Int) (s : State),
    s.inv = true → s.tim.doms.rising = true → s.tim.outs.rising = true → x = s.dom d.val → y = s.out k.val →
    (∀ i, i ∈ [Instr.timPortEnable src v, .ethLinkChange up ok, .stepArm src, .stepDisarm src, .domainEnable src d v, .domainDisable src d v,
        .pulseOutputEnable src k v, .pulseOutputFire k, .pulseWidthEnd k] → ∀ s0, s0.turn i = s → ∃ t, exec i s0 = .next t ∧ s.timFrame t ∧
      (i ≠ .timPortEnable src v → t.wire = s.wire)) ∧
    (s.takes src Rg.TIM_CTL.at = true →
      (s.tim.run = true → ∀ s0, s0.turn (.timPortEnable src v) = s → ∃ t, exec (.timPortEnable src v) s0 = .next t ∧ t.tim = s.tim ∧ t.wire = s.wire) ∧
      (s.tim.run = false → ∀ s0, s0.turn (.timPortEnable src v) = s → ∃ t, exec (.timPortEnable src v) s0 = .next t ∧
        t.wire = (if t.tim.eth = 1 then [.ethAdvertise true false] else []) ++ s.wire ∧ t.tim = { s.tim with
        run := true, eth := if fld v 25 24 ≤ 1 then fld v 25 24 else s.fd Rg.TIM_CTL [] 25 24
        vlan := if bit v 16 = true ∧ fld v 11 0 ≠ 0 ∧ fld v 11 0 ≠ 0xFFF then some (fld v 11 0) else none })) ∧
    (s.boot.held = false →
      (s.tim.run = false → exec (.ethLinkChange up ok) s = .next s) ∧
      (s.tim.run = true → up = true → ok = false → s.tim.eth = 0 → ∃ t, exec (.ethLinkChange up ok) s = .next t ∧
        t.tim = { s.tim with link := false } ∧ bit (t.rd Rg.TIM_FLAGS) 0 = true ∧ t.mgt = s.mgt) ∧
      (s.tim.run = true → up = false ∨ ok = true ∨ s.tim.eth ≠ 0 →
        exec (.ethLinkChange up ok) s = .next { s with tim := { s.tim with link := up && ok } })) ∧
    (s.takes src Rg.TIM_STEP_PERMIT.at = true → (∀ s0, s0.turn (.stepArm src) = s → exec (.stepArm src) s0 = .next { s with tim := { s.tim with armed := true } }) ∧
      ∀ s0, s0.turn (.stepDisarm src) = s → exec (.stepDisarm src) s0 = .next { s with tim := { s.tim with armed := false } }) ∧
    (s.takes src (Rg.TIM_D_CTL.at [d.val]) = true →
      (x.state ≠ 0 → ∀ s0, s0.turn (.domainEnable src d v) = s → ∃ t, exec (.domainEnable src d v) s0 = .next t ∧ t.tim = s.tim) ∧
      (x.state = 0 → ∀ s0, s0.turn (.domainEnable src d v) = s → ∃ t, exec (.domainEnable src d v) s0 = .next t ∧ t.dom d.val = { x with
        state := 1, transport := if fld v 27 26 ≤ 2 then fld v 27 26 else s.fd Rg.TIM_D_CTL [d.val] 27 26, dnum := fld v 15 8
        foreign := [], master := none, syncs := [], pair := none, raws := [], delays := [], pairs := 0, pathN := 0, good := 0 }) ∧
      (x.state = 0 → ∀ s0, s0.turn (.domainDisable src d v) = s → ∃ t, exec (.domainDisable src d v) s0 = .next t ∧ t.tim = s.tim) ∧
      (x.state ≠ 0 → ∀ s0, s0.turn (.domainDisable src d v) = s → ∃ t, exec (.domainDisable src d v) s0 = .next t ∧ (t.dom d.val).state = 0 ∧ (t.dom d.val).foreign = [] ∧
        (t.dom d.val).master = none ∧ (t.dom d.val).syncs = [] ∧
        (s.tim.state = 1 → s.tim.sel = d.val → s.consistent (1 - d.val) = false → t.tim.state = 2))) ∧
    (s.takes src (Rg.TIM_P_CTL.at [k.val]) = true →
      (y.on = true → ∀ s0, s0.turn (.pulseOutputEnable src k v) = s → ∃ t, exec (.pulseOutputEnable src k v) s0 = .next t ∧ t.tim = s.tim) ∧
      (y.on = false → per = (if (s.rd Rg.TIM_P_PERIOD [k.val]).toNat = 0 then 0 else max 100 (s.rd Rg.TIM_P_PERIOD [k.val]).toNat) →
        start = ((clkSec s.clkTick / 2 ^ 32 * 2 ^ 32 + (s.rd Rg.TIM_P_SEC [k.val]).toNat) * secUnit +
          s.fd Rg.TIM_P_NS [k.val] 29 0 * 2 ^ 32 : Nat) →
        ∀ s0, s0.turn (.pulseOutputEnable src k v) = s → ∃ t, exec (.pulseOutputEnable src k v) s0 = .next t ∧ (t.out k.val).on = true ∧ (t.out k.val).active = y.active ∧
          (t.out k.val).period = per * 2 ^ 32 ∧ (t.out k.val).width = pulseTicks per (s.rd Rg.TIM_P_WIDTH [k.val]).toNat ∧ (∀ j, j ≠ k.val → t.out j = s.out j) ∧
          (s.clkTick ≤ start → (t.out k.val).next = some start) ∧
          (start < s.clkTick → per = 0 → (t.out k.val).next = none) ∧
          (start < s.clkTick → per ≠ 0 → ∃ j : Nat, (t.out k.val).next = some (start + j * (per * 2 ^ 32 : Nat)) ∧
            s.clkTick ≤ start + j * (per * 2 ^ 32 : Nat) ∧ start + j * (per * 2 ^ 32 : Nat) < s.clkTick + (per * 2 ^ 32 : Nat)))) ∧
    (s.boot.held = false →
      (y.on = false ∨ y.next = none ∨ (∃ g, y.next = some g ∧ s.clkTick < g) → ∀ s0, s0.turn (.pulseOutputFire k) = s → exec (.pulseOutputFire k) s0 = .next s) ∧
      (∀ g, y.on = true → y.next = some g → g ≤ s.clkTick → ∀ s0, s0.turn (.pulseOutputFire k) = s → exec (.pulseOutputFire k) s0 = .next { s with tim := { s.tim with
        outs := s.tim.outs.put {} k.val { y with active := true, next := if y.period = 0 then none else some (g + y.period) } } }) ∧
      ∀ s0, s0.turn (.pulseWidthEnd k) = s → exec (.pulseWidthEnd k) s0 = .next { s with tim := { s.tim with outs := s.tim.outs.put {} k.val { y with active := false } } })

/-- Calibration of trims and where they take effect. CAL_GO and CAL_PERIOD_EXPIRY start a calibration of a group in IDLE
on its ACTIVE lanes without a busy scan, end it with NO_LANES when none is ACTIVE, and wait in RUN and APPLY; one whose
ACTIVE lanes all have a busy scan has no lane to step and ends CONVERGED (log 41); CAL_STOP
ends one STOPPED and clears pending, and gives its lanes no result; CAL_TEMP_READ takes the temperature and starts one when it has moved by dtemp;
CAL_APPLY_TIMEOUT ends one with the steps still staged (R325, R326). A sub-window proposes a step of +1, 0 or −1;
after run A run B follows, and at its end each trim takes the step that both proposed, unless a software value is
pending or the range would be left; differing proposals count (R322, R323); a lane short of data leaves.
CAL_TRIM_APPLY, at a port's application boundary, and TRIM_RAMP_STEP move a trim one step towards its staged value
(R327). STATIC_TRIM_WRITE and
DYN_TRIM_WRITE stage the written values, which take effect at once on a lane that carries no blocks (R327), and before
BRINGUP are invalid writes (R394). -/
def Obligations.TrimCalibration : Prop :=
  ∀ (src : Source) (g : Fin 12) (n : Fin 96) (p : Fin 24) (kind : Fin 8) (w : SubWindow) (v : Word) (c : CalGroup) (y : CalLane) (step th t0 : Int)
    (r : PortCfg) (s : State), s.inv = true → c = s.calGroup g.val → y = s.calLane n.val →
    (∀ i, i ∈ [Instr.calGo src g, .calStop src g, .calTempRead g, .calPeriodExpiry g, .calApplyTimeout g, .calSubwindowEnd n w, .calTrimApply p,
        .trimRampStep n kind, .dynTrimWrite src n v, .staticTrimWrite src n v] → ∀ s0, s0.turn i = s → ∃ t, exec i s0 = .next t ∧ s.laneFrame t ∧
      ∀ k, (t.lane k).state = (s.lane k).state) ∧
    (∀ i, (i = Instr.calGo src g ∧ s.takes src (Rg.CAL_G_CMD.at [g.val]) = true) ∨
        (i = .calPeriodExpiry g ∧ s.boot.held = false ∧ s.fd Rg.CAL_CTL [] 31 16 ≠ 0) →
      (c.state = 1 → (∃ k, k ∈ s.groupLanes g.val ∧ (s.lane k).state = 5 ∧ (s.lane k).eyeBusy = false) → ∀ s0, s0.turn i = s → ∃ t, exec i s0 = .next t ∧
        t.calGroup g.val = { c with state := 2, iter := 1, runB := false, sub := 0, startTemp := c.temp } ∧
        ∀ k, k ∈ s.groupLanes g.val →
          (t.calLane k).taking = ((s.lane k).state == 5 && !(s.lane k).eyeBusy) ∧ (t.calLane k).runA = [] ∧ (t.calLane k).runNow = [] ∧
          ((s.lane k).state = 5 → (s.lane k).eyeBusy = true → (t.calLane k).res = 4)) ∧
      (c.state = 1 → c.pending = false → (∃ k, k ∈ s.groupLanes g.val ∧ (s.lane k).state = 5) →
        (∀ k, k ∈ s.groupLanes g.val → (s.lane k).state = 5 → (s.lane k).eyeBusy = true) → ∀ s0, s0.turn i = s → ∃ t, exec i s0 = .next t ∧
          (t.calGroup g.val).state = 1 ∧ (t.calGroup g.val).result = 1 ∧ (t.calGroup g.val).calTemp = some c.temp ∧
          ∀ k, k ∈ s.groupLanes g.val → (s.lane k).state = 5 → (t.calLane k).res = 4) ∧
      (c.state = 1 → (∀ k, k ∈ s.groupLanes g.val → (s.lane k).state ≠ 5) → ∀ s0, s0.turn i = s → ∃ t, exec i s0 = .next t ∧ (t.calGroup g.val).state = 1 ∧
        (t.calGroup g.val).result = 5 ∧ t.mgt.fresh.length = s.mgt.fresh.length + 1 ∧ t.counters = s.counters) ∧
      (c.state = 2 ∨ c.state = 3 → ∀ s0, s0.turn i = s → exec i s0 = .next { s with calGroups := s.calGroups.put {} g.val { c with pending := true } })) ∧
    (s.takes src (Rg.CAL_G_CMD.at [g.val]) = true →
      (c.state = 0 → ∀ s0, s0.turn (.calGo src g) = s → exec (.calGo src g) s0 = .next (invalidWrite (Rg.CAL_G_CMD.at [g.val]) s)) ∧
      (c.state < 2 → ∀ s0, s0.turn (.calStop src g) = s → exec (.calStop src g) s0 = .next { s with calGroups := s.calGroups.put {} g.val { c with pending := false } }) ∧
      (c.state = 2 ∨ c.state = 3 → ∀ s0, s0.turn (.calStop src g) = s → ∃ t, exec (.calStop src g) s0 = .next t ∧ (t.calGroup g.val).state = 1 ∧ (t.calGroup g.val).result = 3 ∧
        (t.calGroup g.val).pending = false ∧ t.counters = s.counters ∧ ∀ k, k ∈ s.groupLanes g.val → (t.calLane k).taking = false ∧
          (t.calLane k).staged = (s.calLane k).staged ∧ (t.calLane k).res = (s.calLane k).res)) ∧
    (s.boot.held = false →
      (s.fd Rg.CAL_CTL [] 31 16 = 0 ∨ c.state = 0 → exec (.calPeriodExpiry g) s = .next s) ∧
      (th = countedTemp s.tHot (s.thermal.temps.getD g.val (0, true)) →
        (c.calTemp = none ∨ bit (s.rd Rg.CAL_CTL) 1 = false ∨ (c.calTemp = some t0 ∧ (th - t0).natAbs < max 1 (s.fd Rg.CAL_CTL [] 15 8)) →
          exec (.calTempRead g) s = .next { s with calGroups := s.calGroups.put {} g.val { c with temp := th } }) ∧
        (c.calTemp = some t0 → bit (s.rd Rg.CAL_CTL) 1 = true → max 1 (s.fd Rg.CAL_CTL [] 15 8) ≤ (th - t0).natAbs →
          (c.state = 1 → (∃ k, k ∈ s.groupLanes g.val ∧ (s.lane k).state = 5 ∧ (s.lane k).eyeBusy = false) →
            ∃ t, exec (.calTempRead g) s = .next t ∧ (t.calGroup g.val).state = 2 ∧ (t.calGroup g.val).temp = th ∧ (t.calGroup g.val).startTemp = th) ∧
          (c.state = 2 ∨ c.state = 3 → exec (.calTempRead g) s = .next { s with
            calGroups := s.calGroups.put {} g.val { c with temp := th, pending := true } }))) ∧
      (c.state ≠ 3 → exec (.calApplyTimeout g) s = .next s) ∧
      (c.state = 3 → c.pending = false → ∃ t, exec (.calApplyTimeout g) s = .next t ∧ (t.calGroup g.val).state = 1 ∧ (t.calGroup g.val).result = 4 ∧
        t.counters = s.counters ∧ ∀ k, (t.calLane k).staged = (s.calLane k).staged ∧ (t.calLane k).force = (s.calLane k).force) ∧
      (y.taking = false ∨ (s.calGroup (n.val / 8)).state ≠ 2 ∨ 3 ≤ y.runNow.length → ∀ s0, s0.turn (.calSubwindowEnd n w) = s → exec (.calSubwindowEnd n w) s0 = .next s) ∧
      (y.taking = true → (s.calGroup (n.val / 8)).state = 2 → y.runNow.length < 3 → s.assigned n.val = true →
        step = (if max 1 (s.fd Rg.CAL_RUN_CTL [] 15 8) * (64 * 2 ^ s.fd Rg.CAL_RUN_CTL [] 4 0) < w.d * 4096 then 1
          else if max 1 (s.fd Rg.CAL_RUN_CTL [] 15 8) * (64 * 2 ^ s.fd Rg.CAL_RUN_CTL [] 4 0) < -w.d * 4096 then -1 else 0) →
        (w.low = true → (s.calGroup (n.val / 8)).pending = false → ∀ s0, s0.turn (.calSubwindowEnd n w) = s → ∃ t, exec (.calSubwindowEnd n w) s0 = .next t ∧
          (t.calLane n.val).taking = false ∧ (t.calLane n.val).res = 2) ∧
        (w.low = false → y.runNow.length < 2 → ∀ s0, s0.turn (.calSubwindowEnd n w) = s → exec (.calSubwindowEnd n w) s0 = .next { s with
          calLanes := s.calLanes.put {} n.val { y with runNow := y.runNow ++ [step] } }) ∧
        (w.low = false → y.runNow.length = 2 → (∀ k, k ∈ s.groupLanes (n.val / 8) → k ≠ n.val → (s.calLane k).taking = false) →
          ((s.calGroup (n.val / 8)).runB = false → ∀ s0, s0.turn (.calSubwindowEnd n w) = s → ∃ t, exec (.calSubwindowEnd n w) s0 = .next t ∧ (t.calGroup (n.val / 8)).runB = true ∧
            (t.calGroup (n.val / 8)).state = 2 ∧ (t.calLane n.val).runA = y.runNow ++ [step] ∧ (t.calLane n.val).runNow = []) ∧
          ((s.calGroup (n.val / 8)).runB = true → ∀ s0, s0.turn (.calSubwindowEnd n w) = s → ∃ t, exec (.calSubwindowEnd n w) s0 = .next t ∧
            (∀ b < 3, (t.calLane n.val).staged.get (5 + b) =
              if y.runA.getD b 0 = (y.runNow ++ [step]).getD b 0 ∧ y.softPend.contains (5 + b) = false ∧
                  trimLo (5 + b) ≤ y.staged.get (5 + b) + y.runA.getD b 0 ∧ y.staged.get (5 + b) + y.runA.getD b 0 ≤ trimHi (5 + b)
                then y.staged.get (5 + b) + y.runA.getD b 0 else y.staged.get (5 + b)) ∧
            s.counted (Rg.CAL_L_DISAGREE_CNT.at [n.val])
              ((List.range 3).filter fun i => decide (y.runA.getD i 0 ≠ (y.runNow ++ [step]).getD i 0)).length t ∧
            ((s.calGroup (n.val / 8)).pending = false → (∀ b < 3, y.runA.getD b 0 = 0 ∨ y.runA.getD b 0 ≠ (y.runNow ++ [step]).getD b 0) →
              (t.calGroup (n.val / 8)).state = 1 ∧ (t.calGroup (n.val / 8)).result = 1 ∧
              (t.calGroup (n.val / 8)).calTemp = some (s.calGroup (n.val / 8)).startTemp ∧
              s.counted (Rg.CAL_G_RUN_CNT.at [n.val / 8]) 1 t)))) ∧
      (s.cfg.port? p.val = none → ∀ s0, s0.turn (.calTrimApply p) = s → exec (.calTrimApply p) s0 = .next s) ∧
      (s.cfg.port? p.val = some r → ∀ s0, s0.turn (.calTrimApply p) = s → ∃ t, exec (.calTrimApply p) s0 = .next t ∧ ∀ k kd, (t.calLane k).staged = (s.calLane k).staged ∧
        (t.calLane k).force.get kd =
          if k ∈ r.lanes ∧ kd ∈ [1, 2, 3, 6, 7] ∧ s.applyBoundary p.val r (txTrim kd) = true ∧ carriesFor (s.lane k) kd = true then
            (s.calLane k).force.get kd + (if (s.calLane k).force.get kd < (s.calLane k).staged.get kd then 1
              else if (s.calLane k).staged.get kd < (s.calLane k).force.get kd then -1 else 0)
          else (s.calLane k).force.get kd) ∧
      (y.ramping.contains kind.val = false → ∀ s0, s0.turn (.trimRampStep n kind) = s → exec (.trimRampStep n kind) s0 = .next s) ∧
      (y.ramping.contains kind.val = true → ∀ s0, s0.turn (.trimRampStep n kind) = s → ∃ t, exec (.trimRampStep n kind) s0 = .next t ∧ (t.calLane n.val).staged = y.staged ∧
        (t.calLane n.val).force.get kind.val = y.force.get kind.val + (if y.force.get kind.val < y.staged.get kind.val then 1
          else if y.staged.get kind.val < y.force.get kind.val then -1 else 0) ∧
        ((t.calLane n.val).force.get kind.val = y.staged.get kind.val → (t.calLane n.val).ramping.contains kind.val = false))) ∧
    (∀ i a vals, (i, a, vals) ∈ [(Instr.dynTrimWrite src n v, Rg.CAL_L_DYN.at [n.val],
          [(5, sext 6 (fld v 13 8)), (6, sext 5 (fld v 20 16)), (7, sext 5 (fld v 28 24))]),
        (.staticTrimWrite src n v, Rg.CAL_L_STATIC.at [n.val], [(1, (fld v 4 0 : Int)), (2, (fld v 12 8 : Int)), (3, sext 5 (fld v 20 16))])] →
      s.takes src a = true →
      (s.boot.stage ≠ 4 → s.boot.stage ≠ 5 → s.boot.stage ≠ 7 → ∀ s0, s0.turn i = s → exec i s0 = .next (invalidWrite a s)) ∧
      (s.boot.stage = 4 ∨ s.boot.stage = 5 ∨ s.boot.stage = 7 →
        (s.assigned n.val = false → ∀ s0, s0.turn i = s → exec i s0 = .next s) ∧
        (s.assigned n.val = true → ∀ s0, s0.turn i = s → ∃ t, exec i s0 = .next t ∧ ∀ kd val, (kd, val) ∈ vals → (t.calLane n.val).staged.get kd = val ∧
          ((if kd = 5 then (s.lane n.val).eyeBusy else carriesFor (s.lane n.val) kd) = false → (t.calLane n.val).force.get kd = val) ∧
          ((if kd = 5 then (s.lane n.val).eyeBusy else carriesFor (s.lane n.val) kd) = true →
            (t.calLane n.val).force.get kd = y.force.get kd))))

/-- Admission of heavy operations and thermal sensing. GRANT_DECISION grants the queued request of the lowest class, the
earliest of it, when it fits T and, if standing, S with no ramp in progress, and does nothing otherwise (R338).
GRANT_DEADLINE refuses a request still queued at its deadline with DEADLINE, counted, recorded and flagged (R338, R341), and
does nothing before. STANDING_RAMP_DONE, t_grant after the decision, lets the grant reach its requester (R338). BUDGET_WRITE stores the word, takes no grant back, tests
every queued request afresh and refuses those that can no longer be granted, and sets over_budget when a tighter limit
finds the load above it (R339). THERMAL_SAMPLE takes the readings; a temperature at t_trip starts the thermal-trip
reset, and else the state follows t_warn and t_hot with the 2 °C of hysteresis; no grant is taken back (R342, R343);
while a trip holds it counts the cool samples, and while another reset holds it only takes the readings. -/
def Obligations.GrantsAndThermal : Prop :=
  ∀ (src : Source) (cls : Fin 8) (unit : Nat) (base : Bool) (v : Word) (rs ts : List (Int × Bool)) (g : GrantReq) (pre post : List GrantReq)
    (tmax : Int) (reg : Reg) (s : State), s.inv = true →
    (∀ i, i ∈ [Instr.grantDecision, .grantDeadline cls unit, .standingRampDone, .budgetWrite src base v] →
      ∀ s0, s0.turn i = s → ∃ t, exec i s0 = .next t ∧ s.grantFrame t ∧ t.pwg.held = s.pwg.held) ∧
    (s.boot.held = false →
      (s.pwg.queue = [] → ∀ s0, s0.turn .grantDecision = s → exec .grantDecision s0 = .next s) ∧
      (s.pwg.queue = pre ++ g :: post → (∀ h, h ∈ pre → g.cls < h.cls) → (∀ h, h ∈ post → g.cls ≤ h.cls) →
        (((s.loadT + g.alloc : Nat) : Int) ≤ s.limitE →
          (isStanding g.cls = true → ((s.loadS + g.alloc : Nat) : Int) ≤ s.limitE - s.reserveMw ∧ s.pwg.ramp = none) →
          ∀ s0, s0.turn .grantDecision = s → ∃ t, exec .grantDecision s0 = .next t ∧ s.counted Rg.PWG_GRANT_CNT.at 1 t ∧ t.pwg = { s.pwg with
            queue := pre ++ post, decided := s.pwg.decided ++ [{ g with at' := s.now }]
            ramp := if isStanding g.cls then some { g with at' := s.now } else s.pwg.ramp }) ∧
        (s.limitE < ((s.loadT + g.alloc : Nat) : Int) ∨
            (isStanding g.cls = true ∧ (s.limitE - s.reserveMw < ((s.loadS + g.alloc : Nat) : Int) ∨ s.pwg.ramp.isSome = true)) →
          ∀ s0, s0.turn .grantDecision = s → exec .grantDecision s0 = .next s)) ∧
      ((∀ h, h ∈ s.pwg.queue → h.isFor cls.val unit = true → s.now < h.at' + h.dlUs * 1280) →
        ∀ s0, s0.turn (.grantDeadline cls unit) = s → exec (.grantDeadline cls unit) s0 = .next s) ∧
      (s.pwg.queue.find? (GrantReq.isFor cls.val unit) = some g → g.at' + g.dlUs * 1280 ≤ s.now → ∀ s0, s0.turn (.grantDeadline cls unit) = s → ∃ t, exec (.grantDeadline cls unit) s0 = .next t ∧
        t.pwg = { s.pwg with queue := dropReq cls.val unit s.pwg.queue, refused := s.pwg.refused ++ [({ g with at' := s.now }, 2)] } ∧
        s.counted Rg.PWG_REFUSE_CNT.at 1 t ∧ t.fd Rg.PWG_CLASS_STAT [cls.val] 31 24 = 2 ∧ bit (t.rd Rg.PWG_FLAGS) 0 = true) ∧
      (s.pwg.ramp = none ∨ (s.pwg.ramp = some g ∧ s.now < g.at' + tGrant g.cls) → exec .standingRampDone s = .next s) ∧
      (s.pwg.ramp = some g → g.at' + tGrant g.cls ≤ s.now → exec .standingRampDone s = .next { s with pwg := { s.pwg with
        ramp := none, decided := dropReq g.cls g.unit s.pwg.decided, ramped := s.pwg.ramped ++ [g] } })) ∧
    (reg = (if base then Rg.PWG_BASE else Rg.PWG_BUDGET) → s.takes src (reg.at []) = true →
      ∀ s0, s0.turn (.budgetWrite src base v) = s → ∃ t, exec (.budgetWrite src base v) s0 = .next t ∧ t.rd reg = reg.merge (s.rd reg) (keepIllegal (s.rd reg) reg.legal v) ∧
        t.pwg.held = s.pwg.held ∧ t.pwg.decided = s.pwg.decided ∧ t.pwg.ramped = s.pwg.ramped ∧ t.pwg.ramp = s.pwg.ramp ∧
        ((s.pwg.queue.map fun h => (h.cls, h.unit)).Nodup →
          t.pwg.queue = s.pwg.queue.filter (fun h => (t.refusal? h.cls h.alloc).isNone) ∧
          t.pwg.refused.length + t.pwg.queue.length = s.pwg.refused.length + s.pwg.queue.length) ∧
        (t.fd Rg.PWG_BUDGET [] 15 0 < s.fd Rg.PWG_BUDGET [] 15 0 ∨ s.fd Rg.PWG_BUDGET [] 31 16 < t.fd Rg.PWG_BUDGET [] 31 16 ∨
            s.fd Rg.PWG_BASE [] 15 0 < t.fd Rg.PWG_BASE [] 15 0 →
          t.limitE - t.reserveMw < t.loadS ∨ t.limitE < t.loadT → bit (t.rd Rg.PWG_FLAGS) 1 = true)) ∧
    (ts = (List.range 16).map (fun i => rs.getD i (s.thermal.temps.getD i (0, true))) → tmax = (maxTemp s.tHot ts).1 →
      (s.thermal.tripped = true → ∀ s0, s0.turn (.thermalSample rs) = s → exec (.thermalSample rs) s0 = .next { s with thermal := { s.thermal with
        temps := ts, cool := if tmax < (s.thermal.tHot : Int) - 8 then s.thermal.cool + 1 else 0 } }) ∧
      (s.thermal.tripped = false → (s.tTrip : Int) ≤ tmax → ∀ s0, s0.turn (.thermalSample rs) = s → ∃ t, exec (.thermalSample rs) s0 = .next t ∧ t.boot.held = true ∧
        t.thermal = { s.thermal with temps := ts, tripped := true, tHot := s.tHot, cool := 0 } ∧ bit (t.rd Rg.MGT_RST_CAUSE) 4 = true ∧
        bit (t.rd Rg.PWG_FLAGS) 6 = true) ∧
      (s.thermal.tripped = false → tmax < (s.tTrip : Int) → s.boot.held = true →
        ∀ s0, s0.turn (.thermalSample rs) = s → exec (.thermalSample rs) s0 = .next { s with thermal := { s.thermal with temps := ts } }) ∧
      (s.thermal.tripped = false → s.boot.held = false → tmax < (s.tTrip : Int) →
        (∀ s0, s0.turn (.thermalSample rs) = s → ∃ t, exec (.thermalSample rs) s0 = .next t ∧ t.thermal = { s.thermal with temps := ts } ∧
          t.pwg.therm = (if (s.tHot : Int) ≤ tmax ∨ (s.pwg.therm = 2 ∧ (s.tHot : Int) - 8 < tmax) then 2
            else if (s.tWarn : Int) ≤ tmax ∨ (s.pwg.therm ≠ 0 ∧ (s.tWarn : Int) - 8 < tmax) then 1 else 0) ∧
          t.pwg.held = s.pwg.held ∧ t.pwg.decided = s.pwg.decided ∧
          (t.pwg.therm ≠ 0 → t.pwg.therm ≠ s.pwg.therm → bit (t.rd Rg.PWG_FLAGS) (t.pwg.therm + 1) = true) ∧
          ((∃ i < 16, (s.thermal.temps.getD i (0, true)).2 = true ∧ (ts.getD i (0, true)).2 = false) → bit (t.rd Rg.PWG_FLAGS) 4 = true))))

/-- The collector queue and the event ring. BATCH_ACCEPT takes the oldest waiting batch whole when the queue of 512 has
room for it, with consecutive numbers and, after a loss, a LOST record in front, counts its records, and leaves
everything as it is when it has no room; with none waiting it waits for the end of the control clock in progress, whose
batch is ordered by block and unit and carries its stamp (R349 to R351; log 49). COLLECTOR_DRAIN passes the oldest record
to the ring writer while the ring is on, not full, the writer has room and 4 control clocks have passed since the last;
RING_WRITE stores the records it has ready, two in one 64-byte block at most, in their slots and advances the index, or
sets full when no slot is free (R350, R352, R353). EVENT_RING_ENABLE starts a ring that lies in a reserved
region with its indexes at 0 and is an invalid write elsewhere; EVENT_RING_DISABLE stops it and puts back what was not
written (R352, R353). EVENT_RING_CONSUME moves the read index up to the write index at most, and is an invalid write
beyond. EVENT_POP removes the oldest record while the ring is off and does nothing while it is on (R354). -/
def Obligations.EventRing : Prop :=
  ∀ (src : Source) (v : Word) (b : List Presented) (r : List (List Presented)) (e : EvRec) (q rs : List EvRec) (addr size : Nat) (s u : State),
    s.inv = true →
    (∀ i, i ∈ [Instr.collectorDrain, .ringWrite, .eventRingEnable src v, .eventRingDisable src v, .eventRingConsume src v,
        .eventPop src v] → ∀ s0, s0.turn i = s → ∃ t, exec i s0 = .next t ∧ s.wordsKept [0] t ∧
      t = { s with regs := t.regs, counters := t.counters, dram := t.dram, dramCh := t.dramCh, dmc := t.dmc, mgt := t.mgt, recd := t.recd }) ∧
    (∀ i, i ∈ [Instr.collectorDrain, .eventRingEnable src v, .eventRingDisable src v, .eventRingConsume src v, .eventPop src v] →
      ∀ s0, s0.turn i = s → ∃ t, exec i s0 = .next t ∧ t.dram = s.dram ∧ t.dramCh = s.dramCh ∧ t.dmc = s.dmc) ∧
    (u = (if s.mgt.waiting = [] ∧ s.mgt.places.1 ≠ [] then (if s.now % 2 = 0 then tick s else tick (tick s)) else s) →
      ∀ s0, s0.turn .batchAccept = s → ∃ t, exec .batchAccept s0 = .next t ∧ u.wordsKept [0] t ∧
        t = { u with regs := t.regs, counters := t.counters, dram := t.dram, mgt := t.mgt, recd := t.recd } ∧
        (s.boot.held = false → u.mgt.waiting = [] → t = u) ∧
        (s.boot.held = false → s.mgt.waiting = [] → s.mgt.places.1 ≠ [] → s.now % 2 = 0 → s.recd.state ≠ 5 → u.mgt.waiting = [b] →
          b ≠ [] ∧ (∀ x, x ∈ b → x.stamp = s.stamp) ∧ b.Pairwise fun x y => x.sub < y.sub ∨ (x.sub = y.sub ∧ x.unit ≤ y.unit))) ∧
    (s.boot.held = false → s.mgt.waiting = [] → s.mgt.places.1 ≠ [] → s.now % 2 = 0 → s.recd.state ≠ 5 →
      ∃ c, (tick s).mgt.waiting = [c]) ∧
    (s.boot.held = false →
      (s.mgt.waiting = b :: r →
        (512 < s.mgt.queue.length + b.length + (if s.mgt.dropped = 0 then 0 else 1) → ∀ s0, s0.turn .batchAccept = s → exec .batchAccept s0 = .next s) ∧
        (s.mgt.queue.length + b.length + (if s.mgt.dropped = 0 then 0 else 1) ≤ 512 → ∀ s0, s0.turn .batchAccept = s → ∃ t es, exec .batchAccept s0 = .next t ∧
          t.mgt.waiting = r ∧ t.mgt.queue = s.mgt.queue ++ es ∧ t.mgt.dropped = 0 ∧ t.mgt.nextSeq = (s.mgt.nextSeq + es.length) % 2 ^ 32 ∧
          es.map (·.seq) = (List.range es.length).map (fun i => (s.mgt.nextSeq + i) % 2 ^ 32) ∧
          (es.drop (es.length - b.length)).map (fun x => (x.stamp, x.sub, x.kind, x.unit, x.reg, x.val, x.arg0, x.arg1)) =
            b.map (fun x => (x.stamp, x.sub, x.kind, x.unit, x.reg, x.val, x.arg0, x.arg1)) ∧
          (s.mgt.dropped = 0 → es.length = b.length) ∧
          (s.mgt.dropped ≠ 0 → es.length = b.length + 1 ∧
            es.head?.map (fun x => (x.kind, x.arg0, x.arg1)) = some (0x0B, s.mgt.dropped % 2 ^ 32, s.mgt.dropSeq)) ∧
          s.counted Rg.MGT_EVT_CNT.at b.length t)) ∧
      (s.mgt.queue = [] ∨ s.mgt.ringEn = false ∨ s.mgt.full = true ∨ 2 ≤ s.mgt.writer.length ∨
          (∃ n, s.mgt.drained = some n ∧ s.stamp < n + 4) → ∀ s0, s0.turn .collectorDrain = s → exec .collectorDrain s0 = .next s) ∧
      (s.mgt.queue = e :: q → s.mgt.ringEn = true → s.mgt.full = false → s.mgt.writer.length < 2 →
        (∀ n, s.mgt.drained = some n → n + 4 ≤ s.stamp) → ∀ s0, s0.turn .collectorDrain = s → exec .collectorDrain s0 = .next { s with mgt := { s.mgt with
          queue := q, writer := s.mgt.writer ++ [e], drained := some s.stamp } }) ∧
      (s.mgt.writer = [] ∨ s.mgt.ringEn = false → exec .ringWrite s = .next s) ∧
      (s.mgt.writer = e :: q → s.mgt.ringEn = true →
        (s.mgt.slotFree = false → exec .ringWrite s = .next { s with mgt := { s.mgt with full := true } }) ∧
        (s.mgt.slotFree = true → s.dmc.formed = true → addr = s.mgt.ringPage * 65536 + s.mgt.wr % 2 ^ s.mgt.ringSize * 32 →
          rs = e :: (if s.mgt.wr % 2 = 0 ∧ s.mgt.used + 2 ≤ 2 ^ s.mgt.ringSize then q.take 1 else []) → addr + 32 * rs.length ≤ s.capBytes →
          ∃ t, exec .ringWrite s = .next t ∧ t.mgt = { s.mgt with
              fresh := t.mgt.fresh, writer := s.mgt.writer.drop rs.length, wr := (s.mgt.wr + rs.length) % 8192, full := !t.mgt.slotFree
              sent := if s.mgt.sending then s.mgt.sent else (s.mgt.wr + rs.length) % 8192 } ∧
            (∀ i < 32 * rs.length, Memory.byte 0 t.dram (addr + i) = (rs.flatMap EvRec.bytes).getD i 0) ∧
            (∀ a, a < addr ∨ addr + 32 * rs.length ≤ a → Memory.byte 0 t.dram a = Memory.byte 0 s.dram a)))) ∧
    (s.takes src Rg.MGT_EVT_CTL.at = true →
      (s.boot.stage = 5 → s.mgt.ringEn = true →
        ∀ s0, s0.turn (.eventRingEnable src v) = s → exec (.eventRingEnable src v) s0 = .next (storeWrite Rg.MGT_EVT_CTL [] (setBit v 0 true) s)) ∧
      (s.boot.stage = 5 → s.mgt.ringEn = false →
        size = (if 4 ≤ fld v 7 4 ∧ fld v 7 4 ≤ 12 then fld v 7 4 else s.fd Rg.MGT_EVT_CTL [] 7 4) →
        (s.inReserved (s.fd Rg.MGT_EVT_BASE [] 19 0 * 65536) (32 * 2 ^ size) = false →
          ∀ s0, s0.turn (.eventRingEnable src v) = s → exec (.eventRingEnable src v) s0 = .next (invalidWrite Rg.MGT_EVT_CTL.at s)) ∧
        (s.inReserved (s.fd Rg.MGT_EVT_BASE [] 19 0 * 65536) (32 * 2 ^ size) = true →
          ∀ s0, s0.turn (.eventRingEnable src v) = s → ∃ t, exec (.eventRingEnable src v) s0 = .next t ∧ t.mgt = { s.mgt with
            fresh := t.mgt.fresh, ringEn := true, ringSize := size, ringPage := s.fd Rg.MGT_EVT_BASE [] 19 0
            wr := 0, rd := 0, sent := 0, full := false })) ∧
      (s.mgt.ringEn = true → ∀ s0, s0.turn (.eventRingDisable src v) = s → ∃ t, exec (.eventRingDisable src v) s0 = .next t ∧ t.mgt = { s.mgt with
        fresh := t.mgt.fresh, ringEn := false, full := false, queue := s.mgt.writer ++ s.mgt.queue, writer := [] }) ∧
      (s.mgt.ringEn = false → ∀ s0, s0.turn (.eventRingDisable src v) = s → exec (.eventRingDisable src v) s0 = .next (storeWrite Rg.MGT_EVT_CTL [] (setBit v 0 false) s))) ∧
    (s.takes src Rg.MGT_EVT_RD.at = true →
      ((s.mgt.wr + 8192 - s.mgt.rd) % 8192 < (fld v 12 0 + 8192 - s.mgt.rd) % 8192 →
        ∀ s0, s0.turn (.eventRingConsume src v) = s → exec (.eventRingConsume src v) s0 = .next (invalidWrite Rg.MGT_EVT_RD.at s)) ∧
      ((fld v 12 0 + 8192 - s.mgt.rd) % 8192 ≤ (s.mgt.wr + 8192 - s.mgt.rd) % 8192 → ∀ s0, s0.turn (.eventRingConsume src v) = s → ∃ t, exec (.eventRingConsume src v) s0 = .next t ∧
        t = { s with mgt := { s.mgt with rd := fld v 12 0, full := s.mgt.full && !t.mgt.slotFree } })) ∧
    (s.takes src Rg.MGT_EVT_POP.at = true →
      ∀ s0, s0.turn (.eventPop src v) = s → exec (.eventPop src v) s0 = .next (if s.mgt.ringEn then s else { s with mgt := { s.mgt with queue := s.mgt.queue.drop 1 } }))

/-- The replay recorder. REC_RECORD in IDLE or FROZEN with its ring in a reserved region and a recorded head in RUN takes
the settings and waits for the latch after which the first checkpoint of the recorded heads is taken (log 43); anything
else ends it with STATE or RING (R361, R362). CHECKPOINT_END leads to RECORDING once that checkpoint has been taken, CHECKPOINT_PERIODIC starts a checkpoint after ckpt_frames boundaries,
POST_FRAMES_END freezes, and REC_STOP freezes a recording, ends a re-run with its heads OFF, clears a frozen one, and is refused in IDLE and
CHECKPOINT.
The first accepted record in RECORDING that matches the trigger is written as TRIGGER and leads to POST (R363).
REC_MARK writes a MARK item in RECORDING and POST, GAP_ITEM_WRITE one GAP item in place of the items lost (R359,
R360). REC_REPLAY from FROZEN needs a checkpoint at FROM, the same structure digest, the recorded heads OFF and, for a
mirror head, the engine in RUN; it then holds the heads with the items behind the checkpoint to apply (R364, R365),
and REPLAY_END ends it at a GAP item, at a mismatch with stop_diff, or after the last item (R366). -/
def Obligations.Recorder : Prop :=
  ∀ (src : Source) (v : Word) (n : Nat) (x : Presented) (w : List (List Presented)) (i : RecItem) (k : Nat) (s : State), s.inv = true →
    (∀ c, c ∈ [Instr.recRecord src, .recMark src v, .checkpointEnd, .checkpointPeriodic, .postFramesEnd, .gapItemWrite n] →
      ∀ s0, s0.turn c = s → ∃ t, exec c s0 = .next t ∧ s.wordsKept [0] t ∧ t = { s with
        regs := t.regs, counters := t.counters, dram := t.dram, recd := t.recd, ckpts := t.ckpts, mgt := { s.mgt with fresh := t.mgt.fresh } }) ∧
    (∀ c, c ∈ [Instr.recStop src, .replayEnd] → ∀ s0, s0.turn c = s → ∃ t, exec c s0 = .next t ∧ s.wordsKept [0] t ∧ t = { s with
      regs := t.regs, tgn := t.tgn, recd := t.recd, mgt := { s.mgt with fresh := t.mgt.fresh } }) ∧
    (∀ s0, s0.turn (.recReplay src) = s → ∃ t, exec (.recReplay src) s0 = .next t ∧ t = { s with
      regs := t.regs, force := t.force, tgn := t.tgn, pnl := t.pnl, polders := t.polders, dram := t.dram, lsc := t.lsc, recd := t.recd
      mgt := { s.mgt with fresh := t.mgt.fresh } }) ∧
    (s.takes src Rg.MGT_REC_CMD.at = true → s.boot.stage = 5 →
      ((s.recd.state ≠ 0 ∧ s.recd.state ≠ 4) → ∀ s0, s0.turn (.recRecord src) = s → exec (.recRecord src) s0 = .next
        (raiseRefusal 0 noUnit Rg.MGT_REC_STATUS.at 6 0 { s with recd := { s.recd with result := 6 } })) ∧
      (s.recd.state = 0 ∨ s.recd.state = 4 →
        (s.inReserved (s.fd Rg.MGT_REC_BASE [] 19 0 * 65536) (s.fd Rg.MGT_REC_SIZE [] 6 0 * 64 * 1048576) = false →
          ∀ s0, s0.turn (.recRecord src) = s → exec (.recRecord src) s0 = .next (raiseRefusal 0 noUnit Rg.MGT_REC_STATUS.at 0x0A 0 { s with recd := { s.recd with result := 0x0A } })) ∧
        (s.inReserved (s.fd Rg.MGT_REC_BASE [] 19 0 * 65536) (s.fd Rg.MGT_REC_SIZE [] 6 0 * 64 * 1048576) = true →
          ((∀ h < 4, bit (s.rd Rg.MGT_REC_CTL) h = true → (s.hd h).state ≠ 4) → ∀ s0, s0.turn (.recRecord src) = s → exec (.recRecord src) s0 = .next
            (raiseRefusal 0 noUnit Rg.MGT_REC_STATUS.at 6 0 { s with recd := { s.recd with result := 6 } })) ∧
          ((∃ h < 4, bit (s.rd Rg.MGT_REC_CTL) h = true ∧ (s.hd h).state = 4) → ∀ s0, s0.turn (.recRecord src) = s → ∃ t, exec (.recRecord src) s0 = .next t ∧ t.recd.state = 1 ∧
            t.recd.result = 0 ∧ t.recd.ctl = s.rd Rg.MGT_REC_CTL ∧ t.recd.base = s.fd Rg.MGT_REC_BASE [] 19 0 * 65536 ∧
            t.recd.sizeMib = s.fd Rg.MGT_REC_SIZE [] 6 0 * 64 ∧ t.recd.ckptWait = 1 ∧ t.recd.items = [] ∧ t.ckpts = []))) ∧
      (s.recd.state = 0 ∨ s.recd.state = 1 → ∀ s0, s0.turn (.recStop src) = s → exec (.recStop src) s0 = .next
        (raiseRefusal 0 noUnit Rg.MGT_REC_STATUS.at 6 0 { s with recd := { s.recd with result := 6 } })) ∧
      (s.recd.state = 4 → ∀ s0, s0.turn (.recStop src) = s → ∃ t, exec (.recStop src) s0 = .next t ∧ t.recd = { s.recd with state := 0, result := 0 } ∧ t.tgn = s.tgn) ∧
      (s.recd.state = 2 ∨ s.recd.state = 3 → ∀ s0, s0.turn (.recStop src) = s → ∃ t, exec (.recStop src) s0 = .next t ∧
        t.recd = { s.recd with state := 4, result := 4 } ∧ t.tgn = s.tgn) ∧
      (s.recd.state = 5 → ∀ s0, s0.turn (.recStop src) = s → ∃ t, exec (.recStop src) s0 = .next t ∧ t.recd = { s.recd with state := 4, result := 4, replayAt := [] } ∧
        ∀ h < 4, (bit s.recd.ctl h = true → (t.hd h).state = 1) ∧ (bit s.recd.ctl h = false → t.hd h = s.hd h)) ∧
      (s.recd.state ≠ 4 → ∀ s0, s0.turn (.recReplay src) = s → exec (.recReplay src) s0 = .next
        (raiseRefusal 0 noUnit Rg.MGT_REC_STATUS.at 6 0 { s with recd := { s.recd with result := 6 } })) ∧
      (s.recd.state = 4 →
        (s.recd.items.find? (fun y => y.kind == 1 && y.offset % s.recd.cap / 64 == s.fd Rg.MGT_REC_FROM [] 25 0) = none →
          ∀ s0, s0.turn (.recReplay src) = s → exec (.recReplay src) s0 = .next (raiseRefusal 0 noUnit Rg.MGT_REC_STATUS.at 7 0 { s with recd := { s.recd with result := 7 } })) ∧
        (s.recd.items.find? (fun y => y.kind == 1 && y.offset % s.recd.cap / 64 == s.fd Rg.MGT_REC_FROM [] 25 0) = some i →
          (digestVals (s.ckpts.get {} i.offset).digest ≠ digestVals s.sec.digest →
            ∀ s0, s0.turn (.recReplay src) = s → exec (.recReplay src) s0 = .next (raiseRefusal 0 noUnit Rg.MGT_REC_STATUS.at 5 0 { s with recd := { s.recd with result := 5 } })) ∧
          (digestVals (s.ckpts.get {} i.offset).digest = digestVals s.sec.digest →
            ((∃ h < 4, bit (s.rd Rg.MGT_REC_CTL) h = true ∧ ((s.hd h).state ≠ 1 ∨ (s.mirror h = true ∧ s.lsc.eng ≠ 2))) →
              ∀ s0, s0.turn (.recReplay src) = s → exec (.recReplay src) s0 = .next
                (raiseRefusal 0 noUnit Rg.MGT_REC_STATUS.at 6 0 { s with recd := { s.recd with result := 6 } })) ∧
            ((∀ h < 4, bit (s.rd Rg.MGT_REC_CTL) h = true → (s.hd h).state = 1 ∧ (s.mirror h = true → s.lsc.eng = 2)) →
              ∀ s0, s0.turn (.recReplay src) = s → ∃ t, exec (.recReplay src) s0 = .next t ∧ t.recd.state = 5 ∧ t.recd.result = 0 ∧ t.recd.ctl = s.rd Rg.MGT_REC_CTL ∧
                t.recd.stamp0 = i.stamp ∧ t.recd.clock0 = s.stamp ∧ t.recd.diffSeen = false ∧ t.recd.replayAt = s.rerunItems i ∧
                t.recd.items = s.recd.items))))) ∧
    (s.takes src Rg.MGT_REC_MARK.at = true →
      (s.recd.state ≠ 2 → s.recd.state ≠ 3 → ∀ s0, s0.turn (.recMark src v) = s → exec (.recMark src v) s0 = .next s) ∧
      (s.recd.state = 2 ∨ s.recd.state = 3 → bit s.recd.ctl 6 = true → ∀ s0, s0.turn (.recMark src v) = s → ∃ t, exec (.recMark src v) s0 = .next t ∧
        t.recd.items.getLast? = some { stamp := s.stamp, kind := 0x40, head := 0, unit := 0xFFFF, num := s.recd.nextNum % 65536, vals := [v.toNat],
                                       offset := s.recd.head } ∧
        t.recd.state = s.recd.state ∧ t.recd.nextNum = s.recd.nextNum + 1 ∧ s.counted Rg.MGT_REC_ITEM_CNT.at 1 t)) ∧
    (s.boot.held = false →
      (s.recd.state ≠ 1 ∨ s.recd.ckptWait ≠ 0 → ∀ s0, s0.turn .checkpointEnd = s → exec .checkpointEnd s0 = .next s) ∧
      (s.recd.state = 1 → s.recd.ckptWait = 2 → s.now % 2 = 0 → ∃ c, (tick s).recd.ckptWait = 0 ∧ (tick s).ckpts.find s.recd.head = some c ∧
        c.mask = fld s.recd.ctl 3 0 ∧ c.stamp = s.stamp + 1 ∧ c.digest = s.sec.digest) ∧
      (s.recd.state = 1 → s.recd.ckptWait = 0 → ∀ s0, s0.turn .checkpointEnd = s → ∃ t, exec .checkpointEnd s0 = .next t ∧ t.recd.state = 2 ∧
        (bit s.recd.ctl 6 = true → t.recd.items.getLast?.map (fun y => (y.kind, y.vals)) = some (3, [s.recd.ckptAt]))) ∧
      (s.recd.state ≠ 2 ∨ fld s.recd.ctl 31 24 = 0 ∨ s.recd.sinceCkpt < fld s.recd.ctl 31 24 → ∀ s0, s0.turn .checkpointPeriodic = s → exec .checkpointPeriodic s0 = .next s) ∧
      (s.recd.state = 2 → fld s.recd.ctl 31 24 ≠ 0 → fld s.recd.ctl 31 24 ≤ s.recd.sinceCkpt → ∀ s0, s0.turn .checkpointPeriodic = s → ∃ t, exec .checkpointPeriodic s0 = .next t ∧
        t.recd.state = 1 ∧ t.recd.sinceCkpt = 0 ∧ (t.ckpts.find s.recd.head).isSome = true) ∧
      (s.recd.state ≠ 3 ∨ s.recd.postLeft ≠ 0 → ∀ s0, s0.turn .postFramesEnd = s → exec .postFramesEnd s0 = .next s) ∧
      (s.recd.state = 3 → s.recd.postLeft = 0 → ∀ s0, s0.turn .postFramesEnd = s → ∃ t, exec .postFramesEnd s0 = .next t ∧ t.recd = { s.recd with state := 4, result := 2 }) ∧
      (n = 0 ∨ s.recd.state = 0 ∨ 4 ≤ s.recd.state → exec (.gapItemWrite n) s = .next s) ∧
      (n ≠ 0 → 1 ≤ s.recd.state → s.recd.state ≤ 3 → bit s.recd.ctl 6 = true → ∃ t, exec (.gapItemWrite n) s = .next t ∧
        t.recd.items.getLast?.map (fun y => (y.kind, y.vals)) = some (0x41, [n]) ∧ s.counted Rg.MGT_REC_GAP_CNT.at n t) ∧
      (s.recd.state ≠ 5 → ∀ s0, s0.turn .replayEnd = s → exec .replayEnd s0 = .next s) ∧
      (s.recd.state = 5 →
        k = (if s.recd.diffSeen = true ∧ bit s.recd.ctl 8 = true then 9 else if s.recd.replayAt = [] then 1
          else if s.recd.replayAt.head?.map (·.kind) = some 0x41 then 8 else 0) →
        (k = 0 → ∀ s0, s0.turn .replayEnd = s → exec .replayEnd s0 = .next s) ∧
        (k ≠ 0 → ∀ s0, s0.turn .replayEnd = s → ∃ t, exec .replayEnd s0 = .next t ∧ t.recd = { s.recd with state := 4, result := k, replayAt := [] } ∧
          ∀ h < 4, bit s.recd.ctl h = true → (t.hd h).state = 1)) ∧
      (s.recd.state = 2 → bit s.recd.ctl 6 = true → s.mgt.waiting = [x] :: w → s.mgt.dropped = 0 → s.mgt.queue.length < 512 →
        bit (s.rd Rg.MGT_REC_TRIG) 31 = true → s.fd Rg.MGT_REC_TRIG [] 27 24 = x.sub →
        s.fd Rg.MGT_REC_TRIG [] 23 16 = 0 ∨ s.fd Rg.MGT_REC_TRIG [] 23 16 = x.kind →
        s.fd Rg.MGT_REC_TRIG [] 15 0 = 0xFFFF ∨ s.fd Rg.MGT_REC_TRIG [] 15 0 = x.unit →
        ∀ s0, s0.turn .batchAccept = s → ∃ t, exec .batchAccept s0 = .next t ∧ t.recd.state = 3 ∧ t.recd.postLeft = max 1 (fld s.recd.ctl 23 16) ∧
          t.recd.items.getLast?.map (·.kind) = some 0x42))

/-- What is ignored until READY. Until the stage is READY, TGN_H_CTL.en = 1, LSC_CTL.en = 1, DMC_FREQ_CTL.go,
DMC_BASIN_CMD, MGT_EVT_CTL.en = 1 and MGT_REC_CMD are ignored and each raises an invalid-write event, as a row of its
own and as a REGISTER_WRITE; before BRINGUP so are LNE_G_CTL.go, CAL_L_DYN and CAL_L_STATIC, which are accepted from
BRINGUP onwards: the group asks for its grant and the trims are staged (R394). -/
def Obligations.HeldUntilReady : Prop :=
  ∀ (src : Source) (h : Fin 4) (g : Fin 12) (n : Fin 96) (v : Word) (s : State), s.inv = true →
    (s.boot.stage ≠ 5 →
      (∀ i a w, (i, a, w) ∈ [(Instr.headEnable src h v, Rg.TGN_H_CTL.at [h.val], setBit v 0 true), (.engineStart src, Rg.LSC_CTL.at, 1),
          (.basinClear src v, Rg.DMC_BASIN_CMD.at, basinWord 0 v), (.basinLoad src v, Rg.DMC_BASIN_CMD.at, basinWord 1 v),
          (.basinStore src v, Rg.DMC_BASIN_CMD.at, basinWord 2 v), (.eventRingEnable src v, Rg.MGT_EVT_CTL.at, setBit v 0 true),
          (.recRecord src, Rg.MGT_REC_CMD.at, 1), (.recStop src, Rg.MGT_REC_CMD.at, 2), (.recReplay src, Rg.MGT_REC_CMD.at, 3)] →
        s.takes src a = true →
        (∀ s0, s0.turn i = s → exec i s0 = .next (invalidWrite a (recReg src a w s))) ∧
        (s.instLives a = true → ∀ s0, s0.turn (.registerWrite src 0xF a w) = s → exec (.registerWrite src 0xF a w) s0 = .next (invalidWrite a (recReg src a w s)))) ∧
      (s.takes src Rg.DMC_FREQ_CTL.at = true → bit v 30 = false → ∀ s0, s0.turn (.freqChangeRequest src v) = s → ∃ t, exec (.freqChangeRequest src v) s0 = .next t ∧ t.dmc = s.dmc ∧
        t.pwg = s.pwg ∧ t.mgt.fresh = s.mgt.fresh ++ [{ stamp := s.stamp, sub := 6, kind := 6, unit := 0xFFFF, reg := Rg.DMC_FREQ_CTL.at,
                                                         arg0 := 0, arg1 := 0 }])) ∧
    (s.boot.stage < 4 ∨ s.boot.stage = 6 →
      (s.takes src (Rg.LNE_G_CTL.at [g.val]) = true → bit v 30 = false → ∀ s0, s0.turn (.groupGo src g v) = s → ∃ t, exec (.groupGo src g v) s0 = .next t ∧ t.groups = s.groups ∧
        t.pwg = s.pwg ∧ t.mgt.fresh = s.mgt.fresh ++ [{ stamp := s.stamp, sub := 4, kind := 6, unit := g.val, reg := Rg.LNE_G_CTL.at [g.val],
                                                         arg0 := 0, arg1 := 0 }]) ∧
      (s.takes src (Rg.CAL_L_DYN.at [n.val]) = true → ∀ s0, s0.turn (.dynTrimWrite src n v) = s → exec (.dynTrimWrite src n v) s0 = .next (invalidWrite (Rg.CAL_L_DYN.at [n.val]) s)) ∧
      (s.takes src (Rg.CAL_L_STATIC.at [n.val]) = true →
        ∀ s0, s0.turn (.staticTrimWrite src n v) = s → exec (.staticTrimWrite src n v) s0 = .next (invalidWrite (Rg.CAL_L_STATIC.at [n.val]) s))) ∧
    (s.boot.stage = 4 ∨ s.boot.stage = 5 ∨ s.boot.stage = 7 →
      (s.takes src (Rg.LNE_G_CTL.at [g.val]) = true → bit v 30 = false → (s.group g.val).state = 1 →
        ∀ s0, s0.turn (.groupGo src g v) = s → ∃ t, exec (.groupGo src g v) s0 = .next t ∧ (t.group g.val).state = 2 ∧ s.asked t) ∧
      (s.takes src (Rg.CAL_L_DYN.at [n.val]) = true → s.assigned n.val = true → ∀ s0, s0.turn (.dynTrimWrite src n v) = s → ∃ t, exec (.dynTrimWrite src n v) s0 = .next t ∧
        (t.calLane n.val).staged = { (s.calLane n.val).staged with
          rxOfs := sext 6 (fld v 5 0), eyeOfs := sext 6 (fld v 13 8), rxDcd := sext 5 (fld v 20 16), piCtr := sext 5 (fld v 28 24) }) ∧
      (s.takes src (Rg.CAL_L_STATIC.at [n.val]) = true → s.assigned n.val = true → ∀ s0, s0.turn (.staticTrimWrite src n v) = s → ∃ t, exec (.staticTrimWrite src n v) s0 = .next t ∧
        (t.calLane n.val).staged = { (s.calLane n.val).staged with
          txImp := fld v 4 0, rxTerm := fld v 12 8, txDcd := sext 5 (fld v 20 16) }))

/-- The slicer offset belongs to the tracker. A value staged in CAL_L_DYN.rx_ofs loads the lane's offset trim only while
the lane is in OFF, DETECT or FAILED; in any other state the trim stays, the value waits with ofs_pend set, and it
loads when the lane is stopped. No command of CAL stages RX_OFS or moves the offset of a lane in another state;
TRACKER_WINDOW_END, LNE's tracker, leaves what is staged alone (R328, R247). -/
def Obligations.TrackerOwnsOffset : Prop :=
  ∀ (src : Source) (g : Fin 12) (n : Fin 96) (p : Fin 24) (kind : Fin 8) (w : SubWindow) (v : Word) (s : State), s.inv = true →
    (s.takes src (Rg.CAL_L_DYN.at [n.val]) = true → s.boot.stage = 4 ∨ s.boot.stage = 5 ∨ s.boot.stage = 7 → s.assigned n.val = true →
      ((s.lane n.val).state = 1 ∨ (s.lane n.val).state = 2 ∨ (s.lane n.val).state = 8 → ∀ s0, s0.turn (.dynTrimWrite src n v) = s → ∃ t, exec (.dynTrimWrite src n v) s0 = .next t ∧
        (t.lane n.val).trim = sext 6 (fld v 5 0) ∧ (t.calLane n.val).ofsPend = false) ∧
      ((s.lane n.val).state ≠ 1 → (s.lane n.val).state ≠ 2 → (s.lane n.val).state ≠ 8 → ∀ s0, s0.turn (.dynTrimWrite src n v) = s → ∃ t, exec (.dynTrimWrite src n v) s0 = .next t ∧
        (t.lane n.val).trim = (s.lane n.val).trim ∧ (t.calLane n.val).ofsPend = true ∧
        (t.calLane n.val).staged.rxOfs = sext 6 (fld v 5 0))) ∧
    (s.takes src (Rg.LNE_L_CTL.at [n.val]) = true → s.assigned n.val = true → bit v 31 = false → bit v 1 = false → bit v 0 = false →
      fld v 6 4 = 0 → s.fd Rg.LNE_L_CTL [n.val] 6 4 = 0 → 2 ≤ (s.lane n.val).state → (s.lane n.val).state ≤ 6 →
      (s.calLane n.val).ofsPend = true → ∀ s0, s0.turn (.laneStop src n v) = s → ∃ t, exec (.laneStop src n v) s0 = .next t ∧
        (t.lane n.val).trim = (s.calLane n.val).staged.rxOfs ∧ (t.calLane n.val).ofsPend = false) ∧
    (∀ i, i ∈ [Instr.calGo src g, .calStop src g, .calTempRead g, .calPeriodExpiry g, .calApplyTimeout g, .calSubwindowEnd n w,
        .calTrimApply p, .trimRampStep n kind] → ∀ s0, s0.turn i = s → ∃ t, exec i s0 = .next t ∧
      ∀ k, (t.calLane k).staged.rxOfs = (s.calLane k).staged.rxOfs ∧
        ((s.lane k).state ≠ 1 → (s.lane k).state ≠ 2 → (s.lane k).state ≠ 8 →
          (t.lane k).trim = (s.lane k).trim ∧ (t.calLane k).ofsPend = (s.calLane k).ofsPend)) ∧
    (∀ s0, s0.turn (.trackerWindowEnd n) = s → ∃ t, exec (.trackerWindowEnd n) s0 = .next t ∧ t.calLanes = s.calLanes)
end

