-- ==== Sys2Proof/Laws/Store.lean ====
section
/-!
SUPPORT. Laws of the sparse stores: reading after writing, and every operation keeps the canonical form.
-/
namespace Sys2Proof.Machine

variable {α : Type}

/-- The bound `lo` lies below `k`. -/
def below (lo : Option Nat) (k : Nat) : Prop := ∀ l ∈ lo, l < k

theorem risingFrom_cons {lo : Option Nat} {j : Nat} {a : α} {m : SMap α} :
    SMap.risingFrom lo ((j, a) :: m) = true ↔ below lo j ∧ SMap.risingFrom (some j) m = true := by
  cases lo <;> simp [SMap.risingFrom, below]

theorem wfFrom_cons [DecidableEq α] {d : α} {lo : Option Nat} {j : Nat} {a : α} {m : SMap α} :
    SMap.wfFrom d lo ((j, a) :: m) = true ↔ below lo j ∧ a ≠ d ∧ SMap.wfFrom d (some j) m = true := by
  cases lo <;> simp [SMap.wfFrom, below, and_assoc]

theorem below_trans {lo : Option Nat} {j k : Nat} (h : below lo j) (hk : j < k) : below lo k := fun l hl => Nat.lt_trans (h l hl) hk

theorem wfFrom_rising [DecidableEq α] {d : α} {lo : Option Nat} {m : SMap α} (h : SMap.wfFrom d lo m = true) :
    SMap.risingFrom lo m = true := by
  induction m generalizing lo with
  | nil => rfl
  | cons e m ih =>
    obtain ⟨j, a⟩ := e
    rw [wfFrom_cons] at h
    exact risingFrom_cons.2 ⟨h.1, ih h.2.2⟩

theorem risingFrom_weaken {lo lo' : Option Nat} {m : SMap α} (h : SMap.risingFrom lo m = true)
    (hl : ∀ k, below lo k → below lo' k) : SMap.risingFrom lo' m = true := by
  cases m with
  | nil => rfl
  | cons e m =>
    obtain ⟨j, a⟩ := e
    rw [risingFrom_cons] at h ⊢
    exact ⟨hl _ h.1, h.2⟩

theorem wfFrom_weaken [DecidableEq α] {d : α} {lo lo' : Option Nat} {m : SMap α} (h : SMap.wfFrom d lo m = true)
    (hl : ∀ k, below lo k → below lo' k) : SMap.wfFrom d lo' m = true := by
  cases m with
  | nil => rfl
  | cons e m =>
    obtain ⟨j, a⟩ := e
    rw [wfFrom_cons] at h ⊢
    exact ⟨hl _ h.1, h.2⟩

theorem below_some {j k : Nat} : below (some j) k ↔ j < k := by simp [below]
theorem below_none {k : Nat} : below none k := by simp [below]

/-! ### Keys keep rising -/

theorem insert_risingFrom {lo : Option Nat} {m : SMap α} {k : Nat} {a : α} (h : SMap.risingFrom lo m = true) (hk : below lo k) :
    SMap.risingFrom lo (m.insert k a) = true := by
  induction m generalizing lo with
  | nil => exact risingFrom_cons.2 ⟨hk, rfl⟩
  | cons e m ih =>
    obtain ⟨j, b⟩ := e
    rw [risingFrom_cons] at h
    unfold SMap.insert
    split
    · rename_i e; subst e; exact risingFrom_cons.2 h
    · split
      · exact risingFrom_cons.2 ⟨hk, risingFrom_cons.2 ⟨below_some.2 ‹_›, h.2⟩⟩
      · exact risingFrom_cons.2 ⟨h.1, ih h.2 (below_some.2 (by omega))⟩

theorem erase_risingFrom {lo : Option Nat} {m : SMap α} {k : Nat} (h : SMap.risingFrom lo m = true) :
    SMap.risingFrom lo (m.erase k) = true := by
  induction m generalizing lo with
  | nil => rfl
  | cons e m ih =>
    obtain ⟨j, b⟩ := e
    have h' := risingFrom_cons.1 h
    unfold SMap.erase
    split
    · exact risingFrom_weaken h'.2 fun k hk => below_trans h'.1 (below_some.1 hk)
    · split
      · exact h
      · exact risingFrom_cons.2 ⟨h'.1, ih h'.2⟩

theorem filter_risingFrom {lo : Option Nat} {m : SMap α} {p : Nat × α → Bool} (h : SMap.risingFrom lo m = true) :
    SMap.risingFrom lo (m.filter p) = true := by
  induction m generalizing lo with
  | nil => rfl
  | cons e m ih =>
    obtain ⟨j, b⟩ := e
    have h' := risingFrom_cons.1 h
    rw [List.filter_cons]
    split
    · exact risingFrom_cons.2 ⟨h'.1, ih h'.2⟩
    · exact risingFrom_weaken (ih h'.2) fun k hk => below_trans h'.1 (below_some.1 hk)

theorem insert_rising {m : SMap α} {k : Nat} {a : α} (h : m.rising = true) : (m.insert k a).rising = true :=
  insert_risingFrom h below_none

theorem erase_rising {m : SMap α} {k : Nat} (h : m.rising = true) : (m.erase k).rising = true := erase_risingFrom h

theorem filter_rising {m : SMap α} {p : Nat × α → Bool} (h : SMap.rising m = true) : SMap.rising (m.filter p) = true :=
  filter_risingFrom h

theorem put_rising [DecidableEq α] {d : α} {m : SMap α} {k : Nat} {a : α} (h : m.rising = true) : (m.put d k a).rising = true := by
  unfold SMap.put
  split
  · exact erase_rising h
  · exact insert_rising h

theorem upd_rising [DecidableEq α] {d : α} {m : SMap α} {k : Nat} {f : α → α} (h : m.rising = true) :
    (m.upd d k f).rising = true := put_rising h

theorem foldl_rising {β : Type} {l : List β} {f : SMap α → β → SMap α} {m : SMap α} (hf : ∀ m x, m.rising = true → (f m x).rising = true)
    (h : m.rising = true) : (l.foldl f m).rising = true := by
  induction l generalizing m with
  | nil => exact h
  | cons x l ih => exact ih (hf m x h)

/-! ### The canonical form -/

theorem insert_wfFrom [DecidableEq α] {d : α} {lo : Option Nat} {m : SMap α} {k : Nat} {a : α} (h : SMap.wfFrom d lo m = true)
    (hk : below lo k) (ha : a ≠ d) : SMap.wfFrom d lo (m.insert k a) = true := by
  induction m generalizing lo with
  | nil => exact wfFrom_cons.2 ⟨hk, ha, rfl⟩
  | cons e m ih =>
    obtain ⟨j, b⟩ := e
    rw [wfFrom_cons] at h
    unfold SMap.insert
    split
    · rename_i e; subst e; exact wfFrom_cons.2 ⟨h.1, ha, h.2.2⟩
    · split
      · exact wfFrom_cons.2 ⟨hk, ha, wfFrom_cons.2 ⟨below_some.2 ‹_›, h.2⟩⟩
      · exact wfFrom_cons.2 ⟨h.1, h.2.1, ih h.2.2 (below_some.2 (by omega))⟩

theorem erase_wfFrom [DecidableEq α] {d : α} {lo : Option Nat} {m : SMap α} {k : Nat} (h : SMap.wfFrom d lo m = true) :
    SMap.wfFrom d lo (m.erase k) = true := by
  induction m generalizing lo with
  | nil => rfl
  | cons e m ih =>
    obtain ⟨j, b⟩ := e
    have h' := wfFrom_cons.1 h
    unfold SMap.erase
    split
    · exact wfFrom_weaken h'.2.2 fun k hk => below_trans h'.1 (below_some.1 hk)
    · split
      · exact h
      · exact wfFrom_cons.2 ⟨h'.1, h'.2.1, ih h'.2.2⟩

theorem filter_wfFrom [DecidableEq α] {d : α} {lo : Option Nat} {m : SMap α} {p : Nat × α → Bool} (h : SMap.wfFrom d lo m = true) :
    SMap.wfFrom d lo (m.filter p) = true := by
  induction m generalizing lo with
  | nil => rfl
  | cons e m ih =>
    obtain ⟨j, b⟩ := e
    have h' := wfFrom_cons.1 h
    rw [List.filter_cons]
    split
    · exact wfFrom_cons.2 ⟨h'.1, h'.2.1, ih h'.2.2⟩
    · exact wfFrom_weaken (ih h'.2.2) fun k hk => below_trans h'.1 (below_some.1 hk)

theorem put_wf [DecidableEq α] {d : α} {m : SMap α} {k : Nat} {a : α} (h : SMap.wf d m = true) : SMap.wf d (m.put d k a) = true := by
  unfold SMap.put
  split
  · exact erase_wfFrom h
  · exact insert_wfFrom h below_none ‹_›

theorem setByte_wf {d : Byte} {m : Memory} {a : Nat} {b : Byte} (h : Memory.wf d m = true) : Memory.wf d (Memory.setByte d m a b) = true :=
  put_wf h

/-- Storing bytes keeps a memory canonical. -/
theorem store_wf {d : Byte} {bs : List Byte} {m : Memory} {a : Nat} (h : Memory.wf d m = true) : Memory.wf d (Memory.store d m a bs) = true := by
  induction bs generalizing m a with
  | nil => exact h
  | cons b bs ih => exact ih (setByte_wf h)

theorem foldl_wf {β : Type} {d : Byte} {l : List β} {f : Memory → β → Memory} {m : Memory}
    (hf : ∀ m x, Memory.wf d m = true → Memory.wf d (f m x) = true) (h : Memory.wf d m = true) : Memory.wf d (l.foldl f m) = true := by
  induction l generalizing m with
  | nil => exact h
  | cons x l ih => exact ih (hf m x h)

/-! ### Reading after writing -/

theorem find_of_lt {m : SMap α} {j k : Nat} (h : SMap.risingFrom (some j) m = true) (hk : k ≤ j) : m.find k = none := by
  cases m with
  | nil => rfl
  | cons e m =>
    obtain ⟨i, b⟩ := e
    have h' := below_some.1 (risingFrom_cons.1 h).1
    simp [SMap.find, show k ≠ i by omega, show k < i by omega]

theorem find_insert_from {lo : Option Nat} {m : SMap α} {k q : Nat} {a : α} (h : SMap.risingFrom lo m = true) :
    (m.insert k a).find q = if q = k then some a else m.find q := by
  induction m generalizing lo with
  | nil => by_cases hq : q = k <;> simp [SMap.insert, SMap.find, hq]
  | cons e m ih =>
    obtain ⟨j, b⟩ := e
    have h' := risingFrom_cons.1 h
    unfold SMap.insert
    split
    · rename_i e; subst e
      by_cases hq : q = k <;> simp [SMap.find, hq]
    · split
      · by_cases hq : q = k
        · simp [SMap.find, hq]
        · by_cases hlt : q < k
          · simp [SMap.find, hq, hlt, show q ≠ j by omega, show q < j by omega]
          · simp [SMap.find, hq, hlt]
      · have := ih h'.2
        by_cases hq : q = j
        · subst hq; simp [SMap.find, show q ≠ k by omega]
        · simp only [SMap.find, hq, ↓reduceIte, this]
          by_cases hlt : q < j
          · simp [hlt, show q ≠ k by omega]
          · simp [hlt]

theorem find_erase_from {lo : Option Nat} {m : SMap α} {k q : Nat} (h : SMap.risingFrom lo m = true) :
    (m.erase k).find q = if q = k then none else m.find q := by
  induction m generalizing lo with
  | nil => simp [SMap.erase, SMap.find]
  | cons e m ih =>
    obtain ⟨j, b⟩ := e
    have h' := risingFrom_cons.1 h
    unfold SMap.erase
    split
    · rename_i e; subst e
      by_cases hq : q = k
      · subst hq; simp [find_of_lt h'.2 (Nat.le_refl _)]
      · by_cases hlt : q < k
        · simp [SMap.find, hq, hlt, find_of_lt h'.2 (Nat.le_of_lt hlt)]
        · simp [SMap.find, hq, hlt]
    · split
      · by_cases hq : q = k
        · subst hq; simp [SMap.find, *]
        · simp [hq]
      · have := ih h'.2
        by_cases hq : q = j
        · subst hq; simp [SMap.find, show q ≠ k by omega]
        · simp only [SMap.find, hq, ↓reduceIte, this]
          by_cases hlt : q < j
          · simp [hlt]
          · simp [hlt]

/-- Reading a store after listing a value. -/
theorem find_insert {m : SMap α} {k q : Nat} {a : α} (h : m.rising = true) :
    (m.insert k a).find q = if q = k then some a else m.find q := find_insert_from h

/-- Reading a store after removing a value. -/
theorem find_erase {m : SMap α} {k q : Nat} (h : m.rising = true) : (m.erase k).find q = if q = k then none else m.find q :=
  find_erase_from h

/-- Reading a store after a write. -/
theorem get_put [DecidableEq α] {d : α} {m : SMap α} {k q : Nat} {a : α} (h : m.rising = true) :
    (m.put d k a).get d q = if q = k then a else m.get d q := by
  unfold SMap.put SMap.get
  split
  · rw [find_erase h]; split <;> simp [*]
  · rw [find_insert h]; split <;> simp

/-- Reading a store after a change. -/
theorem get_upd [DecidableEq α] {d : α} {m : SMap α} {k q : Nat} {f : α → α} (h : m.rising = true) :
    (m.upd d k f).get d q = if q = k then f (m.get d k) else m.get d q := get_put h

/-- Reading a byte after storing one. -/
theorem byte_setByte {d : Byte} {m : Memory} {a q : Nat} {b : Byte} (h : Memory.wf d m = true) :
    (Memory.setByte d m a b).byte d q = if q = a then b else m.byte d q := get_put (wfFrom_rising h)

/-- A byte outside a stored range reads as before. -/
theorem byte_store_outside {d : Byte} {bs : List Byte} {m : Memory} {a q : Nat} (h : Memory.wf d m = true)
    (hq : q < a ∨ a + bs.length ≤ q) : (Memory.store d m a bs).byte d q = m.byte d q := by
  induction bs generalizing m a with
  | nil => rfl
  | cons b bs ih =>
    simp only [List.length_cons] at hq
    rw [Memory.store, ih (setByte_wf h) (by omega), byte_setByte h, if_neg (by omega)]

end Sys2Proof.Machine
end

