-- ==== Sys2Proof/Laws/Keeps.lean ====
section
/-!
SUPPORT. What every command but a few keeps: the relation `Keeps`, and that each kind of state update stays within it. The files
beside this one show it of every operation; the statements about every step follow from it.
-/
namespace Sys2Proof.Machine

/-- The keys of a store keep rising. -/
def Rises {α : Type} (m m' : SMap α) : Prop := m.rising = true → m'.rising = true

/-- A memory stays canonical. -/
def Stays (m m' : Memory) : Prop := Memory.wf 0 m = true → Memory.wf 0 m' = true

/-- Counters stay in order and within their width. -/
def Counts (m m' : SMap Counter) : Prop :=
  (m.rising && m.all fun x => x.2.inRange) = true → (m'.rising && m'.all fun x => x.2.inRange) = true

/-- What an operation leaves as it was, or keeps: the queue, the fuses, the thermal sensors and debug; flash and structure unless a
reset holds the device; the transcript only grows, free values are only drawn, and the invariant holds on. -/
structure Keeps (s t : State) : Prop where
  pending : t.pending = s.pending
  otp     : t.otp = s.otp
  thermal : t.thermal = s.thermal
  dbg     : t.dbg = s.dbg
  free    : s.free ≤ t.free
  wire    : s.wire <:+ t.wire
  fixed   : t.boot.held = true ∨ (t.boot.held = s.boot.held ∧ t.flash = s.flash ∧ t.cfg = s.cfg)
  inv     : s.inv = true → t.inv = true

/-- The invariant, part by part. -/
theorem inv_iff (s : State) : s.inv = true ↔ s.storesOk = true ∧ s.countersOk = true ∧ s.memoriesOk = true ∧ s.ckptsOk = true := by
  simp [State.inv, and_assoc]

variable {s t u : State} {α : Type}

@[simp] theorem Keeps.refl (s : State) : Keeps s s :=
  ⟨rfl, rfl, rfl, rfl, Nat.le_refl _, List.suffix_refl _, .inr ⟨rfl, rfl, rfl⟩, id⟩

theorem Keeps.trans (h : Keeps s t) (h' : Keeps t u) : Keeps s u where
  pending := h'.pending.trans h.pending
  otp := h'.otp.trans h.otp
  thermal := h'.thermal.trans h.thermal
  dbg := h'.dbg.trans h.dbg
  free := Nat.le_trans h.free h'.free
  wire := h.wire.trans h'.wire
  fixed := by
    rcases h'.fixed with e | ⟨e1, e2, e3⟩
    · exact .inl e
    · rcases h.fixed with g | ⟨g1, g2, g3⟩
      · exact .inl (e1.trans g)
      · exact .inr ⟨e1.trans g1, e2.trans g2, e3.trans g3⟩
  inv := h'.inv ∘ h.inv

/-- What every command keeps, resets and the few that `Keeps` does not cover included. -/
structure Moves (s t : State) : Prop where
  pending : t.pending = s.pending
  free    : s.free ≤ t.free
  wire    : s.wire <:+ t.wire
  inv     : s.inv = true → t.inv = true

theorem Keeps.moves (h : Keeps s t) : Moves s t := ⟨h.pending, h.free, h.wire, h.inv⟩

theorem Moves.refl (s : State) : Moves s s := (Keeps.refl s).moves

theorem Moves.trans (h : Moves s t) (h' : Moves t u) : Moves s u :=
  ⟨h'.pending.trans h.pending, Nat.le_trans h.free h'.free, h.wire.trans h'.wire, h'.inv ∘ h.inv⟩

theorem Moves.keeps (h : Moves s t) (h' : Keeps t u) : Moves s u := h.trans h'.moves

/-! ### Stores -/

@[simp] theorem Rises.refl (m : SMap α) : Rises m m := id
@[simp] theorem Rises.nil (m : SMap α) : Rises m [] := fun _ => rfl
@[simp] theorem Rises.insert (m : SMap α) (k : Nat) (a : α) : Rises m (m.insert k a) := insert_rising
@[simp] theorem Rises.erase (m : SMap α) (k : Nat) : Rises m (m.erase k) := erase_rising
@[simp] theorem Rises.put [DecidableEq α] (d : α) (m : SMap α) (k : Nat) (a : α) : Rises m (m.put d k a) := put_rising
@[simp] theorem Rises.upd [DecidableEq α] (d : α) (m : SMap α) (k : Nat) (f : α → α) : Rises m (m.upd d k f) := upd_rising

@[simp] theorem Rises.foldl {β : Type} {l : List β} {f : SMap α → β → SMap α} {m : SMap α} (hf : ∀ m x, Rises m (f m x)) :
    Rises m (l.foldl f m) := foldl_rising hf

theorem graft_rising {p : Nat → Bool} {src dst : SMap α} (h : dst.rising = true) : (SMap.graft p src dst).rising = true :=
  foldl_rising (fun _ _ hm => insert_rising hm) (filter_rising h)

@[simp] theorem Rises.graft (p : Nat → Bool) (src m : SMap α) : Rises m (SMap.graft p src m) := graft_rising

@[simp] theorem Counts.refl (m : SMap Counter) : Counts m m := id

theorem all_insert {p : α → Bool} {m : SMap α} {k : Nat} {a : α} (h : m.all (fun x => p x.2) = true) (ha : p a = true) :
    (m.insert k a).all (fun x => p x.2) = true := by
  induction m with
  | nil => simp [SMap.insert, ha]
  | cons e m ih =>
    obtain ⟨j, b⟩ := e
    simp only [List.all_cons, Bool.and_eq_true] at h
    unfold SMap.insert
    split
    · simp [ha, h.2]
    · split
      · simp [ha, h.1, h.2]
      · simp [h.1, ih h.2]

theorem all_erase {p : α → Bool} {m : SMap α} {k : Nat} (h : m.all (fun x => p x.2) = true) :
    (m.erase k).all (fun x => p x.2) = true := by
  induction m with
  | nil => rfl
  | cons e m ih =>
    obtain ⟨j, b⟩ := e
    simp only [List.all_cons, Bool.and_eq_true] at h
    unfold SMap.erase
    split
    · exact h.2
    · split
      · simp [h.1, h.2]
      · simp [h.1, ih h.2]

theorem Counts.put (m : SMap Counter) (k : Nat) (c : Counter) (hc : c.inRange = true) : Counts m (m.put {} k c) := by
  intro h
  rw [Bool.and_eq_true] at h ⊢
  refine ⟨put_rising h.1, ?_⟩
  unfold SMap.put
  split
  · exact all_erase h.2
  · exact all_insert h.2 hc

theorem all_get {p : α → Bool} {d : α} {m : SMap α} {k : Nat} (h : m.all (fun x => p x.2) = true) (hd : p d = true) :
    p (m.get d k) = true := by
  unfold SMap.get
  induction m with
  | nil => exact hd
  | cons e m ih =>
    obtain ⟨j, b⟩ := e
    simp only [List.all_cons, Bool.and_eq_true] at h
    unfold SMap.find
    split
    · exact h.1
    · split
      · exact hd
      · exact ih h.2

theorem Counts.upd (m : SMap Counter) (k : Nat) (f : Counter → Counter) (hf : ∀ c, c.inRange = true → (f c).inRange = true) :
    Counts m (m.upd {} k f) := by
  intro h
  have hc : (m.get {} k).inRange = true := all_get (p := Counter.inRange) (by simp only [Bool.and_eq_true] at h; exact h.2) rfl
  exact Counts.put m k _ (hf _ hc) h

@[simp] theorem Counts.erase (m : SMap Counter) (k : Nat) : Counts m (m.erase k) := by
  intro h
  rw [Bool.and_eq_true] at h ⊢
  exact ⟨erase_rising h.1, all_erase h.2⟩

/-! ### Memories -/

@[simp] theorem Stays.refl (m : Memory) : Stays m m := id
@[simp] theorem Stays.nil (m : Memory) : Stays m [] := fun _ => rfl
@[simp] theorem Stays.store (m : Memory) (a : Nat) (bs : List Byte) : Stays m (Memory.store 0#8 m a bs) := store_wf
@[simp] theorem Stays.setByte (m : Memory) (a : Nat) (b : Byte) : Stays m (Memory.setByte 0#8 m a b) := setByte_wf

@[simp] theorem Stays.filter (m : Memory) (p : Host.Cell → Bool) : Stays m (m.filter p) := filter_wfFrom

@[simp] theorem Stays.foldl {β : Type} {l : List β} {f : Memory → β → Memory} {m : Memory} (hf : ∀ m x, Stays m (f m x)) : Stays m (l.foldl f m) :=
  foldl_wf hf

@[simp] theorem Stays.ringStore (m : Memory) (base cap o : Nat) (bs : List Byte) : Stays m (ringStore base cap m o bs) := by
  induction bs generalizing m o with
  | nil => exact id
  | cons b bs ih => exact fun h => ih _ _ (setByte_wf h)

/-! ### State updates: any change of the fields that no property speaks of, with at most one store or memory -/

section
variable {now' : Nat}
variable {boot' : Boot}
variable {mgt' : Mgt}
variable {recd' : Recorder}
variable {pwg' : Pwg}
variable {sec' : Sec}
variable {dmc' : Dmc}
variable {sfm' : Sfm}
variable {lsc' : Lsc}
variable {tim' : Tim}

@[simp] theorem Keeps.plain (h : Keeps s u) (hb : boot'.held = u.boot.held) : Keeps s { u with now := now', boot := boot', mgt := mgt', recd := recd', pwg := pwg', sec := sec', dmc := dmc', sfm := sfm', lsc := lsc', tim := tim' } :=
  h.trans ⟨rfl, rfl, rfl, rfl, Nat.le_refl _, List.suffix_refl _, .inr ⟨hb, rfl, rfl⟩, id⟩

@[simp] theorem Keeps.order {m : SMap (Nat × Nat)} (h : Keeps s u) (hb : boot'.held = u.boot.held) (hm : Rises u.order m) :
    Keeps s { u with order := m, now := now', boot := boot', mgt := mgt', recd := recd', pwg := pwg', sec := sec', dmc := dmc', sfm := sfm', lsc := lsc', tim := tim' } :=
  h.trans ⟨rfl, rfl, rfl, rfl, Nat.le_refl _, List.suffix_refl _, .inr ⟨hb, rfl, rfl⟩, by
    simp only [inv_iff, State.storesOk, State.countersOk, State.memoriesOk, State.ckptsOk, Bool.and_eq_true]
    rintro ⟨hs, rest⟩
    exact ⟨by simp only [hs, and_self, hm (by simp only [hs])], rest⟩⟩

@[simp] theorem Keeps.regs {m : SMap Word} (h : Keeps s u) (hb : boot'.held = u.boot.held) (hm : Rises u.regs m) :
    Keeps s { u with regs := m, now := now', boot := boot', mgt := mgt', recd := recd', pwg := pwg', sec := sec', dmc := dmc', sfm := sfm', lsc := lsc', tim := tim' } :=
  h.trans ⟨rfl, rfl, rfl, rfl, Nat.le_refl _, List.suffix_refl _, .inr ⟨hb, rfl, rfl⟩, by
    simp only [inv_iff, State.storesOk, State.countersOk, State.memoriesOk, State.ckptsOk, Bool.and_eq_true]
    rintro ⟨hs, rest⟩
    exact ⟨by simp only [hs, and_self, hm (by simp only [hs])], rest⟩⟩

@[simp] theorem Keeps.force {m : SMap Word} (h : Keeps s u) (hb : boot'.held = u.boot.held) (hm : Rises u.force m) :
    Keeps s { u with force := m, now := now', boot := boot', mgt := mgt', recd := recd', pwg := pwg', sec := sec', dmc := dmc', sfm := sfm', lsc := lsc', tim := tim' } :=
  h.trans ⟨rfl, rfl, rfl, rfl, Nat.le_refl _, List.suffix_refl _, .inr ⟨hb, rfl, rfl⟩, by
    simp only [inv_iff, State.storesOk, State.countersOk, State.memoriesOk, State.ckptsOk, Bool.and_eq_true]
    rintro ⟨hs, rest⟩
    exact ⟨by simp only [hs, and_self, hm (by simp only [hs])], rest⟩⟩

@[simp] theorem Keeps.hiCap {m : SMap Nat} (h : Keeps s u) (hb : boot'.held = u.boot.held) (hm : Rises u.hiCap m) :
    Keeps s { u with hiCap := m, now := now', boot := boot', mgt := mgt', recd := recd', pwg := pwg', sec := sec', dmc := dmc', sfm := sfm', lsc := lsc', tim := tim' } :=
  h.trans ⟨rfl, rfl, rfl, rfl, Nat.le_refl _, List.suffix_refl _, .inr ⟨hb, rfl, rfl⟩, by
    simp only [inv_iff, State.storesOk, State.countersOk, State.memoriesOk, State.ckptsOk, Bool.and_eq_true]
    rintro ⟨hs, rest⟩
    exact ⟨by simp only [hs, and_self, hm (by simp only [hs])], rest⟩⟩

@[simp] theorem Keeps.blkState {m : SMap Nat} (h : Keeps s u) (hb : boot'.held = u.boot.held) (hm : Rises u.blkState m) :
    Keeps s { u with blkState := m, now := now', boot := boot', mgt := mgt', recd := recd', pwg := pwg', sec := sec', dmc := dmc', sfm := sfm', lsc := lsc', tim := tim' } :=
  h.trans ⟨rfl, rfl, rfl, rfl, Nat.le_refl _, List.suffix_refl _, .inr ⟨hb, rfl, rfl⟩, by
    simp only [inv_iff, State.storesOk, State.countersOk, State.memoriesOk, State.ckptsOk, Bool.and_eq_true]
    rintro ⟨hs, rest⟩
    exact ⟨by simp only [hs, and_self, hm (by simp only [hs])], rest⟩⟩

@[simp] theorem Keeps.unitsOut {m : SMap (List Nat)} (h : Keeps s u) (hb : boot'.held = u.boot.held) (hm : Rises u.unitsOut m) :
    Keeps s { u with unitsOut := m, now := now', boot := boot', mgt := mgt', recd := recd', pwg := pwg', sec := sec', dmc := dmc', sfm := sfm', lsc := lsc', tim := tim' } :=
  h.trans ⟨rfl, rfl, rfl, rfl, Nat.le_refl _, List.suffix_refl _, .inr ⟨hb, rfl, rfl⟩, by
    simp only [inv_iff, State.storesOk, State.countersOk, State.memoriesOk, State.ckptsOk, Bool.and_eq_true]
    rintro ⟨hs, rest⟩
    exact ⟨by simp only [hs, and_self, hm (by simp only [hs])], rest⟩⟩

@[simp] theorem Keeps.lanes {m : SMap Lane} (h : Keeps s u) (hb : boot'.held = u.boot.held) (hm : Rises u.lanes m) :
    Keeps s { u with lanes := m, now := now', boot := boot', mgt := mgt', recd := recd', pwg := pwg', sec := sec', dmc := dmc', sfm := sfm', lsc := lsc', tim := tim' } :=
  h.trans ⟨rfl, rfl, rfl, rfl, Nat.le_refl _, List.suffix_refl _, .inr ⟨hb, rfl, rfl⟩, by
    simp only [inv_iff, State.storesOk, State.countersOk, State.memoriesOk, State.ckptsOk, Bool.and_eq_true]
    rintro ⟨hs, rest⟩
    exact ⟨by simp only [hs, and_self, hm (by simp only [hs])], rest⟩⟩

@[simp] theorem Keeps.groups {m : SMap LaneGroup} (h : Keeps s u) (hb : boot'.held = u.boot.held) (hm : Rises u.groups m) :
    Keeps s { u with groups := m, now := now', boot := boot', mgt := mgt', recd := recd', pwg := pwg', sec := sec', dmc := dmc', sfm := sfm', lsc := lsc', tim := tim' } :=
  h.trans ⟨rfl, rfl, rfl, rfl, Nat.le_refl _, List.suffix_refl _, .inr ⟨hb, rfl, rfl⟩, by
    simp only [inv_iff, State.storesOk, State.countersOk, State.memoriesOk, State.ckptsOk, Bool.and_eq_true]
    rintro ⟨hs, rest⟩
    exact ⟨by simp only [hs, and_self, hm (by simp only [hs])], rest⟩⟩

@[simp] theorem Keeps.ports {m : SMap Port} (h : Keeps s u) (hb : boot'.held = u.boot.held) (hm : Rises u.ports m) :
    Keeps s { u with ports := m, now := now', boot := boot', mgt := mgt', recd := recd', pwg := pwg', sec := sec', dmc := dmc', sfm := sfm', lsc := lsc', tim := tim' } :=
  h.trans ⟨rfl, rfl, rfl, rfl, Nat.le_refl _, List.suffix_refl _, .inr ⟨hb, rfl, rfl⟩, by
    simp only [inv_iff, State.storesOk, State.countersOk, State.memoriesOk, State.ckptsOk, Bool.and_eq_true]
    rintro ⟨hs, rest⟩
    exact ⟨by simp only [hs, and_self, hm (by simp only [hs])], rest⟩⟩

@[simp] theorem Keeps.calLanes {m : SMap CalLane} (h : Keeps s u) (hb : boot'.held = u.boot.held) (hm : Rises u.calLanes m) :
    Keeps s { u with calLanes := m, now := now', boot := boot', mgt := mgt', recd := recd', pwg := pwg', sec := sec', dmc := dmc', sfm := sfm', lsc := lsc', tim := tim' } :=
  h.trans ⟨rfl, rfl, rfl, rfl, Nat.le_refl _, List.suffix_refl _, .inr ⟨hb, rfl, rfl⟩, by
    simp only [inv_iff, State.storesOk, State.countersOk, State.memoriesOk, State.ckptsOk, Bool.and_eq_true]
    rintro ⟨hs, rest⟩
    exact ⟨by simp only [hs, and_self, hm (by simp only [hs])], rest⟩⟩

@[simp] theorem Keeps.calGroups {m : SMap CalGroup} (h : Keeps s u) (hb : boot'.held = u.boot.held) (hm : Rises u.calGroups m) :
    Keeps s { u with calGroups := m, now := now', boot := boot', mgt := mgt', recd := recd', pwg := pwg', sec := sec', dmc := dmc', sfm := sfm', lsc := lsc', tim := tim' } :=
  h.trans ⟨rfl, rfl, rfl, rfl, Nat.le_refl _, List.suffix_refl _, .inr ⟨hb, rfl, rfl⟩, by
    simp only [inv_iff, State.storesOk, State.countersOk, State.memoriesOk, State.ckptsOk, Bool.and_eq_true]
    rintro ⟨hs, rest⟩
    exact ⟨by simp only [hs, and_self, hm (by simp only [hs])], rest⟩⟩

@[simp] theorem Keeps.dramCh {m : SMap DramCh} (h : Keeps s u) (hb : boot'.held = u.boot.held) (hm : Rises u.dramCh m) :
    Keeps s { u with dramCh := m, now := now', boot := boot', mgt := mgt', recd := recd', pwg := pwg', sec := sec', dmc := dmc', sfm := sfm', lsc := lsc', tim := tim' } :=
  h.trans ⟨rfl, rfl, rfl, rfl, Nat.le_refl _, List.suffix_refl _, .inr ⟨hb, rfl, rfl⟩, by
    simp only [inv_iff, State.storesOk, State.countersOk, State.memoriesOk, State.ckptsOk, Bool.and_eq_true]
    rintro ⟨hs, rest⟩
    exact ⟨by simp only [hs, and_self, hm (by simp only [hs])], rest⟩⟩

@[simp] theorem Keeps.tgn {m : SMap TgnHead} (h : Keeps s u) (hb : boot'.held = u.boot.held) (hm : Rises u.tgn m) :
    Keeps s { u with tgn := m, now := now', boot := boot', mgt := mgt', recd := recd', pwg := pwg', sec := sec', dmc := dmc', sfm := sfm', lsc := lsc', tim := tim' } :=
  h.trans ⟨rfl, rfl, rfl, rfl, Nat.le_refl _, List.suffix_refl _, .inr ⟨hb, rfl, rfl⟩, by
    simp only [inv_iff, State.storesOk, State.countersOk, State.memoriesOk, State.ckptsOk, Bool.and_eq_true]
    rintro ⟨hs, rest⟩
    exact ⟨by simp only [hs, and_self, hm (by simp only [hs])], rest⟩⟩

@[simp] theorem Keeps.headPolders {m : SMap (List Nat)} (h : Keeps s u) (hb : boot'.held = u.boot.held) (hm : Rises u.headPolders m) :
    Keeps s { u with headPolders := m, now := now', boot := boot', mgt := mgt', recd := recd', pwg := pwg', sec := sec', dmc := dmc', sfm := sfm', lsc := lsc', tim := tim' } :=
  h.trans ⟨rfl, rfl, rfl, rfl, Nat.le_refl _, List.suffix_refl _, .inr ⟨hb, rfl, rfl⟩, by
    simp only [inv_iff, State.storesOk, State.countersOk, State.memoriesOk, State.ckptsOk, Bool.and_eq_true]
    rintro ⟨hs, rest⟩
    exact ⟨by simp only [hs, and_self, hm (by simp only [hs])], rest⟩⟩

@[simp] theorem Keeps.polders {m : SMap Polder} (h : Keeps s u) (hb : boot'.held = u.boot.held) (hm : Rises u.polders m) :
    Keeps s { u with polders := m, now := now', boot := boot', mgt := mgt', recd := recd', pwg := pwg', sec := sec', dmc := dmc', sfm := sfm', lsc := lsc', tim := tim' } :=
  h.trans ⟨rfl, rfl, rfl, rfl, Nat.le_refl _, List.suffix_refl _, .inr ⟨hb, rfl, rfl⟩, by
    simp only [inv_iff, State.storesOk, State.countersOk, State.memoriesOk, State.ckptsOk, Bool.and_eq_true]
    rintro ⟨hs, rest⟩
    exact ⟨by simp only [hs, and_self, hm (by simp only [hs])], rest⟩⟩

@[simp] theorem Keeps.cals {m : SMap PortCal} (h : Keeps s u) (hb : boot'.held = u.boot.held) (hm : Rises u.cals m) :
    Keeps s { u with cals := m, now := now', boot := boot', mgt := mgt', recd := recd', pwg := pwg', sec := sec', dmc := dmc', sfm := sfm', lsc := lsc', tim := tim' } :=
  h.trans ⟨rfl, rfl, rfl, rfl, Nat.le_refl _, List.suffix_refl _, .inr ⟨hb, rfl, rfl⟩, by
    simp only [inv_iff, State.storesOk, State.countersOk, State.memoriesOk, State.ckptsOk, Bool.and_eq_true]
    rintro ⟨hs, rest⟩
    exact ⟨by simp only [hs, and_self, hm (by simp only [hs])], rest⟩⟩

@[simp] theorem Keeps.pnl {m : SMap PnlHead} (h : Keeps s u) (hb : boot'.held = u.boot.held) (hm : Rises u.pnl m) :
    Keeps s { u with pnl := m, now := now', boot := boot', mgt := mgt', recd := recd', pwg := pwg', sec := sec', dmc := dmc', sfm := sfm', lsc := lsc', tim := tim' } :=
  h.trans ⟨rfl, rfl, rfl, rfl, Nat.le_refl _, List.suffix_refl _, .inr ⟨hb, rfl, rfl⟩, by
    simp only [inv_iff, State.storesOk, State.countersOk, State.memoriesOk, State.ckptsOk, Bool.and_eq_true]
    rintro ⟨hs, rest⟩
    exact ⟨by simp only [hs, and_self, hm (by simp only [hs])], rest⟩⟩

@[simp] theorem Keeps.counters {m : SMap Counter} (h : Keeps s u) (hb : boot'.held = u.boot.held) (hm : Counts u.counters m) :
    Keeps s { u with counters := m, now := now', boot := boot', mgt := mgt', recd := recd', pwg := pwg', sec := sec', dmc := dmc', sfm := sfm', lsc := lsc', tim := tim' } :=
  h.trans ⟨rfl, rfl, rfl, rfl, Nat.le_refl _, List.suffix_refl _, .inr ⟨hb, rfl, rfl⟩, by
    simp only [Counts, inv_iff, State.storesOk, State.countersOk, State.memoriesOk, State.ckptsOk, Bool.and_eq_true] at hm ⊢
    rintro ⟨hs, hc, rest⟩
    have := hm ⟨by simp only [hs], hc⟩
    exact ⟨by simp only [hs, this, and_self], this.2, rest⟩⟩

@[simp] theorem Keeps.dram {m : Memory} (h : Keeps s u) (hb : boot'.held = u.boot.held) (hm : Stays u.dram m) :
    Keeps s { u with dram := m, now := now', boot := boot', mgt := mgt', recd := recd', pwg := pwg', sec := sec', dmc := dmc', sfm := sfm', lsc := lsc', tim := tim' } :=
  h.trans ⟨rfl, rfl, rfl, rfl, Nat.le_refl _, List.suffix_refl _, .inr ⟨hb, rfl, rfl⟩, by
    simp only [inv_iff, State.memoriesOk, Bool.and_eq_true]
    rintro ⟨hs, hc, ⟨⟨h1, h2⟩, h3⟩, hk⟩
    exact ⟨hs, hc, ⟨⟨hm h1, h2⟩, h3⟩, hk⟩⟩

@[simp] theorem Keeps.basin {m : Memory} (h : Keeps s u) (hb : boot'.held = u.boot.held) (hm : Stays u.basin m) :
    Keeps s { u with basin := m, now := now', boot := boot', mgt := mgt', recd := recd', pwg := pwg', sec := sec', dmc := dmc', sfm := sfm', lsc := lsc', tim := tim' } :=
  h.trans ⟨rfl, rfl, rfl, rfl, Nat.le_refl _, List.suffix_refl _, .inr ⟨hb, rfl, rfl⟩, by
    simp only [inv_iff, State.memoriesOk, Bool.and_eq_true]
    rintro ⟨hs, hc, ⟨⟨h1, h2⟩, h3⟩, hk⟩
    exact ⟨hs, hc, ⟨⟨h1, hm h2⟩, h3⟩, hk⟩⟩

theorem Keeps.ckpts {m : SMap Ckpt} (h : Keeps s u) (hb : boot'.held = u.boot.held) (hm : Rises u.ckpts m)
    (hw : s.inv = true → ∀ e ∈ m, Memory.wf 0 e.2.cells = true) : Keeps s { u with ckpts := m, now := now', boot := boot', mgt := mgt', recd := recd', pwg := pwg', sec := sec', dmc := dmc', sfm := sfm', lsc := lsc', tim := tim' } :=
  ⟨h.pending, h.otp, h.thermal, h.dbg, h.free, h.wire, by simpa [hb] using h.fixed, fun hi => by
    have hu := h.inv hi
    simp only [inv_iff, State.storesOk, Bool.and_eq_true] at hu ⊢
    exact ⟨⟨hu.1.1, hm hu.1.2⟩, hu.2.1, hu.2.2.1, List.all_eq_true.2 (hw hi)⟩⟩

@[simp] theorem Keeps.sends {x : Sent} (h : Keeps s u) : Keeps s { u with wire := x :: u.wire } :=
  h.trans ⟨rfl, rfl, rfl, rfl, Nat.le_refl _, List.suffix_cons _ _, .inr ⟨rfl, rfl, rfl⟩, id⟩

@[simp] theorem Keeps.draws {n : Nat} (h : Keeps s u) (hn : u.free ≤ n) : Keeps s { u with free := n } :=
  h.trans ⟨rfl, rfl, rfl, rfl, hn, List.suffix_refl _, .inr ⟨rfl, rfl, rfl⟩, id⟩

end

/-! ### Folds and choices -/

@[simp] theorem Keeps.foldl {β : Type} {l : List β} {f : State → β → State} (h : Keeps s u) (hf : ∀ v x, Keeps s v → Keeps s (f v x)) :
    Keeps s (l.foldl f u) := by
  induction l generalizing u with
  | nil => exact h
  | cons x l ih => exact ih (hf u x h)

@[simp] theorem Keeps.foldl_snd {β γ : Type} {l : List γ} {f : β × State → γ → β × State} {a : β × State} (h : Keeps s a.2)
    (hf : ∀ b x, Keeps s b.2 → Keeps s (f b x).2) : Keeps s (l.foldl f a).2 := by
  induction l generalizing a with
  | nil => exact h
  | cons x l ih => exact ih (hf a x h)

@[simp] theorem Keeps.ite {c : Prop} [Decidable c] {a b : State} (ha : Keeps s a) (hb : Keeps s b) : Keeps s (if c then a else b) := by
  split
  · exact ha
  · exact hb

end Sys2Proof.Machine
end

