-- ==== Sys2Proof/Laws/KeepsOps.lean ====
section
/-!
SUPPORT. Every operation of Sys2Proof/Machine/Ops.lean keeps what `Keeps` names.
-/
namespace Sys2Proof.Machine

@[simp] theorem setWord_keeps {st0 : State} (s : State) (a : Nat) (w : Word) (hk : Keeps st0 s) : Keeps st0 (State.setWord s a w) := by
  unfold State.setWord
  try dsimp only
  (repeat' split) <;> simp +contextual (maxDischargeDepth := 20) [*, -List.foldl_cons]

@[simp] theorem wr_keeps {st0 : State} (s : State) (r : Reg) (ix : List Nat) (w : Word) (hk : Keeps st0 s) : Keeps st0 (State.wr s r ix w) := by
  unfold State.wr
  try dsimp only
  (repeat' split) <;> simp +contextual (maxDischargeDepth := 20) [*, -List.foldl_cons]

@[simp] theorem setForce_keeps {st0 : State} (s : State) (a : Nat) (w : Word) (hk : Keeps st0 s) : Keeps st0 (State.setForce s a w) := by
  unfold State.setForce
  try dsimp only
  (repeat' split) <;> simp +contextual (maxDischargeDepth := 20) [*, -List.foldl_cons]

@[simp] theorem present_keeps {st0 : State} (sub kind unit reg arg0 arg1 : Nat) (s : State) (hk : Keeps st0 s) : Keeps st0 (present sub kind unit reg arg0 arg1 s) := by
  unfold present
  try dsimp only
  (repeat' split) <;> simp +contextual (maxDischargeDepth := 20) [*, -List.foldl_cons]

@[simp] theorem raise_keeps {st0 : State} (sub kind unit reg arg0 arg1 : Nat) (s : State) (hk : Keeps st0 s) : Keeps st0 (raise sub kind unit reg arg0 arg1 s) := by
  unfold raise
  try dsimp only
  (repeat' split) <;> simp +contextual (maxDischargeDepth := 20) [*, -List.foldl_cons]

@[simp] theorem raiseState_keeps {st0 : State} (sub unit reg prev cause : Nat) (s : State) (hk : Keeps st0 s) : Keeps st0 (raiseState sub unit reg prev cause s) := by
  unfold raiseState
  try dsimp only
  (repeat' split) <;> simp +contextual (maxDischargeDepth := 20) [*, -List.foldl_cons]

@[simp] theorem raiseFlag_keeps {st0 : State} (sub unit reg b arg1 : Nat) (s : State) (hk : Keeps st0 s) : Keeps st0 (raiseFlag sub unit reg b arg1 s) := by
  unfold raiseFlag
  try dsimp only
  (repeat' split) <;> simp +contextual (maxDischargeDepth := 20) [*, -List.foldl_cons]

@[simp] theorem raiseRefusal_keeps {st0 : State} (sub unit reg code index : Nat) (s : State) (hk : Keeps st0 s) : Keeps st0 (raiseRefusal sub unit reg code index s) := by
  unfold raiseRefusal
  try dsimp only
  (repeat' split) <;> simp +contextual (maxDischargeDepth := 20) [*, -List.foldl_cons]

@[simp] theorem raiseDone_keeps {st0 : State} (sub unit reg result cmd : Nat) (s : State) (hk : Keeps st0 s) : Keeps st0 (raiseDone sub unit reg result cmd s) := by
  unfold raiseDone
  try dsimp only
  (repeat' split) <;> simp +contextual (maxDischargeDepth := 20) [*, -List.foldl_cons]

@[simp] theorem raiseReport_keeps {st0 : State} (sub unit reg a0 a1 : Nat) (s : State) (hk : Keeps st0 s) : Keeps st0 (raiseReport sub unit reg a0 a1 s) := by
  unfold raiseReport
  try dsimp only
  (repeat' split) <;> simp +contextual (maxDischargeDepth := 20) [*, -List.foldl_cons]

@[simp] theorem invalidWrite_keeps {st0 : State} (a : Nat) (s : State) (hk : Keeps st0 s) : Keeps st0 (invalidWrite a s) := by
  unfold invalidWrite
  try dsimp only
  (repeat' split) <;> simp +contextual (maxDischargeDepth := 20) [*, -List.foldl_cons]

@[simp] theorem rerunRefuses_keeps {st0 : State} (a : Nat) (s : State) (hk : Keeps st0 s) : Keeps st0 (rerunRefuses a s) := by
  unfold rerunRefuses
  try dsimp only
  (repeat' split) <;> simp +contextual (maxDischargeDepth := 20) [*, -List.foldl_cons]

@[simp] theorem count_keeps {st0 : State} (r : Reg) (ix : List Nat) (n : Nat) (s : State) (h : Keeps st0 s) : Keeps st0 (count r ix n s) := by
  have key : ∀ c : Counter, c.val ≤ cntMax → Keeps st0 { s with counters := s.counters.put {} (r.at ix) c } :=
    fun c hv => Keeps.counters h rfl (Counts.put _ _ _ (by simpa [Counter.inRange] using hv))
  have hv : (if (s.cnt (r.at ix)).val + n < cntMax then (s.cnt (r.at ix)).val + n else cntMax) ≤ cntMax := by split <;> omega
  unfold count
  split
  · exact h
  dsimp only
  generalize (if (s.cnt (r.at ix)).val + n < cntMax then (s.cnt (r.at ix)).val + n else cntMax) = v at hv ⊢
  split
  · exact raise_keeps _ _ _ _ _ _ _ (key _ hv)
  · exact key _ hv

@[simp] theorem count1_keeps {st0 : State} (r : Reg) (ix : List Nat) (s : State) (hk : Keeps st0 s) : Keeps st0 (count1 r ix s) := by
  unfold count1
  try dsimp only
  (repeat' split) <;> simp +contextual (maxDischargeDepth := 20) [*, -List.foldl_cons]

@[simp] theorem clearCnt_keeps {st0 : State} (r : Reg) (ix : List Nat) (s : State) (h : Keeps st0 s) : Keeps st0 (clearCnt r ix s) :=
  Keeps.counters h rfl (Counts.upd _ _ _ fun c _ => by
    unfold Counter.afterClear
    split
    · rfl
    · simp [Counter.inRange, Nat.min_le_right])

@[simp] theorem onBits_keeps {st0 : State} (v : Word) (l : List (Nat × (State → State))) (hl : ∀ x ∈ l, ∀ u, Keeps st0 u → Keeps st0 (x.2 u))
    (s : State) (h : Keeps st0 s) : Keeps st0 (onBits v l s) := by
  induction l generalizing s with
  | nil => exact h
  | cons x l ih =>
    obtain ⟨b, f⟩ := x
    refine ih (fun x hx => hl x (List.mem_cons_of_mem _ hx)) _ ?_
    split
    · exact hl _ (List.mem_cons_self ..) s h
    · exact h

@[simp] theorem storeWrite_keeps {st0 : State} (r : Reg) (ix : List Nat) (v : Word) (s : State) (hk : Keeps st0 s) : Keeps st0 (storeWrite r ix v s) := by
  unfold storeWrite
  try dsimp only
  (repeat' split) <;> simp +contextual (maxDischargeDepth := 20) [*, -List.foldl_cons]

@[simp] theorem settleBlock_keeps {st0 : State} (n : Nat) (s : State) (hk : Keeps st0 s) : Keeps st0 (settleBlock n s) := by
  unfold settleBlock
  try dsimp only
  (repeat' split) <;> simp +contextual (maxDischargeDepth := 20) [*, -List.foldl_cons]

@[simp] theorem unitOut_keeps {st0 : State} (n u : Nat) (s : State) (hk : Keeps st0 s) : Keeps st0 (unitOut n u s) := by
  unfold unitOut
  try dsimp only
  (repeat' split) <;> simp +contextual (maxDischargeDepth := 20) [*, -List.foldl_cons]

@[simp] theorem unitBack_keeps {st0 : State} (n u : Nat) (s : State) (hk : Keeps st0 s) : Keeps st0 (unitBack n u s) := by
  unfold unitBack
  try dsimp only
  (repeat' split) <;> simp +contextual (maxDischargeDepth := 20) [*, -List.foldl_cons]

@[simp] theorem unitsOutAll_keeps {st0 : State} (n : Nat) (us : List Nat) (s : State) (hk : Keeps st0 s) : Keeps st0 (unitsOutAll n us s) := by
  unfold unitsOutAll
  try dsimp only
  (repeat' split) <;> simp +contextual (maxDischargeDepth := 20) [*, -List.foldl_cons]

@[simp] theorem startBlock_keeps {st0 : State} (n : Nat) (s : State) (hk : Keeps st0 s) : Keeps st0 (startBlock n s) := by
  unfold startBlock
  try dsimp only
  (repeat' split) <;> simp +contextual (maxDischargeDepth := 20) [*, -List.foldl_cons]

@[simp] theorem recItem_keeps {st0 : State} (kind head unit : Nat) (vals : List Nat) (s : State) (hk : Keeps st0 s) : Keeps st0 (recItem kind head unit vals s) := by
  unfold recItem
  try dsimp only
  (repeat' split) <;> simp +contextual (maxDischargeDepth := 20) [*, -List.foldl_cons]

@[simp] theorem recFor_keeps {st0 : State} (kind h unit : Nat) (vals : List Nat) (s : State) (hk : Keeps st0 s) : Keeps st0 (recFor kind h unit vals s) := by
  unfold recFor
  try dsimp only
  (repeat' split) <;> simp +contextual (maxDischargeDepth := 20) [*, -List.foldl_cons]

@[simp] theorem recReg_keeps {st0 : State} (src : Source) (a : Nat) (v : Word) (s : State) (hk : Keeps st0 s) : Keeps st0 (recReg src a v s) := by
  unfold recReg
  try dsimp only
  (repeat' split) <;> simp +contextual (maxDischargeDepth := 20) [*, -List.foldl_cons]

@[simp] theorem absentWrite_keeps {st0 : State} (a : Nat) (s : State) (hk : Keeps st0 s) : Keeps st0 (absentWrite a s) := by
  unfold absentWrite
  try dsimp only
  (repeat' split) <;> simp +contextual (maxDischargeDepth := 20) [*, -List.foldl_cons]

@[simp] theorem gatedWrite_keeps {st0 : State} (src : Source) (a : Nat) (v : Word) (eff : State → State) (s : State) (heff : ∀  v, Keeps st0 v → Keeps st0 (eff  v)) (hk : Keeps st0 s) : Keeps st0 (gatedWrite src a v eff s) := by
  unfold gatedWrite
  try dsimp only
  (repeat' split) <;> simp +contextual (maxDischargeDepth := 20) [*, -List.foldl_cons]

@[simp] theorem draw_keeps {st0 : State} (s : State) (h : Keeps st0 s) : Keeps st0 s.draw.2 := by
  simp [State.draw, h]

end Sys2Proof.Machine
end

