-- ==== Sys2Proof/Laws/KeepsReset.lean ====
section
/-!
SUPPORT. Every operation of Sys2Proof/Machine/Reset.lean keeps what `Keeps` names.
-/
namespace Sys2Proof.Machine

theorem interruptFlash_wf {s : State} (h : Memory.wf 0xFF s.flash = true) : Memory.wf 0xFF (interruptFlash s) = true := by
  unfold interruptFlash
  (repeat' split) <;> first | exact h | exact setByte_wf h

/-- The device cleared by any reset: what it keeps, and that the invariant holds on. -/
theorem cleared_inv {s t : State} (hs : s.inv = true) (ht : t = { State.reset with
    flash := interruptFlash s, otp := t.otp, thermal := t.thermal, dbg := t.dbg, boot := t.boot, free := t.free, wire := t.wire,
    pending := t.pending }) : t.inv = true := by
  rw [ht]
  have h := (inv_iff s).1 hs
  simp only [State.memoriesOk, Bool.and_eq_true] at h
  have hf := interruptFlash_wf h.2.2.1.2
  exact (inv_iff _).2 ⟨rfl, rfl, by rw [State.memoriesOk, Bool.and_eq_true]; exact ⟨rfl, hf⟩, rfl⟩

@[simp] theorem clearAll_keeps {st0 : State} (s : State) (hk : Keeps st0 s) : Keeps st0 (clearAll false s) := by
  refine hk.trans ?_
  have h0 : Keeps s { State.reset with
      flash := interruptFlash s, otp := s.otp, thermal := s.thermal, dbg := s.dbg,
      boot := { held := true, porHeld := false || (s.boot.held && s.boot.porHeld), bootsel := s.boot.bootsel },
      free := s.free, wire := s.wire, pending := s.pending } :=
    ⟨rfl, rfl, rfl, rfl, Nat.le_refl _, List.suffix_refl _, .inl rfl, fun h => cleared_inv h rfl⟩
  unfold clearAll
  exact Keeps.foldl h0 fun v x hv => by simp [hv]

@[simp] theorem setCause_keeps {st0 : State} (b : Nat) (s : State) (hk : Keeps st0 s) : Keeps st0 (setCause b s) := by
  unfold setCause
  try dsimp only
  (repeat' split) <;> simp +contextual (maxDischargeDepth := 20) [*, -List.foldl_cons]

@[simp] theorem applyReset_keeps {st0 : State} (b : Nat) (hb : b ≠ 0) (s : State) (hk : Keeps st0 s) : Keeps st0 (applyReset b s) := by
  simp [applyReset, hb, hk]

theorem porReset_moves (s : State) : Moves s (applyReset 0 s) := by
  have h0 : Moves s (clearAll true s) := ⟨rfl, Nat.le_refl _, List.suffix_refl _, fun h => cleared_inv h rfl⟩
  exact h0.keeps (by simp [applyReset])

theorem applyReset_moves (b : Nat) (s : State) : Moves s (applyReset b s) := by
  by_cases hb : b = 0
  · exact hb ▸ porReset_moves s
  · exact (applyReset_keeps b hb s (Keeps.refl s)).moves

theorem releaseReset_moves (b : Nat) (s : State) : Moves s (releaseReset b s) := ⟨rfl, Nat.le_refl _, List.suffix_refl _, id⟩

@[simp] theorem setStage_keeps {st0 : State} (n : Nat) (s : State) (hk : Keeps st0 s) : Keeps st0 (setStage n s) := by
  unfold setStage
  try dsimp only
  (repeat' split) <;> simp +contextual (maxDischargeDepth := 20) [*, -List.foldl_cons]

@[simp] theorem softwareResetOp_keeps {st0 : State} (v : Word) (s : State) (hk : Keeps st0 s) : Keeps st0 (softwareResetOp v s) := by
  unfold softwareResetOp
  try dsimp only
  (repeat' split) <;> simp +contextual (maxDischargeDepth := 20) [*, -List.foldl_cons]

@[simp] theorem pllLockOp_keeps {st0 : State} (ask : State → State) (s : State) (hask : ∀  v, Keeps st0 v → Keeps st0 (ask  v)) (hk : Keeps st0 s) : Keeps st0 (pllLockOp ask s) := by
  unfold pllLockOp
  try dsimp only
  (repeat' split) <;> simp +contextual (maxDischargeDepth := 20) [*, -List.foldl_cons]

end Sys2Proof.Machine
end

