-- ==== Sys2Proof/Laws/KeepsPwg.lean ====
section
/-!
SUPPORT. Every operation of Sys2Proof/Machine/Pwg.lean keeps what `Keeps` names.
-/
namespace Sys2Proof.Machine

@[simp] theorem refuse_keeps {st0 : State} (g : GrantReq) (reason : Nat) (s : State) (hk : Keeps st0 s) : Keeps st0 (refuse g reason s) := by
  unfold refuse
  try dsimp only
  (repeat' split) <;> simp +contextual (maxDischargeDepth := 20) [*, -List.foldl_cons]

@[simp] theorem request_keeps {st0 : State} (cls unit : Nat) (s : State) (hk : Keeps st0 s) : Keeps st0 (request cls unit s) := by
  unfold request
  try dsimp only
  (repeat' split) <;> simp +contextual (maxDischargeDepth := 20) [*, -List.foldl_cons]

@[simp] theorem release_keeps {st0 : State} (cls unit : Nat) (s : State) (hk : Keeps st0 s) : Keeps st0 (release cls unit s) := by
  unfold release
  try dsimp only
  (repeat' split) <;> simp +contextual (maxDischargeDepth := 20) [*, -List.foldl_cons]

@[simp] theorem withdraw_keeps {st0 : State} (cls unit : Nat) (s : State) (hk : Keeps st0 s) : Keeps st0 (withdraw cls unit s) := by
  unfold withdraw
  try dsimp only
  (repeat' split) <;> simp +contextual (maxDischargeDepth := 20) [*, -List.foldl_cons]

theorem takeGrant_keeps {st0 : State} {cls unit : Nat} {s t : State} (ht : takeGrant cls unit s = some t) (h : Keeps st0 s) : Keeps st0 t := by
  unfold takeGrant at ht
  dsimp only at ht
  (repeat' split at ht) <;> cases ht <;> simp [h]

theorem takeRefusal_keeps {st0 : State} {cls unit : Nat} {s : State} {x : Nat × State} (hx : takeRefusal cls unit s = some x) (h : Keeps st0 s) :
    Keeps st0 x.2 := by
  unfold takeRefusal at hx
  split at hx <;> cases hx
  simp [h]

@[simp] theorem grantDecisionOp_keeps {st0 : State} (s : State) (hk : Keeps st0 s) : Keeps st0 (grantDecisionOp s) := by
  unfold grantDecisionOp
  try dsimp only
  (repeat' split) <;> simp +contextual (maxDischargeDepth := 20) [*, -List.foldl_cons]

@[simp] theorem grantDeadlineOp_keeps {st0 : State} (cls unit : Nat) (s : State) (hk : Keeps st0 s) : Keeps st0 (grantDeadlineOp cls unit s) := by
  unfold grantDeadlineOp
  try dsimp only
  (repeat' split) <;> simp +contextual (maxDischargeDepth := 20) [*, -List.foldl_cons]

@[simp] theorem standingRampDoneOp_keeps {st0 : State} (s : State) (hk : Keeps st0 s) : Keeps st0 (standingRampDoneOp s) := by
  unfold standingRampDoneOp
  try dsimp only
  (repeat' split) <;> simp +contextual (maxDischargeDepth := 20) [*, -List.foldl_cons]

@[simp] theorem retestQueue_keeps {st0 : State} (l : List GrantReq) (s : State) (h : Keeps st0 s) : Keeps st0 (retestQueue l s) := by
  induction l generalizing s with
  | nil => exact h
  | cons g r ih =>
    unfold retestQueue
    split <;> exact ih _ (by simp [h])

@[simp] theorem pwgFlag_keeps {st0 : State} (b arg1 : Nat) (s : State) (hk : Keeps st0 s) : Keeps st0 (pwgFlag b arg1 s) := by
  unfold pwgFlag
  try dsimp only
  (repeat' split) <;> simp +contextual (maxDischargeDepth := 20) [*, -List.foldl_cons]

@[simp] theorem overBudget_keeps {st0 : State} (s : State) (hk : Keeps st0 s) : Keeps st0 (overBudget s) := by
  unfold overBudget
  try dsimp only
  (repeat' split) <;> simp +contextual (maxDischargeDepth := 20) [*, -List.foldl_cons]

@[simp] theorem budgetWriteOp_keeps {st0 : State} (base : Bool) (v : Word) (s : State) (hk : Keeps st0 s) : Keeps st0 (budgetWriteOp base v s) := by
  unfold budgetWriteOp
  try dsimp only
  (repeat' split) <;> simp +contextual (maxDischargeDepth := 20) [*, -List.foldl_cons]

@[simp] theorem pwgCntClrOp_keeps {st0 : State} (v : Word) (s : State) (hk : Keeps st0 s) : Keeps st0 (pwgCntClrOp v s) := by
  unfold pwgCntClrOp
  try dsimp only
  (repeat' split) <;> simp +contextual (maxDischargeDepth := 20) [*, -List.foldl_cons]

@[simp] theorem sensorFaults_keeps {st0 : State} (old new : List (Int × Bool)) (s : State) (hk : Keeps st0 s) : Keeps st0 (sensorFaults old new s) := by
  unfold sensorFaults
  try dsimp only
  (repeat' split) <;> simp +contextual (maxDischargeDepth := 20) [*, -List.foldl_cons]

@[simp] theorem changeTherm_keeps {st0 : State} (n : Nat) (s : State) (hk : Keeps st0 s) : Keeps st0 (changeTherm n s) := by
  unfold changeTherm
  try dsimp only
  (repeat' split) <;> simp +contextual (maxDischargeDepth := 20) [*, -List.foldl_cons]

theorem thermal_moves (s : State) (x : Thermal) : Moves s { s with thermal := x } := ⟨rfl, Nat.le_refl _, List.suffix_refl _, id⟩

theorem thermalSampleOp_moves (r : List (Int × Bool)) (s : State) : Moves s (thermalSampleOp r s) := by
  have h0 := thermal_moves s
  unfold thermalSampleOp
  dsimp only
  split
  · exact h0 _
  · have h1 : Moves s (if s.boot.held then { s with thermal := { s.thermal with temps := takeReadings s.thermal.temps r } } else
        sensorFaults s.thermal.temps (takeReadings s.thermal.temps r)
          { s with thermal := { s.thermal with temps := takeReadings s.thermal.temps r } }) := by
      split
      · exact h0 _
      · exact (h0 _).keeps (sensorFaults_keeps _ _ _ (Keeps.refl _))
    split
    · exact ((h1.keeps (wr_keeps _ Rg.PWG_FLAGS [] _ (Keeps.refl _))).trans (thermal_moves _ _)).trans (applyReset_moves 4 _)
    · by_cases hb : s.boot.held = true
      · rw [if_pos hb]
        exact h1
      · rw [if_neg hb]
        exact h1.keeps (changeTherm_keeps _ _ (Keeps.refl _))

end Sys2Proof.Machine
end

