-- ==== Sys2Proof/Laws/KeepsLnk.lean ====
section
/-!
SUPPORT. Every operation of Sys2Proof/Machine/Lnk.lean keeps what `Keeps` names.
-/
namespace Sys2Proof.Machine

@[simp] theorem setPort_keeps {st0 : State} (s : State) (p : Nat) (x : Port) (hk : Keeps st0 s) : Keeps st0 (State.setPort s p x) := by
  unfold State.setPort
  try dsimp only
  (repeat' split) <;> simp +contextual (maxDischargeDepth := 20) [*, -List.foldl_cons]

@[simp] theorem modPort_keeps {st0 : State} (s : State) (p : Nat) (f : Port → Port) (hk : Keeps st0 s) : Keeps st0 (State.modPort s p f) := by
  unfold State.modPort
  try dsimp only
  (repeat' split) <;> simp +contextual (maxDischargeDepth := 20) [*, -List.foldl_cons]

@[simp] theorem setLane_keeps {st0 : State} (s : State) (n : Nat) (x : Lane) (hk : Keeps st0 s) : Keeps st0 (State.setLane s n x) := by
  unfold State.setLane
  try dsimp only
  (repeat' split) <;> simp +contextual (maxDischargeDepth := 20) [*, -List.foldl_cons]

@[simp] theorem modLane_keeps {st0 : State} (s : State) (n : Nat) (f : Lane → Lane) (hk : Keeps st0 s) : Keeps st0 (State.modLane s n f) := by
  unfold State.modLane
  try dsimp only
  (repeat' split) <;> simp +contextual (maxDischargeDepth := 20) [*, -List.foldl_cons]

@[simp] theorem modGroup_keeps {st0 : State} (s : State) (g : Nat) (f : LaneGroup → LaneGroup) (hk : Keeps st0 s) : Keeps st0 (State.modGroup s g f) := by
  unfold State.modGroup
  try dsimp only
  (repeat' split) <;> simp +contextual (maxDischargeDepth := 20) [*, -List.foldl_cons]

@[simp] theorem portFlag_keeps {st0 : State} (p b : Nat) (s : State) (hk : Keeps st0 s) : Keeps st0 (portFlag p b s) := by
  unfold portFlag
  try dsimp only
  (repeat' split) <;> simp +contextual (maxDischargeDepth := 20) [*, -List.foldl_cons]

@[simp] theorem emit_keeps {st0 : State} (x : Sent) (s : State) (hk : Keeps st0 s) : Keeps st0 (emit x s) := by
  unfold emit
  try dsimp only
  (repeat' split) <;> simp +contextual (maxDischargeDepth := 20) [*, -List.foldl_cons]

@[simp] theorem emitFor_keeps {st0 : State} (h : Nat) (x : Sent) (s : State) (hk : Keeps st0 s) : Keeps st0 (emitFor h x s) := by
  unfold emitFor
  try dsimp only
  (repeat' split) <;> simp +contextual (maxDischargeDepth := 20) [*, -List.foldl_cons]

@[simp] theorem calAbandon_keeps {st0 : State} (p : Nat) (s : State) (hk : Keeps st0 s) : Keeps st0 (calAbandon p s) := by
  unfold calAbandon
  try dsimp only
  (repeat' split) <;> simp +contextual (maxDischargeDepth := 20) [*, -List.foldl_cons]

@[simp] theorem portTo_keeps {st0 : State} (p st cause : Nat) (s : State) (hk : Keeps st0 s) : Keeps st0 (portTo p st cause s) := by
  unfold portTo
  try dsimp only
  (repeat' split) <;> simp +contextual (maxDischargeDepth := 20) [*, -List.foldl_cons]

@[simp] theorem portFail_keeps {st0 : State} (p cause : Nat) (s : State) (hk : Keeps st0 s) : Keeps st0 (portFail p cause s) := by
  unfold portFail
  try dsimp only
  (repeat' split) <;> simp +contextual (maxDischargeDepth := 20) [*, -List.foldl_cons]

@[simp] theorem portTryBond_keeps {st0 : State} (p : Nat) (s : State) (hk : Keeps st0 s) : Keeps st0 (portTryBond p s) := by
  unfold portTryBond
  try dsimp only
  (repeat' split) <;> simp +contextual (maxDischargeDepth := 20) [*, -List.foldl_cons]

@[simp] theorem portTryRebond_keeps {st0 : State} (p : Nat) (s : State) (hk : Keeps st0 s) : Keeps st0 (portTryRebond p s) := by
  unfold portTryRebond
  try dsimp only
  (repeat' split) <;> simp +contextual (maxDischargeDepth := 20) [*, -List.foldl_cons]

@[simp] theorem portRebond_keeps {st0 : State} (p : Nat) (s : State) (hk : Keeps st0 s) : Keeps st0 (portRebond p s) := by
  unfold portRebond
  try dsimp only
  (repeat' split) <;> simp +contextual (maxDischargeDepth := 20) [*, -List.foldl_cons]

@[simp] theorem lnkLaneUp_keeps {st0 : State} (n : Nat) (s : State) (hk : Keeps st0 s) : Keeps st0 (lnkLaneUp n s) := by
  unfold lnkLaneUp
  try dsimp only
  (repeat' split) <;> simp +contextual (maxDischargeDepth := 20) [*, -List.foldl_cons]

@[simp] theorem lnkLaneDown_keeps {st0 : State} (n : Nat) (s : State) (hk : Keeps st0 s) : Keeps st0 (lnkLaneDown n s) := by
  unfold lnkLaneDown
  try dsimp only
  (repeat' split) <;> simp +contextual (maxDischargeDepth := 20) [*, -List.foldl_cons]

@[simp] theorem setRxCred_keeps {st0 : State} (p cls : Nat) (c : Credit) (s : State) (hk : Keeps st0 s) : Keeps st0 (setRxCred p cls c s) := by
  unfold setRxCred
  try dsimp only
  (repeat' split) <;> simp +contextual (maxDischargeDepth := 20) [*, -List.foldl_cons]

@[simp] theorem sendCtl_keeps {st0 : State} (p : Nat) (bytes : List Byte) (x : Sent) (s : State) (hk : Keeps st0 s) : Keeps st0 (sendCtl p bytes x s) := by
  unfold sendCtl
  try dsimp only
  (repeat' split) <;> simp +contextual (maxDischargeDepth := 20) [*, -List.foldl_cons]

@[simp] theorem sendPacket_keeps {st0 : State} (p : Nat) (t : Txn) (s : State) (hk : Keeps st0 s) : Keeps st0 (sendPacket p t s) := by
  unfold sendPacket
  try dsimp only
  (repeat' split) <;> simp +contextual (maxDischargeDepth := 20) [*, -List.foldl_cons]

@[simp] theorem drainPort_keeps {st0 : State} (p n : Nat) (s : State) (hk : Keeps st0 s) : Keeps st0 (drainPort p n s) := by
  induction n generalizing s with
  | zero => exact hk
  | succ n ih =>
    unfold drainPort
    (repeat' split) <;> simp (maxDischargeDepth := 20) [*]

@[simp] theorem pump_keeps {st0 : State} (p : Nat) (s : State) (hk : Keeps st0 s) : Keeps st0 (pump p s) := by
  unfold pump
  try dsimp only
  (repeat' split) <;> simp +contextual (maxDischargeDepth := 20) [*, -List.foldl_cons]

@[simp] theorem laneWakeTx_keeps {st0 : State} (n : Nat) (s : State) (hk : Keeps st0 s) : Keeps st0 (laneWakeTx n s) := by
  unfold laneWakeTx
  try dsimp only
  (repeat' split) <;> simp +contextual (maxDischargeDepth := 20) [*, -List.foldl_cons]

@[simp] theorem wakeLanes_keeps {st0 : State} (p : Nat) (s : State) (hk : Keeps st0 s) : Keeps st0 (wakeLanes p s) := by
  unfold wakeLanes
  try dsimp only
  (repeat' split) <;> simp +contextual (maxDischargeDepth := 20) [*, -List.foldl_cons]

@[simp] theorem sendTxn_keeps {st0 : State} (p : Nat) (t : Txn) (s : State) (hk : Keeps st0 s) : Keeps st0 (sendTxn p t s) := by
  unfold sendTxn
  try dsimp only
  (repeat' split) <;> simp +contextual (maxDischargeDepth := 20) [*, -List.foldl_cons]

@[simp] theorem sendCmd_keeps {st0 : State} (p : Nat) (bytes : List Byte) (s : State) (hk : Keeps st0 s) : Keeps st0 (sendCmd p bytes s) := by
  unfold sendCmd
  try dsimp only
  (repeat' split) <;> simp +contextual (maxDischargeDepth := 20) [*, -List.foldl_cons]

@[simp] theorem resendAll_keeps {st0 : State} (p : Nat) (s : State) (hk : Keeps st0 s) : Keeps st0 (resendAll p s) := by
  unfold resendAll
  try dsimp only
  (repeat' split) <;> simp +contextual (maxDischargeDepth := 20) [*, -List.foldl_cons]

@[simp] theorem replayOrDown_keeps {st0 : State} (p : Nat) (s : State) (hk : Keeps st0 s) : Keeps st0 (replayOrDown p s) := by
  unfold replayOrDown
  try dsimp only
  (repeat' split) <;> simp +contextual (maxDischargeDepth := 20) [*, -List.foldl_cons]

@[simp] theorem ackTo_keeps {st0 : State} (p q : Nat) (s : State) (hk : Keeps st0 s) : Keeps st0 (ackTo p q s) := by
  unfold ackTo
  try dsimp only
  (repeat' split) <;> simp +contextual (maxDischargeDepth := 20) [*, -List.foldl_cons]

@[simp] theorem sendCredit_keeps {st0 : State} (p cls : Nat) (s : State) (hk : Keeps st0 s) : Keeps st0 (sendCredit p cls s) := by
  unfold sendCredit
  try dsimp only
  (repeat' split) <;> simp +contextual (maxDischargeDepth := 20) [*, -List.foldl_cons]

@[simp] theorem creditSendOp_keeps {st0 : State} (p : Nat) (s : State) (hk : Keeps st0 s) : Keeps st0 (creditSendOp p s) := by
  unfold creditSendOp
  try dsimp only
  (repeat' split) <;> simp +contextual (maxDischargeDepth := 20) [*, -List.foldl_cons]

@[simp] theorem freeBuffer_keeps {st0 : State} (p cls units : Nat) (s : State) (hk : Keeps st0 s) : Keeps st0 (freeBuffer p cls units s) := by
  unfold freeBuffer
  try dsimp only
  (repeat' split) <;> simp +contextual (maxDischargeDepth := 20) [*, -List.foldl_cons]

@[simp] theorem takeTxn_keeps {st0 : State} (p : Nat) (f : Txn → Bool) (s : State) (hk : Keeps st0 s) : Keeps st0 (takeTxn p f s).2 := by
  unfold takeTxn
  try dsimp only
  (repeat' split) <;> simp +contextual (maxDischargeDepth := 20) [*, -List.foldl_cons]

@[simp] theorem takeResponse_keeps {st0 : State} (p : Nat) (f : Nat → Bool) (s : State) (hk : Keeps st0 s) : Keeps st0 (takeResponse p f s).2 := by
  unfold takeResponse
  try dsimp only
  (repeat' split) <;> simp +contextual (maxDischargeDepth := 20) [*, -List.foldl_cons]

@[simp] theorem freeTxn_keeps {st0 : State} (p : Nat) (t : Txn) (s : State) (hk : Keeps st0 s) : Keeps st0 (freeTxn p t s) := by
  unfold freeTxn
  try dsimp only
  (repeat' split) <;> simp +contextual (maxDischargeDepth := 20) [*, -List.foldl_cons]

@[simp] theorem dropTxn_keeps {st0 : State} (p ty : Nat) (s : State) (hk : Keeps st0 s) : Keeps st0 (dropTxn p ty s) := by
  unfold dropTxn
  try dsimp only
  (repeat' split) <;> simp +contextual (maxDischargeDepth := 20) [*, -List.foldl_cons]

@[simp] theorem authFail_keeps {st0 : State} (p : Nat) (s : State) (hk : Keeps st0 s) : Keeps st0 (authFail p s) := by
  unfold authFail
  try dsimp only
  (repeat' split) <;> simp +contextual (maxDischargeDepth := 20) [*, -List.foldl_cons]

@[simp] theorem landTxn_keeps {st0 : State} (p : Nat) (k : LinkPkt) (units : Nat) (s : State) (hk : Keeps st0 s) : Keeps st0 (landTxn p k units s) := by
  unfold landTxn
  try dsimp only
  (repeat' split) <;> simp +contextual (maxDischargeDepth := 20) [*, -List.foldl_cons]

@[simp] theorem acceptTxn_keeps {st0 : State} (p : Nat) (k : LinkPkt) (s : State) (hk : Keeps st0 s) : Keeps st0 (acceptTxn p k s) := by
  unfold acceptTxn
  try dsimp only
  (repeat' split) <;> simp +contextual (maxDischargeDepth := 20) [*, -List.foldl_cons]

@[simp] theorem sendNak_keeps {st0 : State} (p reason : Nat) (s : State) (hk : Keeps st0 s) : Keeps st0 (sendNak p reason s) := by
  unfold sendNak
  try dsimp only
  (repeat' split) <;> simp +contextual (maxDischargeDepth := 20) [*, -List.foldl_cons]

@[simp] theorem sendAck_keeps {st0 : State} (p q : Nat) (s : State) (hk : Keeps st0 s) : Keeps st0 (sendAck p q s) := by
  unfold sendAck
  try dsimp only
  (repeat' split) <;> simp +contextual (maxDischargeDepth := 20) [*, -List.foldl_cons]

@[simp] theorem packetIn_keeps {st0 : State} (p : Nat) (k : LinkPkt) (s0 : State) (hk : Keeps st0 s0) : Keeps st0 (packetIn p k s0) := by
  unfold packetIn
  try dsimp only
  (repeat' split) <;> simp +contextual (maxDischargeDepth := 20) [*, -List.foldl_cons]

@[simp] theorem capsSendOp_keeps {st0 : State} (p : Nat) (s : State) (hk : Keeps st0 s) : Keeps st0 (capsSendOp p s) := by
  unfold capsSendOp
  try dsimp only
  (repeat' split) <;> simp +contextual (maxDischargeDepth := 20) [*, -List.foldl_cons]

@[simp] theorem capsReplay_keeps {st0 : State} (p : Nat) (s : State) (hk : Keeps st0 s) : Keeps st0 (capsReplay p s) := by
  unfold capsReplay
  try dsimp only
  (repeat' split) <;> simp +contextual (maxDischargeDepth := 20) [*, -List.foldl_cons]

@[simp] theorem portActivate_keeps {st0 : State} (p : Nat) (s : State) (hk : Keeps st0 s) : Keeps st0 (portActivate p s) := by
  unfold portActivate
  try dsimp only
  (repeat' split) <;> simp +contextual (maxDischargeDepth := 20) [*, -List.foldl_cons]

@[simp] theorem capsReceiveOp_keeps {st0 : State} (up : Nat → State → State) (p : Nat) (body : List Byte) (s0 : State) (hup : ∀ a v, Keeps st0 v → Keeps st0 (up a v)) (hk : Keeps st0 s0) : Keeps st0 (capsReceiveOp up p body s0) := by
  unfold capsReceiveOp
  try dsimp only
  (repeat' split) <;> simp +contextual (maxDischargeDepth := 20) [*, -List.foldl_cons]

@[simp] theorem capsTimeoutOp_keeps {st0 : State} (p : Nat) (s : State) (hk : Keeps st0 s) : Keeps st0 (capsTimeoutOp p s) := by
  unfold capsTimeoutOp
  try dsimp only
  (repeat' split) <;> simp +contextual (maxDischargeDepth := 20) [*, -List.foldl_cons]

@[simp] theorem rebondEnd_keeps {st0 : State} (changed : Nat → State → State) (p : Nat) (s : State) (hchanged : ∀ a v, Keeps st0 v → Keeps st0 (changed a v)) (hk : Keeps st0 s) : Keeps st0 (rebondEnd changed p s) := by
  unfold rebondEnd
  try dsimp only
  (repeat' split) <;> simp +contextual (maxDischargeDepth := 20) [*, -List.foldl_cons]

@[simp] theorem widthReceiveOp_keeps {st0 : State} (changed : Nat → State → State) (p mask : Nat) (s : State) (hchanged : ∀ a v, Keeps st0 v → Keeps st0 (changed a v)) (hk : Keeps st0 s) : Keeps st0 (widthReceiveOp changed p mask s) := by
  unfold widthReceiveOp
  try dsimp only
  (repeat' split) <;> simp +contextual (maxDischargeDepth := 20) [*, -List.foldl_cons]

@[simp] theorem orderPm_keeps {st0 : State} (p code : Nat) (s : State) (hk : Keeps st0 s) : Keeps st0 (orderPm p code s) := by
  unfold orderPm
  try dsimp only
  (repeat' split) <;> simp +contextual (maxDischargeDepth := 20) [*, -List.foldl_cons]

@[simp] theorem lnkPCntClrOp_keeps {st0 : State} (p : Nat) (v : Word) (s : State) (hk : Keeps st0 s) : Keeps st0 (lnkPCntClrOp p v s) := by
  unfold lnkPCntClrOp
  try dsimp only
  (repeat' split) <;> simp +contextual (maxDischargeDepth := 20) [*, -List.foldl_cons]

end Sys2Proof.Machine
end

