-- ==== Sys2Proof/Laws/KeepsBring.lean ====
section
/-!
SUPPORT. Every operation of Sys2Proof/Machine/Bring.lean keeps what `Keeps` names.
-/
namespace Sys2Proof.Machine

@[simp] theorem setLanes_keeps {st0 : State} (s : State) (hk : Keeps st0 s) : Keeps st0 (setLanes s) := by
  unfold setLanes
  try dsimp only
  (repeat' split) <;> simp +contextual (maxDischargeDepth := 20) [*, -List.foldl_cons]

@[simp] theorem readyCheck_keeps {st0 : State} (s : State) (hk : Keeps st0 s) : Keeps st0 (readyCheck s) := by
  unfold readyCheck
  try dsimp only
  (repeat' split) <;> simp +contextual (maxDischargeDepth := 20) [*, -List.foldl_cons]

@[simp] theorem lanesCheck_keeps {st0 : State} (s : State) (hk : Keeps st0 s) : Keeps st0 (lanesCheck s) := by
  unfold lanesCheck
  try dsimp only
  (repeat' split) <;> simp +contextual (maxDischargeDepth := 20) [*, -List.foldl_cons]

@[simp] theorem setI3c_keeps {st0 : State} (s : State) (hk : Keeps st0 s) : Keeps st0 (setI3c s) := by
  unfold setI3c
  try dsimp only
  (repeat' split) <;> simp +contextual (maxDischargeDepth := 20) [*, -List.foldl_cons]

@[simp] theorem dmcLives_keeps {st0 : State} (s : State) (hk : Keeps st0 s) : Keeps st0 (dmcLives s) := by
  unfold dmcLives
  try dsimp only
  (repeat' split) <;> simp +contextual (maxDischargeDepth := 20) [*, -List.foldl_cons]

@[simp] theorem setDram_keeps {st0 : State} (s : State) (hk : Keeps st0 s) : Keeps st0 (setDram s) := by
  unfold setDram
  try dsimp only
  (repeat' split) <;> simp +contextual (maxDischargeDepth := 20) [*, -List.foldl_cons]

@[simp] theorem fromReady_keeps {st0 : State} (a : Nat) (f : State → State) (s : State) (hf : ∀  v, Keeps st0 v → Keeps st0 (f  v)) (hk : Keeps st0 s) : Keeps st0 (fromReady a f s) := by
  unfold fromReady
  try dsimp only
  (repeat' split) <;> simp +contextual (maxDischargeDepth := 20) [*, -List.foldl_cons]

@[simp] theorem fromBringup_keeps {st0 : State} (a : Nat) (f : State → State) (s : State) (hf : ∀  v, Keeps st0 v → Keeps st0 (f  v)) (hk : Keeps st0 s) : Keeps st0 (fromBringup a f s) := by
  unfold fromBringup
  try dsimp only
  (repeat' split) <;> simp +contextual (maxDischargeDepth := 20) [*, -List.foldl_cons]

end Sys2Proof.Machine
end

