-- ==== Sys2Proof/Laws/KeepsCal.lean ====
section
/-!
SUPPORT. Every operation of Sys2Proof/Machine/Cal.lean keeps what `Keeps` names.
-/
namespace Sys2Proof.Machine

@[simp] theorem modCalLane_keeps {st0 : State} (s : State) (n : Nat) (f : CalLane → CalLane) (hk : Keeps st0 s) : Keeps st0 (State.modCalLane s n f) := by
  unfold State.modCalLane
  try dsimp only
  (repeat' split) <;> simp +contextual (maxDischargeDepth := 20) [*, -List.foldl_cons]

@[simp] theorem modCalGroup_keeps {st0 : State} (s : State) (g : Nat) (f : CalGroup → CalGroup) (hk : Keeps st0 s) : Keeps st0 (State.modCalGroup s g f) := by
  unfold State.modCalGroup
  try dsimp only
  (repeat' split) <;> simp +contextual (maxDischargeDepth := 20) [*, -List.foldl_cons]

@[simp] theorem forceTrim_keeps {st0 : State} (n k : Nat) (s : State) (hk : Keeps st0 s) : Keeps st0 (forceTrim n k s) := by
  unfold forceTrim
  try dsimp only
  (repeat' split) <;> simp +contextual (maxDischargeDepth := 20) [*, -List.foldl_cons]

@[simp] theorem settleOfs_keeps {st0 : State} (n : Nat) (s : State) (hk : Keeps st0 s) : Keeps st0 (settleOfs n s) := by
  unfold settleOfs
  try dsimp only
  (repeat' split) <;> simp +contextual (maxDischargeDepth := 20) [*, -List.foldl_cons]

@[simp] theorem settleTrims_keeps {st0 : State} (n : Nat) (s : State) (hk : Keeps st0 s) : Keeps st0 (settleTrims n s) := by
  unfold settleTrims
  try dsimp only
  (repeat' split) <;> simp +contextual (maxDischargeDepth := 20) [*, -List.foldl_cons]

@[simp] theorem calBegin_keeps {st0 : State} (g : Nat) (s : State) (hk : Keeps st0 s) : Keeps st0 (calBegin g s) := by
  unfold calBegin
  try dsimp only
  (repeat' split) <;> simp +contextual (maxDischargeDepth := 20) [*, -List.foldl_cons]

@[simp] theorem calEvent_keeps {st0 : State} (g : Nat) (s : State) (hk : Keeps st0 s) : Keeps st0 (calEvent g s) := by
  unfold calEvent
  try dsimp only
  (repeat' split) <;> simp +contextual (maxDischargeDepth := 20) [*, -List.foldl_cons]

@[simp] theorem calFinish_keeps {st0 : State} (g result : Nat) (s : State) (hk : Keeps st0 s) : Keeps st0 (calFinish g result s) := by
  unfold calFinish
  try dsimp only
  (repeat' split) <;> simp +contextual (maxDischargeDepth := 20) [*, -List.foldl_cons]

@[simp] theorem calTrigger_keeps {st0 : State} (g : Nat) (s : State) (hk : Keeps st0 s) : Keeps st0 (calTrigger g s) := by
  unfold calTrigger
  try dsimp only
  (repeat' split) <;> simp +contextual (maxDischargeDepth := 20) [*, -List.foldl_cons]

@[simp] theorem calEnd_keeps {st0 : State} (g result : Nat) (s : State) (hk : Keeps st0 s) : Keeps st0 (calEnd g result s) := by
  unfold calEnd
  try dsimp only
  (repeat' split) <;> simp +contextual (maxDischargeDepth := 20) [*, -List.foldl_cons]

@[simp] theorem calCheckApply_keeps {st0 : State} (g : Nat) (s : State) (hk : Keeps st0 s) : Keeps st0 (calCheckApply g s) := by
  unfold calCheckApply
  try dsimp only
  (repeat' split) <;> simp +contextual (maxDischargeDepth := 20) [*, -List.foldl_cons]

@[simp] theorem calDecide_keeps {st0 : State} (n : Nat) (i : Nat) (s : State) (hk : Keeps st0 s) : Keeps st0 (calDecide n i s).2 := by
  unfold calDecide
  try dsimp only
  (repeat' split) <;> simp +contextual (maxDischargeDepth := 20) [*, -List.foldl_cons]

@[simp] theorem calDecideAll_keeps {st0 : State} (ns : List Nat) (s : State) (hk : Keeps st0 s) : Keeps st0 (calDecideAll ns s).2 := by
  unfold calDecideAll
  refine Keeps.foldl_snd hk fun b x hb => Keeps.foldl_snd hb fun c y hc => ?_
  simp [hc]

@[simp] theorem calProgress_keeps {st0 : State} (g : Nat) (s : State) (hk : Keeps st0 s) : Keeps st0 (calProgress g s) := by
  unfold calProgress
  try dsimp only
  (repeat' split) <;> simp +contextual (maxDischargeDepth := 20) [*, -List.foldl_cons]

@[simp] theorem calLeave_keeps {st0 : State} (n result : Nat) (s : State) (hk : Keeps st0 s) : Keeps st0 (calLeave n result s) := by
  unfold calLeave
  try dsimp only
  (repeat' split) <;> simp +contextual (maxDischargeDepth := 20) [*, -List.foldl_cons]

@[simp] theorem calSubwindowOp_keeps {st0 : State} (n : Nat) (x : SubWindow) (s : State) (hk : Keeps st0 s) : Keeps st0 (calSubwindowOp n x s) := by
  unfold calSubwindowOp
  try dsimp only
  (repeat' split) <;> simp +contextual (maxDischargeDepth := 20) [*, -List.foldl_cons]

@[simp] theorem calGroupUp_keeps {st0 : State} (g : Nat) (s : State) (hk : Keeps st0 s) : Keeps st0 (calGroupUp g s) := by
  unfold calGroupUp
  try dsimp only
  (repeat' split) <;> simp +contextual (maxDischargeDepth := 20) [*, -List.foldl_cons]

@[simp] theorem calGroupDown_keeps {st0 : State} (g : Nat) (s : State) (hk : Keeps st0 s) : Keeps st0 (calGroupDown g s) := by
  unfold calGroupDown
  try dsimp only
  (repeat' split) <;> simp +contextual (maxDischargeDepth := 20) [*, -List.foldl_cons]

@[simp] theorem calGoOp_keeps {st0 : State} (g : Nat) (s : State) (hk : Keeps st0 s) : Keeps st0 (calGoOp g s) := by
  unfold calGoOp
  try dsimp only
  (repeat' split) <;> simp +contextual (maxDischargeDepth := 20) [*, -List.foldl_cons]

@[simp] theorem calStopOp_keeps {st0 : State} (g : Nat) (s : State) (hk : Keeps st0 s) : Keeps st0 (calStopOp g s) := by
  unfold calStopOp
  try dsimp only
  (repeat' split) <;> simp +contextual (maxDischargeDepth := 20) [*, -List.foldl_cons]

@[simp] theorem calCmdOp_keeps {st0 : State} (g : Nat) (v : Word) (s : State) (hk : Keeps st0 s) : Keeps st0 (calCmdOp g v s) := by
  unfold calCmdOp
  try dsimp only
  (repeat' split) <;> simp +contextual (maxDischargeDepth := 20) [*, -List.foldl_cons]

@[simp] theorem calTempOp_keeps {st0 : State} (g : Nat) (s : State) (hk : Keeps st0 s) : Keeps st0 (calTempOp g s) := by
  unfold calTempOp
  try dsimp only
  (repeat' split) <;> simp +contextual (maxDischargeDepth := 20) [*, -List.foldl_cons]

@[simp] theorem trimStep_keeps {st0 : State} (n k : Nat) (s : State) (hk : Keeps st0 s) : Keeps st0 (trimStep n k s) := by
  unfold trimStep
  try dsimp only
  (repeat' split) <;> simp +contextual (maxDischargeDepth := 20) [*, -List.foldl_cons]

@[simp] theorem calTrimApplyOp_keeps {st0 : State} (p : Nat) (s : State) (hk : Keeps st0 s) : Keeps st0 (calTrimApplyOp p s) := by
  unfold calTrimApplyOp
  try dsimp only
  (repeat' split) <;> simp +contextual (maxDischargeDepth := 20) [*, -List.foldl_cons]

@[simp] theorem dynTrimOp_keeps {st0 : State} (n : Nat) (v : Word) (s : State) (hk : Keeps st0 s) : Keeps st0 (dynTrimOp n v s) := by
  unfold dynTrimOp
  try dsimp only
  (repeat' split) <;> simp +contextual (maxDischargeDepth := 20) [*, -List.foldl_cons]

@[simp] theorem staticTrimOp_keeps {st0 : State} (n : Nat) (v : Word) (s : State) (hk : Keeps st0 s) : Keeps st0 (staticTrimOp n v s) := by
  unfold staticTrimOp
  try dsimp only
  (repeat' split) <;> simp +contextual (maxDischargeDepth := 20) [*, -List.foldl_cons]

@[simp] theorem calCntClrOp_keeps {st0 : State} (v : Word) (s : State) (hk : Keeps st0 s) : Keeps st0 (calCntClrOp v s) := by
  unfold calCntClrOp
  try dsimp only
  (repeat' split) <;> simp +contextual (maxDischargeDepth := 20) [*, -List.foldl_cons]

end Sys2Proof.Machine
end

