-- ==== Sys2Proof/Laws/KeepsLne.lean ====
section
/-!
SUPPORT. Every operation of Sys2Proof/Machine/Lne.lean keeps what `Keeps` names.
-/
namespace Sys2Proof.Machine

@[simp] theorem laneFlag_keeps {st0 : State} (n b : Nat) (s : State) (hk : Keeps st0 s) : Keeps st0 (laneFlag n b s) := by
  unfold laneFlag
  try dsimp only
  (repeat' split) <;> simp +contextual (maxDischargeDepth := 20) [*, -List.foldl_cons]

@[simp] theorem laneFlagEvent_keeps {st0 : State} (n b : Nat) (s : State) (hk : Keeps st0 s) : Keeps st0 (laneFlagEvent n b s) := by
  unfold laneFlagEvent
  try dsimp only
  (repeat' split) <;> simp +contextual (maxDischargeDepth := 20) [*, -List.foldl_cons]

@[simp] theorem eyeHalt_keeps {st0 : State} (n : Nat) (s : State) (hk : Keeps st0 s) : Keeps st0 (eyeHalt n s) := by
  unfold eyeHalt
  try dsimp only
  (repeat' split) <;> simp +contextual (maxDischargeDepth := 20) [*, -List.foldl_cons]

@[simp] theorem groupCheck_keeps {st0 : State} (g : Nat) (s : State) (hk : Keeps st0 s) : Keeps st0 (groupCheck g s) := by
  unfold groupCheck
  try dsimp only
  (repeat' split) <;> simp +contextual (maxDischargeDepth := 20) [*, -List.foldl_cons]

@[simp] theorem laneLeft_keeps {st0 : State} (n was : Nat) (s : State) (hk : Keeps st0 s) : Keeps st0 (laneLeft n was s) := by
  unfold laneLeft
  try dsimp only
  (repeat' split) <;> simp +contextual (maxDischargeDepth := 20) [*, -List.foldl_cons]

@[simp] theorem laneTo_keeps {st0 : State} (n st : Nat) (s : State) (hk : Keeps st0 s) : Keeps st0 (laneTo n st s) := by
  unfold laneTo
  try dsimp only
  (repeat' split) <;> simp +contextual (maxDischargeDepth := 20) [*, -List.foldl_cons]

@[simp] theorem laneFail_keeps {st0 : State} (n cause : Nat) (s : State) (hk : Keeps st0 s) : Keeps st0 (laneFail n cause s) := by
  unfold laneFail
  try dsimp only
  (repeat' split) <;> simp +contextual (maxDischargeDepth := 20) [*, -List.foldl_cons]

@[simp] theorem attemptFail_keeps {st0 : State} (n cause : Nat) (s : State) (hk : Keeps st0 s) : Keeps st0 (attemptFail n cause s) := by
  unfold attemptFail
  try dsimp only
  (repeat' split) <;> simp +contextual (maxDischargeDepth := 20) [*, -List.foldl_cons]

@[simp] theorem enterRecover_keeps {st0 : State} (n : Nat) (s : State) (hk : Keeps st0 s) : Keeps st0 (enterRecover n s) := by
  unfold enterRecover
  try dsimp only
  (repeat' split) <;> simp +contextual (maxDischargeDepth := 20) [*, -List.foldl_cons]

@[simp] theorem dropOut_keeps {st0 : State} (n : Nat) (s : State) (hk : Keeps st0 s) : Keeps st0 (dropOut n s) := by
  unfold dropOut
  try dsimp only
  (repeat' split) <;> simp +contextual (maxDischargeDepth := 20) [*, -List.foldl_cons]

@[simp] theorem laneUp_keeps {st0 : State} (n : Nat) (s : State) (hk : Keeps st0 s) : Keeps st0 (laneUp n s) := by
  unfold laneUp
  try dsimp only
  (repeat' split) <;> simp +contextual (maxDischargeDepth := 20) [*, -List.foldl_cons]

@[simp] theorem trainStep_keeps {st0 : State} (n : Nat) (s : State) (hk : Keeps st0 s) : Keeps st0 (trainStep n s) := by
  unfold trainStep
  try dsimp only
  (repeat' split) <;> simp +contextual (maxDischargeDepth := 20) [*, -List.foldl_cons]

@[simp] theorem syncStep_keeps {st0 : State} (n : Nat) (s : State) (hk : Keeps st0 s) : Keeps st0 (syncStep n s) := by
  unfold syncStep
  try dsimp only
  (repeat' split) <;> simp +contextual (maxDischargeDepth := 20) [*, -List.foldl_cons]

@[simp] theorem activeStep_keeps {st0 : State} (n : Nat) (s : State) (hk : Keeps st0 s) : Keeps st0 (activeStep n s) := by
  unfold activeStep
  try dsimp only
  (repeat' split) <;> simp +contextual (maxDischargeDepth := 20) [*, -List.foldl_cons]

@[simp] theorem testBlock_keeps {st0 : State} (n hdr raw : Nat) (train : Bool) (s : State) (hk : Keeps st0 s) : Keeps st0 (testBlock n hdr raw train s) := by
  unfold testBlock
  try dsimp only
  (repeat' split) <;> simp +contextual (maxDischargeDepth := 20) [*, -List.foldl_cons]

@[simp] theorem eyeDone_keeps {st0 : State} (n : Nat) (s : State) (hk : Keeps st0 s) : Keeps st0 (eyeDone n s) := by
  unfold eyeDone
  try dsimp only
  (repeat' split) <;> simp +contextual (maxDischargeDepth := 20) [*, -List.foldl_cons]

@[simp] theorem eyeBlock_keeps {st0 : State} (n : Nat) (dis : Option Nat) (s : State) (hk : Keeps st0 s) : Keeps st0 (eyeBlock n dis s) := by
  unfold eyeBlock
  try dsimp only
  (repeat' split) <;> simp +contextual (maxDischargeDepth := 20) [*, -List.foldl_cons]

@[simp] theorem lnkBlock_keeps {st0 : State} (n : Nat) (bad idle unusedLink : Bool) (s : State) (hk : Keeps st0 s) : Keeps st0 (lnkBlock n bad idle unusedLink s) := by
  unfold lnkBlock
  try dsimp only
  (repeat' split) <;> simp +contextual (maxDischargeDepth := 20) [*, -List.foldl_cons]

@[simp] theorem headerCheck_keeps {st0 : State} (n : Nat) (bad : Bool) (s : State) (hk : Keeps st0 s) : Keeps st0 (headerCheck n bad s) := by
  unfold headerCheck
  try dsimp only
  (repeat' split) <;> simp +contextual (maxDischargeDepth := 20) [*, -List.foldl_cons]

@[simp] theorem wakeStep_keeps {st0 : State} (n pm : Nat) (s : State) (hk : Keeps st0 s) : Keeps st0 (wakeStep n pm s) := by
  unfold wakeStep
  try dsimp only
  (repeat' split) <;> simp +contextual (maxDischargeDepth := 20) [*, -List.foldl_cons]

@[simp] theorem blockIn_keeps {st0 : State} (n hdr raw : Nat) (dis : Option Nat) (s0 : State) (hk : Keeps st0 s0) : Keeps st0 (blockIn n hdr raw dis s0) := by
  unfold blockIn
  try dsimp only
  (repeat' split) <;> simp +contextual (maxDischargeDepth := 20) [*, -List.foldl_cons]

@[simp] theorem lineIdle_keeps {st0 : State} (n : Nat) (s : State) (hk : Keeps st0 s) : Keeps st0 (lineIdle n s) := by
  unfold lineIdle
  try dsimp only
  (repeat' split) <;> simp +contextual (maxDischargeDepth := 20) [*, -List.foldl_cons]

@[simp] theorem groupGoOp_keeps {st0 : State} (g : Nat) (s : State) (hk : Keeps st0 s) : Keeps st0 (groupGoOp g s) := by
  unfold groupGoOp
  try dsimp only
  (repeat' split) <;> simp +contextual (maxDischargeDepth := 20) [*, -List.foldl_cons]

@[simp] theorem groupOff_keeps {st0 : State} (g : Nat) (s : State) (hk : Keeps st0 s) : Keeps st0 (groupOff g s) := by
  unfold groupOff
  try dsimp only
  (repeat' split) <;> simp +contextual (maxDischargeDepth := 20) [*, -List.foldl_cons]

@[simp] theorem groupDownOp_keeps {st0 : State} (g : Nat) (s : State) (hk : Keeps st0 s) : Keeps st0 (groupDownOp g s) := by
  unfold groupDownOp
  try dsimp only
  (repeat' split) <;> simp +contextual (maxDischargeDepth := 20) [*, -List.foldl_cons]

@[simp] theorem groupCtlOp_keeps {st0 : State} (g : Nat) (v : Word) (s : State) (hk : Keeps st0 s) : Keeps st0 (groupCtlOp g v s) := by
  unfold groupCtlOp
  try dsimp only
  (repeat' split) <;> simp +contextual (maxDischargeDepth := 20) [*, -List.foldl_cons]

@[simp] theorem groupGrantOp_keeps {st0 : State} (g : Nat) (s : State) (hk : Keeps st0 s) : Keeps st0 (groupGrantOp g s) := by
  unfold groupGrantOp
  try dsimp only
  (repeat' split) <;> (try have hg := takeGrant_keeps (by assumption) hk) <;> (try have hr := takeRefusal_keeps (by assumption) hk) <;>
    simp +contextual (maxDischargeDepth := 20) [*, -List.foldl_cons]

@[simp] theorem laneRetryOp_keeps {st0 : State} (n : Nat) (s : State) (hk : Keeps st0 s) : Keeps st0 (laneRetryOp n s) := by
  unfold laneRetryOp
  try dsimp only
  (repeat' split) <;> simp +contextual (maxDischargeDepth := 20) [*, -List.foldl_cons]

@[simp] theorem laneStopOp_keeps {st0 : State} (n : Nat) (s : State) (hk : Keeps st0 s) : Keeps st0 (laneStopOp n s) := by
  unfold laneStopOp
  try dsimp only
  (repeat' split) <;> simp +contextual (maxDischargeDepth := 20) [*, -List.foldl_cons]

@[simp] theorem enterTest_keeps {st0 : State} (n mode : Nat) (s : State) (hk : Keeps st0 s) : Keeps st0 (enterTest n mode s) := by
  unfold enterTest
  try dsimp only
  (repeat' split) <;> simp +contextual (maxDischargeDepth := 20) [*, -List.foldl_cons]

@[simp] theorem laneTestOp_keeps {st0 : State} (n mode : Nat) (s : State) (hk : Keeps st0 s) : Keeps st0 (laneTestOp n mode s) := by
  unfold laneTestOp
  try dsimp only
  (repeat' split) <;> simp +contextual (maxDischargeDepth := 20) [*, -List.foldl_cons]

@[simp] theorem eyeGoOp_keeps {st0 : State} (n : Nat) (s : State) (hk : Keeps st0 s) : Keeps st0 (eyeGoOp n s) := by
  unfold eyeGoOp
  try dsimp only
  (repeat' split) <;> simp +contextual (maxDischargeDepth := 20) [*, -List.foldl_cons]

@[simp] theorem laneCtlOp_keeps {st0 : State} (n : Nat) (v : Word) (s : State) (hk : Keeps st0 s) : Keeps st0 (laneCtlOp n v s) := by
  unfold laneCtlOp
  try dsimp only
  (repeat' split) <;> simp +contextual (maxDischargeDepth := 20) [*, -List.foldl_cons]

@[simp] theorem trackerWindowOp_keeps {st0 : State} (n : Nat) (s : State) (hk : Keeps st0 s) : Keeps st0 (trackerWindowOp n s) := by
  unfold trackerWindowOp
  try dsimp only
  (repeat' split) <;> simp +contextual (maxDischargeDepth := 20) [*, -List.foldl_cons]

@[simp] theorem lneLCntClrOp_keeps {st0 : State} (n : Nat) (v : Word) (s : State) (hk : Keeps st0 s) : Keeps st0 (lneLCntClrOp n v s) := by
  unfold lneLCntClrOp
  try dsimp only
  (repeat' split) <;> simp +contextual (maxDischargeDepth := 20) [*, -List.foldl_cons]

end Sys2Proof.Machine
end

