-- ==== Sys2Proof/Laws/KeepsBond.lean ====
section
/-!
SUPPORT. Every operation of Sys2Proof/Machine/Bond.lean keeps what `Keeps` names.
-/
namespace Sys2Proof.Machine

@[simp] theorem lnkRetry_keeps {st0 : State} (n : Nat) (s : State) (hk : Keeps st0 s) : Keeps st0 (lnkRetry n s) := by
  unfold lnkRetry
  try dsimp only
  (repeat' split) <;> simp +contextual (maxDischargeDepth := 20) [*, -List.foldl_cons]

@[simp] theorem portDownRetry_keeps {st0 : State} (cause : Nat) (r : PortCfg) (s : State) (hk : Keeps st0 s) : Keeps st0 (portDownRetry cause r s) := by
  unfold portDownRetry
  try dsimp only
  (repeat' split) <;> simp +contextual (maxDischargeDepth := 20) [*, -List.foldl_cons]

@[simp] theorem portRetrainOp_keeps {st0 : State} (p : Nat) (s : State) (hk : Keeps st0 s) : Keeps st0 (portRetrainOp p s) := by
  unfold portRetrainOp
  try dsimp only
  (repeat' split) <;> simp +contextual (maxDischargeDepth := 20) [*, -List.foldl_cons]

@[simp] theorem portCtlOp_keeps {st0 : State} (p : Nat) (v : Word) (s : State) (hk : Keeps st0 s) : Keeps st0 (portCtlOp p v s) := by
  unfold portCtlOp
  try dsimp only
  (repeat' split) <;> simp +contextual (maxDischargeDepth := 20) [*, -List.foldl_cons]

@[simp] theorem bondCheck_keeps {st0 : State} (changed : Nat → State → State) (r : PortCfg) (s : State) (hchanged : ∀ a v, Keeps st0 v → Keeps st0 (changed a v)) (hk : Keeps st0 s) : Keeps st0 (bondCheck changed r s) := by
  unfold bondCheck
  try dsimp only
  (repeat' split) <;> simp +contextual (maxDischargeDepth := 20) [*, -List.foldl_cons]

@[simp] theorem alignReceiveOp_keeps {st0 : State} (changed : Nat → State → State) (n number : Nat) (inStripe : Bool) (s : State) (hchanged : ∀ a v, Keeps st0 v → Keeps st0 (changed a v)) (hk : Keeps st0 s) : Keeps st0 (alignReceiveOp changed n number inStripe s) := by
  unfold alignReceiveOp
  try dsimp only
  (repeat' split) <;> simp +contextual (maxDischargeDepth := 20) [*, -List.foldl_cons]

end Sys2Proof.Machine
end

