-- ==== Sys2Proof/Laws/KeepsDmc.lean ====
section
/-!
SUPPORT. Every operation of Sys2Proof/Machine/Dmc.lean keeps what `Keeps` names.
-/
namespace Sys2Proof.Machine

@[simp] theorem modCh_keeps {st0 : State} (s : State) (c : Nat) (f : DramCh → DramCh) (hk : Keeps st0 s) : Keeps st0 (State.modCh s c f) := by
  unfold State.modCh
  try dsimp only
  (repeat' split) <;> simp +contextual (maxDischargeDepth := 20) [*, -List.foldl_cons]

@[simp] theorem rangeFault_keeps {st0 : State} (req addr : Nat) (s : State) (hk : Keeps st0 s) : Keeps st0 (rangeFault req addr s) := by
  unfold rangeFault
  try dsimp only
  (repeat' split) <;> simp +contextual (maxDischargeDepth := 20) [*, -List.foldl_cons]

@[simp] theorem queueWrite_keeps {st0 : State} (c : Nat) (s : State) (hk : Keeps st0 s) : Keeps st0 (queueWrite c s) := by
  unfold queueWrite
  try dsimp only
  (repeat' split) <;> simp +contextual (maxDischargeDepth := 20) [*, -List.foldl_cons]

@[simp] theorem wakeRank_keeps {st0 : State} (c rank : Nat) (s : State) (hk : Keeps st0 s) : Keeps st0 (wakeRank c rank s) := by
  unfold wakeRank
  try dsimp only
  (repeat' split) <;> simp +contextual (maxDischargeDepth := 20) [*, -List.foldl_cons]

@[simp] theorem activate_keeps {st0 : State} (req addr k : Nat) (s : State) (hk : Keeps st0 s) : Keeps st0 (activate req addr k s) := by
  unfold activate
  try dsimp only
  (repeat' split) <;> simp +contextual (maxDischargeDepth := 20) [*, -List.foldl_cons]

@[simp] theorem touchBlock_keeps {st0 : State} (req : Nat) (s : State) (block : Nat) (hk : Keeps st0 s) : Keeps st0 (touchBlock req s block) := by
  unfold touchBlock
  try dsimp only
  (repeat' split) <;> simp +contextual (maxDischargeDepth := 20) [*, -List.foldl_cons]

@[simp] theorem dramStore_keeps {st0 : State} (req a : Nat) (bs : List Byte) (s : State) (hk : Keeps st0 s) : Keeps st0 (dramStore req a bs s) := by
  unfold dramStore
  try dsimp only
  (repeat' split) <;> simp +contextual (maxDischargeDepth := 20) [*, -List.foldl_cons]

@[simp] theorem setTimings_keeps {st0 : State} (s : State) (hk : Keeps st0 s) : Keeps st0 (setTimings s) := by
  unfold setTimings
  try dsimp only
  (repeat' split) <;> simp +contextual (maxDischargeDepth := 20) [*, -List.foldl_cons]

@[simp] theorem checkReserved_keeps {st0 : State} (s : State) (hk : Keeps st0 s) : Keeps st0 (checkReserved s) := by
  unfold checkReserved
  try dsimp only
  refine Keeps.foldl ?_ fun v x hv => ?_
  all_goals ((try dsimp only) <;> (repeat' split) <;> simp +contextual (maxDischargeDepth := 20) [*, -List.foldl_cons])

@[simp] theorem formMap_keeps {st0 : State} (s : State) (hk : Keeps st0 s) : Keeps st0 (formMap s) := by
  unfold formMap
  try dsimp only
  (repeat' split) <;> simp +contextual (maxDischargeDepth := 20) [*, -List.foldl_cons]

@[simp] theorem nextBootStep_keeps {st0 : State} (c : Nat) (s : State) (hk : Keeps st0 s) : Keeps st0 (nextBootStep c s) := by
  unfold nextBootStep
  try dsimp only
  (repeat' split) <;> simp +contextual (maxDischargeDepth := 20) [*, -List.foldl_cons]

@[simp] theorem startTraining_keeps {st0 : State} (s : State) (hk : Keeps st0 s) : Keeps st0 (startTraining s) := by
  unfold startTraining
  try dsimp only
  (repeat' split) <;> simp +contextual (maxDischargeDepth := 20) [*, -List.foldl_cons]

@[simp] theorem trainStepDone_keeps {st0 : State} (c : Nat) (ok : Bool) (s : State) (hk : Keeps st0 s) : Keeps st0 (trainStepDone c ok s) := by
  unfold trainStepDone
  try dsimp only
  (repeat' split) <;> simp +contextual (maxDischargeDepth := 20) [*, -List.foldl_cons]

@[simp] theorem dramTrainGrantOp_keeps {st0 : State} (c : Nat) (s : State) (hk : Keeps st0 s) : Keeps st0 (dramTrainGrantOp c s) := by
  unfold dramTrainGrantOp
  try dsimp only
  (repeat' split) <;> (try have hg := takeGrant_keeps (by assumption) hk) <;> (try have hr := takeRefusal_keeps (by assumption) hk) <;>
    simp +contextual (maxDischargeDepth := 20) [*, -List.foldl_cons]

@[simp] theorem freeboardWake_keeps {st0 : State} (h : Nat) (s : State) (hk : Keeps st0 s) : Keeps st0 (freeboardWake h s) := by
  unfold freeboardWake
  try dsimp only
  (repeat' split) <;> simp +contextual (maxDischargeDepth := 20) [*, -List.foldl_cons]

@[simp] theorem askBurst_keeps {st0 : State} (c : Nat) (s : State) (hk : Keeps st0 s) : Keeps st0 (askBurst c s) := by
  unfold askBurst
  try dsimp only
  (repeat' split) <;> simp +contextual (maxDischargeDepth := 20) [*, -List.foldl_cons]

@[simp] theorem takeCapture_keeps {st0 : State} (c : Nat) (result : Option (Nat × Int)) (s : State) (hk : Keeps st0 s) : Keeps st0 (takeCapture c result s) := by
  unfold takeCapture
  try dsimp only
  (repeat' split) <;> simp +contextual (maxDischargeDepth := 20) [*, -List.foldl_cons]

@[simp] theorem captureEndOp_keeps {st0 : State} (c : Nat) (result : Option (Nat × Int)) (s : State) (hk : Keeps st0 s) : Keeps st0 (captureEndOp c result s) := by
  unfold captureEndOp
  try dsimp only
  (repeat' split) <;> simp +contextual (maxDischargeDepth := 20) [*, -List.foldl_cons]

@[simp] theorem refreshBank_keeps {st0 : State} (c r : Nat) (s : State) (hk : Keeps st0 s) : Keeps st0 (refreshBank c r s) := by
  unfold refreshBank
  try dsimp only
  (repeat' split) <;> simp +contextual (maxDischargeDepth := 20) [*, -List.foldl_cons]

@[simp] theorem refreshBanks_keeps {st0 : State} (c : Nat) (n : Nat → Nat) (s : State) (hk : Keeps st0 s) : Keeps st0 (refreshBanks c n s) := by
  unfold refreshBanks
  try dsimp only
  (repeat' split) <;> simp +contextual (maxDischargeDepth := 20) [*, -List.foldl_cons]

@[simp] theorem refreshOp_keeps {st0 : State} (c : Nat) (issued : List Nat) (split : Bool) (s : State) (hk : Keeps st0 s) : Keeps st0 (refreshOp c issued split s) := by
  unfold refreshOp
  try dsimp only
  (repeat' split) <;> simp +contextual (maxDischargeDepth := 20) [*, -List.foldl_cons]

@[simp] theorem enterSelfRefresh_keeps {st0 : State} (c : Nat) (s : State) (hk : Keeps st0 s) : Keeps st0 (enterSelfRefresh c s) := by
  unfold enterSelfRefresh
  try dsimp only
  (repeat' split) <;> simp +contextual (maxDischargeDepth := 20) [*, -List.foldl_cons]

@[simp] theorem freqEnd_keeps {st0 : State} (result reason : Nat) (s : State) (hk : Keeps st0 s) : Keeps st0 (freqEnd result reason s) := by
  unfold freqEnd
  try dsimp only
  (repeat' split) <;> simp +contextual (maxDischargeDepth := 20) [*, -List.foldl_cons]

@[simp] theorem freqGo_keeps {st0 : State} (s : State) (hk : Keeps st0 s) : Keeps st0 (freqGo s) := by
  unfold freqGo
  try dsimp only
  (repeat' split) <;> simp +contextual (maxDischargeDepth := 20) [*, -List.foldl_cons]

@[simp] theorem freqCancel_keeps {st0 : State} (s : State) (hk : Keeps st0 s) : Keeps st0 (freqCancel s) := by
  unfold freqCancel
  try dsimp only
  (repeat' split) <;> simp +contextual (maxDischargeDepth := 20) [*, -List.foldl_cons]

@[simp] theorem freqCtlOp_keeps {st0 : State} (v : Word) (s : State) (hk : Keeps st0 s) : Keeps st0 (freqCtlOp v s) := by
  unfold freqCtlOp
  try dsimp only
  (repeat' split) <;> simp +contextual (maxDischargeDepth := 20) [*, -List.foldl_cons]

@[simp] theorem freqDoneOp_keeps {st0 : State} (captures : List (Option (Nat × Int))) (s : State) (hk : Keeps st0 s) : Keeps st0 (freqDoneOp captures s) := by
  unfold freqDoneOp
  try dsimp only
  (repeat' split) <;> simp +contextual (maxDischargeDepth := 20) [*, -List.foldl_cons]

@[simp] theorem poisonRead_keeps {st0 : State} (x : ReadDone) (s : State) (hk : Keeps st0 s) : Keeps st0 (poisonRead x s) := by
  unfold poisonRead
  try dsimp only
  (repeat' split) <;> simp +contextual (maxDischargeDepth := 20) [*, -List.foldl_cons]

@[simp] theorem readDoneOp_keeps {st0 : State} (abandon : Nat → Nat → Nat → State → State) (x : ReadDone) (s : State) (habandon : ∀ a b c v, Keeps st0 v → Keeps st0 (abandon a b c v)) (hk : Keeps st0 s) : Keeps st0 (readDoneOp abandon x s) := by
  unfold readDoneOp
  try dsimp only
  (repeat' split) <;> simp +contextual (maxDischargeDepth := 20) [*, -List.foldl_cons]

@[simp] theorem fillBasin_keeps {st0 : State} (rs : List RegionCfg) (i : Nat) (avail : List Nat) (s : State) (hk : Keeps st0 s) :
    Keeps st0 (fillBasin rs i avail s) := by
  induction rs generalizing i avail s with
  | nil => exact hk
  | cons r rs ih =>
    unfold fillBasin
    split
    · exact ih _ _ _ (by simp [hk])
    · exact ih _ _ _ (by simp (maxDischargeDepth := 20) [hk])

@[simp] theorem basinResult_keeps {st0 : State} (r : Nat) (s : State) (hk : Keeps st0 s) : Keeps st0 (basinResult r s) := by
  unfold basinResult
  try dsimp only
  (repeat' split) <;> simp +contextual (maxDischargeDepth := 20) [*, -List.foldl_cons]

@[simp] theorem basinCmdOp_keeps {st0 : State} (v : Word) (s : State) (hk : Keeps st0 s) : Keeps st0 (basinCmdOp v s) := by
  unfold basinCmdOp
  try dsimp only
  refine fromReady_keeps _ _ _ (fun v hv => ?_) hk
  try dsimp only
  (repeat' split) <;> simp +contextual (maxDischargeDepth := 20) [*, -List.foldl_cons]

theorem basinFrom_wf {s : State} {b : List Nat} {base n : Nat} (h : Memory.wf 0 s.basin = true) : Memory.wf 0 (basinFrom s b base n) = true :=
  foldl_wf (fun _ _ hm => setByte_wf hm) (filter_wfFrom h)

theorem basinTo_wf {s : State} {b : List Nat} {base n : Nat} (h : Memory.wf 0 s.dram = true) : Memory.wf 0 (basinTo s b base n) = true :=
  foldl_wf (fun _ _ hm => foldl_wf (fun _ _ hm => setByte_wf hm) hm) (filter_wfFrom h)

theorem zeroStop_wf {stop : Option Nat} {f : Nat → Nat} {m : Memory} (h : Memory.wf 0 m = true) : Memory.wf 0 (zeroStop stop f m) = true := by
  unfold zeroStop
  split
  · exact foldl_wf (fun _ _ hm => setByte_wf hm) h
  · exact h

@[simp] theorem clearBanks_stays (b : List Nat) (m : Memory) : Stays m (clearBanks b m) := filter_wfFrom
@[simp] theorem basinFrom_stays (s : State) (b : List Nat) (base n : Nat) (stop : Option Nat) (f : Nat → Nat) :
    Stays s.basin (zeroStop stop f (basinFrom s b base n)) := fun h => zeroStop_wf (basinFrom_wf h)
@[simp] theorem basinTo_stays (s : State) (b : List Nat) (base n : Nat) (stop : Option Nat) (f : Nat → Nat) :
    Stays s.dram (zeroStop stop f (basinTo s b base n)) := fun h => zeroStop_wf (basinTo_wf h)

@[simp] theorem basinMove_keeps {st0 : State} (op : Nat) (b : List Nat) (base : Nat) (stop : Option Nat) (s : State) (hk : Keeps st0 s) :
    Keeps st0 (basinMove op b base stop s) := by
  unfold basinMove
  dsimp only
  split
  · exact Keeps.basin hk rfl (clearBanks_stays _ _)
  · exact Keeps.basin hk rfl (basinFrom_stays _ _ _ _ _ _)
  · exact Keeps.dram hk rfl (basinTo_stays _ _ _ _ _ _)

@[simp] theorem basinDoneOp_keeps {st0 : State} (poisoned : List Nat) (s : State) (hk : Keeps st0 s) : Keeps st0 (basinDoneOp poisoned s) := by
  unfold basinDoneOp
  try dsimp only
  (repeat' split) <;> simp +contextual (maxDischargeDepth := 20) [*, -List.foldl_cons]

@[simp] theorem dmcCntClrOp_keeps {st0 : State} (v : Word) (s : State) (hk : Keeps st0 s) : Keeps st0 (dmcCntClrOp v s) := by
  unfold dmcCntClrOp
  try dsimp only
  (repeat' split) <;> simp +contextual (maxDischargeDepth := 20) [*, -List.foldl_cons]

@[simp] theorem dmcChCntClrOp_keeps {st0 : State} (c : Nat) (v : Word) (s : State) (hk : Keeps st0 s) : Keeps st0 (dmcChCntClrOp c v s) := by
  unfold dmcChCntClrOp
  try dsimp only
  (repeat' split) <;> simp +contextual (maxDischargeDepth := 20) [*, -List.foldl_cons]

end Sys2Proof.Machine
end

