-- ==== Sys2Proof/Laws/KeepsRaster.lean ====
section
/-!
SUPPORT. Every operation of Sys2Proof/Machine/Raster.lean keeps what `Keeps` names.
-/
namespace Sys2Proof.Machine

@[simp] theorem applyWords_keeps {st0 : State} (h : Nat) (words : SMap Word) (s : State) (hk : Keeps st0 s) : Keeps st0 (applyWords h words s) :=
  Keeps.force hk rfl fun hr => foldl_rising (fun _ _ hm => insert_rising hm) (filter_rising hr)

@[simp] theorem applyT_keeps {st0 : State} (h : Nat) (words : SMap Word) (s : State) (hk : Keeps st0 s) : Keeps st0 (applyT h words s) := by
  unfold applyT
  try dsimp only
  (repeat' split) <;> simp +contextual (maxDischargeDepth := 20) [*, -List.foldl_cons]

@[simp] theorem modHd_keeps {st0 : State} (s : State) (h : Nat) (f : TgnHead → TgnHead) (hk : Keeps st0 s) : Keeps st0 (State.modHd s h f) := by
  unfold State.modHd
  try dsimp only
  (repeat' split) <;> simp +contextual (maxDischargeDepth := 20) [*, -List.foldl_cons]

@[simp] theorem modPn_keeps {st0 : State} (s : State) (h : Nat) (f : PnlHead → PnlHead) (hk : Keeps st0 s) : Keeps st0 (State.modPn s h f) := by
  unfold State.modPn
  try dsimp only
  (repeat' split) <;> simp +contextual (maxDischargeDepth := 20) [*, -List.foldl_cons]

@[simp] theorem pnlFlag_keeps {st0 : State} (h b : Nat) (s : State) (hk : Keeps st0 s) : Keeps st0 (pnlFlag h b s) := by
  unfold pnlFlag
  try dsimp only
  (repeat' split) <;> simp +contextual (maxDischargeDepth := 20) [*, -List.foldl_cons]

@[simp] theorem exitTrigger_keeps {st0 : State} (h : Nat) (s : State) (hk : Keeps st0 s) : Keeps st0 (exitTrigger h s) := by
  unfold exitTrigger
  try dsimp only
  (repeat' split) <;> simp +contextual (maxDischargeDepth := 20) [*, -List.foldl_cons]

@[simp] theorem srLive_keeps {st0 : State} (h : Nat) (s : State) (hk : Keeps st0 s) : Keeps st0 (srLive h s) := by
  unfold srLive
  try dsimp only
  (repeat' split) <;> simp +contextual (maxDischargeDepth := 20) [*, -List.foldl_cons]

end Sys2Proof.Machine
end

