-- ==== Sys2Proof/Laws/KeepsColour.lean ====
section
/-!
SUPPORT. Every operation of Sys2Proof/Machine/Colour.lean keeps what `Keeps` names.
-/
namespace Sys2Proof.Machine

@[simp] theorem pxpStoreOp_keeps {st0 : State} (h : Nat) (v : Word) (s : State) (hk : Keeps st0 s) : Keeps st0 (pxpStoreOp h v s) := by
  unfold pxpStoreOp
  try dsimp only
  (repeat' split) <;> simp +contextual (maxDischargeDepth := 20) [*, -List.foldl_cons]

@[simp] theorem pxpStageOp_keeps {st0 : State} (h c : Nat) (v : Word) (s : State) (hk : Keeps st0 s) : Keeps st0 (pxpStageOp h c v s) := by
  unfold pxpStageOp
  try dsimp only
  (repeat' split) <;> simp +contextual (maxDischargeDepth := 20) [*, -List.foldl_cons]

end Sys2Proof.Machine
end

