-- ==== Sys2Proof/Laws/KeepsSfm.lean ====
section
/-!
SUPPORT. Every operation of Sys2Proof/Machine/Sfm.lean keeps what `Keeps` names.
-/
namespace Sys2Proof.Machine

@[simp] theorem pteIn_keeps {st0 : State} (req table page : Nat) (s : State) (hk : Keeps st0 s) : Keeps st0 (pteIn req table page s).2 := by
  unfold pteIn
  by_cases h : s.capBytes ≤ table + 4 * page
  · simp only [h, if_true]
    exact rangeFault_keeps _ _ _ hk
  · simp only [h, if_false]
    exact hk

@[simp] theorem chooseNat_keeps {st0 : State} (a b : Nat) (s : State) (hk : Keeps st0 s) : Keeps st0 (chooseNat a b s).2 := by
  unfold chooseNat
  try dsimp only
  (repeat' split) <;> simp +contextual (maxDischargeDepth := 20) [*, -List.foldl_cons]

@[simp] theorem oldEntry_keeps {st0 : State} (req page : Nat) (s : State) (hk : Keeps st0 s) : Keeps st0 (oldEntry req page s).2 := by
  unfold oldEntry
  try dsimp only
  (repeat' split) <;> simp +contextual (maxDischargeDepth := 20) [*, -List.foldl_cons]

@[simp] theorem translate_keeps {st0 : State} (req page : Nat) (s : State) (hk : Keeps st0 s) : Keeps st0 (translate req page s).2 := by
  unfold translate
  try dsimp only
  (repeat' split) <;> simp +contextual (maxDischargeDepth := 20) [*, -List.foldl_cons]

@[simp] theorem xlateFault_keeps {st0 : State} (kind head layer surf addr req carried unit : Nat) (s : State) (hk : Keeps st0 s) : Keeps st0 (xlateFault kind head layer surf addr req carried unit s) := by
  unfold xlateFault
  try dsimp only
  (repeat' split) <;> simp +contextual (maxDischargeDepth := 20) [*, -List.foldl_cons]

@[simp] theorem ptInvOp_keeps {st0 : State} (s : State) (hk : Keeps st0 s) : Keeps st0 (ptInvOp s) := by
  unfold ptInvOp
  try dsimp only
  (repeat' split) <;> simp +contextual (maxDischargeDepth := 20) [*, -List.foldl_cons]

@[simp] theorem hostLanded_keeps {st0 : State} (a : Nat) (data : List Byte) (s : State) (hk : Keeps st0 s) : Keeps st0 (hostLanded a data s) := by
  unfold hostLanded
  try dsimp only
  (repeat' split) <;> simp +contextual (maxDischargeDepth := 20) [*, -List.foldl_cons]

@[simp] theorem modEntry_keeps {st0 : State} (s : State) (n : Nat) (f : SurfEntry → SurfEntry) (hk : Keeps st0 s) : Keeps st0 (State.modEntry s n f) := by
  unfold State.modEntry
  try dsimp only
  (repeat' split) <;> simp +contextual (maxDischargeDepth := 20) [*, -List.foldl_cons]

@[simp] theorem sfmRefuse_keeps {st0 : State} (n reason : Nat) (s : State) (hk : Keeps st0 s) : Keeps st0 (sfmRefuse n reason s) := by
  unfold sfmRefuse
  try dsimp only
  (repeat' split) <;> simp +contextual (maxDischargeDepth := 20) [*, -List.foldl_cons]

@[simp] theorem surfValidateOp_keeps {st0 : State} (n : Nat) (s : State) (hk : Keeps st0 s) : Keeps st0 (surfValidateOp n s) := by
  unfold surfValidateOp
  try dsimp only
  (repeat' split) <;> simp +contextual (maxDischargeDepth := 20) [*, -List.foldl_cons]

@[simp] theorem surfFreeOp_keeps {st0 : State} (n : Nat) (s : State) (hk : Keeps st0 s) : Keeps st0 (surfFreeOp n s) := by
  unfold surfFreeOp
  try dsimp only
  (repeat' split) <;> simp +contextual (maxDischargeDepth := 20) [*, -List.foldl_cons]

@[simp] theorem surfCtlOp_keeps {st0 : State} (n : Nat) (v : Word) (s : State) (hk : Keeps st0 s) : Keeps st0 (surfCtlOp n v s) := by
  unfold surfCtlOp
  try dsimp only
  (repeat' split) <;> simp +contextual (maxDischargeDepth := 20) [*, -List.foldl_cons]

@[simp] theorem surfDescOp_keeps {st0 : State} (n r : Nat) (v : Word) (s : State) (hk : Keeps st0 s) : Keeps st0 (surfDescOp n r v s) := by
  unfold surfDescOp
  try dsimp only
  (repeat' split) <;> simp +contextual (maxDischargeDepth := 20) [*, -List.foldl_cons]

@[simp] theorem leaseTake_keeps {st0 : State} (n : Nat) (s : State) (hk : Keeps st0 s) : Keeps st0 (leaseTake n s) := by
  unfold leaseTake
  try dsimp only
  (repeat' split) <;> simp +contextual (maxDischargeDepth := 20) [*, -List.foldl_cons]

@[simp] theorem leaseRetire_keeps {st0 : State} (n : Nat) (s : State) (hk : Keeps st0 s) : Keeps st0 (leaseRetire n s) := by
  unfold leaseRetire
  try dsimp only
  (repeat' split) <;> simp +contextual (maxDischargeDepth := 20) [*, -List.foldl_cons]

@[simp] theorem recFence_keeps {st0 : State} (n v cause : Nat) (s : State) (hk : Keeps st0 s) : Keeps st0 (recFence n v cause s) := by
  unfold recFence
  try dsimp only
  (repeat' split) <;> simp +contextual (maxDischargeDepth := 20) [*, -List.foldl_cons]

@[simp] theorem tlAdvance_keeps {st0 : State} (cause n v : Nat) (s : State) (hk : Keeps st0 s) : Keeps st0 (tlAdvance cause n v s) := by
  unfold tlAdvance
  try dsimp only
  (repeat' split) <;> simp +contextual (maxDischargeDepth := 20) [*, -List.foldl_cons]

@[simp] theorem tlHiOp_keeps {st0 : State} (n : Nat) (v : Word) (s : State) (hk : Keeps st0 s) : Keeps st0 (tlHiOp n v s) := by
  unfold tlHiOp
  try dsimp only
  (repeat' split) <;> simp +contextual (maxDischargeDepth := 20) [*, -List.foldl_cons]

@[simp] theorem tlWriteOp_keeps {st0 : State} (n : Nat) (v : Word) (s : State) (hk : Keeps st0 s) : Keeps st0 (tlWriteOp n v s) := by
  unfold tlWriteOp
  try dsimp only
  (repeat' split) <;> simp +contextual (maxDischargeDepth := 20) [*, -List.foldl_cons]

@[simp] theorem landBlock_keeps {st0 : State} (a : Nat) (data : List Byte) (s : State) (hk : Keeps st0 s) : Keeps st0 (landBlock a data s).2 := by
  unfold landBlock
  try dsimp only
  (repeat' split) <;> simp +contextual (maxDischargeDepth := 20) [*, -List.foldl_cons]

@[simp] theorem landPixels_keeps {st0 : State} (surf n a : Nat) (data : List Byte) (s : State) (hk : Keeps st0 s) :
    Keeps st0 (landPixels surf n a data s) := by
  induction n generalizing a data s with
  | zero => exact hk
  | succ n ih =>
    unfold landPixels
    dsimp only
    (repeat' split) <;> simp (maxDischargeDepth := 20) [*]

@[simp] theorem runStream_keeps {st0 : State} (stream n : Nat) (seen : Bool) (ops : List HostOp) (s : State) (hk : Keeps st0 s) :
    Keeps st0 (runStream stream n seen ops s).2 := by
  induction n generalizing seen ops s with
  | zero => exact hk
  | succ n ih =>
    match ops with
    | [] => exact hk
    | .block a last data :: r => simp only [runStream]; (repeat' split) <;> simp (maxDischargeDepth := 20) [*]
    | .pixels surf plane line off data :: r => simp only [runStream]; (repeat' split) <;> simp (maxDischargeDepth := 20) [*]
    | .fence tl v :: r => exact ih _ _ _ (by simp [hk])
    | .free units :: r => exact ih _ _ _ (by simp [hk])

@[simp] theorem setHeld_keeps {st0 : State} (s : State) (k : Nat) (ops : List HostOp) (hk : Keeps st0 s) : Keeps st0 (State.setHeld s k ops) := by
  unfold State.setHeld
  try dsimp only
  (repeat' split) <;> simp +contextual (maxDischargeDepth := 20) [*, -List.foldl_cons]

@[simp] theorem pushStream_keeps {st0 : State} (k : Nat) (ops : List HostOp) (s : State) (hk : Keeps st0 s) : Keeps st0 (pushStream k ops s) := by
  unfold pushStream
  try dsimp only
  (repeat' split) <;> simp +contextual (maxDischargeDepth := 20) [*, -List.foldl_cons]

@[simp] theorem handOver_keeps {st0 : State} (p : Nat) (t : Txn) (s : State) (hk : Keeps st0 s) : Keeps st0 (handOver p t s) := by
  unfold handOver
  try dsimp only
  (repeat' split) <;> simp +contextual (maxDischargeDepth := 20) [*, -List.foldl_cons]

@[simp] theorem postedIn_keeps {st0 : State} (p st type : Nat) (own : List HostOp) (s : State) (hk : Keeps st0 s) : Keeps st0 (postedIn p st type own s) := by
  unfold postedIn
  try dsimp only
  (repeat' split) <;> simp +contextual (maxDischargeDepth := 20) [*, -List.foldl_cons]

@[simp] theorem surfaceWriteOp_keeps {st0 : State} (p st addr : Nat) (data : List Byte) (s : State) (hk : Keeps st0 s) : Keeps st0 (surfaceWriteOp p st addr data s) := by
  unfold surfaceWriteOp
  try dsimp only
  (repeat' split) <;> simp +contextual (maxDischargeDepth := 20) [*, -List.foldl_cons]

@[simp] theorem pixelStreamOp_keeps {st0 : State} (p st : Nat) (x : PixelTxn) (s : State) (hk : Keeps st0 s) : Keeps st0 (pixelStreamOp p st x s) := by
  unfold pixelStreamOp
  try dsimp only
  (repeat' split) <;> simp +contextual (maxDischargeDepth := 20) [*, -List.foldl_cons]

@[simp] theorem doorbellOp_keeps {st0 : State} (p st tl v : Nat) (s : State) (hk : Keeps st0 s) : Keeps st0 (doorbellOp p st tl v s) := by
  unfold doorbellOp
  try dsimp only
  (repeat' split) <;> simp +contextual (maxDischargeDepth := 20) [*, -List.foldl_cons]

@[simp] theorem parkReleaseOp_keeps {st0 : State} (k : Nat) (s : State) (hk : Keeps st0 s) : Keeps st0 (parkReleaseOp k s) := by
  unfold parkReleaseOp
  try dsimp only
  (repeat' split) <;> simp +contextual (maxDischargeDepth := 20) [*, -List.foldl_cons]

@[simp] theorem sfmCntClrOp_keeps {st0 : State} (v : Word) (s : State) (hk : Keeps st0 s) : Keeps st0 (sfmCntClrOp v s) := by
  unfold sfmCntClrOp
  try dsimp only
  (repeat' split) <;> simp +contextual (maxDischargeDepth := 20) [*, -List.foldl_cons]

@[simp] theorem tlCapture_keeps {st0 : State} (n : Nat) (s : State) (hk : Keeps st0 s) : Keeps st0 (tlCapture n s) := by
  unfold tlCapture
  try dsimp only
  (repeat' split) <;> simp +contextual (maxDischargeDepth := 20) [*, -List.foldl_cons]

end Sys2Proof.Machine
end

