-- ==== Sys2Proof/Laws/KeepsCompose.lean ====
section
/-!
SUPPORT. Every operation of Sys2Proof/Machine/Compose.lean keeps what `Keeps` names.
-/
namespace Sys2Proof.Machine

@[simp] theorem abandonLayer_keeps {st0 : State} (h l polder : Nat) (s : State) (hk : Keeps st0 s) : Keeps st0 (abandonLayer h l polder s) := by
  unfold abandonLayer
  try dsimp only
  (repeat' split) <;> simp +contextual (maxDischargeDepth := 20) [*, -List.foldl_cons]

@[simp] theorem fetchFault_keeps {st0 : State} (h l surf addr polder : Nat) (s : State) (hk : Keeps st0 s) : Keeps st0 (fetchFault h l surf addr polder s) := by
  unfold fetchFault
  try dsimp only
  (repeat' split) <;> simp +contextual (maxDischargeDepth := 20) [*, -List.foldl_cons]

@[simp] theorem fetchParts_keeps {st0 : State} (h : Nat) (ps : List (Nat × Nat)) (pm : PageMap) (s : State) (hk : Keeps st0 s) :
    Keeps st0 (fetchParts h ps pm s).2.2 := by
  induction ps generalizing pm s with
  | nil => exact hk
  | cons x ps ih =>
    obtain ⟨a, len⟩ := x
    unfold fetchParts
    dsimp only
    (repeat' split) <;> simp +contextual (maxDischargeDepth := 20) [*]

@[simp] theorem fetchTiles_keeps {st0 : State} (h l w ht ty : Nat) (txs : List Nat) (pm : PageMap) (s : State) (hk : Keeps st0 s) :
    Keeps st0 (fetchTiles h l w ht ty txs pm s).2 := by
  induction txs generalizing pm s with
  | nil => exact hk
  | cons tx txs ih =>
    unfold fetchTiles
    dsimp only
    (repeat' split) <;> simp +contextual (maxDischargeDepth := 20) [*]

@[simp] theorem fetchLayers_keeps {st0 : State} (h w ht ty : Nat) (ls : List Nat) (s : State) (hk : Keeps st0 s) :
    Keeps st0 (fetchLayers h w ht ty ls s).2 := by
  induction ls generalizing s with
  | nil => exact hk
  | cons l ls ih =>
    unfold fetchLayers
    dsimp only
    (repeat' split) <;> simp +contextual (maxDischargeDepth := 20) [*]

@[simp] theorem fetchRow_keeps {st0 : State} (h ty : Nat) (s : State) (hk : Keeps st0 s) : Keeps st0 (fetchRow h ty s) := by
  unfold fetchRow
  try dsimp only
  (repeat' split) <;> simp +contextual (maxDischargeDepth := 20) [*, -List.foldl_cons]

@[simp] theorem composeLine_keeps {st0 : State} (h y : Nat) (f : Frame) (s : State) (hk : Keeps st0 s) : Keeps st0 (composeLine h y f s).2 := by
  unfold composeLine
  try dsimp only
  (repeat' split) <;> simp +contextual (maxDischargeDepth := 20) [*, -List.foldl_cons]

@[simp] theorem keepLine_keeps {st0 : State} (h y : Nat) (l : TapLine) (s : State) (hk : Keeps st0 s) : Keeps st0 (keepLine h y l s) := by
  unfold keepLine
  try dsimp only
  (repeat' split) <;> simp +contextual (maxDischargeDepth := 20) [*, -List.foldl_cons]

@[simp] theorem captureLine_keeps {st0 : State} (h y : Nat) (s : State) (hk : Keeps st0 s) : Keeps st0 (captureLine h y s).2 := by
  unfold captureLine
  try dsimp only
  (repeat' split) <;> simp +contextual (maxDischargeDepth := 20) [*, -List.foldl_cons]

end Sys2Proof.Machine
end

