-- ==== Sys2Proof/Laws/KeepsPsq.lean ====
section
/-!
SUPPORT. Every operation of Sys2Proof/Machine/Psq.lean keeps what `Keeps` names.
-/
namespace Sys2Proof.Machine

@[simp] theorem eachPolder_keeps {st0 : State} (h : Nat) (f : Nat → Nat → Polder → Polder) (s : State) (hk : Keeps st0 s) : Keeps st0 (eachPolder h f s) := by
  unfold eachPolder
  try dsimp only
  (repeat' split) <;> simp +contextual (maxDischargeDepth := 20) [*, -List.foldl_cons]

@[simp] theorem latchRings_keeps {st0 : State} (h : Nat) (s : State) (hk : Keeps st0 s) : Keeps st0 (latchRings h s) := by
  unfold latchRings
  try dsimp only
  (repeat' split) <;> simp +contextual (maxDischargeDepth := 20) [*, -List.foldl_cons]

@[simp] theorem grantPolders_keeps {st0 : State} (h : Nat) (s : State) (hk : Keeps st0 s) : Keeps st0 (grantPolders h s) := by
  unfold grantPolders
  try dsimp only
  (repeat' split) <;> simp +contextual (maxDischargeDepth := 20) [*, -List.foldl_cons]

@[simp] theorem placePlanes_keeps {st0 : State} (h : Nat) (s : State) (hk : Keeps st0 s) : Keeps st0 (placePlanes h s) := by
  unfold placePlanes
  try dsimp only
  (repeat' split) <;> simp +contextual (maxDischargeDepth := 20) [*, -List.foldl_cons]

@[simp] theorem bufStore_keeps {st0 : State} (user h : Nat) (inBasin : Bool) (base o : Nat) (bs : List Byte) (s : State) (hk : Keeps st0 s) : Keeps st0 (bufStore user h inBasin base o bs s) := by
  unfold bufStore
  try dsimp only
  (repeat' split) <;> simp +contextual (maxDischargeDepth := 20) [*, -List.foldl_cons]

@[simp] theorem codeLine_keeps {st0 : State} (h num y : Nat) (line : List Px) (s : State) (hk : Keeps st0 s) : Keeps st0 (codeLine h num y line s) := by
  unfold codeLine
  try dsimp only
  (repeat' split) <;> simp +contextual (maxDischargeDepth := 20) [*, -List.foldl_cons]

@[simp] theorem tileLines_keeps {st0 : State} (h num : Nat) (mir : Bool) (ys : List Nat) (s : State) (hk : Keeps st0 s) :
    Keeps st0 (tileLines h num mir ys s).2 := by
  induction ys generalizing s with
  | nil => exact hk
  | cons y ys ih =>
    unfold tileLines
    exact ih _ (by simp (maxDischargeDepth := 20) [hk])

@[simp] theorem composeTileRowOp_keeps {st0 : State} (h ty : Nat) (s : State) (hk : Keeps st0 s) : Keeps st0 (composeTileRowOp h ty s) := by
  unfold composeTileRowOp
  try dsimp only
  (repeat' split) <;> simp +contextual (maxDischargeDepth := 20) [*, -List.foldl_cons]

@[simp] theorem psqCommit_keeps {st0 : State} (h : Nat) (f : Frame) (s : State) (hk : Keeps st0 s) : Keeps st0 (psqCommit h f s) := by
  unfold psqCommit
  try dsimp only
  (repeat' split) <;> simp +contextual (maxDischargeDepth := 20) [*, -List.foldl_cons]

@[simp] theorem maskStoreOp_keeps {st0 : State} (h : Nat) (v : Word) (s : State) (hk : Keeps st0 s) : Keeps st0 (maskStoreOp h v s) := by
  unfold maskStoreOp
  try dsimp only
  (repeat' split) <;> simp +contextual (maxDischargeDepth := 20) [*, -List.foldl_cons]

@[simp] theorem maskStageOp_keeps {st0 : State} (h : Nat) (v : Word) (s : State) (hk : Keeps st0 s) : Keeps st0 (maskStageOp h v s) := by
  unfold maskStageOp
  try dsimp only
  (repeat' split) <;> simp +contextual (maxDischargeDepth := 20) [*, -List.foldl_cons]

@[simp] theorem psqHCntClrOp_keeps {st0 : State} (h : Nat) (v : Word) (s : State) (hk : Keeps st0 s) : Keeps st0 (psqHCntClrOp h v s) := by
  unfold psqHCntClrOp
  try dsimp only
  (repeat' split) <;> simp +contextual (maxDischargeDepth := 20) [*, -List.foldl_cons]

end Sys2Proof.Machine
end

