-- ==== Sys2Proof/Laws/KeepsBoot.lean ====
section
/-!
SUPPORT. Every operation of Sys2Proof/Machine/Boot.lean keeps what `Keeps` names.
-/
namespace Sys2Proof.Machine

@[simp] theorem askSelfTest_keeps {st0 : State} (s : State) (hk : Keeps st0 s) : Keeps st0 (askSelfTest s) := by
  unfold askSelfTest
  try dsimp only
  (repeat' split) <;> simp +contextual (maxDischargeDepth := 20) [*, -List.foldl_cons]

@[simp] theorem selfTestGrantOp_keeps {st0 : State} (s : State) (hk : Keeps st0 s) : Keeps st0 (selfTestGrantOp s) := by
  unfold selfTestGrantOp
  try dsimp only
  (repeat' split) <;> (try have hg := takeGrant_keeps (by assumption) hk) <;> (try have hr := takeRefusal_keeps (by assumption) hk) <;>
    simp +contextual (maxDischargeDepth := 20) [*, -List.foldl_cons]

@[simp] theorem nextSource_keeps {st0 : State} (srcs : List LoadSrc) (s : State) (hk : Keeps st0 s) : Keeps st0 (nextSource srcs s) := by
  unfold nextSource
  try dsimp only
  (repeat' split) <;> simp +contextual (maxDischargeDepth := 20) [*, -List.foldl_cons]

@[simp] theorem basinTestDoneOp_keeps {st0 : State} (bad : List Nat) (s : State) (hk : Keeps st0 s) : Keeps st0 (basinTestDoneOp bad s) := by
  unfold basinTestDoneOp
  try dsimp only
  (repeat' split) <;> simp +contextual (maxDischargeDepth := 20) [*, -List.foldl_cons]

@[simp] theorem rejectSource_keeps {st0 : State} (status : Nat) (s : State) (hk : Keeps st0 s) : Keeps st0 (rejectSource status s) := by
  unfold rejectSource
  try dsimp only
  (repeat' split) <;> simp +contextual (maxDischargeDepth := 20) [*, -List.foldl_cons]

@[simp] theorem acceptSource_keeps {st0 : State} (src : Nat) (f : Image) (s : State) (hk : Keeps st0 s) : Keeps st0 (acceptSource src f s) := by
  unfold acceptSource
  try dsimp only
  (repeat' split) <;> simp +contextual (maxDischargeDepth := 20) [*, -List.foldl_cons]

@[simp] theorem readRest_keeps {st0 : State} (n : Nat) (f : Image) (s : State) (hk : Keeps st0 s) : Keeps st0 (readRest n f s) := by
  unfold readRest
  try dsimp only
  (repeat' split) <;> simp +contextual (maxDischargeDepth := 20) [*, -List.foldl_cons]

@[simp] theorem slotLoadDoneOp_keeps {st0 : State} (io : Bool) (s : State) (hk : Keeps st0 s) : Keeps st0 (slotLoadDoneOp io s) := by
  unfold slotLoadDoneOp
  try dsimp only
  (repeat' split) <;> simp +contextual (maxDischargeDepth := 20) [*, -List.foldl_cons]

@[simp] theorem loadStreamOp_keeps {st0 : State} (v : Word) (s : State) (hk : Keeps st0 s) : Keeps st0 (loadStreamOp v s) := by
  unfold loadStreamOp
  try dsimp only
  (repeat' split) <;> simp +contextual (maxDischargeDepth := 20) [*, -List.foldl_cons]

@[simp] theorem loadStreamStallOp_keeps {st0 : State} (s : State) (hk : Keeps st0 s) : Keeps st0 (loadStreamStallOp s) := by
  unfold loadStreamStallOp
  try dsimp only
  (repeat' split) <;> simp +contextual (maxDischargeDepth := 20) [*, -List.foldl_cons]

@[simp] theorem loadBlocks_keeps {st0 : State} (s : State) (hk : Keeps st0 s) : Keeps st0 (loadBlocks s) := by
  unfold loadBlocks
  try dsimp only
  (repeat' split) <;> simp +contextual (maxDischargeDepth := 20) [*, -List.foldl_cons]

@[simp] theorem headOut_keeps {st0 : State} (h : Nat) (s : State) (hk : Keeps st0 s) : Keeps st0 (headOut h s) := by
  unfold headOut
  try dsimp only
  (repeat' split) <;> simp +contextual (maxDischargeDepth := 20) [*, -List.foldl_cons]

@[simp] theorem fillPolders_keeps {st0 : State} (hs avail : List Nat) (s : State) (hk : Keeps st0 s) : Keeps st0 (fillPolders hs avail s) := by
  induction hs generalizing avail s with
  | nil => exact hk
  | cons h hs ih =>
    unfold fillPolders
    dsimp only
    split
    · exact ih _ _ hk
    · split
      · have h1 : Keeps st0 { s with headPolders := s.headPolders.put [] h (avail.take (polderNeed (s.cfg.head h))) } :=
          Keeps.headPolders hk rfl (Rises.put _ _ _ _)
        exact ih _ _ (Keeps.tgn h1 rfl (Rises.put _ _ _ _))
      · exact ih _ _ (by simp [hk])

@[simp] theorem loadLanes_keeps {st0 : State} (s : State) (hk : Keeps st0 s) : Keeps st0 (loadLanes s) := by
  unfold loadLanes
  try dsimp only
  (repeat' split) <;> simp +contextual (maxDischargeDepth := 20) [*, -List.foldl_cons]

@[simp] theorem loadDram_keeps {st0 : State} (s : State) (hk : Keeps st0 s) : Keeps st0 (loadDram s) := by
  unfold loadDram
  try dsimp only
  (repeat' split) <;> simp +contextual (maxDischargeDepth := 20) [*, -List.foldl_cons]

@[simp] theorem putTrim_keeps {st0 : State} (x : TrimRec) (n : Nat) (s : State) (hk : Keeps st0 s) : Keeps st0 (putTrim x n s) := by
  unfold putTrim
  try dsimp only
  (repeat' split) <;> simp +contextual (maxDischargeDepth := 20) [*, -List.foldl_cons]

@[simp] theorem applyTrims_keeps {st0 : State} (s : State) (hk : Keeps st0 s) : Keeps st0 (applyTrims s) := by
  unfold applyTrims
  try dsimp only
  (repeat' split) <;> simp +contextual (maxDischargeDepth := 20) [*, -List.foldl_cons]

@[simp] theorem presetTrims_keeps {st0 : State} (n : Nat) (ks : List (Nat × Int)) (s : State) (hk : Keeps st0 s) : Keeps st0 (presetTrims n ks s) := by
  unfold presetTrims
  try dsimp only
  (repeat' split) <;> simp +contextual (maxDischargeDepth := 20) [*, -List.foldl_cons]

@[simp] theorem applyPreset_keeps {st0 : State} (s : State) (x : Nat × Nat) (hk : Keeps st0 s) : Keeps st0 (applyPreset s x) := by
  unfold applyPreset
  try dsimp only
  (repeat' split) <;> simp +contextual (maxDischargeDepth := 20) [*, -List.foldl_cons]

@[simp] theorem syncPresets_keeps {st0 : State} (s : State) (hk : Keeps st0 s) : Keeps st0 (syncPresets s) := by
  unfold syncPresets
  try dsimp only
  (repeat' split) <;> simp +contextual (maxDischargeDepth := 20) [*, -List.foldl_cons]

@[simp] theorem applyPresets_keeps {st0 : State} (s : State) (hk : Keeps st0 s) : Keeps st0 (applyPresets s) := by
  unfold applyPresets
  try dsimp only
  (repeat' split) <;> simp +contextual (maxDischargeDepth := 20) [*, -List.foldl_cons]

theorem applyStructure_moves (bad : List Nat) (s : State) : Moves s (applyStructure bad s) := by
  have h0 : Moves s { s with cfg := { s.boot.staged with applied := true }, boot := { s.boot with staged := {}, copy := [] } } :=
    ⟨rfl, Nat.le_refl _, List.suffix_refl _, id⟩
  refine h0.keeps ?_
  unfold applyStructure
  simp (maxDischargeDepth := 20)

theorem polderTestDoneOp_moves (bad : List Nat) (s : State) : Moves s (polderTestDoneOp bad s) := by
  unfold polderTestDoneOp
  split
  · exact Moves.refl s
  · exact Moves.trans (Keeps.moves (by simp)) (applyStructure_moves bad _)

@[simp] theorem firmwareStartOp_keeps {st0 : State} (s : State) (hk : Keeps st0 s) : Keeps st0 (firmwareStartOp s) := by
  unfold firmwareStartOp
  try dsimp only
  (repeat' split) <;> simp +contextual (maxDischargeDepth := 20) [*, -List.foldl_cons]

@[simp] theorem entdaaDevice_keeps {st0 : State} (s : State) (x : Nat × I3cDevice) (hk : Keeps st0 s) : Keeps st0 (entdaaDevice s x) := by
  unfold entdaaDevice
  try dsimp only
  (repeat' split) <;> simp +contextual (maxDischargeDepth := 20) [*, -List.foldl_cons]

@[simp] theorem entdaaDoneOp_keeps {st0 : State} (devs : List I3cDevice) (s : State) (hk : Keeps st0 s) : Keeps st0 (entdaaDoneOp devs s) := by
  unfold entdaaDoneOp
  try dsimp only
  (repeat' split) <;> simp +contextual (maxDischargeDepth := 20) [*, -List.foldl_cons]

end Sys2Proof.Machine
end

