-- ==== Sys2Proof/Laws/KeepsLsc.lean ====
section
/-!
SUPPORT. Every operation of Sys2Proof/Machine/Lsc.lean keeps what `Keeps` names.
-/
namespace Sys2Proof.Machine

@[simp] theorem modChan_keeps {st0 : State} (s : State) (c : Nat) (f : LscChan → LscChan) (hk : Keeps st0 s) : Keeps st0 (State.modChan s c f) := by
  unfold State.modChan
  try dsimp only
  (repeat' split) <;> simp +contextual (maxDischargeDepth := 20) [*, -List.foldl_cons]

@[simp] theorem modGrp_keeps {st0 : State} (s : State) (g : Nat) (f : LscGroup → LscGroup) (hk : Keeps st0 s) : Keeps st0 (State.modGrp s g f) := by
  unfold State.modGrp
  try dsimp only
  (repeat' split) <;> simp +contextual (maxDischargeDepth := 20) [*, -List.foldl_cons]

@[simp] theorem modOuter_keeps {st0 : State} (s : State) (h : Nat) (f : Outer → Outer) (hk : Keeps st0 s) : Keeps st0 (State.modOuter s h f) := by
  unfold State.modOuter
  try dsimp only
  (repeat' split) <;> simp +contextual (maxDischargeDepth := 20) [*, -List.foldl_cons]

@[simp] theorem sendDrive_keeps {st0 : State} (c t code at' : Nat) (s : State) (hk : Keeps st0 s) : Keeps st0 (sendDrive c t code at' s) := by
  unfold sendDrive
  try dsimp only
  (repeat' split) <;> simp +contextual (maxDischargeDepth := 20) [*, -List.foldl_cons]

@[simp] theorem sendZero_keeps {st0 : State} (c : Nat) (s : State) (hk : Keeps st0 s) : Keeps st0 (sendZero c s) := by
  unfold sendZero
  try dsimp only
  (repeat' split) <;> simp +contextual (maxDischargeDepth := 20) [*, -List.foldl_cons]

@[simp] theorem sendKept_keeps {st0 : State} (c : Nat) (codes tiers : List Nat) (s : State) (hk : Keeps st0 s) : Keeps st0 (sendKept c codes tiers s) := by
  unfold sendKept
  try dsimp only
  (repeat' split) <;> simp +contextual (maxDischargeDepth := 20) [*, -List.foldl_cons]

@[simp] theorem sendAll_keeps {st0 : State} (c : Nat) (codes : List Nat) (at' : Nat) (s : State) (hk : Keeps st0 s) : Keeps st0 (sendAll c codes at' s) := by
  unfold sendAll
  try dsimp only
  (repeat' split) <;> simp +contextual (maxDischargeDepth := 20) [*, -List.foldl_cons]

@[simp] theorem settleS_keeps {st0 : State} (c : Nat) (s : State) (hk : Keeps st0 s) : Keeps st0 (settleS c s) := by
  unfold settleS
  try dsimp only
  (repeat' split) <;> simp +contextual (maxDischargeDepth := 20) [*, -List.foldl_cons]

@[simp] theorem outerRecover_keeps {st0 : State} (h : Nat) (s : State) (hk : Keeps st0 s) : Keeps st0 (outerRecover h s) := by
  unfold outerRecover
  try dsimp only
  (repeat' split) <;> simp +contextual (maxDischargeDepth := 20) [*, -List.foldl_cons]

@[simp] theorem outerReason_keeps {st0 : State} (h r : Nat) (s : State) (hk : Keeps st0 s) : Keeps st0 (outerReason h r s) := by
  unfold outerReason
  try dsimp only
  (repeat' split) <;> simp +contextual (maxDischargeDepth := 20) [*, -List.foldl_cons]

@[simp] theorem shortCheck_keeps {st0 : State} (g : Nat) (s : State) (hk : Keeps st0 s) : Keeps st0 (shortCheck g s) := by
  unfold shortCheck
  try dsimp only
  (repeat' split) <;> simp +contextual (maxDischargeDepth := 20) [*, -List.foldl_cons]

@[simp] theorem settleNow_keeps {st0 : State} (c : Nat) (s : State) (hk : Keeps st0 s) : Keeps st0 (settleNow c s) := by
  unfold settleNow
  try dsimp only
  (repeat' split) <;> simp +contextual (maxDischargeDepth := 20) [*, -List.foldl_cons]

@[simp] theorem chanWrite_keeps {st0 : State} (r : Reg) (c : Nat) (v : Word) (s : State) (hk : Keeps st0 s) : Keeps st0 (chanWrite r c v s) := by
  unfold chanWrite
  try dsimp only
  (repeat' split) <;> simp +contextual (maxDischargeDepth := 20) [*, -List.foldl_cons]

@[simp] theorem workChanged_keeps {st0 : State} (g : Nat) (s : State) (hk : Keeps st0 s) : Keeps st0 (workChanged g s) := by
  unfold workChanged
  try dsimp only
  (repeat' split) <;> simp +contextual (maxDischargeDepth := 20) [*, -List.foldl_cons]

@[simp] theorem takeUp_keeps {st0 : State} (g : Nat) (s : State) (hk : Keeps st0 s) : Keeps st0 (takeUp g s) := by
  unfold takeUp
  try dsimp only
  (repeat' split) <;> simp +contextual (maxDischargeDepth := 20) [*, -List.foldl_cons]

@[simp] theorem dropSamples_keeps {st0 : State} (c : Nat) (s : State) (hk : Keeps st0 s) : Keeps st0 (dropSamples c s) := by
  unfold dropSamples
  try dsimp only
  (repeat' split) <;> simp +contextual (maxDischargeDepth := 20) [*, -List.foldl_cons]

@[simp] theorem chanOff_keeps {st0 : State} (c : Nat) (s : State) (hk : Keeps st0 s) : Keeps st0 (chanOff c s) := by
  unfold chanOff
  try dsimp only
  (repeat' split) <;> simp +contextual (maxDischargeDepth := 20) [*, -List.foldl_cons]

@[simp] theorem expectPoints_keeps {st0 : State} (c : Nat) (s : State) (hk : Keeps st0 s) : Keeps st0 (expectPoints c s) := by
  unfold expectPoints
  try dsimp only
  (repeat' split) <;> simp +contextual (maxDischargeDepth := 20) [*, -List.foldl_cons]

@[simp] theorem chanOpen_keeps {st0 : State} (c : Nat) (s : State) (hk : Keeps st0 s) : Keeps st0 (chanOpen c s) := by
  unfold chanOpen
  try dsimp only
  (repeat' split) <;> simp +contextual (maxDischargeDepth := 20) [*, -List.foldl_cons]

@[simp] theorem serviceOff_keeps {st0 : State} (c : Nat) (s : State) (hk : Keeps st0 s) : Keeps st0 (serviceOff c s) := by
  unfold serviceOff
  try dsimp only
  (repeat' split) <;> simp +contextual (maxDischargeDepth := 20) [*, -List.foldl_cons]

@[simp] theorem chanClose_keeps {st0 : State} (c : Nat) (s : State) (hk : Keeps st0 s) : Keeps st0 (chanClose c s) := by
  unfold chanClose
  try dsimp only
  (repeat' split) <;> simp +contextual (maxDischargeDepth := 20) [*, -List.foldl_cons]

@[simp] theorem chanHold_keeps {st0 : State} (c cause : Nat) (s : State) (hk : Keeps st0 s) : Keeps st0 (chanHold c cause s) := by
  unfold chanHold
  try dsimp only
  (repeat' split) <;> simp +contextual (maxDischargeDepth := 20) [*, -List.foldl_cons]

@[simp] theorem headStandby_keeps {st0 : State} (h : Nat) (s : State) (hk : Keeps st0 s) : Keeps st0 (headStandby h s) := by
  unfold headStandby
  try dsimp only
  (repeat' split) <;> simp +contextual (maxDischargeDepth := 20) [*, -List.foldl_cons]

@[simp] theorem headRuns_keeps {st0 : State} (h : Nat) (s : State) (hk : Keeps st0 s) : Keeps st0 (headRuns h s) := by
  unfold headRuns
  try dsimp only
  (repeat' split) <;> simp +contextual (maxDischargeDepth := 20) [*, -List.foldl_cons]

@[simp] theorem headGranted_keeps {st0 : State} (h : Nat) (s : State) (hk : Keeps st0 s) : Keeps st0 (headGranted h s) := by
  unfold headGranted
  try dsimp only
  (repeat' split) <;> simp +contextual (maxDischargeDepth := 20) [*, -List.foldl_cons]

@[simp] theorem holdExpiryOp_keeps {st0 : State} (c : Nat) (s : State) (hk : Keeps st0 s) : Keeps st0 (holdExpiryOp c s) := by
  unfold holdExpiryOp
  try dsimp only
  (repeat' split) <;> simp +contextual (maxDischargeDepth := 20) [*, -List.foldl_cons]

@[simp] theorem exclude_keeps {st0 : State} (c : Nat) (s : State) (hk : Keeps st0 s) : Keeps st0 (exclude c s) := by
  unfold exclude
  try dsimp only
  (repeat' split) <;> simp +contextual (maxDischargeDepth := 20) [*, -List.foldl_cons]

@[simp] theorem rampStepOp_keeps {st0 : State} (c : Nat) (s : State) (hk : Keeps st0 s) : Keeps st0 (rampStepOp c s) := by
  unfold rampStepOp
  try dsimp only
  (repeat' split) <;> simp +contextual (maxDischargeDepth := 20) [*, -List.foldl_cons]

@[simp] theorem excludeByCal_keeps {st0 : State} (c : Nat) (s : State) (hk : Keeps st0 s) : Keeps st0 (excludeByCal c s) := by
  unfold excludeByCal
  try dsimp only
  (repeat' split) <;> simp +contextual (maxDischargeDepth := 20) [*, -List.foldl_cons]

@[simp] theorem restoreByCal_keeps {st0 : State} (c : Nat) (s : State) (hk : Keeps st0 s) : Keeps st0 (restoreByCal c s) := by
  unfold restoreByCal
  try dsimp only
  (repeat' split) <;> simp +contextual (maxDischargeDepth := 20) [*, -List.foldl_cons]

@[simp] theorem restoreOp_keeps {st0 : State} (c : Nat) (s : State) (hk : Keeps st0 s) : Keeps st0 (restoreOp c s) := by
  unfold restoreOp
  try dsimp only
  (repeat' split) <;> simp +contextual (maxDischargeDepth := 20) [*, -List.foldl_cons]

@[simp] theorem chanEnOp_keeps {st0 : State} (c : Nat) (en : Bool) (s : State) (hk : Keeps st0 s) : Keeps st0 (chanEnOp c en s) := by
  unfold chanEnOp
  try dsimp only
  (repeat' split) <;> simp +contextual (maxDischargeDepth := 20) [*, -List.foldl_cons]

@[simp] theorem chanCtlOp_keeps {st0 : State} (c : Nat) (v : Word) (s : State) (hk : Keeps st0 s) : Keeps st0 (chanCtlOp c v s) := by
  unfold chanCtlOp
  try dsimp only
  (repeat' split) <;> simp +contextual (maxDischargeDepth := 20) [*, -List.foldl_cons]

@[simp] theorem notePulse_keeps {st0 : State} (c tier start d n : Nat) (s : State) (hk : Keeps st0 s) : Keeps st0 (notePulse c tier start d n s) := by
  unfold notePulse
  try dsimp only
  (repeat' split) <;> simp +contextual (maxDischargeDepth := 20) [*, -List.foldl_cons]

@[simp] theorem noteMiss_keeps {st0 : State} (c : Nat) (s : State) (hk : Keeps st0 s) : Keeps st0 (noteMiss c s) := by
  unfold noteMiss
  try dsimp only
  (repeat' split) <;> simp +contextual (maxDischargeDepth := 20) [*, -List.foldl_cons]

@[simp] theorem pointMissing_keeps {st0 : State} (c : Nat) (s : State) (hk : Keeps st0 s) : Keeps st0 (pointMissing c s) := by
  unfold pointMissing
  try dsimp only
  (repeat' split) <;> simp +contextual (maxDischargeDepth := 20) [*, -List.foldl_cons]

@[simp] theorem pointsMissing_keeps {st0 : State} (c n : Nat) (s : State) (hk : Keeps st0 s) : Keeps st0 (pointsMissing c n s) := by
  induction n generalizing s with
  | zero => exact hk
  | succ n ih =>
    refine ih _ ?_
    split <;> simp [hk]

@[simp] theorem holdGood_keeps {st0 : State} (c y1 : Nat) (s : State) (hk : Keeps st0 s) : Keeps st0 (holdGood c y1 s) := by
  unfold holdGood
  try dsimp only
  (repeat' split) <;> simp +contextual (maxDischargeDepth := 20) [*, -List.foldl_cons]

@[simp] theorem validSample_keeps {st0 : State} (c : Nat) (pt : Point) (seq y1 y2 : Nat) (s : State) (hk : Keeps st0 s) : Keeps st0 (validSample c pt seq y1 y2 s) := by
  unfold validSample
  try dsimp only
  (repeat' split) <;> simp +contextual (maxDischargeDepth := 20) [*, -List.foldl_cons]

@[simp] theorem expectedRecord_keeps {st0 : State} (c : Nat) (x : MonRec) (s : State) (hk : Keeps st0 s) : Keeps st0 (expectedRecord c x s) := by
  unfold expectedRecord
  try dsimp only
  (repeat' split) <;> simp +contextual (maxDischargeDepth := 20) [*, -List.foldl_cons]

@[simp] theorem recordIn_keeps {st0 : State} (c : Nat) (x : MonRec) (s : State) (hk : Keeps st0 s) : Keeps st0 (recordIn c x s) := by
  unfold recordIn
  try dsimp only
  (repeat' split) <;> simp +contextual (maxDischargeDepth := 20) [*, -List.foldl_cons]

@[simp] theorem monSampleOp_keeps {st0 : State} (p : Nat) (x0 : MonRec) (s : State) (hk : Keeps st0 s) : Keeps st0 (monSampleOp p x0 s) := by
  unfold monSampleOp
  try dsimp only
  (repeat' split) <;> simp +contextual (maxDischargeDepth := 20) [*, -List.foldl_cons]

@[simp] theorem arrivalTimeoutOp_keeps {st0 : State} (c : Nat) (s : State) (hk : Keeps st0 s) : Keeps st0 (arrivalTimeoutOp c s) := by
  unfold arrivalTimeoutOp
  try dsimp only
  (repeat' split) <;> simp +contextual (maxDischargeDepth := 20) [*, -List.foldl_cons]

@[simp] theorem sampleBoundaryOp_keeps {st0 : State} (s : State) (hk : Keeps st0 s) : Keeps st0 (sampleBoundaryOp s) := by
  unfold sampleBoundaryOp
  try dsimp only
  (repeat' split) <;> simp +contextual (maxDischargeDepth := 20) [*, -List.foldl_cons]

@[simp] theorem followCheck_keeps {st0 : State} (c : Nat) (f : Int) (s : State) (hk : Keeps st0 s) : Keeps st0 (followCheck c f s) := by
  unfold followCheck
  try dsimp only
  (repeat' split) <;> simp +contextual (maxDischargeDepth := 20) [*, -List.foldl_cons]

@[simp] theorem commitLoop_keeps {st0 : State} (q : Sample) (s : State) (hk : Keeps st0 s) : Keeps st0 (commitLoop q s) := by
  unfold commitLoop
  try dsimp only
  (repeat' split) <;> simp +contextual (maxDischargeDepth := 20) [*, -List.foldl_cons]

@[simp] theorem holdLoop_keeps {st0 : State} (q : Sample) (s : State) (hk : Keeps st0 s) : Keeps st0 (holdLoop q s) := by
  unfold holdLoop
  try dsimp only
  (repeat' split) <;> simp +contextual (maxDischargeDepth := 20) [*, -List.foldl_cons]

@[simp] theorem missDeadline_keeps {st0 : State} (c : Nat) (s : State) (hk : Keeps st0 s) : Keeps st0 (missDeadline c s) := by
  unfold missDeadline
  try dsimp only
  (repeat' split) <;> simp +contextual (maxDischargeDepth := 20) [*, -List.foldl_cons]

@[simp] theorem closedLoop_keeps {st0 : State} (q : Sample) (s : State) (hk : Keeps st0 s) : Keeps st0 (closedLoop q s) := by
  unfold closedLoop
  try dsimp only
  (repeat' split) <;> simp +contextual (maxDischargeDepth := 20) [*, -List.foldl_cons]

@[simp] theorem endLoop_keeps {st0 : State} (q : Sample) (s : State) (hk : Keeps st0 s) : Keeps st0 (endLoop q s) := by
  unfold endLoop
  try dsimp only
  (repeat' split) <;> simp +contextual (maxDischargeDepth := 20) [*, -List.foldl_cons]

@[simp] theorem loopCommitOp_keeps {st0 : State} (c lane : Nat) (s : State) (hk : Keeps st0 s) : Keeps st0 (loopCommitOp c lane s) := by
  unfold loopCommitOp
  try dsimp only
  (repeat' split) <;> simp +contextual (maxDischargeDepth := 20) [*, -List.foldl_cons]

@[simp] theorem driveWriteOp_keeps {st0 : State} (c t : Nat) (v : Word) (s : State) (hk : Keeps st0 s) : Keeps st0 (driveWriteOp c t v s) := by
  unfold driveWriteOp
  try dsimp only
  (repeat' split) <;> simp +contextual (maxDischargeDepth := 20) [*, -List.foldl_cons]

@[simp] theorem coefStoreOp_keeps {st0 : State} (v : Word) (s : State) (hk : Keeps st0 s) : Keeps st0 (coefStoreOp v s) := by
  unfold coefStoreOp
  try dsimp only
  (repeat' split) <;> simp +contextual (maxDischargeDepth := 20) [*, -List.foldl_cons]

@[simp] theorem engineLeaves_keeps {st0 : State} (s : State) (hk : Keeps st0 s) : Keeps st0 (engineLeaves s) := by
  unfold engineLeaves
  try dsimp only
  (repeat' split) <;> simp +contextual (maxDischargeDepth := 20) [*, -List.foldl_cons]

@[simp] theorem engineWrite_keeps {st0 : State} (v : Word) (s : State) (hk : Keeps st0 s) : Keeps st0 (engineWrite v s) := by
  unfold engineWrite
  try dsimp only
  (repeat' split) <;> simp +contextual (maxDischargeDepth := 20) [*, -List.foldl_cons]

@[simp] theorem lscCtlOp_keeps {st0 : State} (v : Word) (s : State) (hk : Keeps st0 s) : Keeps st0 (lscCtlOp v s) := by
  unfold lscCtlOp
  try dsimp only
  (repeat' split) <;> simp +contextual (maxDischargeDepth := 20) [*, -List.foldl_cons]

@[simp] theorem chanStatusOp_keeps {st0 : State} (c : Nat) (v : Word) (s : State) (hk : Keeps st0 s) : Keeps st0 (chanStatusOp c v s) := by
  unfold chanStatusOp
  try dsimp only
  (repeat' split) <;> simp +contextual (maxDischargeDepth := 20) [*, -List.foldl_cons]

@[simp] theorem spWriteOp_keeps {st0 : State} (c : Nat) (v : Word) (s : State) (hk : Keeps st0 s) : Keeps st0 (spWriteOp c v s) := by
  unfold spWriteOp
  try dsimp only
  (repeat' split) <;> simp +contextual (maxDischargeDepth := 20) [*, -List.foldl_cons]

@[simp] theorem lscCntClrOp_keeps {st0 : State} (v : Word) (s : State) (hk : Keeps st0 s) : Keeps st0 (lscCntClrOp v s) := by
  unfold lscCntClrOp
  try dsimp only
  (repeat' split) <;> simp +contextual (maxDischargeDepth := 20) [*, -List.foldl_cons]

@[simp] theorem ctxCapture_keeps {st0 : State} (s : State) (hk : Keeps st0 s) : Keeps st0 (ctxCapture s) := by
  unfold ctxCapture
  try dsimp only
  (repeat' split) <;> simp +contextual (maxDischargeDepth := 20) [*, -List.foldl_cons]

end Sys2Proof.Machine
end

