-- ==== Sys2Proof/Laws/KeepsPcal.lean ====
section
/-!
SUPPORT. Every operation of Sys2Proof/Machine/Pcal.lean keeps what `Keeps` names.
-/
namespace Sys2Proof.Machine

@[simp] theorem modPcal_keeps {st0 : State} (s : State) (p : Nat) (f : PortCal → PortCal) (hk : Keeps st0 s) : Keeps st0 (State.modPcal s p f) := by
  unfold State.modPcal
  try dsimp only
  (repeat' split) <;> simp +contextual (maxDischargeDepth := 20) [*, -List.foldl_cons]

@[simp] theorem sendEcho_keeps {st0 : State} (p : Nat) (s : State) (hk : Keeps st0 s) : Keeps st0 (sendEcho p s) := by
  unfold sendEcho
  try dsimp only
  (repeat' split) <;> simp +contextual (maxDischargeDepth := 20) [*, -List.foldl_cons]

@[simp] theorem calStart_keeps {st0 : State} (p : Nat) (s : State) (hk : Keeps st0 s) : Keeps st0 (calStart p s) := by
  unfold calStart
  try dsimp only
  (repeat' split) <;> simp +contextual (maxDischargeDepth := 20) [*, -List.foldl_cons]

@[simp] theorem calUnitsOut_keeps {st0 : State} (p status : Nat) (s : State) (hk : Keeps st0 s) : Keeps st0 (calUnitsOut p status s) := by
  unfold calUnitsOut
  try dsimp only
  (repeat' split) <;> simp +contextual (maxDischargeDepth := 20) [*, -List.foldl_cons]

@[simp] theorem calUnitsBack_keeps {st0 : State} (p : Nat) (s : State) (hk : Keeps st0 s) : Keeps st0 (calUnitsBack p s) := by
  unfold calUnitsBack
  try dsimp only
  (repeat' split) <;> simp +contextual (maxDischargeDepth := 20) [*, -List.foldl_cons]

@[simp] theorem calFail_keeps {st0 : State} (p status : Nat) (s : State) (hk : Keeps st0 s) : Keeps st0 (calFail p status s) := by
  unfold calFail
  try dsimp only
  (repeat' split) <;> simp +contextual (maxDischargeDepth := 20) [*, -List.foldl_cons]

@[simp] theorem calTimeSet_keeps {st0 : State} (p : Nat) (s : State) (hk : Keeps st0 s) : Keeps st0 (calTimeSet p s) := by
  unfold calTimeSet
  try dsimp only
  (repeat' split) <;> simp +contextual (maxDischargeDepth := 20) [*, -List.foldl_cons]

@[simp] theorem calReport_keeps {st0 : State} (p : Nat) (s : State) (hk : Keeps st0 s) : Keeps st0 (calReport p s) := by
  unfold calReport
  try dsimp only
  (repeat' split) <;> simp +contextual (maxDischargeDepth := 20) [*, -List.foldl_cons]

@[simp] theorem calMeasured_keeps {st0 : State} (p : Nat) (s : State) (hk : Keeps st0 s) : Keeps st0 (calMeasured p s) := by
  unfold calMeasured
  try dsimp only
  (repeat' split) <;> simp +contextual (maxDischargeDepth := 20) [*, -List.foldl_cons]

@[simp] theorem calMeasure_keeps {st0 : State} (p t0 t1 : Nat) (replayed : Bool) (s : State) (hk : Keeps st0 s) : Keeps st0 (calMeasure p t0 t1 replayed s) := by
  unfold calMeasure
  try dsimp only
  (repeat' split) <;> simp +contextual (maxDischargeDepth := 20) [*, -List.foldl_cons]

@[simp] theorem calVerify_keeps {st0 : State} (p t0 counter : Nat) (replayed : Bool) (s : State) (hk : Keeps st0 s) : Keeps st0 (calVerify p t0 counter replayed s) := by
  unfold calVerify
  try dsimp only
  (repeat' split) <;> simp +contextual (maxDischargeDepth := 20) [*, -List.foldl_cons]

@[simp] theorem echoReplyOp_keeps {st0 : State} (p tag0 t0 t1 counter0 : Nat) (replayed : Bool) (s : State) (hk : Keeps st0 s) : Keeps st0 (echoReplyOp p tag0 t0 t1 counter0 replayed s) := by
  unfold echoReplyOp
  try dsimp only
  (repeat' split) <;> simp +contextual (maxDischargeDepth := 20) [*, -List.foldl_cons]

@[simp] theorem echoNoReplyOp_keeps {st0 : State} (p : Nat) (s : State) (hk : Keeps st0 s) : Keeps st0 (echoNoReplyOp p s) := by
  unfold echoNoReplyOp
  try dsimp only
  (repeat' split) <;> simp +contextual (maxDischargeDepth := 20) [*, -List.foldl_cons]

@[simp] theorem calDeferred_keeps {st0 : State} (h : Nat) (s : State) (hk : Keeps st0 s) : Keeps st0 (calDeferred h s) := by
  unfold calDeferred
  try dsimp only
  (repeat' split) <;> simp +contextual (maxDischargeDepth := 20) [*, -List.foldl_cons]

@[simp] theorem calPortUp_keeps {st0 : State} (p : Nat) (s : State) (hk : Keeps st0 s) : Keeps st0 (calPortUp p s) := by
  unfold calPortUp
  try dsimp only
  (repeat' split) <;> simp +contextual (maxDischargeDepth := 20) [*, -List.foldl_cons]

@[simp] theorem lteCalOp_keeps {st0 : State} (p : Nat) (v : Word) (s : State) (hk : Keeps st0 s) : Keeps st0 (lteCalOp p v s) := by
  unfold lteCalOp
  try dsimp only
  (repeat' split) <;> simp +contextual (maxDischargeDepth := 20) [*, -List.foldl_cons]

@[simp] theorem pnlCalOp_keeps {st0 : State} (p : Nat) (v : Word) (s : State) (hk : Keeps st0 s) : Keeps st0 (pnlCalOp p v s) := by
  unfold pnlCalOp
  try dsimp only
  (repeat' split) <;> simp +contextual (maxDischargeDepth := 20) [*, -List.foldl_cons]

end Sys2Proof.Machine
end

