-- ==== Sys2Proof/Laws/KeepsLte.lean ====
section
/-!
SUPPORT. Every operation of Sys2Proof/Machine/Lte.lean keeps what `Keeps` names.
-/
namespace Sys2Proof.Machine

@[simp] theorem lteBudget_keeps {st0 : State} (p : Nat) (s : State) (hk : Keeps st0 s) : Keeps st0 (lteBudget p s) := by
  unfold lteBudget
  try dsimp only
  (repeat' split) <;> simp +contextual (maxDischargeDepth := 20) [*, -List.foldl_cons]

@[simp] theorem toArrays_keeps {st0 : State} (h : Nat) (bytes : List Byte) (s : State) (hk : Keeps st0 s) : Keeps st0 (toArrays h bytes s) := by
  unfold toArrays
  try dsimp only
  (repeat' split) <;> simp +contextual (maxDischargeDepth := 20) [*, -List.foldl_cons]

@[simp] theorem parkAll_keeps {st0 : State} (h t : Nat) (s : State) (hk : Keeps st0 s) : Keeps st0 (parkAll h t s) := by
  unfold parkAll
  try dsimp only
  (repeat' split) <;> simp +contextual (maxDischargeDepth := 20) [*, -List.foldl_cons]

@[simp] theorem sendPlane_keeps {st0 : State} (h num a j : Nat) (s : State) (hk : Keeps st0 s) : Keeps st0 (sendPlane h num a j s) := by
  unfold sendPlane
  try dsimp only
  (repeat' split) <;> simp +contextual (maxDischargeDepth := 20) [*, -List.foldl_cons]

@[simp] theorem modDispFor_keeps {st0 : State} (h j : Nat) (f : Disp → Disp) (s : State) (hk : Keeps st0 s) : Keeps st0 (modDispFor h j f s) := by
  unfold modDispFor
  try dsimp only
  (repeat' split) <;> simp +contextual (maxDischargeDepth := 20) [*, -List.foldl_cons]

@[simp] theorem windowOpenOp_keeps {st0 : State} (h j : Nat) (s : State) (hk : Keeps st0 s) : Keeps st0 (windowOpenOp h j s) := by
  unfold windowOpenOp
  try dsimp only
  (repeat' split) <;> simp +contextual (maxDischargeDepth := 20) [*, -List.foldl_cons]

@[simp] theorem reportBreach_keeps {st0 : State} (h buf carried : Nat) (s : State) (hk : Keeps st0 s) : Keeps st0 (reportBreach h buf carried s) := by
  unfold reportBreach
  try dsimp only
  (repeat' split) <;> simp +contextual (maxDischargeDepth := 20) [*, -List.foldl_cons]

@[simp] theorem dropPlanes_keeps {st0 : State} (h : Nat) (p : Nat → Bool) (s : State) (hk : Keeps st0 s) : Keeps st0 (dropPlanes h p s) := by
  unfold dropPlanes
  try dsimp only
  (repeat' split) <;> simp +contextual (maxDischargeDepth := 20) [*, -List.foldl_cons]

@[simp] theorem planeBreach_keeps {st0 : State} (h slot : Nat) (t : Option Nat) (d : Disp) (upd : (Disp → Disp) → State → State) (s : State)
    (hupd : ∀ a v, Keeps st0 v → Keeps st0 (upd a v)) (hk : Keeps st0 s) : Keeps st0 (planeBreach h slot t d upd s) := by
  unfold planeBreach
  try dsimp only
  (repeat' split) <;> simp +contextual (maxDischargeDepth := 20) [*, -List.foldl_cons]

@[simp] theorem windowCloseOp_keeps {st0 : State} (h j : Nat) (sent : Bool) (s : State) (hk : Keeps st0 s) : Keeps st0 (windowCloseOp h j sent s) := by
  unfold windowCloseOp
  try dsimp only
  (repeat' split) <;> simp +contextual (maxDischargeDepth := 20) [*, -List.foldl_cons]

@[simp] theorem sendPulse_keeps {st0 : State} (h t : Nat) (v : SMap Word) (w : Word) (d : Nat × Nat) (s : State) (hk : Keeps st0 s) : Keeps st0 (sendPulse h t v w d s) := by
  unfold sendPulse
  try dsimp only
  (repeat' split) <;> simp +contextual (maxDischargeDepth := 20) [*, -List.foldl_cons]

@[simp] theorem driveItem_keeps {st0 : State} (h num c : Nat) (codes : List Nat) (s : State) (hk : Keeps st0 s) : Keeps st0 (driveItem h num c codes s) := by
  unfold driveItem
  try dsimp only
  (repeat' split) <;> simp +contextual (maxDischargeDepth := 20) [*, -List.foldl_cons]

@[simp] theorem driveItems_keeps {st0 : State} (h num : Nat) (s : State) (hk : Keeps st0 s) : Keeps st0 (driveItems h num s) := by
  unfold driveItems
  try dsimp only
  (repeat' split) <;> simp +contextual (maxDischargeDepth := 20) [*, -List.foldl_cons]

@[simp] theorem startDisplay_keeps {st0 : State} (h j : Nat) (s : State) (hk : Keeps st0 s) : Keeps st0 (startDisplay h j s) := by
  unfold startDisplay
  try dsimp only
  (repeat' split) <;> simp +contextual (maxDischargeDepth := 20) [*, -List.foldl_cons]

@[simp] theorem modOnScreen_keeps {st0 : State} (h : Nat) (f : Disp → Disp) (s : State) (hk : Keeps st0 s) : Keeps st0 (modOnScreen h f s) := by
  unfold modOnScreen
  try dsimp only
  (repeat' split) <;> simp +contextual (maxDischargeDepth := 20) [*, -List.foldl_cons]

@[simp] theorem pulseIssueOp_keeps {st0 : State} (h j : Nat) (s : State) (hk : Keeps st0 s) : Keeps st0 (pulseIssueOp h j s) := by
  unfold pulseIssueOp
  try dsimp only
  (repeat' split) <;> simp +contextual (maxDischargeDepth := 20) [*, -List.foldl_cons]

@[simp] theorem lteHold_keeps {st0 : State} (h : Nat) (s : State) (hk : Keeps st0 s) : Keeps st0 (lteHold h s) := by
  unfold lteHold
  try dsimp only
  (repeat' split) <;> simp +contextual (maxDischargeDepth := 20) [*, -List.foldl_cons]

@[simp] theorem lateBreach_keeps {st0 : State} (h : Nat) (s : State) (hk : Keeps st0 s) : Keeps st0 (lateBreach h s) := by
  unfold lateBreach
  try dsimp only
  (repeat' split) <;> simp +contextual (maxDischargeDepth := 20) [*, -List.foldl_cons]

@[simp] theorem lteReport_keeps {st0 : State} (h p detail : Nat) (late : Bool) (s : State) (hk : Keeps st0 s) : Keeps st0 (lteReport h p detail late s) := by
  unfold lteReport
  try dsimp only
  (repeat' split) <;> simp +contextual (maxDischargeDepth := 20) [*, -List.foldl_cons]

@[simp] theorem invalidResponse_keeps {st0 : State} (blk p opcode : Nat) (s : State) (hk : Keeps st0 s) : Keeps st0 (invalidResponse blk p opcode s) := by
  unfold invalidResponse
  try dsimp only
  (repeat' split) <;> simp +contextual (maxDischargeDepth := 20) [*, -List.foldl_cons]

@[simp] theorem lteEvent_keeps {st0 : State} (mine : Nat → Bool) (p code detail : Nat) (s : State) (hk : Keeps st0 s) : Keeps st0 (lteEvent mine p code detail s) := by
  unfold lteEvent
  try dsimp only
  (repeat' split) <;> simp +contextual (maxDischargeDepth := 20) [*, -List.foldl_cons]

@[simp] theorem lteHCntClrOp_keeps {st0 : State} (h : Nat) (v : Word) (s : State) (hk : Keeps st0 s) : Keeps st0 (lteHCntClrOp h v s) := by
  unfold lteHCntClrOp
  try dsimp only
  (repeat' split) <;> simp +contextual (maxDischargeDepth := 20) [*, -List.foldl_cons]

end Sys2Proof.Machine
end

