-- ==== Sys2Proof/Laws/KeepsPnl.lean ====
section
/-!
SUPPORT. Every operation of Sys2Proof/Machine/Pnl.lean keeps what `Keeps` names.
-/
namespace Sys2Proof.Machine

@[simp] theorem pnlGrant_keeps {st0 : State} (h : Nat) (s : State) (hk : Keeps st0 s) : Keeps st0 (pnlGrant h s) := by
  unfold pnlGrant
  try dsimp only
  (repeat' split) <;> simp +contextual (maxDischargeDepth := 20) [*, -List.foldl_cons]

@[simp] theorem pnlFlagEvent_keeps {st0 : State} (h b arg1 : Nat) (s : State) (hk : Keeps st0 s) : Keeps st0 (pnlFlagEvent h b arg1 s) := by
  unfold pnlFlagEvent
  try dsimp only
  (repeat' split) <;> simp +contextual (maxDischargeDepth := 20) [*, -List.foldl_cons]

@[simp] theorem pnlBudget_keeps {st0 : State} (p : Nat) (s : State) (hk : Keeps st0 s) : Keeps st0 (pnlBudget p s) := by
  unfold pnlBudget
  try dsimp only
  (repeat' split) <;> simp +contextual (maxDischargeDepth := 20) [*, -List.foldl_cons]

@[simp] theorem panelLine_keeps {st0 : State} (h y : Nat) (s : State) (hk : Keeps st0 s) : Keeps st0 (panelLine h y s) := by
  unfold panelLine
  try dsimp only
  (repeat' split) <;> simp +contextual (maxDischargeDepth := 20) [*, -List.foldl_cons]

@[simp] theorem toColumns_keeps {st0 : State} (h : Nat) (bytes : Nat → Nat → List Byte) (s : State) (hk : Keeps st0 s) : Keeps st0 (toColumns h bytes s) := by
  unfold toColumns
  try dsimp only
  (repeat' split) <;> simp +contextual (maxDischargeDepth := 20) [*, -List.foldl_cons]

@[simp] theorem blankAll_keeps {st0 : State} (h t : Nat) (s : State) (hk : Keeps st0 s) : Keeps st0 (blankAll h t s) := by
  unfold blankAll
  try dsimp only
  (repeat' split) <;> simp +contextual (maxDischargeDepth := 20) [*, -List.foldl_cons]

@[simp] theorem pnlHold_keeps {st0 : State} (h : Nat) (s : State) (hk : Keeps st0 s) : Keeps st0 (pnlHold h s) := by
  unfold pnlHold
  try dsimp only
  (repeat' split) <;> simp +contextual (maxDischargeDepth := 20) [*, -List.foldl_cons]

@[simp] theorem pnlOff_keeps {st0 : State} (h : Nat) (s : State) (hk : Keeps st0 s) : Keeps st0 (pnlOff h s) := by
  unfold pnlOff
  try dsimp only
  (repeat' split) <;> simp +contextual (maxDischargeDepth := 20) [*, -List.foldl_cons]

@[simp] theorem modFrame_keeps {st0 : State} (h : Nat) (past : Bool) (f : Frame → Frame) (s : State) (hk : Keeps st0 s) : Keeps st0 (modFrame h past f s) := by
  unfold modFrame
  try dsimp only
  (repeat' split) <;> simp +contextual (maxDischargeDepth := 20) [*, -List.foldl_cons]

@[simp] theorem rowIssueOp_keeps {st0 : State} (h line : Nat) (s : State) (hk : Keeps st0 s) : Keeps st0 (rowIssueOp h line s) := by
  unfold rowIssueOp
  try dsimp only
  (repeat' split) <;> simp +contextual (maxDischargeDepth := 20) [*, -List.foldl_cons]

@[simp] theorem sendRow_keeps {st0 : State} (h num row dp w : Nat) (codes : List Px) (s : State) (hk : Keeps st0 s) : Keeps st0 (sendRow h num row dp w codes s) := by
  unfold sendRow
  try dsimp only
  (repeat' split) <;> simp +contextual (maxDischargeDepth := 20) [*, -List.foldl_cons]

@[simp] theorem lineDataOp_keeps {st0 : State} (h line : Nat) (s : State) (hk : Keeps st0 s) : Keeps st0 (lineDataOp h line s) := by
  unfold lineDataOp
  try dsimp only
  (repeat' split) <;> simp +contextual (maxDischargeDepth := 20) [*, -List.foldl_cons]

@[simp] theorem dropHistory_keeps {st0 : State} (h : Nat) (f : Frame) (s : State) (hk : Keeps st0 s) : Keeps st0 (dropHistory h f s) := by
  unfold dropHistory
  try dsimp only
  (repeat' split) <;> simp +contextual (maxDischargeDepth := 20) [*, -List.foldl_cons]

@[simp] theorem dropLines_keeps {st0 : State} (h num : Nat) (s : State) (hk : Keeps st0 s) : Keeps st0 (dropLines h num s) := by
  unfold dropLines
  try dsimp only
  (repeat' split) <;> simp +contextual (maxDischargeDepth := 20) [*, -List.foldl_cons]

@[simp] theorem lineLatchOp_keeps {st0 : State} (h row : Nat) (sent : Bool) (s : State) (hk : Keeps st0 s) : Keeps st0 (lineLatchOp h row sent s) := by
  unfold lineLatchOp
  try dsimp only
  (repeat' split) <;> simp +contextual (maxDischargeDepth := 20) [*, -List.foldl_cons]

@[simp] theorem panelBlankRest_keeps {st0 : State} (h : Nat) (s : State) (hk : Keeps st0 s) : Keeps st0 (panelBlankRest h s) := by
  unfold panelBlankRest
  try dsimp only
  (repeat' split) <;> simp +contextual (maxDischargeDepth := 20) [*, -List.foldl_cons]

@[simp] theorem pnlCommit_keeps {st0 : State} (h : Nat) (f : Frame) (s : State) (hk : Keeps st0 s) : Keeps st0 (pnlCommit h f s) := by
  unfold pnlCommit
  try dsimp only
  (repeat' split) <;> simp +contextual (maxDischargeDepth := 20) [*, -List.foldl_cons]

@[simp] theorem srWriteOp_keeps {st0 : State} (h : Nat) (v : Word) (s : State) (hk : Keeps st0 s) : Keeps st0 (srWriteOp h v s) := by
  unfold srWriteOp
  try dsimp only
  (repeat' split) <;> simp +contextual (maxDischargeDepth := 20) [*, -List.foldl_cons]

@[simp] theorem srBoundary_keeps {st0 : State} (h n : Nat) (commit : Bool) (s : State) (hk : Keeps st0 s) : Keeps st0 (srBoundary h n commit s) := by
  unfold srBoundary
  try dsimp only
  (repeat' split) <;> simp +contextual (maxDischargeDepth := 20) [*, -List.foldl_cons]

@[simp] theorem idleCount_keeps {st0 : State} (h : Nat) (f : Frame) (s : State) (hk : Keeps st0 s) : Keeps st0 (idleCount h f s) := by
  unfold idleCount
  try dsimp only
  (repeat' split) <;> simp +contextual (maxDischargeDepth := 20) [*, -List.foldl_cons]

@[simp] theorem tempBoundary_keeps {st0 : State} (h : Nat) (s : State) (hk : Keeps st0 s) : Keeps st0 (tempBoundary h s) := by
  unfold tempBoundary
  try dsimp only
  (repeat' split) <;> simp +contextual (maxDischargeDepth := 20) [*, -List.foldl_cons]

@[simp] theorem tempReplyOp_keeps {st0 : State} (h : Nat) (reply : Option (List Byte)) (s : State) (hk : Keeps st0 s) : Keeps st0 (tempReplyOp h reply s) := by
  unfold tempReplyOp
  try dsimp only
  (repeat' split) <;> simp +contextual (maxDischargeDepth := 20) [*, -List.foldl_cons]

@[simp] theorem pnlReport_keeps {st0 : State} (h p : Nat) (late : Bool) (s : State) (hk : Keeps st0 s) : Keeps st0 (pnlReport h p late s) := by
  unfold pnlReport
  try dsimp only
  (repeat' split) <;> simp +contextual (maxDischargeDepth := 20) [*, -List.foldl_cons]

@[simp] theorem pnlEvent_keeps {st0 : State} (mine : Nat → Bool) (p code detail : Nat) (s : State) (hk : Keeps st0 s) : Keeps st0 (pnlEvent mine p code detail s) := by
  unfold pnlEvent
  try dsimp only
  (repeat' split) <;> simp +contextual (maxDischargeDepth := 20) [*, -List.foldl_cons]

@[simp] theorem peripheralOp_keeps {st0 : State} (p opcode0 code0 detail0 counter0 : Nat) (s : State) (hk : Keeps st0 s) : Keeps st0 (peripheralOp p opcode0 code0 detail0 counter0 s) := by
  unfold peripheralOp
  try dsimp only
  (repeat' split) <;> simp +contextual (maxDischargeDepth := 20) [*, -List.foldl_cons]

@[simp] theorem odStoreOp_keeps {st0 : State} (h : Nat) (v : Word) (s : State) (hk : Keeps st0 s) : Keeps st0 (odStoreOp h v s) := by
  unfold odStoreOp
  try dsimp only
  (repeat' split) <;> simp +contextual (maxDischargeDepth := 20) [*, -List.foldl_cons]

@[simp] theorem odStageOp_keeps {st0 : State} (h c : Nat) (v : Word) (s : State) (hk : Keeps st0 s) : Keeps st0 (odStageOp h c v s) := by
  unfold odStageOp
  try dsimp only
  (repeat' split) <;> simp +contextual (maxDischargeDepth := 20) [*, -List.foldl_cons]

@[simp] theorem pnlHCntClrOp_keeps {st0 : State} (h : Nat) (v : Word) (s : State) (hk : Keeps st0 s) : Keeps st0 (pnlHCntClrOp h v s) := by
  unfold pnlHCntClrOp
  try dsimp only
  (repeat' split) <;> simp +contextual (maxDischargeDepth := 20) [*, -List.foldl_cons]

end Sys2Proof.Machine
end

