-- ==== Sys2Proof/Laws/KeepsCmp.lean ====
section
/-!
SUPPORT. Every operation of Sys2Proof/Machine/Cmp.lean keeps what `Keeps` names.
-/
namespace Sys2Proof.Machine

@[simp] theorem cmpCheckFailed_keeps {st0 : State} (h : Nat) (x : Nat × Nat × Nat × Nat) (s : State) (hk : Keeps st0 s) : Keeps st0 (cmpCheckFailed h x s) := by
  unfold cmpCheckFailed
  try dsimp only
  (repeat' split) <;> simp +contextual (maxDischargeDepth := 20) [*, -List.foldl_cons]

@[simp] theorem latchLayers_keeps {st0 : State} (h : Nat) (s : State) (hk : Keeps st0 s) : Keeps st0 (latchLayers h s).2 := by
  unfold latchLayers
  try dsimp only
  (repeat' split) <;> simp +contextual (maxDischargeDepth := 20) [*, -List.foldl_cons]

@[simp] theorem fetchFaultOp_keeps {st0 : State} (h l polder page : Nat) (s : State) (hk : Keeps st0 s) : Keeps st0 (fetchFaultOp h l polder page s) := by
  unfold fetchFaultOp
  try dsimp only
  (repeat' split) <;> simp +contextual (maxDischargeDepth := 20) [*, -List.foldl_cons]

@[simp] theorem cmpHCntClrOp_keeps {st0 : State} (h : Nat) (v : Word) (s : State) (hk : Keeps st0 s) : Keeps st0 (cmpHCntClrOp h v s) := by
  unfold cmpHCntClrOp
  try dsimp only
  (repeat' split) <;> simp +contextual (maxDischargeDepth := 20) [*, -List.foldl_cons]

end Sys2Proof.Machine
end

