-- ==== Sys2Proof/Laws/KeepsOuter.lean ====
section
/-!
SUPPORT. Every operation of Sys2Proof/Machine/Outer.lean keeps what `Keeps` names.
-/
namespace Sys2Proof.Machine

@[simp] theorem modSlot_keeps {st0 : State} (s : State) (k : Nat) (f : Slot → Slot) (hk : Keeps st0 s) : Keeps st0 (State.modSlot s k f) := by
  unfold State.modSlot
  try dsimp only
  (repeat' split) <;> simp +contextual (maxDischargeDepth := 20) [*, -List.foldl_cons]

@[simp] theorem outerFlag_keeps {st0 : State} (h b : Nat) (s : State) (hk : Keeps st0 s) : Keeps st0 (outerFlag h b s) := by
  unfold outerFlag
  try dsimp only
  (repeat' split) <;> simp +contextual (maxDischargeDepth := 20) [*, -List.foldl_cons]

@[simp] theorem stageGroup_keeps {st0 : State} (g factor dim : Nat) (s : State) (hk : Keeps st0 s) : Keeps st0 (stageGroup g factor dim s) := by
  unfold stageGroup
  try dsimp only
  (repeat' split) <;> simp +contextual (maxDischargeDepth := 20) [*, -List.foldl_cons]

@[simp] theorem noteDim_keeps {st0 : State} (h : Nat) (s : State) (hk : Keeps st0 s) : Keeps st0 (noteDim h s) := by
  unfold noteDim
  try dsimp only
  (repeat' split) <;> simp +contextual (maxDischargeDepth := 20) [*, -List.foldl_cons]

@[simp] theorem measurePosition_keeps {st0 : State} (h dim a : Nat) (fresh : List Nat) (integ : Bool) (s : State) (x : Nat × Nat) (hk : Keeps st0 s) : Keeps st0 (measurePosition h dim a fresh integ s x) := by
  unfold measurePosition
  try dsimp only
  (repeat' split) <;> simp +contextual (maxDischargeDepth := 20) [*, -List.foldl_cons]

@[simp] theorem phaseAfter_keeps {st0 : State} (h : Nat) (s : State) (hk : Keeps st0 s) : Keeps st0 (phaseAfter h s) := by
  unfold phaseAfter
  try dsimp only
  (repeat' split) <;> simp +contextual (maxDischargeDepth := 20) [*, -List.foldl_cons]

@[simp] theorem stageHead_keeps {st0 : State} (h dim : Nat) (s : State) (hk : Keeps st0 s) : Keeps st0 (stageHead h dim s) := by
  unfold stageHead
  try dsimp only
  (repeat' split) <;> simp +contextual (maxDischargeDepth := 20) [*, -List.foldl_cons]

@[simp] theorem outerCompute_keeps {st0 : State} (h : Nat) (s : State) (hk : Keeps st0 s) : Keeps st0 (outerCompute h s) := by
  unfold outerCompute
  try dsimp only
  (repeat' split) <;> simp +contextual (maxDischargeDepth := 20) [*, -List.foldl_cons]

@[simp] theorem sensorRead_keeps {st0 : State} (h k : Nat) (s : State) (hk : Keeps st0 s) : Keeps st0 (sensorRead h k s) := by
  unfold sensorRead
  try dsimp only
  (repeat' split) <;> simp +contextual (maxDischargeDepth := 20) [*, -List.foldl_cons]

@[simp] theorem outerSample_keeps {st0 : State} (h : Nat) (s : State) (hk : Keeps st0 s) : Keeps st0 (outerSample h s) := by
  unfold outerSample
  try dsimp only
  (repeat' split) <;> simp +contextual (maxDischargeDepth := 20) [*, -List.foldl_cons]

@[simp] theorem outerBoundary_keeps {st0 : State} (h : Nat) (s0 : State) (hk : Keeps st0 s0) : Keeps st0 (outerBoundary h s0) := by
  unfold outerBoundary
  try dsimp only
  (repeat' split) <;> simp +contextual (maxDischargeDepth := 20) [*, -List.foldl_cons]

@[simp] theorem slotOutcome_keeps {st0 : State} (h k : Nat) (reply : Option (List Byte)) (s : State) (hk : Keeps st0 s) : Keeps st0 (slotOutcome h k reply s) := by
  unfold slotOutcome
  try dsimp only
  (repeat' split) <;> simp +contextual (maxDischargeDepth := 20) [*, -List.foldl_cons]

@[simp] theorem sensorReplyOp_keeps {st0 : State} (k : Nat) (reply : Option (List Byte)) (s : State) (hk : Keeps st0 s) : Keeps st0 (sensorReplyOp k reply s) := by
  unfold sensorReplyOp
  try dsimp only
  (repeat' split) <;> simp +contextual (maxDischargeDepth := 20) [*, -List.foldl_cons]

@[simp] theorem readWindowOp_keeps {st0 : State} (h : Nat) (s : State) (hk : Keeps st0 s) : Keeps st0 (readWindowOp h s) := by
  unfold readWindowOp
  try dsimp only
  (repeat' split) <;> simp +contextual (maxDischargeDepth := 20) [*, -List.foldl_cons]

@[simp] theorem modeTo_keeps {st0 : State} (h mode : Nat) (s : State) (hk : Keeps st0 s) : Keeps st0 (modeTo h mode s) := by
  unfold modeTo
  try dsimp only
  (repeat' split) <;> simp +contextual (maxDischargeDepth := 20) [*, -List.foldl_cons]

@[simp] theorem outerCtlOp_keeps {st0 : State} (h : Nat) (v : Word) (s : State) (hk : Keeps st0 s) : Keeps st0 (outerCtlOp h v s) := by
  unfold outerCtlOp
  try dsimp only
  (repeat' split) <;> simp +contextual (maxDischargeDepth := 20) [*, -List.foldl_cons]

@[simp] theorem lscOCntClrOp_keeps {st0 : State} (h : Nat) (v : Word) (s : State) (hk : Keeps st0 s) : Keeps st0 (lscOCntClrOp h v s) := by
  unfold lscOCntClrOp
  try dsimp only
  (repeat' split) <;> simp +contextual (maxDischargeDepth := 20) [*, -List.foldl_cons]

end Sys2Proof.Machine
end

