-- ==== Sys2Proof/Laws/KeepsTim.lean ====
section
/-!
SUPPORT. Every operation of Sys2Proof/Machine/Tim.lean keeps what `Keeps` names.
-/
namespace Sys2Proof.Machine

@[simp] theorem modDom_keeps {st0 : State} (s : State) (d : Nat) (f : TimDom → TimDom) (hk : Keeps st0 s) : Keeps st0 (State.modDom s d f) := by
  unfold State.modDom
  try dsimp only
  (repeat' split) <;> simp +contextual (maxDischargeDepth := 20) [*, -List.foldl_cons]

@[simp] theorem modOut_keeps {st0 : State} (s : State) (k : Nat) (f : PulseOut → PulseOut) (hk : Keeps st0 s) : Keeps st0 (State.modOut s k f) := by
  unfold State.modOut
  try dsimp only
  (repeat' split) <;> simp +contextual (maxDischargeDepth := 20) [*, -List.foldl_cons]

@[simp] theorem setAddend_keeps {st0 : State} (a : Nat) (s : State) (hk : Keeps st0 s) : Keeps st0 (setAddend a s) := by
  unfold setAddend
  try dsimp only
  (repeat' split) <;> simp +contextual (maxDischargeDepth := 20) [*, -List.foldl_cons]

@[simp] theorem timFlag_keeps {st0 : State} (b unit : Nat) (s : State) (hk : Keeps st0 s) : Keeps st0 (timFlag b unit s) := by
  unfold timFlag
  try dsimp only
  (repeat' split) <;> simp +contextual (maxDischargeDepth := 20) [*, -List.foldl_cons]

@[simp] theorem domTo_keeps {st0 : State} (d st : Nat) (s : State) (hk : Keeps st0 s) : Keeps st0 (domTo d st s) := by
  unfold domTo
  try dsimp only
  (repeat' split) <;> simp +contextual (maxDischargeDepth := 20) [*, -List.foldl_cons]

@[simp] theorem takeOver_keeps {st0 : State} (d : Nat) (s : State) (hk : Keeps st0 s) : Keeps st0 (takeOver d s) := by
  unfold takeOver
  try dsimp only
  (repeat' split) <;> simp +contextual (maxDischargeDepth := 20) [*, -List.foldl_cons]

@[simp] theorem switchTo_keeps {st0 : State} (d : Nat) (s : State) (hk : Keeps st0 s) : Keeps st0 (switchTo d s) := by
  unfold switchTo
  try dsimp only
  (repeat' split) <;> simp +contextual (maxDischargeDepth := 20) [*, -List.foldl_cons]

@[simp] theorem skipTargets_keeps {st0 : State} (k : Nat) (new : Int) (s : State) (hk : Keeps st0 s) : Keeps st0 (skipTargets k new s) := by
  unfold skipTargets
  try dsimp only
  (repeat' split) <;> simp +contextual (maxDischargeDepth := 20) [*, -List.foldl_cons]

@[simp] theorem stepClock_keeps {st0 : State} (o : Int) (s : State) (hk : Keeps st0 s) : Keeps st0 (stepClock o s) := by
  unfold stepClock
  try dsimp only
  (repeat' split) <;> simp +contextual (maxDischargeDepth := 20) [*, -List.foldl_cons]

@[simp] theorem stepAndSelect_keeps {st0 : State} (d : Nat) (s : State) (hk : Keeps st0 s) : Keeps st0 (stepAndSelect d s) := by
  unfold stepAndSelect
  try dsimp only
  (repeat' split) <;> simp +contextual (maxDischargeDepth := 20) [*, -List.foldl_cons]

@[simp] theorem timSelect_keeps {st0 : State} (s : State) (hk : Keeps st0 s) : Keeps st0 (timSelect s) := by
  unfold timSelect
  try dsimp only
  (repeat' split) <;> simp +contextual (maxDischargeDepth := 20) [*, -List.foldl_cons]

@[simp] theorem suspectCheck_keeps {st0 : State} (d : Nat) (s : State) (hk : Keeps st0 s) : Keeps st0 (suspectCheck d s) := by
  unfold suspectCheck
  try dsimp only
  (repeat' split) <;> simp +contextual (maxDischargeDepth := 20) [*, -List.foldl_cons]

@[simp] theorem calibrated_keeps {st0 : State} (d : Nat) (s : State) (hk : Keeps st0 s) : Keeps st0 (calibrated d s) := by
  unfold calibrated
  try dsimp only
  (repeat' split) <;> simp +contextual (maxDischargeDepth := 20) [*, -List.foldl_cons]

@[simp] theorem servo_keeps {st0 : State} (d : Nat) (s : State) (hk : Keeps st0 s) : Keeps st0 (servo d s) := by
  unfold servo
  try dsimp only
  (repeat' split) <;> simp +contextual (maxDischargeDepth := 20) [*, -List.foldl_cons]

@[simp] theorem takeOffset_keeps {st0 : State} (d : Nat) (s : State) (hk : Keeps st0 s) : Keeps st0 (takeOffset d s) := by
  unfold takeOffset
  try dsimp only
  (repeat' split) <;> simp +contextual (maxDischargeDepth := 20) [*, -List.foldl_cons]

@[simp] theorem pairDone_keeps {st0 : State} (d : Nat) (p : TimPair) (s : State) (hk : Keeps st0 s) : Keeps st0 (pairDone d p s) := by
  unfold pairDone
  try dsimp only
  (repeat' split) <;> simp +contextual (maxDischargeDepth := 20) [*, -List.foldl_cons]

@[simp] theorem delayDone_keeps {st0 : State} (d : Nat) (raw : Int) (s : State) (hk : Keeps st0 s) : Keeps st0 (delayDone d raw s) := by
  unfold delayDone
  try dsimp only
  (repeat' split) <;> simp +contextual (maxDischargeDepth := 20) [*, -List.foldl_cons]

@[simp] theorem newMaster_keeps {st0 : State} (d : Nat) (f : Foreign) (s : State) (hk : Keeps st0 s) : Keeps st0 (newMaster d f s) := by
  unfold newMaster
  try dsimp only
  (repeat' split) <;> simp +contextual (maxDischargeDepth := 20) [*, -List.foldl_cons]

@[simp] theorem chooseMaster_keeps {st0 : State} (d : Nat) (s : State) (hk : Keeps st0 s) : Keeps st0 (chooseMaster d s) := by
  unfold chooseMaster
  try dsimp only
  (repeat' split) <;> simp +contextual (maxDischargeDepth := 20) [*, -List.foldl_cons]

@[simp] theorem loseMaster_keeps {st0 : State} (d : Nat) (drop : Bool) (s : State) (hk : Keeps st0 s) : Keeps st0 (loseMaster d drop s) := by
  unfold loseMaster
  try dsimp only
  (repeat' split) <;> simp +contextual (maxDischargeDepth := 20) [*, -List.foldl_cons]

@[simp] theorem discardFrame_keeps {st0 : State} (s : State) (hk : Keeps st0 s) : Keeps st0 (discardFrame s) := by
  unfold discardFrame
  try dsimp only
  (repeat' split) <;> simp +contextual (maxDischargeDepth := 20) [*, -List.foldl_cons]

@[simp] theorem onMessage_keeps {st0 : State} (d : Nat) (m : PtpMsg) (ok : Bool) (f : Nat → State → State) (s : State) (hf : ∀ a v, Keeps st0 v → Keeps st0 (f a v)) (hk : Keeps st0 s) : Keeps st0 (onMessage d m ok f s) := by
  unfold onMessage
  try dsimp only
  (repeat' split) <;> simp +contextual (maxDischargeDepth := 20) [*, -List.foldl_cons]

@[simp] theorem syncOp_keeps {st0 : State} (d : Nat) (m : PtpMsg) (s : State) (hk : Keeps st0 s) : Keeps st0 (syncOp d m s) := by
  unfold syncOp
  try dsimp only
  (repeat' split) <;> simp +contextual (maxDischargeDepth := 20) [*, -List.foldl_cons]

@[simp] theorem followUpOp_keeps {st0 : State} (d : Nat) (m : PtpMsg) (s : State) (hk : Keeps st0 s) : Keeps st0 (followUpOp d m s) := by
  unfold followUpOp
  try dsimp only
  (repeat' split) <;> simp +contextual (maxDischargeDepth := 20) [*, -List.foldl_cons]

@[simp] theorem announceOp_keeps {st0 : State} (d : Nat) (m : PtpMsg) (s : State) (hk : Keeps st0 s) : Keeps st0 (announceOp d m s) := by
  unfold announceOp
  try dsimp only
  (repeat' split) <;> simp +contextual (maxDischargeDepth := 20) [*, -List.foldl_cons]

@[simp] theorem delayRespOp_keeps {st0 : State} (d : Nat) (m : PtpMsg) (s : State) (hk : Keeps st0 s) : Keeps st0 (delayRespOp d m s) := by
  unfold delayRespOp
  try dsimp only
  (repeat' split) <;> simp +contextual (maxDischargeDepth := 20) [*, -List.foldl_cons]

@[simp] theorem delayReqOp_keeps {st0 : State} (d : Nat) (s : State) (hk : Keeps st0 s) : Keeps st0 (delayReqOp d s) := by
  unfold delayReqOp
  try dsimp only
  (repeat' split) <;> simp +contextual (maxDischargeDepth := 20) [*, -List.foldl_cons]

@[simp] theorem holdoffOp_keeps {st0 : State} (d : Nat) (s : State) (hk : Keeps st0 s) : Keeps st0 (holdoffOp d s) := by
  unfold holdoffOp
  try dsimp only
  (repeat' split) <;> simp +contextual (maxDischargeDepth := 20) [*, -List.foldl_cons]

@[simp] theorem revertOp_keeps {st0 : State} (s : State) (hk : Keeps st0 s) : Keeps st0 (revertOp s) := by
  unfold revertOp
  try dsimp only
  (repeat' split) <;> simp +contextual (maxDischargeDepth := 20) [*, -List.foldl_cons]

@[simp] theorem timCtlOp_keeps {st0 : State} (v : Word) (s : State) (hk : Keeps st0 s) : Keeps st0 (timCtlOp v s) := by
  unfold timCtlOp
  try dsimp only
  (repeat' split) <;> simp +contextual (maxDischargeDepth := 20) [*, -List.foldl_cons]

@[simp] theorem linkChangeOp_keeps {st0 : State} (up supported : Bool) (s : State) (hk : Keeps st0 s) : Keeps st0 (linkChangeOp up supported s) := by
  unfold linkChangeOp
  try dsimp only
  (repeat' split) <;> simp +contextual (maxDischargeDepth := 20) [*, -List.foldl_cons]

@[simp] theorem stepPermitOp_keeps {st0 : State} (v : Word) (s : State) (hk : Keeps st0 s) : Keeps st0 (stepPermitOp v s) := by
  unfold stepPermitOp
  try dsimp only
  (repeat' split) <;> simp +contextual (maxDischargeDepth := 20) [*, -List.foldl_cons]

@[simp] theorem domCtlOp_keeps {st0 : State} (d : Nat) (v : Word) (s : State) (hk : Keeps st0 s) : Keeps st0 (domCtlOp d v s) := by
  unfold domCtlOp
  try dsimp only
  (repeat' split) <;> simp +contextual (maxDischargeDepth := 20) [*, -List.foldl_cons]

@[simp] theorem pulseCtlOp_keeps {st0 : State} (k : Nat) (v : Word) (s : State) (hk : Keeps st0 s) : Keeps st0 (pulseCtlOp k v s) := by
  unfold pulseCtlOp
  try dsimp only
  (repeat' split) <;> simp +contextual (maxDischargeDepth := 20) [*, -List.foldl_cons]

@[simp] theorem pulseFireOp_keeps {st0 : State} (k : Nat) (s : State) (hk : Keeps st0 s) : Keeps st0 (pulseFireOp k s) := by
  unfold pulseFireOp
  try dsimp only
  (repeat' split) <;> simp +contextual (maxDischargeDepth := 20) [*, -List.foldl_cons]

@[simp] theorem timCntClrOp_keeps {st0 : State} (v : Word) (s : State) (hk : Keeps st0 s) : Keeps st0 (timCntClrOp v s) := by
  unfold timCntClrOp
  try dsimp only
  (repeat' split) <;> simp +contextual (maxDischargeDepth := 20) [*, -List.foldl_cons]

@[simp] theorem timCapture_keeps {st0 : State} (addend : Bool) (s : State) (hk : Keeps st0 s) : Keeps st0 (timCapture addend s) := by
  unfold timCapture
  try dsimp only
  (repeat' split) <;> simp +contextual (maxDischargeDepth := 20) [*, -List.foldl_cons]

end Sys2Proof.Machine
end

