-- ==== Sys2Proof/Laws/KeepsTgn.lean ====
section
/-!
SUPPORT. Every operation of Sys2Proof/Machine/Tgn.lean keeps what `Keeps` names.
-/
namespace Sys2Proof.Machine

@[simp] theorem tgnFlag_keeps {st0 : State} (h b : Nat) (s : State) (hk : Keeps st0 s) : Keeps st0 (tgnFlag h b s) := by
  unfold tgnFlag
  try dsimp only
  (repeat' split) <;> simp +contextual (maxDischargeDepth := 20) [*, -List.foldl_cons]

@[simp] theorem tgnFlagEvent_keeps {st0 : State} (h b arg1 : Nat) (s : State) (hk : Keeps st0 s) : Keeps st0 (tgnFlagEvent h b arg1 s) := by
  unfold tgnFlagEvent
  try dsimp only
  (repeat' split) <;> simp +contextual (maxDischargeDepth := 20) [*, -List.foldl_cons]

@[simp] theorem tgnRefuse_keeps {st0 : State} (h reg code : Nat) (s : State) (hk : Keeps st0 s) : Keeps st0 (tgnRefuse h reg code s) := by
  unfold tgnRefuse
  try dsimp only
  (repeat' split) <;> simp +contextual (maxDischargeDepth := 20) [*, -List.foldl_cons]

@[simp] theorem statusRefuse_keeps {st0 : State} (h status blk : Nat) (s : State) (hk : Keeps st0 s) : Keeps st0 (statusRefuse h status blk s) := by
  unfold statusRefuse
  try dsimp only
  (repeat' split) <;> simp +contextual (maxDischargeDepth := 20) [*, -List.foldl_cons]

@[simp] theorem blockChkFailed_keeps {st0 : State} (blk h : Nat) (r : Reg) (x : Nat × Nat) (s : State) (hk : Keeps st0 s) : Keeps st0 (blockChkFailed blk h r x s) := by
  unfold blockChkFailed
  try dsimp only
  (repeat' split) <;> simp +contextual (maxDischargeDepth := 20) [*, -List.foldl_cons]

@[simp] theorem laterChecks_keeps {st0 : State} (v : SMap Word) (h : Nat) (s : State) (hk : Keeps st0 s) : Keeps st0 (laterChecks v h s).2.2 := by
  unfold laterChecks
  try dsimp only
  (repeat' split) <;> simp +contextual (maxDischargeDepth := 20) [*, -List.foldl_cons]

@[simp] theorem commitChecks_keeps {st0 : State} (v : SMap Word) (h : Nat) (trans : Bool) (s : State) (hk : Keeps st0 s) : Keeps st0 (commitChecks v h trans s).2.2 := by
  unfold commitChecks
  try dsimp only
  (repeat' split) <;> simp +contextual (maxDischargeDepth := 20) [*, -List.foldl_cons]

@[simp] theorem applyAtOnce_keeps {st0 : State} (h : Nat) (c : Commit) (s : State) (hk : Keeps st0 s) : Keeps st0 (applyAtOnce h c s) := by
  unfold applyAtOnce
  try dsimp only
  (repeat' split) <;> simp +contextual (maxDischargeDepth := 20) [*, -List.foldl_cons]

@[simp] theorem acceptCommit_keeps {st0 : State} (h : Nat) (v : Word) (words : SMap Word) (trans : Bool) (s : State) (hk : Keeps st0 s) : Keeps st0 (acceptCommit h v words trans s) := by
  unfold acceptCommit
  try dsimp only
  (repeat' split) <;> simp +contextual (maxDischargeDepth := 20) [*, -List.foldl_cons]

@[simp] theorem submitOp_keeps {st0 : State} (h : Nat) (v : Word) (s : State) (hk : Keeps st0 s) : Keeps st0 (submitOp h v s) := by
  unfold submitOp
  try dsimp only
  (repeat' split) <;> simp +contextual (maxDischargeDepth := 20) [*, -List.foldl_cons]

@[simp] theorem commitOp_keeps {st0 : State} (h : Nat) (v : Word) (s : State) (hk : Keeps st0 s) : Keeps st0 (commitOp h v s) := by
  unfold commitOp
  try dsimp only
  (repeat' split) <;> simp +contextual (maxDischargeDepth := 20) [*, -List.foldl_cons]

@[simp] theorem glLock_keeps {st0 : State} (h : Nat) (inBound : Bool) (s : State) (hk : Keeps st0 s) : Keeps st0 (glLock h inBound s) := by
  unfold glLock
  try dsimp only
  (repeat' split) <;> simp +contextual (maxDischargeDepth := 20) [*, -List.foldl_cons]

@[simp] theorem glMeasure_keeps {st0 : State} (h : Nat) (s : State) (hk : Keeps st0 s) : Keeps st0 (glMeasure h s) := by
  unfold glMeasure
  try dsimp only
  (repeat' split) <;> simp +contextual (maxDischargeDepth := 20) [*, -List.foldl_cons]

@[simp] theorem genlock_keeps {st0 : State} (h : Nat) (s : State) (hk : Keeps st0 s) : Keeps st0 (genlock h s) := by
  unfold genlock
  try dsimp only
  (repeat' split) <;> simp +contextual (maxDischargeDepth := 20) [*, -List.foldl_cons]

@[simp] theorem crcStat_keeps {st0 : State} (h num pass fail skip : Nat) (s : State) (hk : Keeps st0 s) : Keeps st0 (crcStat h num pass fail skip s) := by
  unfold crcStat
  try dsimp only
  (repeat' split) <;> simp +contextual (maxDischargeDepth := 20) [*, -List.foldl_cons]

@[simp] theorem crcSkip_keeps {st0 : State} (h num : Nat) (v : SMap Word) (s : State) (hk : Keeps st0 s) : Keeps st0 (crcSkip h num v s) := by
  unfold crcSkip
  try dsimp only
  (repeat' split) <;> simp +contextual (maxDischargeDepth := 20) [*, -List.foldl_cons]

@[simp] theorem endFrame_keeps {st0 : State} (h : Nat) (s : State) (hk : Keeps st0 s) : Keeps st0 (endFrame h s) := by
  unfold endFrame
  try dsimp only
  (repeat' split) <;> simp +contextual (maxDischargeDepth := 20) [*, -List.foldl_cons]

@[simp] theorem holdEntry_keeps {st0 : State} (h : Nat) (s : State) (hk : Keeps st0 s) : Keeps st0 (holdEntry h s) := by
  unfold holdEntry
  try dsimp only
  (repeat' split) <;> simp +contextual (maxDischargeDepth := 20) [*, -List.foldl_cons]

@[simp] theorem startHold_keeps {st0 : State} (h : Nat) (c : Commit) (s : State) (hk : Keeps st0 s) : Keeps st0 (startHold h c s) := by
  unfold startHold
  try dsimp only
  (repeat' split) <;> simp +contextual (maxDischargeDepth := 20) [*, -List.foldl_cons]

@[simp] theorem applyCommits_keeps {st0 : State} (h : Nat) (cs : List Commit) (s : State) (hk : Keeps st0 s) : Keeps st0 (applyCommits h cs s) := by
  unfold applyCommits
  try dsimp only
  (repeat' split) <;> simp +contextual (maxDischargeDepth := 20) [*, -List.foldl_cons]

@[simp] theorem holdEnds_keeps {st0 : State} (h : Nat) (cs : List Commit) (s : State) (hk : Keeps st0 s) : Keeps st0 (holdEnds h cs s) := by
  unfold holdEnds
  try dsimp only
  (repeat' split) <;> simp +contextual (maxDischargeDepth := 20) [*, -List.foldl_cons]

@[simp] theorem newFrame_keeps {st0 : State} (h n : Nat) (cs : List Commit) (s : State) (hk : Keeps st0 s) : Keeps st0 (newFrame h n cs s) := by
  unfold newFrame
  try dsimp only
  (repeat' split) <;> simp +contextual (maxDischargeDepth := 20) [*, -List.foldl_cons]

@[simp] theorem recBoundary_keeps {st0 : State} (h : Nat) (latching : Bool) (s : State) (hk : Keeps st0 s) : Keeps st0 (recBoundary h latching s) := by
  unfold recBoundary
  try dsimp only
  (repeat' split) <;> simp +contextual (maxDischargeDepth := 20) [*, -List.foldl_cons]

@[simp] theorem latchBoundary_keeps {st0 : State} (h n : Nat) (cs : List Commit) (s : State) (hk : Keeps st0 s) : Keeps st0 (latchBoundary h n cs s) := by
  unfold latchBoundary
  try dsimp only
  (repeat' split) <;> simp +contextual (maxDischargeDepth := 20) [*, -List.foldl_cons]

@[simp] theorem recBoundaryItem_keeps {st0 : State} (h n : Nat) (s : State) (hk : Keeps st0 s) : Keeps st0 (recBoundaryItem h n s) := by
  unfold recBoundaryItem
  try dsimp only
  (repeat' split) <;> simp +contextual (maxDischargeDepth := 20) [*, -List.foldl_cons]

@[simp] theorem boundaryOp_keeps {st0 : State} (h : Nat) (s : State) (hk : Keeps st0 s) : Keeps st0 (boundaryOp h s) := by
  unfold boundaryOp
  try dsimp only
  (repeat' split) <;> simp +contextual (maxDischargeDepth := 20) [*, -List.foldl_cons]

@[simp] theorem unlessReplaying_keeps {st0 : State} (h : Nat) (f : State → State) (s : State) (hf : ∀  v, Keeps st0 v → Keeps st0 (f  v)) (hk : Keeps st0 s) : Keeps st0 (unlessReplaying h f s) := by
  unfold unlessReplaying
  try dsimp only
  (repeat' split) <;> simp +contextual (maxDischargeDepth := 20) [*, -List.foldl_cons]

@[simp] theorem holdEndOp_keeps {st0 : State} (h : Nat) (s : State) (hk : Keeps st0 s) : Keeps st0 (holdEndOp h s) := by
  unfold holdEndOp
  try dsimp only
  (repeat' split) <;> simp +contextual (maxDischargeDepth := 20) [*, -List.foldl_cons]

@[simp] theorem retireOp_keeps {st0 : State} (h : Nat) (s : State) (hk : Keeps st0 s) : Keeps st0 (retireOp h s) := by
  unfold retireOp
  try dsimp only
  (repeat' split) <;> simp +contextual (maxDischargeDepth := 20) [*, -List.foldl_cons]

@[simp] theorem enableOp_keeps {st0 : State} (h : Nat) (v : Word) (s : State) (hk : Keeps st0 s) : Keeps st0 (enableOp h v s) := by
  unfold enableOp
  try dsimp only
  (repeat' split) <;> simp +contextual (maxDischargeDepth := 20) [*, -List.foldl_cons]

@[simp] theorem disableOp_keeps {st0 : State} (h : Nat) (s : State) (hk : Keeps st0 s) : Keeps st0 (disableOp h s) := by
  unfold disableOp
  try dsimp only
  (repeat' split) <;> simp +contextual (maxDischargeDepth := 20) [*, -List.foldl_cons]

@[simp] theorem tgnCtlOp_keeps {st0 : State} (h : Nat) (v : Word) (s : State) (hk : Keeps st0 s) : Keeps st0 (tgnCtlOp h v s) := by
  unfold tgnCtlOp
  try dsimp only
  (repeat' split) <;> simp +contextual (maxDischargeDepth := 20) [*, -List.foldl_cons]

@[simp] theorem granted_keeps {st0 : State} (h : Nat) (s : State) (hk : Keeps st0 s) : Keeps st0 (granted h s) := by
  unfold granted
  try dsimp only
  (repeat' split) <;> simp +contextual (maxDischargeDepth := 20) [*, -List.foldl_cons]

@[simp] theorem headGrantOp_keeps {st0 : State} (h : Nat) (s : State) (hk : Keeps st0 s) : Keeps st0 (headGrantOp h s) := by
  unfold headGrantOp
  try dsimp only
  (repeat' split) <;> (try have hg := takeGrant_keeps (by assumption) hk) <;> (try have hr := takeRefusal_keeps (by assumption) hk) <;>
    simp +contextual (maxDischargeDepth := 20) [*, -List.foldl_cons]

@[simp] theorem headRefusalOp_keeps {st0 : State} (h : Nat) (s : State) (hk : Keeps st0 s) : Keeps st0 (headRefusalOp h s) := by
  unfold headRefusalOp
  try dsimp only
  (repeat' split) <;> (try have hg := takeGrant_keeps (by assumption) hk) <;> (try have hr := takeRefusal_keeps (by assumption) hk) <;>
    simp +contextual (maxDischargeDepth := 20) [*, -List.foldl_cons]

@[simp] theorem stopCompleteOp_keeps {st0 : State} (h : Nat) (s : State) (hk : Keeps st0 s) : Keeps st0 (stopCompleteOp h s) := by
  unfold stopCompleteOp
  try dsimp only
  (repeat' split) <;> simp +contextual (maxDischargeDepth := 20) [*, -List.foldl_cons]

@[simp] theorem breachOp_keeps {st0 : State} (h buf : Nat) (s : State) (hk : Keeps st0 s) : Keeps st0 (breachOp h buf s) := by
  unfold breachOp
  try dsimp only
  (repeat' split) <;> simp +contextual (maxDischargeDepth := 20) [*, -List.foldl_cons]

@[simp] theorem fbOverDram_keeps {st0 : State} (h n : Nat) (s : State) (hk : Keeps st0 s) : Keeps st0 (fbOverDram h n s).2 := by
  unfold fbOverDram
  try dsimp only
  (repeat' split) <;> simp +contextual (maxDischargeDepth := 20) [*, -List.foldl_cons]

@[simp] theorem freeboardOp_keeps {st0 : State} (h ns : Nat) (s : State) (hk : Keeps st0 s) : Keeps st0 (freeboardOp h ns s) := by
  unfold freeboardOp
  try dsimp only
  (repeat' split) <;> simp +contextual (maxDischargeDepth := 20) [*, -List.foldl_cons]

@[simp] theorem formLines_keeps {st0 : State} (h n : Nat) (s : State) (hk : Keeps st0 s) : Keeps st0 (formLines h n s) := by
  unfold formLines
  try dsimp only
  (repeat' split) <;> simp +contextual (maxDischargeDepth := 20) [*, -List.foldl_cons]

@[simp] theorem crcResult_keeps {st0 : State} (h r : Nat) (f : Frame) (s : State) (hk : Keeps st0 s) : Keeps st0 (crcResult h r f s).2 := by
  unfold crcResult
  try dsimp only
  (repeat' split) <;> simp +contextual (maxDischargeDepth := 20) [*, -List.foldl_cons]

@[simp] theorem crcResults_keeps {st0 : State} (h : Nat) (f : Frame) (rs : List Nat) (s : State) (hk : Keeps st0 s) :
    Keeps st0 (crcResults h f rs s).2 := by
  induction rs generalizing s with
  | nil => exact hk
  | cons r rs ih => exact ih _ (by simp [hk])

@[simp] theorem crcCheckOp_keeps {st0 : State} (h : Nat) (s : State) (hk : Keeps st0 s) : Keeps st0 (crcCheckOp h s) := by
  unfold crcCheckOp
  try dsimp only
  (repeat' split) <;> simp +contextual (maxDischargeDepth := 20) [*, -List.foldl_cons]

@[simp] theorem tgnHCntClrOp_keeps {st0 : State} (h : Nat) (v : Word) (s : State) (hk : Keeps st0 s) : Keeps st0 (tgnHCntClrOp h v s) := by
  unfold tgnHCntClrOp
  try dsimp only
  (repeat' split) <;> simp +contextual (maxDischargeDepth := 20) [*, -List.foldl_cons]

end Sys2Proof.Machine
end

