-- ==== Sys2Proof/Laws/KeepsMgt.lean ====
section
/-!
SUPPORT. Every operation of Sys2Proof/Machine/Mgt.lean keeps what `Keeps` names.
-/
namespace Sys2Proof.Machine

@[simp] theorem closeBatch_keeps {st0 : State} (peek : Nat → State → Word) (s : State) (hk : Keeps st0 s) : Keeps st0 (closeBatch peek s) := by
  unfold closeBatch
  dsimp only
  split
  · exact hk
  · split
    · exact Keeps.plain hk rfl
    · exact count_keeps _ _ _ _ (Keeps.plain hk rfl)

@[simp] theorem recTo_keeps {st0 : State} (n result : Nat) (s : State) (hk : Keeps st0 s) : Keeps st0 (recTo n result s) := by
  unfold recTo
  try dsimp only
  (repeat' split) <;> simp +contextual (maxDischargeDepth := 20) [*, -List.foldl_cons]

@[simp] theorem acceptedRec_keeps {st0 : State} (e : EvRec) (s : State) (hk : Keeps st0 s) : Keeps st0 (acceptedRec e s) := by
  unfold acceptedRec
  try dsimp only
  (repeat' split) <;> simp +contextual (maxDischargeDepth := 20) [*, -List.foldl_cons]

@[simp] theorem acceptBatch_keeps {st0 : State} (s : State) (hk : Keeps st0 s) : Keeps st0 (acceptBatch s) := by
  unfold acceptBatch
  try dsimp only
  (repeat' split) <;> simp +contextual (maxDischargeDepth := 20) [*, -List.foldl_cons]

@[simp] theorem drainOp_keeps {st0 : State} (s : State) (hk : Keeps st0 s) : Keeps st0 (drainOp s) := by
  unfold drainOp
  try dsimp only
  (repeat' split) <;> simp +contextual (maxDischargeDepth := 20) [*, -List.foldl_cons]

@[simp] theorem ringWriteOp_keeps {st0 : State} (s : State) (hk : Keeps st0 s) : Keeps st0 (ringWriteOp s) := by
  unfold ringWriteOp
  try dsimp only
  (repeat' split) <;> simp +contextual (maxDischargeDepth := 20) [*, -List.foldl_cons]

@[simp] theorem ringEnable_keeps {st0 : State} (v : Word) (s : State) (hk : Keeps st0 s) : Keeps st0 (ringEnable v s) := by
  unfold ringEnable
  try dsimp only
  (repeat' split) <;> simp +contextual (maxDischargeDepth := 20) [*, -List.foldl_cons]

@[simp] theorem ringDisable_keeps {st0 : State} (v : Word) (s : State) (hk : Keeps st0 s) : Keeps st0 (ringDisable v s) := by
  unfold ringDisable
  try dsimp only
  (repeat' split) <;> simp +contextual (maxDischargeDepth := 20) [*, -List.foldl_cons]

@[simp] theorem evtCtlOp_keeps {st0 : State} (v : Word) (s : State) (hk : Keeps st0 s) : Keeps st0 (evtCtlOp v s) := by
  unfold evtCtlOp
  try dsimp only
  (repeat' split) <;> simp +contextual (maxDischargeDepth := 20) [*, -List.foldl_cons]

@[simp] theorem evtRdOp_keeps {st0 : State} (v : Word) (s : State) (hk : Keeps st0 s) : Keeps st0 (evtRdOp v s) := by
  unfold evtRdOp
  try dsimp only
  (repeat' split) <;> simp +contextual (maxDischargeDepth := 20) [*, -List.foldl_cons]

@[simp] theorem evtPopOp_keeps {st0 : State} (v : Word) (s : State) (hk : Keeps st0 s) : Keeps st0 (evtPopOp v s) := by
  unfold evtPopOp
  try dsimp only
  (repeat' split) <;> simp +contextual (maxDischargeDepth := 20) [*, -List.foldl_cons]

@[simp] theorem lnkCtlOp_keeps {st0 : State} (v : Word) (s : State) (hk : Keeps st0 s) : Keeps st0 (lnkCtlOp v s) := by
  unfold lnkCtlOp
  try dsimp only
  (repeat' split) <;> simp +contextual (maxDischargeDepth := 20) [*, -List.foldl_cons]

@[simp] theorem evtSendOp_keeps {st0 : State} (s : State) (hk : Keeps st0 s) : Keeps st0 (evtSendOp s) := by
  unfold evtSendOp
  try dsimp only
  (repeat' split) <;> simp +contextual (maxDischargeDepth := 20) [*, -List.foldl_cons]

theorem foldl_insert_wf {l m : Memory} {lo : Option Nat} (hl : SMap.wfFrom 0 lo l = true) (hm : Memory.wf 0 m = true) :
    Memory.wf 0 (l.foldl (fun m e => SMap.insert m e.1 e.2) m) = true := by
  induction l generalizing m lo with
  | nil => exact hm
  | cons e l ih =>
    obtain ⟨j, b⟩ := e
    have h := wfFrom_cons.1 hl
    exact ih h.2.2 (insert_wfFrom hm below_none h.2.1)

theorem graft_wf {p : Nat → Bool} {src dst : Memory} (hs : Memory.wf 0 src = true) (hd : Memory.wf 0 dst = true) :
    Memory.wf 0 (SMap.graft p src dst) = true :=
  foldl_insert_wf (filter_wfFrom hs) (filter_wfFrom hd)

theorem loadCkpt_keeps {st0 : State} (c : Ckpt) (hc : st0.inv = true → Memory.wf 0 c.cells = true) (s : State) (hk : Keeps st0 s) :
    Keeps st0 (loadCkpt c s) := by
  have h1 : Keeps st0 { s with regs := SMap.graft (s.inMask c.mask) c.regs s.regs } := by simp [hk]
  have h2 := Keeps.force (now' := s.now) (mgt' := s.mgt) (recd' := s.recd) (pwg' := s.pwg) (sec' := s.sec) (dmc' := s.dmc)
    (sfm' := s.sfm) (lsc' := s.lsc) (tim' := s.tim) h1 rfl (Rises.graft (s.inMask c.mask) c.force s.force)
  have h3 := Keeps.tgn (now' := s.now) (mgt' := s.mgt) (recd' := s.recd) (pwg' := s.pwg) (sec' := s.sec) (dmc' := s.dmc)
    (sfm' := s.sfm) (lsc' := s.lsc) (tim' := s.tim) h2 rfl (Rises.graft c.mask.testBit c.tgn s.tgn)
  have h4 := Keeps.pnl (now' := s.now) (mgt' := s.mgt) (recd' := s.recd) (pwg' := s.pwg) (sec' := s.sec) (dmc' := s.dmc)
    (sfm' := s.sfm) (lsc' := s.lsc) (tim' := s.tim) h3 rfl (Rises.graft c.mask.testBit c.pnl s.pnl)
  have h5 := Keeps.polders (now' := s.now) (mgt' := s.mgt) (recd' := s.recd) (pwg' := s.pwg) (sec' := s.sec) (dmc' := s.dmc)
    (sfm' := s.sfm) (lsc' := s.lsc) (tim' := s.tim) h4 rfl (Rises.graft (s.polderIn c.mask) c.polders s.polders)
  refine ⟨h5.pending, h5.otp, h5.thermal, h5.dbg, h5.free, h5.wire, h5.fixed, fun hi => ?_⟩
  have h := h5.inv hi
  simp only [inv_iff, State.memoriesOk, Bool.and_eq_true] at h ⊢
  exact ⟨h.1, h.2.1, ⟨⟨graft_wf (hc hi) h.2.2.1.1.1, h.2.2.1.1.2⟩, h.2.2.1.2⟩, h.2.2.2⟩

@[simp] theorem startCkpt_keeps {st0 : State} (s : State) (hk : Keeps st0 s) : Keeps st0 (startCkpt s) := by
  have hcells : st0.inv = true → ∀ e ∈ s.ckpts, Memory.wf 0 e.2.cells = true := fun hi =>
    List.all_eq_true.1 ((inv_iff s).1 (hk.inv hi)).2.2.2
  have hsnap : st0.inv = true → ∀ m p, Memory.wf 0 (s.snapshot m p).cells = true := fun hi m p => by
    have h := ((inv_iff s).1 (hk.inv hi)).2.2.1
    simp only [State.memoriesOk, Bool.and_eq_true] at h
    exact filter_wfFrom h.1.1
  unfold startCkpt
  dsimp only
  generalize hs2 : List.foldl _ _ _ = s2
  have h1 := Keeps.ckpts (now' := s.now) (mgt' := s.mgt) (recd' := s.recd) (pwg' := s.pwg) (sec' := s.sec) (dmc' := s.dmc)
    (sfm' := s.sfm) (lsc' := s.lsc) (tim' := s.tim) (m := s.ckpts.filter fun e => s.recd.items.any (·.offset == e.1)) hk rfl
    (fun h => filter_rising h) (fun hi e he => hcells hi e ((List.mem_filter.1 he).1))
  have h2 : Keeps st0 s2 := hs2 ▸ Keeps.foldl (recItem_keeps _ _ _ _ _ h1) fun v x hv => recItem_keeps _ _ _ _ _ hv
  refine Keeps.ckpts h2 rfl (Rises.insert _ _ _) fun hi e he => ?_
  have h3 : ∀ e ∈ s2.ckpts, Memory.wf 0 e.2.cells = true := List.all_eq_true.1 ((inv_iff s2).1 (h2.inv hi)).2.2.2
  have hall := all_insert (p := fun c : Ckpt => Memory.wf 0 c.cells) (k := s.recd.head)
    (List.all_eq_true.2 h3) (hsnap hi (fld s.recd.ctl 3 0) (bit s.recd.ctl 7))
  exact List.all_eq_true.1 hall e he

@[simp] theorem recRefuse_keeps {st0 : State} (result : Nat) (s : State) (hk : Keeps st0 s) : Keeps st0 (recRefuse result s) := by
  unfold recRefuse
  try dsimp only
  (repeat' split) <;> simp +contextual (maxDischargeDepth := 20) [*, -List.foldl_cons]

@[simp] theorem recordOp_keeps {st0 : State} (s : State) (hk : Keeps st0 s) : Keeps st0 (recordOp s) := by
  unfold recordOp
  have h0 : ∀ t, Keeps st0 t → Keeps st0 { t with recd := { state := s.recd.state, ctl := s.rd Rg.MGT_REC_CTL, base := s.fd Rg.MGT_REC_BASE [] 19 0 * 65536, sizeMib := s.fd Rg.MGT_REC_SIZE [] 6 0 * 64, ckptWait := 1 }, ckpts := [] } :=
    fun t ht => Keeps.ckpts ht rfl (Rises.nil _) (fun _ e he => nomatch he)
  try dsimp only
  (repeat' split) <;> simp +contextual (maxDischargeDepth := 20) [*, -List.foldl_cons]

@[simp] theorem rerunEnd_keeps {st0 : State} (result : Nat) (s : State) (hk : Keeps st0 s) : Keeps st0 (rerunEnd result s) := by
  unfold rerunEnd
  try dsimp only
  (repeat' split) <;> simp +contextual (maxDischargeDepth := 20) [*, -List.foldl_cons]

@[simp] theorem stopOp_keeps {st0 : State} (s : State) (hk : Keeps st0 s) : Keeps st0 (stopOp s) := by
  unfold stopOp
  try dsimp only
  (repeat' split) <;> simp +contextual (maxDischargeDepth := 20) [*, -List.foldl_cons]

@[simp] theorem replayOp_keeps {st0 : State} (s : State) (hk : Keeps st0 s) : Keeps st0 (replayOp s) := by
  have hall : ∀ k, st0.inv = true → Memory.wf 0 (s.ckpts.get {} k).cells = true := fun k hi =>
    all_get (p := fun c : Ckpt => Memory.wf 0 c.cells) ((inv_iff s).1 (hk.inv hi)).2.2.2 rfl
  unfold replayOp
  dsimp only
  split
  · simp [hk]
  · split
    · simp [hk]
    · (repeat' split)
      · simp [hk]
      · simp [hk]
      · exact loadCkpt_keeps _ (fun hi => by dsimp only; exact hall _ hi) _ (by apply recTo_keeps; simp [hk])

@[simp] theorem recCmdOp_keeps {st0 : State} (v : Word) (s : State) (hk : Keeps st0 s) : Keeps st0 (recCmdOp v s) := by
  unfold recCmdOp
  try dsimp only
  refine fromReady_keeps _ _ _ (fun v hv => ?_) hk
  try dsimp only
  (repeat' split) <;> simp +contextual (maxDischargeDepth := 20) [*, -List.foldl_cons]

@[simp] theorem recMarkOp_keeps {st0 : State} (v : Word) (s : State) (hk : Keeps st0 s) : Keeps st0 (recMarkOp v s) := by
  unfold recMarkOp
  try dsimp only
  (repeat' split) <;> simp +contextual (maxDischargeDepth := 20) [*, -List.foldl_cons]

@[simp] theorem ckptEndOp_keeps {st0 : State} (s : State) (hk : Keeps st0 s) : Keeps st0 (ckptEndOp s) := by
  unfold ckptEndOp
  try dsimp only
  (repeat' split) <;> simp +contextual (maxDischargeDepth := 20) [*, -List.foldl_cons]

@[simp] theorem ckptPeriodicOp_keeps {st0 : State} (s : State) (hk : Keeps st0 s) : Keeps st0 (ckptPeriodicOp s) := by
  unfold ckptPeriodicOp
  try dsimp only
  (repeat' split) <;> simp +contextual (maxDischargeDepth := 20) [*, -List.foldl_cons]

@[simp] theorem postEndOp_keeps {st0 : State} (s : State) (hk : Keeps st0 s) : Keeps st0 (postEndOp s) := by
  unfold postEndOp
  try dsimp only
  (repeat' split) <;> simp +contextual (maxDischargeDepth := 20) [*, -List.foldl_cons]

@[simp] theorem unwrite_keeps {st0 : State} (n : Nat) (s : State) (hk : Keeps st0 s) : Keeps st0 (unwrite n s) := by
  unfold unwrite
  dsimp only
  split
  · exact hk
  · refine Keeps.counters hk rfl (Counts.upd _ _ _ fun c hc => ?_)
    split
    · exact hc
    · simp only [Counter.inRange, decide_eq_true_eq] at hc ⊢
      exact Nat.le_trans (Nat.sub_le _ _) hc

@[simp] theorem gapOp_keeps {st0 : State} (n : Nat) (s : State) (hk : Keeps st0 s) : Keeps st0 (gapOp n s) := by
  unfold gapOp
  try dsimp only
  (repeat' split) <;> simp +contextual (maxDischargeDepth := 20) [*, -List.foldl_cons]

@[simp] theorem replayEndOp_keeps {st0 : State} (s : State) (hk : Keeps st0 s) : Keeps st0 (replayEndOp s) := by
  unfold replayEndOp
  try dsimp only
  (repeat' split) <;> simp +contextual (maxDischargeDepth := 20) [*, -List.foldl_cons]

@[simp] theorem mgtCntClrOp_keeps {st0 : State} (v : Word) (s : State) (hk : Keeps st0 s) : Keeps st0 (mgtCntClrOp v s) := by
  unfold mgtCntClrOp
  try dsimp only
  (repeat' split) <;> simp +contextual (maxDischargeDepth := 20) [*, -List.foldl_cons]

end Sys2Proof.Machine
end

