-- ==== Sys2Proof/Laws/KeepsSec.lean ====
section
/-!
SUPPORT. Every operation of Sys2Proof/Machine/Sec.lean keeps what `Keeps` names.
-/
namespace Sys2Proof.Machine

@[simp] theorem modSec_keeps {st0 : State} (s : State) (f : Sec → Sec) (hk : Keeps st0 s) : Keeps st0 (State.modSec s f) := by
  unfold State.modSec
  try dsimp only
  (repeat' split) <;> simp +contextual (maxDischargeDepth := 20) [*, -List.foldl_cons]

@[simp] theorem secDone_keeps {st0 : State} (reg : Reg) (result cmd : Nat) (s : State) (hk : Keeps st0 s) : Keeps st0 (secDone reg result cmd s) := by
  unfold secDone
  try dsimp only
  (repeat' split) <;> simp +contextual (maxDischargeDepth := 20) [*, -List.foldl_cons]

@[simp] theorem flashRefuse_keeps {st0 : State} (status cmd : Nat) (s : State) (hk : Keeps st0 s) : Keeps st0 (flashRefuse status cmd s) := by
  unfold flashRefuse
  try dsimp only
  (repeat' split) <;> simp +contextual (maxDischargeDepth := 20) [*, -List.foldl_cons]

@[simp] theorem flashStart_keeps {st0 : State} (cmd slot : Nat) (s : State) (hk : Keeps st0 s) : Keeps st0 (flashStart cmd slot s) := by
  unfold flashStart
  try dsimp only
  (repeat' split) <;> simp +contextual (maxDischargeDepth := 20) [*, -List.foldl_cons]

@[simp] theorem flashCmdOp_keeps {st0 : State} (v : Word) (s : State) (hk : Keeps st0 s) : Keeps st0 (flashCmdOp v s) := by
  unfold flashCmdOp
  try dsimp only
  (repeat' split) <;> simp +contextual (maxDischargeDepth := 20) [*, -List.foldl_cons]

theorem flashAfter_wf {j : FlashJob} {m : Memory} (h : Memory.wf 0xFF m = true) : Memory.wf 0xFF (flashAfter j m) = true := by
  unfold flashAfter
  dsimp only
  (repeat' split) <;> first | exact h | exact store_wf h | exact filter_wfFrom h

theorem flashCmdDoneOp_moves (io : Bool) (s : State) : Moves s (flashCmdDoneOp io s) := by
  have h0 : ∀ m, (Memory.wf 0xFF s.flash = true → Memory.wf 0xFF m = true) → Moves s { s with flash := m } := fun m hm =>
    ⟨rfl, Nat.le_refl _, List.suffix_refl _, by
      simp only [inv_iff, State.memoriesOk, Bool.and_eq_true]
      rintro ⟨hs, hc, ⟨h1, h3⟩, hk⟩
      exact ⟨hs, hc, ⟨h1, hm h3⟩, hk⟩⟩
  unfold flashCmdDoneOp
  split
  · exact Moves.refl s
  · split
    · exact Moves.refl s
    · refine (h0 (if io then s.flash else flashAfter _ s.flash) fun h => ?_).keeps
        (by dsimp only; apply secDone_keeps; apply modSec_keeps; exact Keeps.refl _)
      split
      · exact h
      · exact flashAfter_wf h

@[simp] theorem otpEnd_keeps {st0 : State} (result cmd : Nat) (s : State) (hk : Keeps st0 s) : Keeps st0 (otpEnd result cmd s) := by
  unfold otpEnd
  try dsimp only
  (repeat' split) <;> simp +contextual (maxDischargeDepth := 20) [*, -List.foldl_cons]

@[simp] theorem otpStart_keeps {st0 : State} (j : OtpJob) (cmd : Nat) (s : State) (hk : Keeps st0 s) : Keeps st0 (otpStart j cmd s) := by
  unfold otpStart
  try dsimp only
  (repeat' split) <;> simp +contextual (maxDischargeDepth := 20) [*, -List.foldl_cons]

@[simp] theorem otpAdvance_keeps {st0 : State} (v : Nat) (s : State) (hk : Keeps st0 s) : Keeps st0 (otpAdvance v s) := by
  unfold otpAdvance
  try dsimp only
  (repeat' split) <;> simp +contextual (maxDischargeDepth := 20) [*, -List.foldl_cons]

@[simp] theorem otpRevoke_keeps {st0 : State} (k : Nat) (s : State) (hk : Keeps st0 s) : Keeps st0 (otpRevoke k s) := by
  unfold otpRevoke
  try dsimp only
  (repeat' split) <;> simp +contextual (maxDischargeDepth := 20) [*, -List.foldl_cons]

@[simp] theorem otpLock_keeps {st0 : State} (s : State) (hk : Keeps st0 s) : Keeps st0 (otpLock s) := by
  unfold otpLock
  try dsimp only
  (repeat' split) <;> simp +contextual (maxDischargeDepth := 20) [*, -List.foldl_cons]

@[simp] theorem otpReturn_keeps {st0 : State} (s : State) (hk : Keeps st0 s) : Keeps st0 (otpReturn s) := by
  unfold otpReturn
  try dsimp only
  (repeat' split) <;> simp +contextual (maxDischargeDepth := 20) [*, -List.foldl_cons]

@[simp] theorem otpCmdOp_keeps {st0 : State} (v : Word) (s : State) (hk : Keeps st0 s) : Keeps st0 (otpCmdOp v s) := by
  unfold otpCmdOp
  try dsimp only
  (repeat' split) <;> simp +contextual (maxDischargeDepth := 20) [*, -List.foldl_cons]

@[simp] theorem otpWrite_keeps {st0 : State} (src : Source) (op : Nat) (v : Word) (s : State) (hk : Keeps st0 s) : Keeps st0 (otpWrite src op v s) := by
  unfold otpWrite
  try dsimp only
  (repeat' split) <;> simp +contextual (maxDischargeDepth := 20) [*, -List.foldl_cons]

@[simp] theorem attEnd_keeps {st0 : State} (result : Nat) (s : State) (hk : Keeps st0 s) : Keeps st0 (attEnd result s) := by
  unfold attEnd
  try dsimp only
  (repeat' split) <;> simp +contextual (maxDischargeDepth := 20) [*, -List.foldl_cons]

@[simp] theorem attFinish_keeps {st0 : State} (result : Nat) (s : State) (hk : Keeps st0 s) : Keeps st0 (attFinish result s) := by
  unfold attFinish
  try dsimp only
  (repeat' split) <;> simp +contextual (maxDischargeDepth := 20) [*, -List.foldl_cons]

@[simp] theorem attRequestOp_keeps {st0 : State} (s : State) (hk : Keeps st0 s) : Keeps st0 (attRequestOp s) := by
  unfold attRequestOp
  try dsimp only
  (repeat' split) <;> simp +contextual (maxDischargeDepth := 20) [*, -List.foldl_cons]

@[simp] theorem attCtlOp_keeps {st0 : State} (v : Word) (s : State) (hk : Keeps st0 s) : Keeps st0 (attCtlOp v s) := by
  unfold attCtlOp
  try dsimp only
  (repeat' split) <;> simp +contextual (maxDischargeDepth := 20) [*, -List.foldl_cons]

@[simp] theorem attReserve_keeps {st0 : State} (s : State) (hk : Keeps st0 s) : Keeps st0 (attReserve s) := by
  unfold attReserve
  try dsimp only
  (repeat' split) <;> simp +contextual (maxDischargeDepth := 20) [*, -List.foldl_cons]

@[simp] theorem attGrantOp_keeps {st0 : State} (s : State) (hk : Keeps st0 s) : Keeps st0 (attGrantOp s) := by
  unfold attGrantOp
  try dsimp only
  (repeat' split) <;> (try have hg := takeGrant_keeps (by assumption) hk) <;> (try have hr := takeRefusal_keeps (by assumption) hk) <;>
    simp +contextual (maxDischargeDepth := 20) [*, -List.foldl_cons]

theorem fuses_moves (s : State) (o : Otp) : Moves s { s with otp := o } := ⟨rfl, Nat.le_refl _, List.suffix_refl _, id⟩

theorem reserveDone_moves (b : Nat) (ok : Bool) (s : State) : Moves s (reserveDone b ok s) := by
  unfold reserveDone
  split
  · exact (fuses_moves s _).keeps (attReserve_keeps _ (Keeps.refl _))
  · refine (fuses_moves s { s.otp with attBad := s.otp.attBad ||| 2 ^ b }).keeps ?_
    dsimp only
    (repeat' split) <;> simp

theorem otpProgramDoneOp_moves (ok : Bool) (s : State) : Moves s (otpProgramDoneOp ok s) := by
  have h1 : ∀ f o, Moves s { s.modSec f with otp := o } := fun f o => (Keeps.moves (by simp)).trans (fuses_moves (s.modSec f) o)
  unfold otpProgramDoneOp
  split
  · exact Moves.refl s
  · dsimp only
    split
    · split
      · exact Keeps.moves (by simp)
      · split
        · exact (h1 _ _).keeps (otpEnd_keeps _ _ _ (Keeps.refl _))
        · exact (h1 _ _).keeps (modSec_keeps _ _ (Keeps.refl _))
    · split
      · exact Keeps.moves (by simp)
      · exact (h1 _ _).keeps (otpEnd_keeps _ _ _ (Keeps.refl _))
    · split
      · exact Keeps.moves (by simp)
      · exact (h1 _ _).keeps (otpEnd_keeps _ _ _ (Keeps.refl _))
    · split
      · exact Keeps.moves (by simp)
      · exact (h1 _ _).keeps (otpEnd_keeps _ _ _ (Keeps.refl _))
    · exact Moves.trans (Keeps.moves (by simp)) (reserveDone_moves _ _ _)

@[simp] theorem attSignDoneOp_keeps {st0 : State} (s : State) (hk : Keeps st0 s) : Keeps st0 (attSignDoneOp s) := by
  unfold attSignDoneOp
  try dsimp only
  (repeat' split) <;> simp +contextual (maxDischargeDepth := 20) [*, -List.foldl_cons]

@[simp] theorem keyEnd_keeps {st0 : State} (result cmd : Nat) (s : State) (hk : Keeps st0 s) : Keeps st0 (keyEnd result cmd s) := by
  unfold keyEnd
  try dsimp only
  (repeat' split) <;> simp +contextual (maxDischargeDepth := 20) [*, -List.foldl_cons]

@[simp] theorem keyOffer_keeps {st0 : State} (p e : Nat) (s : State) (hk : Keeps st0 s) : Keeps st0 (keyOffer p e s) := by
  unfold keyOffer
  try dsimp only
  (repeat' split) <;> simp +contextual (maxDischargeDepth := 20) [*, -List.foldl_cons]

@[simp] theorem keyInstall_keeps {st0 : State} (p e : Nat) (s : State) (hk : Keeps st0 s) : Keeps st0 (keyInstall p e s) := by
  unfold keyInstall
  try dsimp only
  (repeat' split) <;> simp +contextual (maxDischargeDepth := 20) [*, -List.foldl_cons]

@[simp] theorem keySelect_keeps {st0 : State} (p e : Nat) (s : State) (hk : Keeps st0 s) : Keeps st0 (keySelect p e s) := by
  unfold keySelect
  try dsimp only
  (repeat' split) <;> simp +contextual (maxDischargeDepth := 20) [*, -List.foldl_cons]

@[simp] theorem clearKeys_keeps {st0 : State} (p : Nat) (s : State) (hk : Keeps st0 s) : Keeps st0 (clearKeys p s) := by
  unfold clearKeys
  try dsimp only
  (repeat' split) <;> simp +contextual (maxDischargeDepth := 20) [*, -List.foldl_cons]

@[simp] theorem keyClear_keeps {st0 : State} (p : Nat) (s : State) (hk : Keeps st0 s) : Keeps st0 (keyClear p s) := by
  unfold keyClear
  try dsimp only
  (repeat' split) <;> simp +contextual (maxDischargeDepth := 20) [*, -List.foldl_cons]

@[simp] theorem keyCmdOp_keeps {st0 : State} (v : Word) (s : State) (hk : Keeps st0 s) : Keeps st0 (keyCmdOp v s) := by
  unfold keyCmdOp
  try dsimp only
  (repeat' split) <;> simp +contextual (maxDischargeDepth := 20) [*, -List.foldl_cons]

@[simp] theorem offerDone_keeps {st0 : State} (p e : Nat) (s : State) (hk : Keeps st0 s) : Keeps st0 (offerDone p e s) := by
  unfold offerDone
  try dsimp only
  (repeat' split) <;> simp +contextual (maxDischargeDepth := 20) [*, -List.foldl_cons]

@[simp] theorem installDone_keeps {st0 : State} (p e : Nat) (peer : List Byte) (s : State) (hk : Keeps st0 s) : Keeps st0 (installDone p e peer s) := by
  unfold installDone
  try dsimp only
  (repeat' split) <;> simp +contextual (maxDischargeDepth := 20) [*, -List.foldl_cons]

@[simp] theorem unlockEnd_keeps {st0 : State} (result : Nat) (s : State) (hk : Keeps st0 s) : Keeps st0 (unlockEnd result s) := by
  unfold unlockEnd
  try dsimp only
  (repeat' split) <;> simp +contextual (maxDischargeDepth := 20) [*, -List.foldl_cons]

theorem debug_moves (s : State) (d : Debug) : Moves s { s with dbg := d } := ⟨rfl, Nat.le_refl _, List.suffix_refl _, id⟩

theorem unlockDone_moves (t : List Byte) (s : State) : Moves s (unlockDone t s) := by
  unfold unlockDone
  split
  · exact Keeps.moves (by simp)
  · have h1 : Moves s ((List.range 24).foldl (fun s p => clearKeys p s) s) :=
      (Keeps.foldl (Keeps.refl s) fun _ _ hv => clearKeys_keeps _ _ hv).moves
    exact (h1.trans (debug_moves _ _)).keeps (unlockEnd_keeps _ _ (Keeps.refl _))

@[simp] theorem debugCmdOp_keeps {st0 : State} (v : Word) (s : State) (hk : Keeps st0 s) : Keeps st0 (debugCmdOp v s) := by
  unfold debugCmdOp
  try dsimp only
  (repeat' split) <;> simp +contextual (maxDischargeDepth := 20) [*, -List.foldl_cons]

theorem engineDoneOp_moves (s : State) : Moves s (engineDoneOp s) := by
  unfold engineDoneOp
  dsimp only
  split
  · exact Keeps.moves (by simp)
  · exact Keeps.moves (by simp)
  · exact Moves.trans (Keeps.moves (by simp)) (unlockDone_moves _ _)
  · exact Moves.refl s

@[simp] theorem secLockOp_keeps {st0 : State} (v : Word) (s : State) (hk : Keeps st0 s) : Keeps st0 (secLockOp v s) := by
  unfold secLockOp
  try dsimp only
  (repeat' split) <;> simp +contextual (maxDischargeDepth := 20) [*, -List.foldl_cons]

end Sys2Proof.Machine
end

