-- ==== Sys2Proof/Laws/KeepsRegRead.lean ====
section
/-!
SUPPORT. Every operation of Sys2Proof/Machine/RegRead.lean keeps what `Keeps` names.
-/
namespace Sys2Proof.Machine

@[simp] theorem counterCapture_keeps {st0 : State} (a : Nat) (s : State) (hk : Keeps st0 s) : Keeps st0 (counterCapture a s) := by
  unfold counterCapture
  try dsimp only
  (repeat' split) <;> simp +contextual (maxDischargeDepth := 20) [*, -List.foldl_cons]

@[simp] theorem readEffect_keeps {st0 : State} (a : Nat) (s : State) (hk : Keeps st0 s) : Keeps st0 (readEffect a s) := by
  unfold readEffect
  try dsimp only
  (repeat' split) <;> simp +contextual (maxDischargeDepth := 20) [*, -List.foldl_cons]

@[simp] theorem readReg_keeps {st0 : State} (a : Nat) (s : State) (hk : Keeps st0 s) : Keeps st0 (readReg a s).2 := by
  unfold readReg
  try dsimp only
  (repeat' split) <;> simp +contextual (maxDischargeDepth := 20) [*, -List.foldl_cons]

@[simp] theorem readAll_keeps {st0 : State} (l : List Nat) (s : State) (hk : Keeps st0 s) : Keeps st0 (readAll l s).2 := by
  induction l generalizing s with
  | nil => exact hk
  | cons a l ih => exact ih _ (readReg_keeps _ _ hk)

end Sys2Proof.Machine
end

