-- ==== Sys2Proof/Laws/KeepsFabric.lean ====
section
/-!
SUPPORT. Every operation of Sys2Proof/Machine/Fabric.lean keeps what `Keeps` names.
-/
namespace Sys2Proof.Machine

@[simp] theorem writeMgt_keeps {st0 : State} (r : Reg) (ix : List Nat) (v : Word) (s : State) (hk : Keeps st0 s) : Keeps st0 (writeMgt r ix v s) := by
  unfold writeMgt
  try dsimp only
  (repeat' split) <;> simp +contextual (maxDischargeDepth := 20) [*, -List.foldl_cons]

@[simp] theorem writeSec_keeps {st0 : State} (r : Reg) (ix : List Nat) (v : Word) (s : State) (hk : Keeps st0 s) : Keeps st0 (writeSec r ix v s) := by
  unfold writeSec
  try dsimp only
  (repeat' split) <;> simp +contextual (maxDischargeDepth := 20) [*, -List.foldl_cons]

@[simp] theorem writePwg_keeps {st0 : State} (r : Reg) (ix : List Nat) (v : Word) (s : State) (hk : Keeps st0 s) : Keeps st0 (writePwg r ix v s) := by
  unfold writePwg
  try dsimp only
  (repeat' split) <;> simp +contextual (maxDischargeDepth := 20) [*, -List.foldl_cons]

@[simp] theorem writeCal_keeps {st0 : State} (r : Reg) (ix : List Nat) (v : Word) (s : State) (hk : Keeps st0 s) : Keeps st0 (writeCal r ix v s) := by
  unfold writeCal
  try dsimp only
  (repeat' split) <;> simp +contextual (maxDischargeDepth := 20) [*, -List.foldl_cons]

@[simp] theorem writeLne_keeps {st0 : State} (r : Reg) (ix : List Nat) (v : Word) (s : State) (hk : Keeps st0 s) : Keeps st0 (writeLne r ix v s) := by
  unfold writeLne
  try dsimp only
  (repeat' split) <;> simp +contextual (maxDischargeDepth := 20) [*, -List.foldl_cons]

@[simp] theorem writeLnk_keeps {st0 : State} (r : Reg) (ix : List Nat) (v : Word) (s : State) (hk : Keeps st0 s) : Keeps st0 (writeLnk r ix v s) := by
  unfold writeLnk
  try dsimp only
  (repeat' split) <;> simp +contextual (maxDischargeDepth := 20) [*, -List.foldl_cons]

@[simp] theorem writeDmc_keeps {st0 : State} (r : Reg) (ix : List Nat) (v : Word) (s : State) (hk : Keeps st0 s) : Keeps st0 (writeDmc r ix v s) := by
  unfold writeDmc
  try dsimp only
  (repeat' split) <;> simp +contextual (maxDischargeDepth := 20) [*, -List.foldl_cons]

@[simp] theorem writeSfm_keeps {st0 : State} (r : Reg) (ix : List Nat) (v : Word) (s : State) (hk : Keeps st0 s) : Keeps st0 (writeSfm r ix v s) := by
  unfold writeSfm
  try dsimp only
  (repeat' split) <;> simp +contextual (maxDischargeDepth := 20) [*, -List.foldl_cons]

@[simp] theorem writeHead_keeps {st0 : State} (r : Reg) (ix : List Nat) (v : Word) (s : State) (hk : Keeps st0 s) : Keeps st0 (writeHead r ix v s) := by
  unfold writeHead
  try dsimp only
  (repeat' split) <;> simp +contextual (maxDischargeDepth := 20) [*, -List.foldl_cons]

@[simp] theorem writeLsc_keeps {st0 : State} (r : Reg) (ix : List Nat) (v : Word) (s : State) (hk : Keeps st0 s) : Keeps st0 (writeLsc r ix v s) := by
  unfold writeLsc
  try dsimp only
  (repeat' split) <;> simp +contextual (maxDischargeDepth := 20) [*, -List.foldl_cons]

@[simp] theorem writeTim_keeps {st0 : State} (r : Reg) (ix : List Nat) (v : Word) (s : State) (hk : Keeps st0 s) : Keeps st0 (writeTim r ix v s) := by
  unfold writeTim
  try dsimp only
  (repeat' split) <;> simp +contextual (maxDischargeDepth := 20) [*, -List.foldl_cons]

@[simp] theorem writeReg_keeps {st0 : State} (r : Reg) (ix : List Nat) (v : Word) (s : State) (hk : Keeps st0 s) : Keeps st0 (writeReg r ix v s) := by
  unfold writeReg
  try dsimp only
  (repeat' split) <;> simp +contextual (maxDischargeDepth := 20) [*, -List.foldl_cons]

@[simp] theorem regWrite_keeps {st0 : State} (a : Nat) (v : Word) (s : State) (hk : Keeps st0 s) : Keeps st0 (regWrite a v s) := by
  unfold regWrite
  try dsimp only
  (repeat' split) <;> simp +contextual (maxDischargeDepth := 20) [*, -List.foldl_cons]

@[simp] theorem fullWrite_keeps {st0 : State} (src : Source) (a : Nat) (v : Word) (s : State) (hk : Keeps st0 s) : Keeps st0 (fullWrite src a v s) := by
  unfold fullWrite
  exact gatedWrite_keeps _ _ _ _ _ (fun v hv => regWrite_keeps _ _ _ hv) hk

@[simp] theorem writeAll_keeps {st0 : State} (src : Source) (l : List (Nat × Word)) (s : State) (hk : Keeps st0 s) : Keeps st0 (writeAll src l s) := by
  induction l generalizing s with
  | nil => exact hk
  | cons x l ih => exact ih _ (fullWrite_keeps _ _ _ _ hk)

@[simp] theorem registerWriteOp_keeps {st0 : State} (src : Source) (be addr : Nat) (v : Word) (s : State) (hk : Keeps st0 s) : Keeps st0 (registerWriteOp src be addr v s) := by
  unfold registerWriteOp
  try dsimp only
  (repeat' split) <;> simp +contextual (maxDischargeDepth := 20) [*, -List.foldl_cons]

@[simp] theorem respond_keeps {st0 : State} (p c status : Nat) (r : CulvertReq) (words : List Word) (s : State) (hk : Keeps st0 s) : Keeps st0 (respond p c status r words s) := by
  unfold respond
  try dsimp only
  (repeat' split) <;> simp +contextual (maxDischargeDepth := 20) [*, -List.foldl_cons]

@[simp] theorem nextCulvert_keeps {st0 : State} (p : Fin 24) (c : Fin 4) (r : CulvertReq) (s : State) (hk : Keeps st0 s) : Keeps st0 (nextCulvert p c r s).2 := by
  have h := takeTxn_keeps p.val (fun t => t.type == 3 && t.stream == c.val) s hk
  unfold nextCulvert
  split <;> rename_i he <;> rw [he] at h
  · exact freeTxn_keeps _ _ _ h
  · exact h

@[simp] theorem culvertOp_keeps {st0 : State} (p : Fin 24) (c : Fin 4) (r0 : CulvertReq) (s : State) (hk : Keeps st0 s) : Keeps st0 (culvertOp p c r0 s) := by
  unfold culvertOp
  try dsimp only
  (repeat' split) <;> simp +contextual (maxDischargeDepth := 20) [*, -List.foldl_cons]

@[simp] theorem setSpiStatus_keeps {st0 : State} (st : Nat) (s : State) (hk : Keeps st0 s) : Keeps st0 (setSpiStatus st s) := by
  unfold setSpiStatus
  try dsimp only
  (repeat' split) <;> simp +contextual (maxDischargeDepth := 20) [*, -List.foldl_cons]

@[simp] theorem spiWriteAll_keeps {st0 : State} (l : List (Nat × Word)) (s : State) (hk : Keeps st0 s) : Keeps st0 (spiWriteAll l s) := by
  induction l generalizing s with
  | nil => exact hk
  | cons x l ih =>
    refine ih _ (setSpiStatus_keeps _ _ ?_)
    split
    · exact fullWrite_keeps _ _ _ _ hk
    · exact hk

@[simp] theorem spiReadAll_keeps {st0 : State} (l : List Nat) (s : State) (hk : Keeps st0 s) : Keeps st0 (spiReadAll l s).2 := by
  induction l generalizing s with
  | nil => exact hk
  | cons a l ih =>
    refine ih _ (setSpiStatus_keeps _ _ ?_)
    split
    · exact readReg_keeps _ _ hk
    · exact hk

@[simp] theorem spiReadOp_keeps {st0 : State} (addr count : Nat) (s : State) (hk : Keeps st0 s) : Keeps st0 (spiReadOp addr count s) := by
  unfold spiReadOp
  try dsimp only
  (repeat' split) <;> simp +contextual (maxDischargeDepth := 20) [*, -List.foldl_cons]

end Sys2Proof.Machine
end

