-- ==== Sys2Proof/Laws/KeepsLinks.lean ====
section
/-!
SUPPORT. Every operation of Sys2Proof/Machine/Links.lean keeps what `Keeps` names.
-/
namespace Sys2Proof.Machine

@[simp] theorem portBudgets_keeps {st0 : State} (p : Nat) (s : State) (hk : Keeps st0 s) : Keeps st0 (portBudgets p s) := by
  unfold portBudgets
  try dsimp only
  (repeat' split) <;> simp +contextual (maxDischargeDepth := 20) [*, -List.foldl_cons]

@[simp] theorem rebudget_keeps {st0 : State} (s : State) (hk : Keeps st0 s) : Keeps st0 (rebudget s) := by
  unfold rebudget
  try dsimp only
  (repeat' split) <;> simp +contextual (maxDischargeDepth := 20) [*, -List.foldl_cons]

@[simp] theorem portCameUp_keeps {st0 : State} (p : Nat) (s : State) (hk : Keeps st0 s) : Keeps st0 (portCameUp p s) := by
  unfold portCameUp
  try dsimp only
  (repeat' split) <;> simp +contextual (maxDischargeDepth := 20) [*, -List.foldl_cons]

@[simp] theorem sleepOp_keeps {st0 : State} (p en cap code : Nat) (s : State) (hk : Keeps st0 s) : Keeps st0 (sleepOp p en cap code s) := by
  unfold sleepOp
  try dsimp only
  (repeat' split) <;> simp +contextual (maxDischargeDepth := 20) [*, -List.foldl_cons]

end Sys2Proof.Machine
end

