-- ==== Sys2Proof/Laws/KeepsEvents.lean ====
section
/-!
SUPPORT. Every operation of Sys2Proof/Machine/Events.lean keeps what `Keeps` names.
-/
namespace Sys2Proof.Machine

@[simp] theorem batchAcceptOp_keeps {st0 : State} (s : State) (hk : Keeps st0 s) : Keeps st0 (batchAcceptOp s) := by
  unfold batchAcceptOp
  try dsimp only
  (repeat' split) <;> simp +contextual (maxDischargeDepth := 20) [*, -List.foldl_cons]

end Sys2Proof.Machine
end

