-- ==== Sys2Proof/Laws/KeepsLine.lean ====
section
/-!
SUPPORT. Every operation of Sys2Proof/Machine/Line.lean keeps what `Keeps` names.
-/
namespace Sys2Proof.Machine

@[simp] theorem nearEnd_keeps {st0 : State} (n : Nat) (s : State) (hk : Keeps st0 s) : Keeps st0 (nearEnd n s) := by
  unfold nearEnd
  try dsimp only
  (repeat' split) <;> simp +contextual (maxDischargeDepth := 20) [*, -List.foldl_cons]

@[simp] theorem laneSend_keeps {st0 : State} (n : Nat) (place : Block) (s : State) (hk : Keeps st0 s) : Keeps st0 (laneSend n place s) := by
  unfold laneSend
  try dsimp only
  (repeat' split) <;> simp +contextual (maxDischargeDepth := 20) [*, -List.foldl_cons]

@[simp] theorem portSend_keeps {st0 : State} (s : State) (r : PortCfg) (hk : Keeps st0 s) : Keeps st0 (portSend s r) := by
  unfold portSend
  try dsimp only
  (repeat' split) <;> simp +contextual (maxDischargeDepth := 20) [*, -List.foldl_cons]

@[simp] theorem transmit_keeps {st0 : State} (s : State) (hk : Keeps st0 s) : Keeps st0 (transmit s) := by
  unfold transmit
  try dsimp only
  (repeat' split) <;> simp +contextual (maxDischargeDepth := 20) [*, -List.foldl_cons]

end Sys2Proof.Machine
end

