-- ==== Sys2Proof/Laws/KeepsTick.lean ====
section
/-!
SUPPORT. Every operation of Sys2Proof/Machine/Tick.lean keeps what `Keeps` names.
-/
namespace Sys2Proof.Machine

@[simp] theorem rerunDiff_keeps {st0 : State} (kind h chan rects frame : Nat) (s : State) (hk : Keeps st0 s) : Keeps st0 (rerunDiff kind h chan rects frame s) := by
  unfold rerunDiff
  try dsimp only
  (repeat' split) <;> simp +contextual (maxDischargeDepth := 20) [*, -List.foldl_cons]

@[simp] theorem rerunCtl_keeps {st0 : State} (h : Nat) (v : Word) (s : State) (hk : Keeps st0 s) : Keeps st0 (rerunCtl h v s) := by
  unfold rerunCtl
  try dsimp only
  (repeat' split) <;> simp +contextual (maxDischargeDepth := 20) [*, -List.foldl_cons]

@[simp] theorem rerunReg_keeps {st0 : State} (h a : Nat) (v : Word) (s : State) (hk : Keeps st0 s) : Keeps st0 (rerunReg h a v s) := by
  unfold rerunReg
  try dsimp only
  (repeat' split) <;> simp +contextual (maxDischargeDepth := 20) [*, -List.foldl_cons]

@[simp] theorem rerunCommit_keeps {st0 : State} (h status target late : Nat) (s : State) (hk : Keeps st0 s) : Keeps st0 (rerunCommit h status target late s) := by
  unfold rerunCommit
  try dsimp only
  (repeat' split) <;> simp +contextual (maxDischargeDepth := 20) [*, -List.foldl_cons]

@[simp] theorem rerunBoundary_keeps {st0 : State} (h num e held : Nat) (s : State) (hk : Keeps st0 s) : Keeps st0 (rerunBoundary h num e held s) := by
  unfold rerunBoundary
  have hn : (num - 1) % 2 ^ 48 ≤ cntMax := Nat.le_sub_one_of_lt (Nat.mod_lt _ (by decide))
  exact boundaryOp_keeps _ _ (Keeps.counters hk rfl (Counts.put _ _ _ (decide_eq_true hn)))

@[simp] theorem rerunMon_keeps {st0 : State} (c : Nat) (vals : List Nat) (s : State) (hk : Keeps st0 s) : Keeps st0 (rerunMon c vals s) := by
  unfold rerunMon
  try dsimp only
  (repeat' split) <;> simp +contextual (maxDischargeDepth := 20) [*, -List.foldl_cons]

@[simp] theorem rerunSensor_keeps {st0 : State} (h k : Nat) (bs : List Byte) (s : State) (hk : Keeps st0 s) : Keeps st0 (rerunSensor h k bs s) := by
  unfold rerunSensor
  try dsimp only
  (repeat' split) <;> simp +contextual (maxDischargeDepth := 20) [*, -List.foldl_cons]

@[simp] theorem rerunCrc_keeps {st0 : State} (h : Nat) (vals : List Nat) (s : State) (hk : Keeps st0 s) : Keeps st0 (rerunCrc h vals s) := by
  unfold rerunCrc
  try dsimp only
  (repeat' split) <;> simp +contextual (maxDischargeDepth := 20) [*, -List.foldl_cons]

@[simp] theorem rerunDrive_keeps {st0 : State} (h : Nat) (vals : List Nat) (s : State) (hk : Keeps st0 s) : Keeps st0 (rerunDrive h vals s) := by
  unfold rerunDrive
  try dsimp only
  (repeat' split) <;> simp +contextual (maxDischargeDepth := 20) [*, -List.foldl_cons]

@[simp] theorem rerunItem_keeps {st0 : State} (i : RecItem) (s : State) (hk : Keeps st0 s) : Keeps st0 (rerunItem i s) := by
  unfold rerunItem
  try dsimp only
  (repeat' split) <;> simp +contextual (maxDischargeDepth := 20) [*, -List.foldl_cons]

@[simp] theorem rerunDue_keeps {st0 : State} (l : List RecItem) (s : State) (hk : Keeps st0 s) : Keeps st0 (rerunDue l s) := by
  induction l generalizing s with
  | nil => exact Keeps.plain hk rfl
  | cons i r ih =>
    unfold rerunDue
    split
    · exact Keeps.plain hk rfl
    · exact ih _ (by simp [hk])

@[simp] theorem rerunPause_keeps {st0 : State} (s : State) (hk : Keeps st0 s) : Keeps st0 (rerunPause s) := by
  unfold rerunPause
  try dsimp only
  (repeat' split) <;> simp +contextual (maxDischargeDepth := 20) [*, -List.foldl_cons]

@[simp] theorem newClock_keeps {st0 : State} (s : State) (hk : Keeps st0 s) : Keeps st0 (newClock s) := by
  unfold newClock
  try dsimp only
  (repeat' split) <;> simp +contextual (maxDischargeDepth := 20) [*, -List.foldl_cons]

@[simp] theorem tick_keeps {st0 : State} (s : State) (hk : Keeps st0 s) : Keeps st0 (tick s) := by
  unfold tick
  try dsimp only
  (repeat' split) <;> simp +contextual (maxDischargeDepth := 20) [*, -List.foldl_cons]

end Sys2Proof.Machine
end

