-- ==== Sys2Proof/Laws/State.lean ====
section
/-!
SUPPORT. The fields of the state after each of the shared updates: one lemma per field and update, so that no proof unfolds a record update.
This file follows the Keeps files in the one text of the package: its simp lemmas would rewrite the updates their proofs end on.
-/
namespace Sys2Proof.Machine

/-! ### The fields of a state, of a collector, of the light loops and of the time port, by their constructors -/

section
variable (now' : Nat) (order' : SMap (Nat × Nat)) (free' : Nat) (regs' : SMap Word) (force' : SMap Word) (counters' : SMap Counter) (hiCap' : SMap Nat) (dram' : Memory) (basin' : Memory) (flash' : Memory) (cfg' : Topo) (blkState' : SMap Nat) (unitsOut' : SMap (List Nat)) (thermal' : Thermal) (otp' : Otp) (dbg' : Debug) (boot' : Boot) (mgt' : Mgt) (recd' : Recorder) (pwg' : Pwg) (sec' : Sec) (lanes' : SMap Lane) (groups' : SMap LaneGroup) (ports' : SMap Port) (calLanes' : SMap CalLane) (calGroups' : SMap CalGroup) (dramCh' : SMap DramCh) (dmc' : Dmc) (sfm' : Sfm) (tgn' : SMap TgnHead) (headPolders' : SMap (List Nat)) (polders' : SMap Polder) (cals' : SMap PortCal) (pnl' : SMap PnlHead) (lsc' : Lsc) (tim' : Tim) (ckpts' : SMap Ckpt) (wire' : List Sent) (pending' : List Instr)
theorem State.mk_now : (State.mk now' order' free' regs' force' counters' hiCap' dram' basin' flash' cfg' blkState' unitsOut' thermal' otp' dbg' boot' mgt' recd' pwg' sec' lanes' groups' ports' calLanes' calGroups' dramCh' dmc' sfm' tgn' headPolders' polders' cals' pnl' lsc' tim' ckpts' wire' pending').now = now' := rfl
theorem State.mk_order : (State.mk now' order' free' regs' force' counters' hiCap' dram' basin' flash' cfg' blkState' unitsOut' thermal' otp' dbg' boot' mgt' recd' pwg' sec' lanes' groups' ports' calLanes' calGroups' dramCh' dmc' sfm' tgn' headPolders' polders' cals' pnl' lsc' tim' ckpts' wire' pending').order = order' := rfl
theorem State.mk_free : (State.mk now' order' free' regs' force' counters' hiCap' dram' basin' flash' cfg' blkState' unitsOut' thermal' otp' dbg' boot' mgt' recd' pwg' sec' lanes' groups' ports' calLanes' calGroups' dramCh' dmc' sfm' tgn' headPolders' polders' cals' pnl' lsc' tim' ckpts' wire' pending').free = free' := rfl
theorem State.mk_regs : (State.mk now' order' free' regs' force' counters' hiCap' dram' basin' flash' cfg' blkState' unitsOut' thermal' otp' dbg' boot' mgt' recd' pwg' sec' lanes' groups' ports' calLanes' calGroups' dramCh' dmc' sfm' tgn' headPolders' polders' cals' pnl' lsc' tim' ckpts' wire' pending').regs = regs' := rfl
theorem State.mk_force : (State.mk now' order' free' regs' force' counters' hiCap' dram' basin' flash' cfg' blkState' unitsOut' thermal' otp' dbg' boot' mgt' recd' pwg' sec' lanes' groups' ports' calLanes' calGroups' dramCh' dmc' sfm' tgn' headPolders' polders' cals' pnl' lsc' tim' ckpts' wire' pending').force = force' := rfl
theorem State.mk_counters : (State.mk now' order' free' regs' force' counters' hiCap' dram' basin' flash' cfg' blkState' unitsOut' thermal' otp' dbg' boot' mgt' recd' pwg' sec' lanes' groups' ports' calLanes' calGroups' dramCh' dmc' sfm' tgn' headPolders' polders' cals' pnl' lsc' tim' ckpts' wire' pending').counters = counters' := rfl
theorem State.mk_hiCap : (State.mk now' order' free' regs' force' counters' hiCap' dram' basin' flash' cfg' blkState' unitsOut' thermal' otp' dbg' boot' mgt' recd' pwg' sec' lanes' groups' ports' calLanes' calGroups' dramCh' dmc' sfm' tgn' headPolders' polders' cals' pnl' lsc' tim' ckpts' wire' pending').hiCap = hiCap' := rfl
theorem State.mk_dram : (State.mk now' order' free' regs' force' counters' hiCap' dram' basin' flash' cfg' blkState' unitsOut' thermal' otp' dbg' boot' mgt' recd' pwg' sec' lanes' groups' ports' calLanes' calGroups' dramCh' dmc' sfm' tgn' headPolders' polders' cals' pnl' lsc' tim' ckpts' wire' pending').dram = dram' := rfl
theorem State.mk_basin : (State.mk now' order' free' regs' force' counters' hiCap' dram' basin' flash' cfg' blkState' unitsOut' thermal' otp' dbg' boot' mgt' recd' pwg' sec' lanes' groups' ports' calLanes' calGroups' dramCh' dmc' sfm' tgn' headPolders' polders' cals' pnl' lsc' tim' ckpts' wire' pending').basin = basin' := rfl
theorem State.mk_flash : (State.mk now' order' free' regs' force' counters' hiCap' dram' basin' flash' cfg' blkState' unitsOut' thermal' otp' dbg' boot' mgt' recd' pwg' sec' lanes' groups' ports' calLanes' calGroups' dramCh' dmc' sfm' tgn' headPolders' polders' cals' pnl' lsc' tim' ckpts' wire' pending').flash = flash' := rfl
theorem State.mk_cfg : (State.mk now' order' free' regs' force' counters' hiCap' dram' basin' flash' cfg' blkState' unitsOut' thermal' otp' dbg' boot' mgt' recd' pwg' sec' lanes' groups' ports' calLanes' calGroups' dramCh' dmc' sfm' tgn' headPolders' polders' cals' pnl' lsc' tim' ckpts' wire' pending').cfg = cfg' := rfl
theorem State.mk_blkState : (State.mk now' order' free' regs' force' counters' hiCap' dram' basin' flash' cfg' blkState' unitsOut' thermal' otp' dbg' boot' mgt' recd' pwg' sec' lanes' groups' ports' calLanes' calGroups' dramCh' dmc' sfm' tgn' headPolders' polders' cals' pnl' lsc' tim' ckpts' wire' pending').blkState = blkState' := rfl
theorem State.mk_unitsOut : (State.mk now' order' free' regs' force' counters' hiCap' dram' basin' flash' cfg' blkState' unitsOut' thermal' otp' dbg' boot' mgt' recd' pwg' sec' lanes' groups' ports' calLanes' calGroups' dramCh' dmc' sfm' tgn' headPolders' polders' cals' pnl' lsc' tim' ckpts' wire' pending').unitsOut = unitsOut' := rfl
theorem State.mk_thermal : (State.mk now' order' free' regs' force' counters' hiCap' dram' basin' flash' cfg' blkState' unitsOut' thermal' otp' dbg' boot' mgt' recd' pwg' sec' lanes' groups' ports' calLanes' calGroups' dramCh' dmc' sfm' tgn' headPolders' polders' cals' pnl' lsc' tim' ckpts' wire' pending').thermal = thermal' := rfl
theorem State.mk_otp : (State.mk now' order' free' regs' force' counters' hiCap' dram' basin' flash' cfg' blkState' unitsOut' thermal' otp' dbg' boot' mgt' recd' pwg' sec' lanes' groups' ports' calLanes' calGroups' dramCh' dmc' sfm' tgn' headPolders' polders' cals' pnl' lsc' tim' ckpts' wire' pending').otp = otp' := rfl
theorem State.mk_dbg : (State.mk now' order' free' regs' force' counters' hiCap' dram' basin' flash' cfg' blkState' unitsOut' thermal' otp' dbg' boot' mgt' recd' pwg' sec' lanes' groups' ports' calLanes' calGroups' dramCh' dmc' sfm' tgn' headPolders' polders' cals' pnl' lsc' tim' ckpts' wire' pending').dbg = dbg' := rfl
theorem State.mk_boot : (State.mk now' order' free' regs' force' counters' hiCap' dram' basin' flash' cfg' blkState' unitsOut' thermal' otp' dbg' boot' mgt' recd' pwg' sec' lanes' groups' ports' calLanes' calGroups' dramCh' dmc' sfm' tgn' headPolders' polders' cals' pnl' lsc' tim' ckpts' wire' pending').boot = boot' := rfl
theorem State.mk_mgt : (State.mk now' order' free' regs' force' counters' hiCap' dram' basin' flash' cfg' blkState' unitsOut' thermal' otp' dbg' boot' mgt' recd' pwg' sec' lanes' groups' ports' calLanes' calGroups' dramCh' dmc' sfm' tgn' headPolders' polders' cals' pnl' lsc' tim' ckpts' wire' pending').mgt = mgt' := rfl
theorem State.mk_recd : (State.mk now' order' free' regs' force' counters' hiCap' dram' basin' flash' cfg' blkState' unitsOut' thermal' otp' dbg' boot' mgt' recd' pwg' sec' lanes' groups' ports' calLanes' calGroups' dramCh' dmc' sfm' tgn' headPolders' polders' cals' pnl' lsc' tim' ckpts' wire' pending').recd = recd' := rfl
theorem State.mk_pwg : (State.mk now' order' free' regs' force' counters' hiCap' dram' basin' flash' cfg' blkState' unitsOut' thermal' otp' dbg' boot' mgt' recd' pwg' sec' lanes' groups' ports' calLanes' calGroups' dramCh' dmc' sfm' tgn' headPolders' polders' cals' pnl' lsc' tim' ckpts' wire' pending').pwg = pwg' := rfl
theorem State.mk_sec : (State.mk now' order' free' regs' force' counters' hiCap' dram' basin' flash' cfg' blkState' unitsOut' thermal' otp' dbg' boot' mgt' recd' pwg' sec' lanes' groups' ports' calLanes' calGroups' dramCh' dmc' sfm' tgn' headPolders' polders' cals' pnl' lsc' tim' ckpts' wire' pending').sec = sec' := rfl
theorem State.mk_lanes : (State.mk now' order' free' regs' force' counters' hiCap' dram' basin' flash' cfg' blkState' unitsOut' thermal' otp' dbg' boot' mgt' recd' pwg' sec' lanes' groups' ports' calLanes' calGroups' dramCh' dmc' sfm' tgn' headPolders' polders' cals' pnl' lsc' tim' ckpts' wire' pending').lanes = lanes' := rfl
theorem State.mk_groups : (State.mk now' order' free' regs' force' counters' hiCap' dram' basin' flash' cfg' blkState' unitsOut' thermal' otp' dbg' boot' mgt' recd' pwg' sec' lanes' groups' ports' calLanes' calGroups' dramCh' dmc' sfm' tgn' headPolders' polders' cals' pnl' lsc' tim' ckpts' wire' pending').groups = groups' := rfl
theorem State.mk_ports : (State.mk now' order' free' regs' force' counters' hiCap' dram' basin' flash' cfg' blkState' unitsOut' thermal' otp' dbg' boot' mgt' recd' pwg' sec' lanes' groups' ports' calLanes' calGroups' dramCh' dmc' sfm' tgn' headPolders' polders' cals' pnl' lsc' tim' ckpts' wire' pending').ports = ports' := rfl
theorem State.mk_calLanes : (State.mk now' order' free' regs' force' counters' hiCap' dram' basin' flash' cfg' blkState' unitsOut' thermal' otp' dbg' boot' mgt' recd' pwg' sec' lanes' groups' ports' calLanes' calGroups' dramCh' dmc' sfm' tgn' headPolders' polders' cals' pnl' lsc' tim' ckpts' wire' pending').calLanes = calLanes' := rfl
theorem State.mk_calGroups : (State.mk now' order' free' regs' force' counters' hiCap' dram' basin' flash' cfg' blkState' unitsOut' thermal' otp' dbg' boot' mgt' recd' pwg' sec' lanes' groups' ports' calLanes' calGroups' dramCh' dmc' sfm' tgn' headPolders' polders' cals' pnl' lsc' tim' ckpts' wire' pending').calGroups = calGroups' := rfl
theorem State.mk_dramCh : (State.mk now' order' free' regs' force' counters' hiCap' dram' basin' flash' cfg' blkState' unitsOut' thermal' otp' dbg' boot' mgt' recd' pwg' sec' lanes' groups' ports' calLanes' calGroups' dramCh' dmc' sfm' tgn' headPolders' polders' cals' pnl' lsc' tim' ckpts' wire' pending').dramCh = dramCh' := rfl
theorem State.mk_dmc : (State.mk now' order' free' regs' force' counters' hiCap' dram' basin' flash' cfg' blkState' unitsOut' thermal' otp' dbg' boot' mgt' recd' pwg' sec' lanes' groups' ports' calLanes' calGroups' dramCh' dmc' sfm' tgn' headPolders' polders' cals' pnl' lsc' tim' ckpts' wire' pending').dmc = dmc' := rfl
theorem State.mk_sfm : (State.mk now' order' free' regs' force' counters' hiCap' dram' basin' flash' cfg' blkState' unitsOut' thermal' otp' dbg' boot' mgt' recd' pwg' sec' lanes' groups' ports' calLanes' calGroups' dramCh' dmc' sfm' tgn' headPolders' polders' cals' pnl' lsc' tim' ckpts' wire' pending').sfm = sfm' := rfl
theorem State.mk_tgn : (State.mk now' order' free' regs' force' counters' hiCap' dram' basin' flash' cfg' blkState' unitsOut' thermal' otp' dbg' boot' mgt' recd' pwg' sec' lanes' groups' ports' calLanes' calGroups' dramCh' dmc' sfm' tgn' headPolders' polders' cals' pnl' lsc' tim' ckpts' wire' pending').tgn = tgn' := rfl
theorem State.mk_headPolders : (State.mk now' order' free' regs' force' counters' hiCap' dram' basin' flash' cfg' blkState' unitsOut' thermal' otp' dbg' boot' mgt' recd' pwg' sec' lanes' groups' ports' calLanes' calGroups' dramCh' dmc' sfm' tgn' headPolders' polders' cals' pnl' lsc' tim' ckpts' wire' pending').headPolders = headPolders' := rfl
theorem State.mk_polders : (State.mk now' order' free' regs' force' counters' hiCap' dram' basin' flash' cfg' blkState' unitsOut' thermal' otp' dbg' boot' mgt' recd' pwg' sec' lanes' groups' ports' calLanes' calGroups' dramCh' dmc' sfm' tgn' headPolders' polders' cals' pnl' lsc' tim' ckpts' wire' pending').polders = polders' := rfl
theorem State.mk_cals : (State.mk now' order' free' regs' force' counters' hiCap' dram' basin' flash' cfg' blkState' unitsOut' thermal' otp' dbg' boot' mgt' recd' pwg' sec' lanes' groups' ports' calLanes' calGroups' dramCh' dmc' sfm' tgn' headPolders' polders' cals' pnl' lsc' tim' ckpts' wire' pending').cals = cals' := rfl
theorem State.mk_pnl : (State.mk now' order' free' regs' force' counters' hiCap' dram' basin' flash' cfg' blkState' unitsOut' thermal' otp' dbg' boot' mgt' recd' pwg' sec' lanes' groups' ports' calLanes' calGroups' dramCh' dmc' sfm' tgn' headPolders' polders' cals' pnl' lsc' tim' ckpts' wire' pending').pnl = pnl' := rfl
theorem State.mk_lsc : (State.mk now' order' free' regs' force' counters' hiCap' dram' basin' flash' cfg' blkState' unitsOut' thermal' otp' dbg' boot' mgt' recd' pwg' sec' lanes' groups' ports' calLanes' calGroups' dramCh' dmc' sfm' tgn' headPolders' polders' cals' pnl' lsc' tim' ckpts' wire' pending').lsc = lsc' := rfl
theorem State.mk_tim : (State.mk now' order' free' regs' force' counters' hiCap' dram' basin' flash' cfg' blkState' unitsOut' thermal' otp' dbg' boot' mgt' recd' pwg' sec' lanes' groups' ports' calLanes' calGroups' dramCh' dmc' sfm' tgn' headPolders' polders' cals' pnl' lsc' tim' ckpts' wire' pending').tim = tim' := rfl
theorem State.mk_ckpts : (State.mk now' order' free' regs' force' counters' hiCap' dram' basin' flash' cfg' blkState' unitsOut' thermal' otp' dbg' boot' mgt' recd' pwg' sec' lanes' groups' ports' calLanes' calGroups' dramCh' dmc' sfm' tgn' headPolders' polders' cals' pnl' lsc' tim' ckpts' wire' pending').ckpts = ckpts' := rfl
theorem State.mk_wire : (State.mk now' order' free' regs' force' counters' hiCap' dram' basin' flash' cfg' blkState' unitsOut' thermal' otp' dbg' boot' mgt' recd' pwg' sec' lanes' groups' ports' calLanes' calGroups' dramCh' dmc' sfm' tgn' headPolders' polders' cals' pnl' lsc' tim' ckpts' wire' pending').wire = wire' := rfl
theorem State.mk_pending : (State.mk now' order' free' regs' force' counters' hiCap' dram' basin' flash' cfg' blkState' unitsOut' thermal' otp' dbg' boot' mgt' recd' pwg' sec' lanes' groups' ports' calLanes' calGroups' dramCh' dmc' sfm' tgn' headPolders' polders' cals' pnl' lsc' tim' ckpts' wire' pending').pending = pending' := rfl
end

section
variable (fresh' : List Presented) (late' : List Presented) (waiting' : List (List Presented)) (queue' : List EvRec) (nextSeq' : Nat) (dropped' : Nat) (dropStamp' : Nat) (dropSeq' : Nat) (qPeak' : Nat) (ringEn' : Bool) (ringSize' : Nat) (ringPage' : Nat) (wr' : Nat) (rd' : Nat) (sent' : Nat) (sending' : Bool) (full' : Bool) (writer' : List EvRec) (drained' : Option Nat)
theorem Mgt.mk_fresh : (Mgt.mk fresh' late' waiting' queue' nextSeq' dropped' dropStamp' dropSeq' qPeak' ringEn' ringSize' ringPage' wr' rd' sent' sending' full' writer' drained').fresh = fresh' := rfl
theorem Mgt.mk_late : (Mgt.mk fresh' late' waiting' queue' nextSeq' dropped' dropStamp' dropSeq' qPeak' ringEn' ringSize' ringPage' wr' rd' sent' sending' full' writer' drained').late = late' := rfl
theorem Mgt.mk_waiting : (Mgt.mk fresh' late' waiting' queue' nextSeq' dropped' dropStamp' dropSeq' qPeak' ringEn' ringSize' ringPage' wr' rd' sent' sending' full' writer' drained').waiting = waiting' := rfl
theorem Mgt.mk_queue : (Mgt.mk fresh' late' waiting' queue' nextSeq' dropped' dropStamp' dropSeq' qPeak' ringEn' ringSize' ringPage' wr' rd' sent' sending' full' writer' drained').queue = queue' := rfl
theorem Mgt.mk_nextSeq : (Mgt.mk fresh' late' waiting' queue' nextSeq' dropped' dropStamp' dropSeq' qPeak' ringEn' ringSize' ringPage' wr' rd' sent' sending' full' writer' drained').nextSeq = nextSeq' := rfl
theorem Mgt.mk_dropped : (Mgt.mk fresh' late' waiting' queue' nextSeq' dropped' dropStamp' dropSeq' qPeak' ringEn' ringSize' ringPage' wr' rd' sent' sending' full' writer' drained').dropped = dropped' := rfl
theorem Mgt.mk_dropStamp : (Mgt.mk fresh' late' waiting' queue' nextSeq' dropped' dropStamp' dropSeq' qPeak' ringEn' ringSize' ringPage' wr' rd' sent' sending' full' writer' drained').dropStamp = dropStamp' := rfl
theorem Mgt.mk_dropSeq : (Mgt.mk fresh' late' waiting' queue' nextSeq' dropped' dropStamp' dropSeq' qPeak' ringEn' ringSize' ringPage' wr' rd' sent' sending' full' writer' drained').dropSeq = dropSeq' := rfl
theorem Mgt.mk_qPeak : (Mgt.mk fresh' late' waiting' queue' nextSeq' dropped' dropStamp' dropSeq' qPeak' ringEn' ringSize' ringPage' wr' rd' sent' sending' full' writer' drained').qPeak = qPeak' := rfl
theorem Mgt.mk_ringEn : (Mgt.mk fresh' late' waiting' queue' nextSeq' dropped' dropStamp' dropSeq' qPeak' ringEn' ringSize' ringPage' wr' rd' sent' sending' full' writer' drained').ringEn = ringEn' := rfl
theorem Mgt.mk_ringSize : (Mgt.mk fresh' late' waiting' queue' nextSeq' dropped' dropStamp' dropSeq' qPeak' ringEn' ringSize' ringPage' wr' rd' sent' sending' full' writer' drained').ringSize = ringSize' := rfl
theorem Mgt.mk_ringPage : (Mgt.mk fresh' late' waiting' queue' nextSeq' dropped' dropStamp' dropSeq' qPeak' ringEn' ringSize' ringPage' wr' rd' sent' sending' full' writer' drained').ringPage = ringPage' := rfl
theorem Mgt.mk_wr : (Mgt.mk fresh' late' waiting' queue' nextSeq' dropped' dropStamp' dropSeq' qPeak' ringEn' ringSize' ringPage' wr' rd' sent' sending' full' writer' drained').wr = wr' := rfl
theorem Mgt.mk_rd : (Mgt.mk fresh' late' waiting' queue' nextSeq' dropped' dropStamp' dropSeq' qPeak' ringEn' ringSize' ringPage' wr' rd' sent' sending' full' writer' drained').rd = rd' := rfl
theorem Mgt.mk_sent : (Mgt.mk fresh' late' waiting' queue' nextSeq' dropped' dropStamp' dropSeq' qPeak' ringEn' ringSize' ringPage' wr' rd' sent' sending' full' writer' drained').sent = sent' := rfl
theorem Mgt.mk_sending : (Mgt.mk fresh' late' waiting' queue' nextSeq' dropped' dropStamp' dropSeq' qPeak' ringEn' ringSize' ringPage' wr' rd' sent' sending' full' writer' drained').sending = sending' := rfl
theorem Mgt.mk_full : (Mgt.mk fresh' late' waiting' queue' nextSeq' dropped' dropStamp' dropSeq' qPeak' ringEn' ringSize' ringPage' wr' rd' sent' sending' full' writer' drained').full = full' := rfl
theorem Mgt.mk_writer : (Mgt.mk fresh' late' waiting' queue' nextSeq' dropped' dropStamp' dropSeq' qPeak' ringEn' ringSize' ringPage' wr' rd' sent' sending' full' writer' drained').writer = writer' := rfl
theorem Mgt.mk_drained : (Mgt.mk fresh' late' waiting' queue' nextSeq' dropped' dropStamp' dropSeq' qPeak' ringEn' ringSize' ringPage' wr' rd' sent' sending' full' writer' drained').drained = drained' := rfl
end

section
variable (eng' : Nat) (reason' : Nat) (queue' : List Sample) (jobs' : List Sample) (qPeak' : Nat) (coefs' : SMap Nat) (chans' : SMap LscChan) (groups' : SMap LscGroup) (outer' : SMap Outer) (slots' : SMap Slot)
theorem Lsc.mk_eng : (Lsc.mk eng' reason' queue' jobs' qPeak' coefs' chans' groups' outer' slots').eng = eng' := rfl
theorem Lsc.mk_reason : (Lsc.mk eng' reason' queue' jobs' qPeak' coefs' chans' groups' outer' slots').reason = reason' := rfl
theorem Lsc.mk_queue : (Lsc.mk eng' reason' queue' jobs' qPeak' coefs' chans' groups' outer' slots').queue = queue' := rfl
theorem Lsc.mk_jobs : (Lsc.mk eng' reason' queue' jobs' qPeak' coefs' chans' groups' outer' slots').jobs = jobs' := rfl
theorem Lsc.mk_qPeak : (Lsc.mk eng' reason' queue' jobs' qPeak' coefs' chans' groups' outer' slots').qPeak = qPeak' := rfl
theorem Lsc.mk_coefs : (Lsc.mk eng' reason' queue' jobs' qPeak' coefs' chans' groups' outer' slots').coefs = coefs' := rfl
theorem Lsc.mk_chans : (Lsc.mk eng' reason' queue' jobs' qPeak' coefs' chans' groups' outer' slots').chans = chans' := rfl
theorem Lsc.mk_groups : (Lsc.mk eng' reason' queue' jobs' qPeak' coefs' chans' groups' outer' slots').groups = groups' := rfl
theorem Lsc.mk_outer : (Lsc.mk eng' reason' queue' jobs' qPeak' coefs' chans' groups' outer' slots').outer = outer' := rfl
theorem Lsc.mk_slots : (Lsc.mk eng' reason' queue' jobs' qPeak' coefs' chans' groups' outer' slots').slots = slots' := rfl
end

section
variable (run' : Bool) (eth' : Nat) (vlan' : Option Nat) (link' : Bool) (base' : Int) (tick0' : Nat) (addend' : Nat) (state' : Nat) (sel' : Nat) (stepDone' : Bool) (stepTick' : Option Nat) (armed' : Bool) (tsq' : List TsqEntry) (doms' : SMap TimDom) (outs' : SMap PulseOut) (capSecLo' : Nat) (capSecHi' : Nat) (capFrac' : Nat) (capAdd' : Nat)
theorem Tim.mk_run : (Tim.mk run' eth' vlan' link' base' tick0' addend' state' sel' stepDone' stepTick' armed' tsq' doms' outs' capSecLo' capSecHi' capFrac' capAdd').run = run' := rfl
theorem Tim.mk_eth : (Tim.mk run' eth' vlan' link' base' tick0' addend' state' sel' stepDone' stepTick' armed' tsq' doms' outs' capSecLo' capSecHi' capFrac' capAdd').eth = eth' := rfl
theorem Tim.mk_vlan : (Tim.mk run' eth' vlan' link' base' tick0' addend' state' sel' stepDone' stepTick' armed' tsq' doms' outs' capSecLo' capSecHi' capFrac' capAdd').vlan = vlan' := rfl
theorem Tim.mk_link : (Tim.mk run' eth' vlan' link' base' tick0' addend' state' sel' stepDone' stepTick' armed' tsq' doms' outs' capSecLo' capSecHi' capFrac' capAdd').link = link' := rfl
theorem Tim.mk_base : (Tim.mk run' eth' vlan' link' base' tick0' addend' state' sel' stepDone' stepTick' armed' tsq' doms' outs' capSecLo' capSecHi' capFrac' capAdd').base = base' := rfl
theorem Tim.mk_tick0 : (Tim.mk run' eth' vlan' link' base' tick0' addend' state' sel' stepDone' stepTick' armed' tsq' doms' outs' capSecLo' capSecHi' capFrac' capAdd').tick0 = tick0' := rfl
theorem Tim.mk_addend : (Tim.mk run' eth' vlan' link' base' tick0' addend' state' sel' stepDone' stepTick' armed' tsq' doms' outs' capSecLo' capSecHi' capFrac' capAdd').addend = addend' := rfl
theorem Tim.mk_state : (Tim.mk run' eth' vlan' link' base' tick0' addend' state' sel' stepDone' stepTick' armed' tsq' doms' outs' capSecLo' capSecHi' capFrac' capAdd').state = state' := rfl
theorem Tim.mk_sel : (Tim.mk run' eth' vlan' link' base' tick0' addend' state' sel' stepDone' stepTick' armed' tsq' doms' outs' capSecLo' capSecHi' capFrac' capAdd').sel = sel' := rfl
theorem Tim.mk_stepDone : (Tim.mk run' eth' vlan' link' base' tick0' addend' state' sel' stepDone' stepTick' armed' tsq' doms' outs' capSecLo' capSecHi' capFrac' capAdd').stepDone = stepDone' := rfl
theorem Tim.mk_stepTick : (Tim.mk run' eth' vlan' link' base' tick0' addend' state' sel' stepDone' stepTick' armed' tsq' doms' outs' capSecLo' capSecHi' capFrac' capAdd').stepTick = stepTick' := rfl
theorem Tim.mk_armed : (Tim.mk run' eth' vlan' link' base' tick0' addend' state' sel' stepDone' stepTick' armed' tsq' doms' outs' capSecLo' capSecHi' capFrac' capAdd').armed = armed' := rfl
theorem Tim.mk_tsq : (Tim.mk run' eth' vlan' link' base' tick0' addend' state' sel' stepDone' stepTick' armed' tsq' doms' outs' capSecLo' capSecHi' capFrac' capAdd').tsq = tsq' := rfl
theorem Tim.mk_doms : (Tim.mk run' eth' vlan' link' base' tick0' addend' state' sel' stepDone' stepTick' armed' tsq' doms' outs' capSecLo' capSecHi' capFrac' capAdd').doms = doms' := rfl
theorem Tim.mk_outs : (Tim.mk run' eth' vlan' link' base' tick0' addend' state' sel' stepDone' stepTick' armed' tsq' doms' outs' capSecLo' capSecHi' capFrac' capAdd').outs = outs' := rfl
theorem Tim.mk_capSecLo : (Tim.mk run' eth' vlan' link' base' tick0' addend' state' sel' stepDone' stepTick' armed' tsq' doms' outs' capSecLo' capSecHi' capFrac' capAdd').capSecLo = capSecLo' := rfl
theorem Tim.mk_capSecHi : (Tim.mk run' eth' vlan' link' base' tick0' addend' state' sel' stepDone' stepTick' armed' tsq' doms' outs' capSecLo' capSecHi' capFrac' capAdd').capSecHi = capSecHi' := rfl
theorem Tim.mk_capFrac : (Tim.mk run' eth' vlan' link' base' tick0' addend' state' sel' stepDone' stepTick' armed' tsq' doms' outs' capSecLo' capSecHi' capFrac' capAdd').capFrac = capFrac' := rfl
theorem Tim.mk_capAdd : (Tim.mk run' eth' vlan' link' base' tick0' addend' state' sel' stepDone' stepTick' armed' tsq' doms' outs' capSecLo' capSecHi' capFrac' capAdd').capAdd = capAdd' := rfl
end

/-! ### setWord -/

@[simp] theorem State.setWord_now (s : State) (a : Nat) (w : Word) : (s.setWord a w).now = s.now := State.mk_now ..
@[simp] theorem State.setWord_order (s : State) (a : Nat) (w : Word) : (s.setWord a w).order = s.order := State.mk_order ..
@[simp] theorem State.setWord_free (s : State) (a : Nat) (w : Word) : (s.setWord a w).free = s.free := State.mk_free ..
@[simp] theorem State.setWord_regs (s : State) (a : Nat) (w : Word) : (s.setWord a w).regs = if w = resetWord a then s.regs.erase a else s.regs.insert a w := State.mk_regs ..
@[simp] theorem State.setWord_force (s : State) (a : Nat) (w : Word) : (s.setWord a w).force = s.force := State.mk_force ..
@[simp] theorem State.setWord_counters (s : State) (a : Nat) (w : Word) : (s.setWord a w).counters = s.counters := State.mk_counters ..
@[simp] theorem State.setWord_hiCap (s : State) (a : Nat) (w : Word) : (s.setWord a w).hiCap = s.hiCap := State.mk_hiCap ..
@[simp] theorem State.setWord_dram (s : State) (a : Nat) (w : Word) : (s.setWord a w).dram = s.dram := State.mk_dram ..
@[simp] theorem State.setWord_basin (s : State) (a : Nat) (w : Word) : (s.setWord a w).basin = s.basin := State.mk_basin ..
@[simp] theorem State.setWord_flash (s : State) (a : Nat) (w : Word) : (s.setWord a w).flash = s.flash := State.mk_flash ..
@[simp] theorem State.setWord_cfg (s : State) (a : Nat) (w : Word) : (s.setWord a w).cfg = s.cfg := State.mk_cfg ..
@[simp] theorem State.setWord_blkState (s : State) (a : Nat) (w : Word) : (s.setWord a w).blkState = s.blkState := State.mk_blkState ..
@[simp] theorem State.setWord_unitsOut (s : State) (a : Nat) (w : Word) : (s.setWord a w).unitsOut = s.unitsOut := State.mk_unitsOut ..
@[simp] theorem State.setWord_thermal (s : State) (a : Nat) (w : Word) : (s.setWord a w).thermal = s.thermal := State.mk_thermal ..
@[simp] theorem State.setWord_otp (s : State) (a : Nat) (w : Word) : (s.setWord a w).otp = s.otp := State.mk_otp ..
@[simp] theorem State.setWord_dbg (s : State) (a : Nat) (w : Word) : (s.setWord a w).dbg = s.dbg := State.mk_dbg ..
@[simp] theorem State.setWord_boot (s : State) (a : Nat) (w : Word) : (s.setWord a w).boot = s.boot := State.mk_boot ..
@[simp] theorem State.setWord_mgt (s : State) (a : Nat) (w : Word) : (s.setWord a w).mgt = s.mgt := State.mk_mgt ..
@[simp] theorem State.setWord_recd (s : State) (a : Nat) (w : Word) : (s.setWord a w).recd = s.recd := State.mk_recd ..
@[simp] theorem State.setWord_pwg (s : State) (a : Nat) (w : Word) : (s.setWord a w).pwg = s.pwg := State.mk_pwg ..
@[simp] theorem State.setWord_sec (s : State) (a : Nat) (w : Word) : (s.setWord a w).sec = s.sec := State.mk_sec ..
@[simp] theorem State.setWord_lanes (s : State) (a : Nat) (w : Word) : (s.setWord a w).lanes = s.lanes := State.mk_lanes ..
@[simp] theorem State.setWord_groups (s : State) (a : Nat) (w : Word) : (s.setWord a w).groups = s.groups := State.mk_groups ..
@[simp] theorem State.setWord_ports (s : State) (a : Nat) (w : Word) : (s.setWord a w).ports = s.ports := State.mk_ports ..
@[simp] theorem State.setWord_calLanes (s : State) (a : Nat) (w : Word) : (s.setWord a w).calLanes = s.calLanes := State.mk_calLanes ..
@[simp] theorem State.setWord_calGroups (s : State) (a : Nat) (w : Word) : (s.setWord a w).calGroups = s.calGroups := State.mk_calGroups ..
@[simp] theorem State.setWord_dramCh (s : State) (a : Nat) (w : Word) : (s.setWord a w).dramCh = s.dramCh := State.mk_dramCh ..
@[simp] theorem State.setWord_dmc (s : State) (a : Nat) (w : Word) : (s.setWord a w).dmc = s.dmc := State.mk_dmc ..
@[simp] theorem State.setWord_sfm (s : State) (a : Nat) (w : Word) : (s.setWord a w).sfm = s.sfm := State.mk_sfm ..
@[simp] theorem State.setWord_tgn (s : State) (a : Nat) (w : Word) : (s.setWord a w).tgn = s.tgn := State.mk_tgn ..
@[simp] theorem State.setWord_headPolders (s : State) (a : Nat) (w : Word) : (s.setWord a w).headPolders = s.headPolders := State.mk_headPolders ..
@[simp] theorem State.setWord_polders (s : State) (a : Nat) (w : Word) : (s.setWord a w).polders = s.polders := State.mk_polders ..
@[simp] theorem State.setWord_cals (s : State) (a : Nat) (w : Word) : (s.setWord a w).cals = s.cals := State.mk_cals ..
@[simp] theorem State.setWord_pnl (s : State) (a : Nat) (w : Word) : (s.setWord a w).pnl = s.pnl := State.mk_pnl ..
@[simp] theorem State.setWord_lsc (s : State) (a : Nat) (w : Word) : (s.setWord a w).lsc = s.lsc := State.mk_lsc ..
@[simp] theorem State.setWord_tim (s : State) (a : Nat) (w : Word) : (s.setWord a w).tim = s.tim := State.mk_tim ..
@[simp] theorem State.setWord_ckpts (s : State) (a : Nat) (w : Word) : (s.setWord a w).ckpts = s.ckpts := State.mk_ckpts ..
@[simp] theorem State.setWord_wire (s : State) (a : Nat) (w : Word) : (s.setWord a w).wire = s.wire := State.mk_wire ..
@[simp] theorem State.setWord_pending (s : State) (a : Nat) (w : Word) : (s.setWord a w).pending = s.pending := State.mk_pending ..

/-! ### wr -/

@[simp] theorem State.wr_now (s : State) (r : Reg) (ix : List Nat) (w : Word) : (s.wr r ix w).now = s.now := State.mk_now ..
@[simp] theorem State.wr_order (s : State) (r : Reg) (ix : List Nat) (w : Word) : (s.wr r ix w).order = s.order := State.mk_order ..
@[simp] theorem State.wr_free (s : State) (r : Reg) (ix : List Nat) (w : Word) : (s.wr r ix w).free = s.free := State.mk_free ..
@[simp] theorem State.wr_force (s : State) (r : Reg) (ix : List Nat) (w : Word) : (s.wr r ix w).force = s.force := State.mk_force ..
@[simp] theorem State.wr_counters (s : State) (r : Reg) (ix : List Nat) (w : Word) : (s.wr r ix w).counters = s.counters := State.mk_counters ..
@[simp] theorem State.wr_hiCap (s : State) (r : Reg) (ix : List Nat) (w : Word) : (s.wr r ix w).hiCap = s.hiCap := State.mk_hiCap ..
@[simp] theorem State.wr_dram (s : State) (r : Reg) (ix : List Nat) (w : Word) : (s.wr r ix w).dram = s.dram := State.mk_dram ..
@[simp] theorem State.wr_basin (s : State) (r : Reg) (ix : List Nat) (w : Word) : (s.wr r ix w).basin = s.basin := State.mk_basin ..
@[simp] theorem State.wr_flash (s : State) (r : Reg) (ix : List Nat) (w : Word) : (s.wr r ix w).flash = s.flash := State.mk_flash ..
@[simp] theorem State.wr_cfg (s : State) (r : Reg) (ix : List Nat) (w : Word) : (s.wr r ix w).cfg = s.cfg := State.mk_cfg ..
@[simp] theorem State.wr_blkState (s : State) (r : Reg) (ix : List Nat) (w : Word) : (s.wr r ix w).blkState = s.blkState := State.mk_blkState ..
@[simp] theorem State.wr_unitsOut (s : State) (r : Reg) (ix : List Nat) (w : Word) : (s.wr r ix w).unitsOut = s.unitsOut := State.mk_unitsOut ..
@[simp] theorem State.wr_thermal (s : State) (r : Reg) (ix : List Nat) (w : Word) : (s.wr r ix w).thermal = s.thermal := State.mk_thermal ..
@[simp] theorem State.wr_otp (s : State) (r : Reg) (ix : List Nat) (w : Word) : (s.wr r ix w).otp = s.otp := State.mk_otp ..
@[simp] theorem State.wr_dbg (s : State) (r : Reg) (ix : List Nat) (w : Word) : (s.wr r ix w).dbg = s.dbg := State.mk_dbg ..
@[simp] theorem State.wr_boot (s : State) (r : Reg) (ix : List Nat) (w : Word) : (s.wr r ix w).boot = s.boot := State.mk_boot ..
@[simp] theorem State.wr_mgt (s : State) (r : Reg) (ix : List Nat) (w : Word) : (s.wr r ix w).mgt = s.mgt := State.mk_mgt ..
@[simp] theorem State.wr_recd (s : State) (r : Reg) (ix : List Nat) (w : Word) : (s.wr r ix w).recd = s.recd := State.mk_recd ..
@[simp] theorem State.wr_pwg (s : State) (r : Reg) (ix : List Nat) (w : Word) : (s.wr r ix w).pwg = s.pwg := State.mk_pwg ..
@[simp] theorem State.wr_sec (s : State) (r : Reg) (ix : List Nat) (w : Word) : (s.wr r ix w).sec = s.sec := State.mk_sec ..
@[simp] theorem State.wr_lanes (s : State) (r : Reg) (ix : List Nat) (w : Word) : (s.wr r ix w).lanes = s.lanes := State.mk_lanes ..
@[simp] theorem State.wr_groups (s : State) (r : Reg) (ix : List Nat) (w : Word) : (s.wr r ix w).groups = s.groups := State.mk_groups ..
@[simp] theorem State.wr_ports (s : State) (r : Reg) (ix : List Nat) (w : Word) : (s.wr r ix w).ports = s.ports := State.mk_ports ..
@[simp] theorem State.wr_calLanes (s : State) (r : Reg) (ix : List Nat) (w : Word) : (s.wr r ix w).calLanes = s.calLanes := State.mk_calLanes ..
@[simp] theorem State.wr_calGroups (s : State) (r : Reg) (ix : List Nat) (w : Word) : (s.wr r ix w).calGroups = s.calGroups := State.mk_calGroups ..
@[simp] theorem State.wr_dramCh (s : State) (r : Reg) (ix : List Nat) (w : Word) : (s.wr r ix w).dramCh = s.dramCh := State.mk_dramCh ..
@[simp] theorem State.wr_dmc (s : State) (r : Reg) (ix : List Nat) (w : Word) : (s.wr r ix w).dmc = s.dmc := State.mk_dmc ..
@[simp] theorem State.wr_sfm (s : State) (r : Reg) (ix : List Nat) (w : Word) : (s.wr r ix w).sfm = s.sfm := State.mk_sfm ..
@[simp] theorem State.wr_tgn (s : State) (r : Reg) (ix : List Nat) (w : Word) : (s.wr r ix w).tgn = s.tgn := State.mk_tgn ..
@[simp] theorem State.wr_headPolders (s : State) (r : Reg) (ix : List Nat) (w : Word) : (s.wr r ix w).headPolders = s.headPolders := State.mk_headPolders ..
@[simp] theorem State.wr_polders (s : State) (r : Reg) (ix : List Nat) (w : Word) : (s.wr r ix w).polders = s.polders := State.mk_polders ..
@[simp] theorem State.wr_cals (s : State) (r : Reg) (ix : List Nat) (w : Word) : (s.wr r ix w).cals = s.cals := State.mk_cals ..
@[simp] theorem State.wr_pnl (s : State) (r : Reg) (ix : List Nat) (w : Word) : (s.wr r ix w).pnl = s.pnl := State.mk_pnl ..
@[simp] theorem State.wr_lsc (s : State) (r : Reg) (ix : List Nat) (w : Word) : (s.wr r ix w).lsc = s.lsc := State.mk_lsc ..
@[simp] theorem State.wr_tim (s : State) (r : Reg) (ix : List Nat) (w : Word) : (s.wr r ix w).tim = s.tim := State.mk_tim ..
@[simp] theorem State.wr_ckpts (s : State) (r : Reg) (ix : List Nat) (w : Word) : (s.wr r ix w).ckpts = s.ckpts := State.mk_ckpts ..
@[simp] theorem State.wr_wire (s : State) (r : Reg) (ix : List Nat) (w : Word) : (s.wr r ix w).wire = s.wire := State.mk_wire ..
@[simp] theorem State.wr_pending (s : State) (r : Reg) (ix : List Nat) (w : Word) : (s.wr r ix w).pending = s.pending := State.mk_pending ..

/-! ### setForce -/

@[simp] theorem State.setForce_now (s : State) (a : Nat) (w : Word) : (s.setForce a w).now = s.now := State.mk_now ..
@[simp] theorem State.setForce_order (s : State) (a : Nat) (w : Word) : (s.setForce a w).order = s.order := State.mk_order ..
@[simp] theorem State.setForce_free (s : State) (a : Nat) (w : Word) : (s.setForce a w).free = s.free := State.mk_free ..
@[simp] theorem State.setForce_regs (s : State) (a : Nat) (w : Word) : (s.setForce a w).regs = s.regs := State.mk_regs ..
@[simp] theorem State.setForce_force (s : State) (a : Nat) (w : Word) : (s.setForce a w).force = if w = resetWord a then s.force.erase a else s.force.insert a w := State.mk_force ..
@[simp] theorem State.setForce_counters (s : State) (a : Nat) (w : Word) : (s.setForce a w).counters = s.counters := State.mk_counters ..
@[simp] theorem State.setForce_hiCap (s : State) (a : Nat) (w : Word) : (s.setForce a w).hiCap = s.hiCap := State.mk_hiCap ..
@[simp] theorem State.setForce_dram (s : State) (a : Nat) (w : Word) : (s.setForce a w).dram = s.dram := State.mk_dram ..
@[simp] theorem State.setForce_basin (s : State) (a : Nat) (w : Word) : (s.setForce a w).basin = s.basin := State.mk_basin ..
@[simp] theorem State.setForce_flash (s : State) (a : Nat) (w : Word) : (s.setForce a w).flash = s.flash := State.mk_flash ..
@[simp] theorem State.setForce_cfg (s : State) (a : Nat) (w : Word) : (s.setForce a w).cfg = s.cfg := State.mk_cfg ..
@[simp] theorem State.setForce_blkState (s : State) (a : Nat) (w : Word) : (s.setForce a w).blkState = s.blkState := State.mk_blkState ..
@[simp] theorem State.setForce_unitsOut (s : State) (a : Nat) (w : Word) : (s.setForce a w).unitsOut = s.unitsOut := State.mk_unitsOut ..
@[simp] theorem State.setForce_thermal (s : State) (a : Nat) (w : Word) : (s.setForce a w).thermal = s.thermal := State.mk_thermal ..
@[simp] theorem State.setForce_otp (s : State) (a : Nat) (w : Word) : (s.setForce a w).otp = s.otp := State.mk_otp ..
@[simp] theorem State.setForce_dbg (s : State) (a : Nat) (w : Word) : (s.setForce a w).dbg = s.dbg := State.mk_dbg ..
@[simp] theorem State.setForce_boot (s : State) (a : Nat) (w : Word) : (s.setForce a w).boot = s.boot := State.mk_boot ..
@[simp] theorem State.setForce_mgt (s : State) (a : Nat) (w : Word) : (s.setForce a w).mgt = s.mgt := State.mk_mgt ..
@[simp] theorem State.setForce_recd (s : State) (a : Nat) (w : Word) : (s.setForce a w).recd = s.recd := State.mk_recd ..
@[simp] theorem State.setForce_pwg (s : State) (a : Nat) (w : Word) : (s.setForce a w).pwg = s.pwg := State.mk_pwg ..
@[simp] theorem State.setForce_sec (s : State) (a : Nat) (w : Word) : (s.setForce a w).sec = s.sec := State.mk_sec ..
@[simp] theorem State.setForce_lanes (s : State) (a : Nat) (w : Word) : (s.setForce a w).lanes = s.lanes := State.mk_lanes ..
@[simp] theorem State.setForce_groups (s : State) (a : Nat) (w : Word) : (s.setForce a w).groups = s.groups := State.mk_groups ..
@[simp] theorem State.setForce_ports (s : State) (a : Nat) (w : Word) : (s.setForce a w).ports = s.ports := State.mk_ports ..
@[simp] theorem State.setForce_calLanes (s : State) (a : Nat) (w : Word) : (s.setForce a w).calLanes = s.calLanes := State.mk_calLanes ..
@[simp] theorem State.setForce_calGroups (s : State) (a : Nat) (w : Word) : (s.setForce a w).calGroups = s.calGroups := State.mk_calGroups ..
@[simp] theorem State.setForce_dramCh (s : State) (a : Nat) (w : Word) : (s.setForce a w).dramCh = s.dramCh := State.mk_dramCh ..
@[simp] theorem State.setForce_dmc (s : State) (a : Nat) (w : Word) : (s.setForce a w).dmc = s.dmc := State.mk_dmc ..
@[simp] theorem State.setForce_sfm (s : State) (a : Nat) (w : Word) : (s.setForce a w).sfm = s.sfm := State.mk_sfm ..
@[simp] theorem State.setForce_tgn (s : State) (a : Nat) (w : Word) : (s.setForce a w).tgn = s.tgn := State.mk_tgn ..
@[simp] theorem State.setForce_headPolders (s : State) (a : Nat) (w : Word) : (s.setForce a w).headPolders = s.headPolders := State.mk_headPolders ..
@[simp] theorem State.setForce_polders (s : State) (a : Nat) (w : Word) : (s.setForce a w).polders = s.polders := State.mk_polders ..
@[simp] theorem State.setForce_cals (s : State) (a : Nat) (w : Word) : (s.setForce a w).cals = s.cals := State.mk_cals ..
@[simp] theorem State.setForce_pnl (s : State) (a : Nat) (w : Word) : (s.setForce a w).pnl = s.pnl := State.mk_pnl ..
@[simp] theorem State.setForce_lsc (s : State) (a : Nat) (w : Word) : (s.setForce a w).lsc = s.lsc := State.mk_lsc ..
@[simp] theorem State.setForce_tim (s : State) (a : Nat) (w : Word) : (s.setForce a w).tim = s.tim := State.mk_tim ..
@[simp] theorem State.setForce_ckpts (s : State) (a : Nat) (w : Word) : (s.setForce a w).ckpts = s.ckpts := State.mk_ckpts ..
@[simp] theorem State.setForce_wire (s : State) (a : Nat) (w : Word) : (s.setForce a w).wire = s.wire := State.mk_wire ..
@[simp] theorem State.setForce_pending (s : State) (a : Nat) (w : Word) : (s.setForce a w).pending = s.pending := State.mk_pending ..

/-! ### present -/

@[simp] theorem present_now (p k u r x y : Nat) (s : State) : (present p k u r x y s).now = s.now := State.mk_now ..
@[simp] theorem present_order (p k u r x y : Nat) (s : State) : (present p k u r x y s).order = s.order := State.mk_order ..
@[simp] theorem present_free (p k u r x y : Nat) (s : State) : (present p k u r x y s).free = s.free := State.mk_free ..
@[simp] theorem present_regs (p k u r x y : Nat) (s : State) : (present p k u r x y s).regs = s.regs := State.mk_regs ..
@[simp] theorem present_force (p k u r x y : Nat) (s : State) : (present p k u r x y s).force = s.force := State.mk_force ..
@[simp] theorem present_counters (p k u r x y : Nat) (s : State) : (present p k u r x y s).counters = s.counters := State.mk_counters ..
@[simp] theorem present_hiCap (p k u r x y : Nat) (s : State) : (present p k u r x y s).hiCap = s.hiCap := State.mk_hiCap ..
@[simp] theorem present_dram (p k u r x y : Nat) (s : State) : (present p k u r x y s).dram = s.dram := State.mk_dram ..
@[simp] theorem present_basin (p k u r x y : Nat) (s : State) : (present p k u r x y s).basin = s.basin := State.mk_basin ..
@[simp] theorem present_flash (p k u r x y : Nat) (s : State) : (present p k u r x y s).flash = s.flash := State.mk_flash ..
@[simp] theorem present_cfg (p k u r x y : Nat) (s : State) : (present p k u r x y s).cfg = s.cfg := State.mk_cfg ..
@[simp] theorem present_blkState (p k u r x y : Nat) (s : State) : (present p k u r x y s).blkState = s.blkState := State.mk_blkState ..
@[simp] theorem present_unitsOut (p k u r x y : Nat) (s : State) : (present p k u r x y s).unitsOut = s.unitsOut := State.mk_unitsOut ..
@[simp] theorem present_thermal (p k u r x y : Nat) (s : State) : (present p k u r x y s).thermal = s.thermal := State.mk_thermal ..
@[simp] theorem present_otp (p k u r x y : Nat) (s : State) : (present p k u r x y s).otp = s.otp := State.mk_otp ..
@[simp] theorem present_dbg (p k u r x y : Nat) (s : State) : (present p k u r x y s).dbg = s.dbg := State.mk_dbg ..
@[simp] theorem present_boot (p k u r x y : Nat) (s : State) : (present p k u r x y s).boot = s.boot := State.mk_boot ..
@[simp] theorem present_mgt_late (p k u r x y : Nat) (s : State) : (present p k u r x y s).mgt.late = s.mgt.late := Mgt.mk_late ..
@[simp] theorem present_mgt_waiting (p k u r x y : Nat) (s : State) : (present p k u r x y s).mgt.waiting = s.mgt.waiting := Mgt.mk_waiting ..
@[simp] theorem present_mgt_queue (p k u r x y : Nat) (s : State) : (present p k u r x y s).mgt.queue = s.mgt.queue := Mgt.mk_queue ..
@[simp] theorem present_mgt_nextSeq (p k u r x y : Nat) (s : State) : (present p k u r x y s).mgt.nextSeq = s.mgt.nextSeq := Mgt.mk_nextSeq ..
@[simp] theorem present_mgt_dropped (p k u r x y : Nat) (s : State) : (present p k u r x y s).mgt.dropped = s.mgt.dropped := Mgt.mk_dropped ..
@[simp] theorem present_mgt_dropStamp (p k u r x y : Nat) (s : State) : (present p k u r x y s).mgt.dropStamp = s.mgt.dropStamp := Mgt.mk_dropStamp ..
@[simp] theorem present_mgt_dropSeq (p k u r x y : Nat) (s : State) : (present p k u r x y s).mgt.dropSeq = s.mgt.dropSeq := Mgt.mk_dropSeq ..
@[simp] theorem present_mgt_qPeak (p k u r x y : Nat) (s : State) : (present p k u r x y s).mgt.qPeak = s.mgt.qPeak := Mgt.mk_qPeak ..
@[simp] theorem present_mgt_ringEn (p k u r x y : Nat) (s : State) : (present p k u r x y s).mgt.ringEn = s.mgt.ringEn := Mgt.mk_ringEn ..
@[simp] theorem present_mgt_ringSize (p k u r x y : Nat) (s : State) : (present p k u r x y s).mgt.ringSize = s.mgt.ringSize := Mgt.mk_ringSize ..
@[simp] theorem present_mgt_ringPage (p k u r x y : Nat) (s : State) : (present p k u r x y s).mgt.ringPage = s.mgt.ringPage := Mgt.mk_ringPage ..
@[simp] theorem present_mgt_wr (p k u r x y : Nat) (s : State) : (present p k u r x y s).mgt.wr = s.mgt.wr := Mgt.mk_wr ..
@[simp] theorem present_mgt_rd (p k u r x y : Nat) (s : State) : (present p k u r x y s).mgt.rd = s.mgt.rd := Mgt.mk_rd ..
@[simp] theorem present_mgt_sent (p k u r x y : Nat) (s : State) : (present p k u r x y s).mgt.sent = s.mgt.sent := Mgt.mk_sent ..
@[simp] theorem present_mgt_sending (p k u r x y : Nat) (s : State) : (present p k u r x y s).mgt.sending = s.mgt.sending := Mgt.mk_sending ..
@[simp] theorem present_mgt_full (p k u r x y : Nat) (s : State) : (present p k u r x y s).mgt.full = s.mgt.full := Mgt.mk_full ..
@[simp] theorem present_mgt_writer (p k u r x y : Nat) (s : State) : (present p k u r x y s).mgt.writer = s.mgt.writer := Mgt.mk_writer ..
@[simp] theorem present_mgt_drained (p k u r x y : Nat) (s : State) : (present p k u r x y s).mgt.drained = s.mgt.drained := Mgt.mk_drained ..
@[simp] theorem present_recd (p k u r x y : Nat) (s : State) : (present p k u r x y s).recd = s.recd := State.mk_recd ..
@[simp] theorem present_pwg (p k u r x y : Nat) (s : State) : (present p k u r x y s).pwg = s.pwg := State.mk_pwg ..
@[simp] theorem present_sec (p k u r x y : Nat) (s : State) : (present p k u r x y s).sec = s.sec := State.mk_sec ..
@[simp] theorem present_lanes (p k u r x y : Nat) (s : State) : (present p k u r x y s).lanes = s.lanes := State.mk_lanes ..
@[simp] theorem present_groups (p k u r x y : Nat) (s : State) : (present p k u r x y s).groups = s.groups := State.mk_groups ..
@[simp] theorem present_ports (p k u r x y : Nat) (s : State) : (present p k u r x y s).ports = s.ports := State.mk_ports ..
@[simp] theorem present_calLanes (p k u r x y : Nat) (s : State) : (present p k u r x y s).calLanes = s.calLanes := State.mk_calLanes ..
@[simp] theorem present_calGroups (p k u r x y : Nat) (s : State) : (present p k u r x y s).calGroups = s.calGroups := State.mk_calGroups ..
@[simp] theorem present_dramCh (p k u r x y : Nat) (s : State) : (present p k u r x y s).dramCh = s.dramCh := State.mk_dramCh ..
@[simp] theorem present_dmc (p k u r x y : Nat) (s : State) : (present p k u r x y s).dmc = s.dmc := State.mk_dmc ..
@[simp] theorem present_sfm (p k u r x y : Nat) (s : State) : (present p k u r x y s).sfm = s.sfm := State.mk_sfm ..
@[simp] theorem present_tgn (p k u r x y : Nat) (s : State) : (present p k u r x y s).tgn = s.tgn := State.mk_tgn ..
@[simp] theorem present_headPolders (p k u r x y : Nat) (s : State) : (present p k u r x y s).headPolders = s.headPolders := State.mk_headPolders ..
@[simp] theorem present_polders (p k u r x y : Nat) (s : State) : (present p k u r x y s).polders = s.polders := State.mk_polders ..
@[simp] theorem present_cals (p k u r x y : Nat) (s : State) : (present p k u r x y s).cals = s.cals := State.mk_cals ..
@[simp] theorem present_pnl (p k u r x y : Nat) (s : State) : (present p k u r x y s).pnl = s.pnl := State.mk_pnl ..
@[simp] theorem present_lsc (p k u r x y : Nat) (s : State) : (present p k u r x y s).lsc = s.lsc := State.mk_lsc ..
@[simp] theorem present_tim (p k u r x y : Nat) (s : State) : (present p k u r x y s).tim = s.tim := State.mk_tim ..
@[simp] theorem present_ckpts (p k u r x y : Nat) (s : State) : (present p k u r x y s).ckpts = s.ckpts := State.mk_ckpts ..
@[simp] theorem present_wire (p k u r x y : Nat) (s : State) : (present p k u r x y s).wire = s.wire := State.mk_wire ..
@[simp] theorem present_pending (p k u r x y : Nat) (s : State) : (present p k u r x y s).pending = s.pending := State.mk_pending ..

/-! ### clearCnt -/

@[simp] theorem clearCnt_now (r : Reg) (ix : List Nat) (s : State) : (clearCnt r ix s).now = s.now := State.mk_now ..
@[simp] theorem clearCnt_order (r : Reg) (ix : List Nat) (s : State) : (clearCnt r ix s).order = s.order := State.mk_order ..
@[simp] theorem clearCnt_free (r : Reg) (ix : List Nat) (s : State) : (clearCnt r ix s).free = s.free := State.mk_free ..
@[simp] theorem clearCnt_regs (r : Reg) (ix : List Nat) (s : State) : (clearCnt r ix s).regs = s.regs := State.mk_regs ..
@[simp] theorem clearCnt_force (r : Reg) (ix : List Nat) (s : State) : (clearCnt r ix s).force = s.force := State.mk_force ..
@[simp] theorem clearCnt_counters (r : Reg) (ix : List Nat) (s : State) : (clearCnt r ix s).counters = s.counters.upd {} (r.at ix) fun c => c.afterClear s.now := State.mk_counters ..
@[simp] theorem clearCnt_hiCap (r : Reg) (ix : List Nat) (s : State) : (clearCnt r ix s).hiCap = s.hiCap := State.mk_hiCap ..
@[simp] theorem clearCnt_dram (r : Reg) (ix : List Nat) (s : State) : (clearCnt r ix s).dram = s.dram := State.mk_dram ..
@[simp] theorem clearCnt_basin (r : Reg) (ix : List Nat) (s : State) : (clearCnt r ix s).basin = s.basin := State.mk_basin ..
@[simp] theorem clearCnt_flash (r : Reg) (ix : List Nat) (s : State) : (clearCnt r ix s).flash = s.flash := State.mk_flash ..
@[simp] theorem clearCnt_cfg (r : Reg) (ix : List Nat) (s : State) : (clearCnt r ix s).cfg = s.cfg := State.mk_cfg ..
@[simp] theorem clearCnt_blkState (r : Reg) (ix : List Nat) (s : State) : (clearCnt r ix s).blkState = s.blkState := State.mk_blkState ..
@[simp] theorem clearCnt_unitsOut (r : Reg) (ix : List Nat) (s : State) : (clearCnt r ix s).unitsOut = s.unitsOut := State.mk_unitsOut ..
@[simp] theorem clearCnt_thermal (r : Reg) (ix : List Nat) (s : State) : (clearCnt r ix s).thermal = s.thermal := State.mk_thermal ..
@[simp] theorem clearCnt_otp (r : Reg) (ix : List Nat) (s : State) : (clearCnt r ix s).otp = s.otp := State.mk_otp ..
@[simp] theorem clearCnt_dbg (r : Reg) (ix : List Nat) (s : State) : (clearCnt r ix s).dbg = s.dbg := State.mk_dbg ..
@[simp] theorem clearCnt_boot (r : Reg) (ix : List Nat) (s : State) : (clearCnt r ix s).boot = s.boot := State.mk_boot ..
@[simp] theorem clearCnt_mgt (r : Reg) (ix : List Nat) (s : State) : (clearCnt r ix s).mgt = s.mgt := State.mk_mgt ..
@[simp] theorem clearCnt_recd (r : Reg) (ix : List Nat) (s : State) : (clearCnt r ix s).recd = s.recd := State.mk_recd ..
@[simp] theorem clearCnt_pwg (r : Reg) (ix : List Nat) (s : State) : (clearCnt r ix s).pwg = s.pwg := State.mk_pwg ..
@[simp] theorem clearCnt_sec (r : Reg) (ix : List Nat) (s : State) : (clearCnt r ix s).sec = s.sec := State.mk_sec ..
@[simp] theorem clearCnt_lanes (r : Reg) (ix : List Nat) (s : State) : (clearCnt r ix s).lanes = s.lanes := State.mk_lanes ..
@[simp] theorem clearCnt_groups (r : Reg) (ix : List Nat) (s : State) : (clearCnt r ix s).groups = s.groups := State.mk_groups ..
@[simp] theorem clearCnt_ports (r : Reg) (ix : List Nat) (s : State) : (clearCnt r ix s).ports = s.ports := State.mk_ports ..
@[simp] theorem clearCnt_calLanes (r : Reg) (ix : List Nat) (s : State) : (clearCnt r ix s).calLanes = s.calLanes := State.mk_calLanes ..
@[simp] theorem clearCnt_calGroups (r : Reg) (ix : List Nat) (s : State) : (clearCnt r ix s).calGroups = s.calGroups := State.mk_calGroups ..
@[simp] theorem clearCnt_dramCh (r : Reg) (ix : List Nat) (s : State) : (clearCnt r ix s).dramCh = s.dramCh := State.mk_dramCh ..
@[simp] theorem clearCnt_dmc (r : Reg) (ix : List Nat) (s : State) : (clearCnt r ix s).dmc = s.dmc := State.mk_dmc ..
@[simp] theorem clearCnt_sfm (r : Reg) (ix : List Nat) (s : State) : (clearCnt r ix s).sfm = s.sfm := State.mk_sfm ..
@[simp] theorem clearCnt_tgn (r : Reg) (ix : List Nat) (s : State) : (clearCnt r ix s).tgn = s.tgn := State.mk_tgn ..
@[simp] theorem clearCnt_headPolders (r : Reg) (ix : List Nat) (s : State) : (clearCnt r ix s).headPolders = s.headPolders := State.mk_headPolders ..
@[simp] theorem clearCnt_polders (r : Reg) (ix : List Nat) (s : State) : (clearCnt r ix s).polders = s.polders := State.mk_polders ..
@[simp] theorem clearCnt_cals (r : Reg) (ix : List Nat) (s : State) : (clearCnt r ix s).cals = s.cals := State.mk_cals ..
@[simp] theorem clearCnt_pnl (r : Reg) (ix : List Nat) (s : State) : (clearCnt r ix s).pnl = s.pnl := State.mk_pnl ..
@[simp] theorem clearCnt_lsc (r : Reg) (ix : List Nat) (s : State) : (clearCnt r ix s).lsc = s.lsc := State.mk_lsc ..
@[simp] theorem clearCnt_tim (r : Reg) (ix : List Nat) (s : State) : (clearCnt r ix s).tim = s.tim := State.mk_tim ..
@[simp] theorem clearCnt_ckpts (r : Reg) (ix : List Nat) (s : State) : (clearCnt r ix s).ckpts = s.ckpts := State.mk_ckpts ..
@[simp] theorem clearCnt_wire (r : Reg) (ix : List Nat) (s : State) : (clearCnt r ix s).wire = s.wire := State.mk_wire ..
@[simp] theorem clearCnt_pending (r : Reg) (ix : List Nat) (s : State) : (clearCnt r ix s).pending = s.pending := State.mk_pending ..

/-! ### emit -/

@[simp] theorem emit_now (x : Sent) (s : State) : (emit x s).now = s.now := State.mk_now ..
@[simp] theorem emit_order (x : Sent) (s : State) : (emit x s).order = s.order := State.mk_order ..
@[simp] theorem emit_free (x : Sent) (s : State) : (emit x s).free = s.free := State.mk_free ..
@[simp] theorem emit_regs (x : Sent) (s : State) : (emit x s).regs = s.regs := State.mk_regs ..
@[simp] theorem emit_force (x : Sent) (s : State) : (emit x s).force = s.force := State.mk_force ..
@[simp] theorem emit_counters (x : Sent) (s : State) : (emit x s).counters = s.counters := State.mk_counters ..
@[simp] theorem emit_hiCap (x : Sent) (s : State) : (emit x s).hiCap = s.hiCap := State.mk_hiCap ..
@[simp] theorem emit_dram (x : Sent) (s : State) : (emit x s).dram = s.dram := State.mk_dram ..
@[simp] theorem emit_basin (x : Sent) (s : State) : (emit x s).basin = s.basin := State.mk_basin ..
@[simp] theorem emit_flash (x : Sent) (s : State) : (emit x s).flash = s.flash := State.mk_flash ..
@[simp] theorem emit_cfg (x : Sent) (s : State) : (emit x s).cfg = s.cfg := State.mk_cfg ..
@[simp] theorem emit_blkState (x : Sent) (s : State) : (emit x s).blkState = s.blkState := State.mk_blkState ..
@[simp] theorem emit_unitsOut (x : Sent) (s : State) : (emit x s).unitsOut = s.unitsOut := State.mk_unitsOut ..
@[simp] theorem emit_thermal (x : Sent) (s : State) : (emit x s).thermal = s.thermal := State.mk_thermal ..
@[simp] theorem emit_otp (x : Sent) (s : State) : (emit x s).otp = s.otp := State.mk_otp ..
@[simp] theorem emit_dbg (x : Sent) (s : State) : (emit x s).dbg = s.dbg := State.mk_dbg ..
@[simp] theorem emit_boot (x : Sent) (s : State) : (emit x s).boot = s.boot := State.mk_boot ..
@[simp] theorem emit_mgt (x : Sent) (s : State) : (emit x s).mgt = s.mgt := State.mk_mgt ..
@[simp] theorem emit_recd (x : Sent) (s : State) : (emit x s).recd = s.recd := State.mk_recd ..
@[simp] theorem emit_pwg (x : Sent) (s : State) : (emit x s).pwg = s.pwg := State.mk_pwg ..
@[simp] theorem emit_sec (x : Sent) (s : State) : (emit x s).sec = s.sec := State.mk_sec ..
@[simp] theorem emit_lanes (x : Sent) (s : State) : (emit x s).lanes = s.lanes := State.mk_lanes ..
@[simp] theorem emit_groups (x : Sent) (s : State) : (emit x s).groups = s.groups := State.mk_groups ..
@[simp] theorem emit_ports (x : Sent) (s : State) : (emit x s).ports = s.ports := State.mk_ports ..
@[simp] theorem emit_calLanes (x : Sent) (s : State) : (emit x s).calLanes = s.calLanes := State.mk_calLanes ..
@[simp] theorem emit_calGroups (x : Sent) (s : State) : (emit x s).calGroups = s.calGroups := State.mk_calGroups ..
@[simp] theorem emit_dramCh (x : Sent) (s : State) : (emit x s).dramCh = s.dramCh := State.mk_dramCh ..
@[simp] theorem emit_dmc (x : Sent) (s : State) : (emit x s).dmc = s.dmc := State.mk_dmc ..
@[simp] theorem emit_sfm (x : Sent) (s : State) : (emit x s).sfm = s.sfm := State.mk_sfm ..
@[simp] theorem emit_tgn (x : Sent) (s : State) : (emit x s).tgn = s.tgn := State.mk_tgn ..
@[simp] theorem emit_headPolders (x : Sent) (s : State) : (emit x s).headPolders = s.headPolders := State.mk_headPolders ..
@[simp] theorem emit_polders (x : Sent) (s : State) : (emit x s).polders = s.polders := State.mk_polders ..
@[simp] theorem emit_cals (x : Sent) (s : State) : (emit x s).cals = s.cals := State.mk_cals ..
@[simp] theorem emit_pnl (x : Sent) (s : State) : (emit x s).pnl = s.pnl := State.mk_pnl ..
@[simp] theorem emit_lsc (x : Sent) (s : State) : (emit x s).lsc = s.lsc := State.mk_lsc ..
@[simp] theorem emit_tim (x : Sent) (s : State) : (emit x s).tim = s.tim := State.mk_tim ..
@[simp] theorem emit_ckpts (x : Sent) (s : State) : (emit x s).ckpts = s.ckpts := State.mk_ckpts ..
@[simp] theorem emit_wire (x : Sent) (s : State) : (emit x s).wire = x :: s.wire := State.mk_wire ..
@[simp] theorem emit_pending (x : Sent) (s : State) : (emit x s).pending = s.pending := State.mk_pending ..

/-! ### setLane -/

@[simp] theorem State.setLane_now (s : State) (n : Nat) (x : Lane) : (s.setLane n x).now = s.now := State.mk_now ..
@[simp] theorem State.setLane_order (s : State) (n : Nat) (x : Lane) : (s.setLane n x).order = s.order := State.mk_order ..
@[simp] theorem State.setLane_free (s : State) (n : Nat) (x : Lane) : (s.setLane n x).free = s.free := State.mk_free ..
@[simp] theorem State.setLane_regs (s : State) (n : Nat) (x : Lane) : (s.setLane n x).regs = s.regs := State.mk_regs ..
@[simp] theorem State.setLane_force (s : State) (n : Nat) (x : Lane) : (s.setLane n x).force = s.force := State.mk_force ..
@[simp] theorem State.setLane_counters (s : State) (n : Nat) (x : Lane) : (s.setLane n x).counters = s.counters := State.mk_counters ..
@[simp] theorem State.setLane_hiCap (s : State) (n : Nat) (x : Lane) : (s.setLane n x).hiCap = s.hiCap := State.mk_hiCap ..
@[simp] theorem State.setLane_dram (s : State) (n : Nat) (x : Lane) : (s.setLane n x).dram = s.dram := State.mk_dram ..
@[simp] theorem State.setLane_basin (s : State) (n : Nat) (x : Lane) : (s.setLane n x).basin = s.basin := State.mk_basin ..
@[simp] theorem State.setLane_flash (s : State) (n : Nat) (x : Lane) : (s.setLane n x).flash = s.flash := State.mk_flash ..
@[simp] theorem State.setLane_cfg (s : State) (n : Nat) (x : Lane) : (s.setLane n x).cfg = s.cfg := State.mk_cfg ..
@[simp] theorem State.setLane_blkState (s : State) (n : Nat) (x : Lane) : (s.setLane n x).blkState = s.blkState := State.mk_blkState ..
@[simp] theorem State.setLane_unitsOut (s : State) (n : Nat) (x : Lane) : (s.setLane n x).unitsOut = s.unitsOut := State.mk_unitsOut ..
@[simp] theorem State.setLane_thermal (s : State) (n : Nat) (x : Lane) : (s.setLane n x).thermal = s.thermal := State.mk_thermal ..
@[simp] theorem State.setLane_otp (s : State) (n : Nat) (x : Lane) : (s.setLane n x).otp = s.otp := State.mk_otp ..
@[simp] theorem State.setLane_dbg (s : State) (n : Nat) (x : Lane) : (s.setLane n x).dbg = s.dbg := State.mk_dbg ..
@[simp] theorem State.setLane_boot (s : State) (n : Nat) (x : Lane) : (s.setLane n x).boot = s.boot := State.mk_boot ..
@[simp] theorem State.setLane_mgt (s : State) (n : Nat) (x : Lane) : (s.setLane n x).mgt = s.mgt := State.mk_mgt ..
@[simp] theorem State.setLane_recd (s : State) (n : Nat) (x : Lane) : (s.setLane n x).recd = s.recd := State.mk_recd ..
@[simp] theorem State.setLane_pwg (s : State) (n : Nat) (x : Lane) : (s.setLane n x).pwg = s.pwg := State.mk_pwg ..
@[simp] theorem State.setLane_sec (s : State) (n : Nat) (x : Lane) : (s.setLane n x).sec = s.sec := State.mk_sec ..
@[simp] theorem State.setLane_groups (s : State) (n : Nat) (x : Lane) : (s.setLane n x).groups = s.groups := State.mk_groups ..
@[simp] theorem State.setLane_ports (s : State) (n : Nat) (x : Lane) : (s.setLane n x).ports = s.ports := State.mk_ports ..
@[simp] theorem State.setLane_calLanes (s : State) (n : Nat) (x : Lane) : (s.setLane n x).calLanes = s.calLanes := State.mk_calLanes ..
@[simp] theorem State.setLane_calGroups (s : State) (n : Nat) (x : Lane) : (s.setLane n x).calGroups = s.calGroups := State.mk_calGroups ..
@[simp] theorem State.setLane_dramCh (s : State) (n : Nat) (x : Lane) : (s.setLane n x).dramCh = s.dramCh := State.mk_dramCh ..
@[simp] theorem State.setLane_dmc (s : State) (n : Nat) (x : Lane) : (s.setLane n x).dmc = s.dmc := State.mk_dmc ..
@[simp] theorem State.setLane_sfm (s : State) (n : Nat) (x : Lane) : (s.setLane n x).sfm = s.sfm := State.mk_sfm ..
@[simp] theorem State.setLane_tgn (s : State) (n : Nat) (x : Lane) : (s.setLane n x).tgn = s.tgn := State.mk_tgn ..
@[simp] theorem State.setLane_headPolders (s : State) (n : Nat) (x : Lane) : (s.setLane n x).headPolders = s.headPolders := State.mk_headPolders ..
@[simp] theorem State.setLane_polders (s : State) (n : Nat) (x : Lane) : (s.setLane n x).polders = s.polders := State.mk_polders ..
@[simp] theorem State.setLane_cals (s : State) (n : Nat) (x : Lane) : (s.setLane n x).cals = s.cals := State.mk_cals ..
@[simp] theorem State.setLane_pnl (s : State) (n : Nat) (x : Lane) : (s.setLane n x).pnl = s.pnl := State.mk_pnl ..
@[simp] theorem State.setLane_lsc (s : State) (n : Nat) (x : Lane) : (s.setLane n x).lsc = s.lsc := State.mk_lsc ..
@[simp] theorem State.setLane_tim (s : State) (n : Nat) (x : Lane) : (s.setLane n x).tim = s.tim := State.mk_tim ..
@[simp] theorem State.setLane_ckpts (s : State) (n : Nat) (x : Lane) : (s.setLane n x).ckpts = s.ckpts := State.mk_ckpts ..
@[simp] theorem State.setLane_wire (s : State) (n : Nat) (x : Lane) : (s.setLane n x).wire = s.wire := State.mk_wire ..
@[simp] theorem State.setLane_pending (s : State) (n : Nat) (x : Lane) : (s.setLane n x).pending = s.pending := State.mk_pending ..

/-! ### setPort -/

@[simp] theorem State.setPort_now (s : State) (n : Nat) (x : Port) : (s.setPort n x).now = s.now := State.mk_now ..
@[simp] theorem State.setPort_order (s : State) (n : Nat) (x : Port) : (s.setPort n x).order = s.order := State.mk_order ..
@[simp] theorem State.setPort_free (s : State) (n : Nat) (x : Port) : (s.setPort n x).free = s.free := State.mk_free ..
@[simp] theorem State.setPort_regs (s : State) (n : Nat) (x : Port) : (s.setPort n x).regs = s.regs := State.mk_regs ..
@[simp] theorem State.setPort_force (s : State) (n : Nat) (x : Port) : (s.setPort n x).force = s.force := State.mk_force ..
@[simp] theorem State.setPort_counters (s : State) (n : Nat) (x : Port) : (s.setPort n x).counters = s.counters := State.mk_counters ..
@[simp] theorem State.setPort_hiCap (s : State) (n : Nat) (x : Port) : (s.setPort n x).hiCap = s.hiCap := State.mk_hiCap ..
@[simp] theorem State.setPort_dram (s : State) (n : Nat) (x : Port) : (s.setPort n x).dram = s.dram := State.mk_dram ..
@[simp] theorem State.setPort_basin (s : State) (n : Nat) (x : Port) : (s.setPort n x).basin = s.basin := State.mk_basin ..
@[simp] theorem State.setPort_flash (s : State) (n : Nat) (x : Port) : (s.setPort n x).flash = s.flash := State.mk_flash ..
@[simp] theorem State.setPort_cfg (s : State) (n : Nat) (x : Port) : (s.setPort n x).cfg = s.cfg := State.mk_cfg ..
@[simp] theorem State.setPort_blkState (s : State) (n : Nat) (x : Port) : (s.setPort n x).blkState = s.blkState := State.mk_blkState ..
@[simp] theorem State.setPort_unitsOut (s : State) (n : Nat) (x : Port) : (s.setPort n x).unitsOut = s.unitsOut := State.mk_unitsOut ..
@[simp] theorem State.setPort_thermal (s : State) (n : Nat) (x : Port) : (s.setPort n x).thermal = s.thermal := State.mk_thermal ..
@[simp] theorem State.setPort_otp (s : State) (n : Nat) (x : Port) : (s.setPort n x).otp = s.otp := State.mk_otp ..
@[simp] theorem State.setPort_dbg (s : State) (n : Nat) (x : Port) : (s.setPort n x).dbg = s.dbg := State.mk_dbg ..
@[simp] theorem State.setPort_boot (s : State) (n : Nat) (x : Port) : (s.setPort n x).boot = s.boot := State.mk_boot ..
@[simp] theorem State.setPort_mgt (s : State) (n : Nat) (x : Port) : (s.setPort n x).mgt = s.mgt := State.mk_mgt ..
@[simp] theorem State.setPort_recd (s : State) (n : Nat) (x : Port) : (s.setPort n x).recd = s.recd := State.mk_recd ..
@[simp] theorem State.setPort_pwg (s : State) (n : Nat) (x : Port) : (s.setPort n x).pwg = s.pwg := State.mk_pwg ..
@[simp] theorem State.setPort_sec (s : State) (n : Nat) (x : Port) : (s.setPort n x).sec = s.sec := State.mk_sec ..
@[simp] theorem State.setPort_lanes (s : State) (n : Nat) (x : Port) : (s.setPort n x).lanes = s.lanes := State.mk_lanes ..
@[simp] theorem State.setPort_groups (s : State) (n : Nat) (x : Port) : (s.setPort n x).groups = s.groups := State.mk_groups ..
@[simp] theorem State.setPort_calLanes (s : State) (n : Nat) (x : Port) : (s.setPort n x).calLanes = s.calLanes := State.mk_calLanes ..
@[simp] theorem State.setPort_calGroups (s : State) (n : Nat) (x : Port) : (s.setPort n x).calGroups = s.calGroups := State.mk_calGroups ..
@[simp] theorem State.setPort_dramCh (s : State) (n : Nat) (x : Port) : (s.setPort n x).dramCh = s.dramCh := State.mk_dramCh ..
@[simp] theorem State.setPort_dmc (s : State) (n : Nat) (x : Port) : (s.setPort n x).dmc = s.dmc := State.mk_dmc ..
@[simp] theorem State.setPort_sfm (s : State) (n : Nat) (x : Port) : (s.setPort n x).sfm = s.sfm := State.mk_sfm ..
@[simp] theorem State.setPort_tgn (s : State) (n : Nat) (x : Port) : (s.setPort n x).tgn = s.tgn := State.mk_tgn ..
@[simp] theorem State.setPort_headPolders (s : State) (n : Nat) (x : Port) : (s.setPort n x).headPolders = s.headPolders := State.mk_headPolders ..
@[simp] theorem State.setPort_polders (s : State) (n : Nat) (x : Port) : (s.setPort n x).polders = s.polders := State.mk_polders ..
@[simp] theorem State.setPort_cals (s : State) (n : Nat) (x : Port) : (s.setPort n x).cals = s.cals := State.mk_cals ..
@[simp] theorem State.setPort_pnl (s : State) (n : Nat) (x : Port) : (s.setPort n x).pnl = s.pnl := State.mk_pnl ..
@[simp] theorem State.setPort_lsc (s : State) (n : Nat) (x : Port) : (s.setPort n x).lsc = s.lsc := State.mk_lsc ..
@[simp] theorem State.setPort_tim (s : State) (n : Nat) (x : Port) : (s.setPort n x).tim = s.tim := State.mk_tim ..
@[simp] theorem State.setPort_ckpts (s : State) (n : Nat) (x : Port) : (s.setPort n x).ckpts = s.ckpts := State.mk_ckpts ..
@[simp] theorem State.setPort_wire (s : State) (n : Nat) (x : Port) : (s.setPort n x).wire = s.wire := State.mk_wire ..
@[simp] theorem State.setPort_pending (s : State) (n : Nat) (x : Port) : (s.setPort n x).pending = s.pending := State.mk_pending ..

/-! ### modHd -/

@[simp] theorem State.modHd_now (s : State) (h : Nat) (f : TgnHead → TgnHead) : (s.modHd h f).now = s.now := State.mk_now ..
@[simp] theorem State.modHd_order (s : State) (h : Nat) (f : TgnHead → TgnHead) : (s.modHd h f).order = s.order := State.mk_order ..
@[simp] theorem State.modHd_free (s : State) (h : Nat) (f : TgnHead → TgnHead) : (s.modHd h f).free = s.free := State.mk_free ..
@[simp] theorem State.modHd_regs (s : State) (h : Nat) (f : TgnHead → TgnHead) : (s.modHd h f).regs = s.regs := State.mk_regs ..
@[simp] theorem State.modHd_force (s : State) (h : Nat) (f : TgnHead → TgnHead) : (s.modHd h f).force = s.force := State.mk_force ..
@[simp] theorem State.modHd_counters (s : State) (h : Nat) (f : TgnHead → TgnHead) : (s.modHd h f).counters = s.counters := State.mk_counters ..
@[simp] theorem State.modHd_hiCap (s : State) (h : Nat) (f : TgnHead → TgnHead) : (s.modHd h f).hiCap = s.hiCap := State.mk_hiCap ..
@[simp] theorem State.modHd_dram (s : State) (h : Nat) (f : TgnHead → TgnHead) : (s.modHd h f).dram = s.dram := State.mk_dram ..
@[simp] theorem State.modHd_basin (s : State) (h : Nat) (f : TgnHead → TgnHead) : (s.modHd h f).basin = s.basin := State.mk_basin ..
@[simp] theorem State.modHd_flash (s : State) (h : Nat) (f : TgnHead → TgnHead) : (s.modHd h f).flash = s.flash := State.mk_flash ..
@[simp] theorem State.modHd_cfg (s : State) (h : Nat) (f : TgnHead → TgnHead) : (s.modHd h f).cfg = s.cfg := State.mk_cfg ..
@[simp] theorem State.modHd_blkState (s : State) (h : Nat) (f : TgnHead → TgnHead) : (s.modHd h f).blkState = s.blkState := State.mk_blkState ..
@[simp] theorem State.modHd_unitsOut (s : State) (h : Nat) (f : TgnHead → TgnHead) : (s.modHd h f).unitsOut = s.unitsOut := State.mk_unitsOut ..
@[simp] theorem State.modHd_thermal (s : State) (h : Nat) (f : TgnHead → TgnHead) : (s.modHd h f).thermal = s.thermal := State.mk_thermal ..
@[simp] theorem State.modHd_otp (s : State) (h : Nat) (f : TgnHead → TgnHead) : (s.modHd h f).otp = s.otp := State.mk_otp ..
@[simp] theorem State.modHd_dbg (s : State) (h : Nat) (f : TgnHead → TgnHead) : (s.modHd h f).dbg = s.dbg := State.mk_dbg ..
@[simp] theorem State.modHd_boot (s : State) (h : Nat) (f : TgnHead → TgnHead) : (s.modHd h f).boot = s.boot := State.mk_boot ..
@[simp] theorem State.modHd_mgt (s : State) (h : Nat) (f : TgnHead → TgnHead) : (s.modHd h f).mgt = s.mgt := State.mk_mgt ..
@[simp] theorem State.modHd_recd (s : State) (h : Nat) (f : TgnHead → TgnHead) : (s.modHd h f).recd = s.recd := State.mk_recd ..
@[simp] theorem State.modHd_pwg (s : State) (h : Nat) (f : TgnHead → TgnHead) : (s.modHd h f).pwg = s.pwg := State.mk_pwg ..
@[simp] theorem State.modHd_sec (s : State) (h : Nat) (f : TgnHead → TgnHead) : (s.modHd h f).sec = s.sec := State.mk_sec ..
@[simp] theorem State.modHd_lanes (s : State) (h : Nat) (f : TgnHead → TgnHead) : (s.modHd h f).lanes = s.lanes := State.mk_lanes ..
@[simp] theorem State.modHd_groups (s : State) (h : Nat) (f : TgnHead → TgnHead) : (s.modHd h f).groups = s.groups := State.mk_groups ..
@[simp] theorem State.modHd_ports (s : State) (h : Nat) (f : TgnHead → TgnHead) : (s.modHd h f).ports = s.ports := State.mk_ports ..
@[simp] theorem State.modHd_calLanes (s : State) (h : Nat) (f : TgnHead → TgnHead) : (s.modHd h f).calLanes = s.calLanes := State.mk_calLanes ..
@[simp] theorem State.modHd_calGroups (s : State) (h : Nat) (f : TgnHead → TgnHead) : (s.modHd h f).calGroups = s.calGroups := State.mk_calGroups ..
@[simp] theorem State.modHd_dramCh (s : State) (h : Nat) (f : TgnHead → TgnHead) : (s.modHd h f).dramCh = s.dramCh := State.mk_dramCh ..
@[simp] theorem State.modHd_dmc (s : State) (h : Nat) (f : TgnHead → TgnHead) : (s.modHd h f).dmc = s.dmc := State.mk_dmc ..
@[simp] theorem State.modHd_sfm (s : State) (h : Nat) (f : TgnHead → TgnHead) : (s.modHd h f).sfm = s.sfm := State.mk_sfm ..
@[simp] theorem State.modHd_headPolders (s : State) (h : Nat) (f : TgnHead → TgnHead) : (s.modHd h f).headPolders = s.headPolders := State.mk_headPolders ..
@[simp] theorem State.modHd_polders (s : State) (h : Nat) (f : TgnHead → TgnHead) : (s.modHd h f).polders = s.polders := State.mk_polders ..
@[simp] theorem State.modHd_cals (s : State) (h : Nat) (f : TgnHead → TgnHead) : (s.modHd h f).cals = s.cals := State.mk_cals ..
@[simp] theorem State.modHd_pnl (s : State) (h : Nat) (f : TgnHead → TgnHead) : (s.modHd h f).pnl = s.pnl := State.mk_pnl ..
@[simp] theorem State.modHd_lsc (s : State) (h : Nat) (f : TgnHead → TgnHead) : (s.modHd h f).lsc = s.lsc := State.mk_lsc ..
@[simp] theorem State.modHd_tim (s : State) (h : Nat) (f : TgnHead → TgnHead) : (s.modHd h f).tim = s.tim := State.mk_tim ..
@[simp] theorem State.modHd_ckpts (s : State) (h : Nat) (f : TgnHead → TgnHead) : (s.modHd h f).ckpts = s.ckpts := State.mk_ckpts ..
@[simp] theorem State.modHd_wire (s : State) (h : Nat) (f : TgnHead → TgnHead) : (s.modHd h f).wire = s.wire := State.mk_wire ..
@[simp] theorem State.modHd_pending (s : State) (h : Nat) (f : TgnHead → TgnHead) : (s.modHd h f).pending = s.pending := State.mk_pending ..

/-! ### modPn -/

@[simp] theorem State.modPn_now (s : State) (h : Nat) (f : PnlHead → PnlHead) : (s.modPn h f).now = s.now := State.mk_now ..
@[simp] theorem State.modPn_order (s : State) (h : Nat) (f : PnlHead → PnlHead) : (s.modPn h f).order = s.order := State.mk_order ..
@[simp] theorem State.modPn_free (s : State) (h : Nat) (f : PnlHead → PnlHead) : (s.modPn h f).free = s.free := State.mk_free ..
@[simp] theorem State.modPn_regs (s : State) (h : Nat) (f : PnlHead → PnlHead) : (s.modPn h f).regs = s.regs := State.mk_regs ..
@[simp] theorem State.modPn_force (s : State) (h : Nat) (f : PnlHead → PnlHead) : (s.modPn h f).force = s.force := State.mk_force ..
@[simp] theorem State.modPn_counters (s : State) (h : Nat) (f : PnlHead → PnlHead) : (s.modPn h f).counters = s.counters := State.mk_counters ..
@[simp] theorem State.modPn_hiCap (s : State) (h : Nat) (f : PnlHead → PnlHead) : (s.modPn h f).hiCap = s.hiCap := State.mk_hiCap ..
@[simp] theorem State.modPn_dram (s : State) (h : Nat) (f : PnlHead → PnlHead) : (s.modPn h f).dram = s.dram := State.mk_dram ..
@[simp] theorem State.modPn_basin (s : State) (h : Nat) (f : PnlHead → PnlHead) : (s.modPn h f).basin = s.basin := State.mk_basin ..
@[simp] theorem State.modPn_flash (s : State) (h : Nat) (f : PnlHead → PnlHead) : (s.modPn h f).flash = s.flash := State.mk_flash ..
@[simp] theorem State.modPn_cfg (s : State) (h : Nat) (f : PnlHead → PnlHead) : (s.modPn h f).cfg = s.cfg := State.mk_cfg ..
@[simp] theorem State.modPn_blkState (s : State) (h : Nat) (f : PnlHead → PnlHead) : (s.modPn h f).blkState = s.blkState := State.mk_blkState ..
@[simp] theorem State.modPn_unitsOut (s : State) (h : Nat) (f : PnlHead → PnlHead) : (s.modPn h f).unitsOut = s.unitsOut := State.mk_unitsOut ..
@[simp] theorem State.modPn_thermal (s : State) (h : Nat) (f : PnlHead → PnlHead) : (s.modPn h f).thermal = s.thermal := State.mk_thermal ..
@[simp] theorem State.modPn_otp (s : State) (h : Nat) (f : PnlHead → PnlHead) : (s.modPn h f).otp = s.otp := State.mk_otp ..
@[simp] theorem State.modPn_dbg (s : State) (h : Nat) (f : PnlHead → PnlHead) : (s.modPn h f).dbg = s.dbg := State.mk_dbg ..
@[simp] theorem State.modPn_boot (s : State) (h : Nat) (f : PnlHead → PnlHead) : (s.modPn h f).boot = s.boot := State.mk_boot ..
@[simp] theorem State.modPn_mgt (s : State) (h : Nat) (f : PnlHead → PnlHead) : (s.modPn h f).mgt = s.mgt := State.mk_mgt ..
@[simp] theorem State.modPn_recd (s : State) (h : Nat) (f : PnlHead → PnlHead) : (s.modPn h f).recd = s.recd := State.mk_recd ..
@[simp] theorem State.modPn_pwg (s : State) (h : Nat) (f : PnlHead → PnlHead) : (s.modPn h f).pwg = s.pwg := State.mk_pwg ..
@[simp] theorem State.modPn_sec (s : State) (h : Nat) (f : PnlHead → PnlHead) : (s.modPn h f).sec = s.sec := State.mk_sec ..
@[simp] theorem State.modPn_lanes (s : State) (h : Nat) (f : PnlHead → PnlHead) : (s.modPn h f).lanes = s.lanes := State.mk_lanes ..
@[simp] theorem State.modPn_groups (s : State) (h : Nat) (f : PnlHead → PnlHead) : (s.modPn h f).groups = s.groups := State.mk_groups ..
@[simp] theorem State.modPn_ports (s : State) (h : Nat) (f : PnlHead → PnlHead) : (s.modPn h f).ports = s.ports := State.mk_ports ..
@[simp] theorem State.modPn_calLanes (s : State) (h : Nat) (f : PnlHead → PnlHead) : (s.modPn h f).calLanes = s.calLanes := State.mk_calLanes ..
@[simp] theorem State.modPn_calGroups (s : State) (h : Nat) (f : PnlHead → PnlHead) : (s.modPn h f).calGroups = s.calGroups := State.mk_calGroups ..
@[simp] theorem State.modPn_dramCh (s : State) (h : Nat) (f : PnlHead → PnlHead) : (s.modPn h f).dramCh = s.dramCh := State.mk_dramCh ..
@[simp] theorem State.modPn_dmc (s : State) (h : Nat) (f : PnlHead → PnlHead) : (s.modPn h f).dmc = s.dmc := State.mk_dmc ..
@[simp] theorem State.modPn_sfm (s : State) (h : Nat) (f : PnlHead → PnlHead) : (s.modPn h f).sfm = s.sfm := State.mk_sfm ..
@[simp] theorem State.modPn_tgn (s : State) (h : Nat) (f : PnlHead → PnlHead) : (s.modPn h f).tgn = s.tgn := State.mk_tgn ..
@[simp] theorem State.modPn_headPolders (s : State) (h : Nat) (f : PnlHead → PnlHead) : (s.modPn h f).headPolders = s.headPolders := State.mk_headPolders ..
@[simp] theorem State.modPn_polders (s : State) (h : Nat) (f : PnlHead → PnlHead) : (s.modPn h f).polders = s.polders := State.mk_polders ..
@[simp] theorem State.modPn_cals (s : State) (h : Nat) (f : PnlHead → PnlHead) : (s.modPn h f).cals = s.cals := State.mk_cals ..
@[simp] theorem State.modPn_lsc (s : State) (h : Nat) (f : PnlHead → PnlHead) : (s.modPn h f).lsc = s.lsc := State.mk_lsc ..
@[simp] theorem State.modPn_tim (s : State) (h : Nat) (f : PnlHead → PnlHead) : (s.modPn h f).tim = s.tim := State.mk_tim ..
@[simp] theorem State.modPn_ckpts (s : State) (h : Nat) (f : PnlHead → PnlHead) : (s.modPn h f).ckpts = s.ckpts := State.mk_ckpts ..
@[simp] theorem State.modPn_wire (s : State) (h : Nat) (f : PnlHead → PnlHead) : (s.modPn h f).wire = s.wire := State.mk_wire ..
@[simp] theorem State.modPn_pending (s : State) (h : Nat) (f : PnlHead → PnlHead) : (s.modPn h f).pending = s.pending := State.mk_pending ..

/-! ### modSec -/

@[simp] theorem State.modSec_now (s : State) (f : Sec → Sec) : (s.modSec f).now = s.now := State.mk_now ..
@[simp] theorem State.modSec_order (s : State) (f : Sec → Sec) : (s.modSec f).order = s.order := State.mk_order ..
@[simp] theorem State.modSec_free (s : State) (f : Sec → Sec) : (s.modSec f).free = s.free := State.mk_free ..
@[simp] theorem State.modSec_regs (s : State) (f : Sec → Sec) : (s.modSec f).regs = s.regs := State.mk_regs ..
@[simp] theorem State.modSec_force (s : State) (f : Sec → Sec) : (s.modSec f).force = s.force := State.mk_force ..
@[simp] theorem State.modSec_counters (s : State) (f : Sec → Sec) : (s.modSec f).counters = s.counters := State.mk_counters ..
@[simp] theorem State.modSec_hiCap (s : State) (f : Sec → Sec) : (s.modSec f).hiCap = s.hiCap := State.mk_hiCap ..
@[simp] theorem State.modSec_dram (s : State) (f : Sec → Sec) : (s.modSec f).dram = s.dram := State.mk_dram ..
@[simp] theorem State.modSec_basin (s : State) (f : Sec → Sec) : (s.modSec f).basin = s.basin := State.mk_basin ..
@[simp] theorem State.modSec_flash (s : State) (f : Sec → Sec) : (s.modSec f).flash = s.flash := State.mk_flash ..
@[simp] theorem State.modSec_cfg (s : State) (f : Sec → Sec) : (s.modSec f).cfg = s.cfg := State.mk_cfg ..
@[simp] theorem State.modSec_blkState (s : State) (f : Sec → Sec) : (s.modSec f).blkState = s.blkState := State.mk_blkState ..
@[simp] theorem State.modSec_unitsOut (s : State) (f : Sec → Sec) : (s.modSec f).unitsOut = s.unitsOut := State.mk_unitsOut ..
@[simp] theorem State.modSec_thermal (s : State) (f : Sec → Sec) : (s.modSec f).thermal = s.thermal := State.mk_thermal ..
@[simp] theorem State.modSec_otp (s : State) (f : Sec → Sec) : (s.modSec f).otp = s.otp := State.mk_otp ..
@[simp] theorem State.modSec_dbg (s : State) (f : Sec → Sec) : (s.modSec f).dbg = s.dbg := State.mk_dbg ..
@[simp] theorem State.modSec_boot (s : State) (f : Sec → Sec) : (s.modSec f).boot = s.boot := State.mk_boot ..
@[simp] theorem State.modSec_mgt (s : State) (f : Sec → Sec) : (s.modSec f).mgt = s.mgt := State.mk_mgt ..
@[simp] theorem State.modSec_recd (s : State) (f : Sec → Sec) : (s.modSec f).recd = s.recd := State.mk_recd ..
@[simp] theorem State.modSec_pwg (s : State) (f : Sec → Sec) : (s.modSec f).pwg = s.pwg := State.mk_pwg ..
@[simp] theorem State.modSec_sec (s : State) (f : Sec → Sec) : (s.modSec f).sec = f s.sec := State.mk_sec ..
@[simp] theorem State.modSec_lanes (s : State) (f : Sec → Sec) : (s.modSec f).lanes = s.lanes := State.mk_lanes ..
@[simp] theorem State.modSec_groups (s : State) (f : Sec → Sec) : (s.modSec f).groups = s.groups := State.mk_groups ..
@[simp] theorem State.modSec_ports (s : State) (f : Sec → Sec) : (s.modSec f).ports = s.ports := State.mk_ports ..
@[simp] theorem State.modSec_calLanes (s : State) (f : Sec → Sec) : (s.modSec f).calLanes = s.calLanes := State.mk_calLanes ..
@[simp] theorem State.modSec_calGroups (s : State) (f : Sec → Sec) : (s.modSec f).calGroups = s.calGroups := State.mk_calGroups ..
@[simp] theorem State.modSec_dramCh (s : State) (f : Sec → Sec) : (s.modSec f).dramCh = s.dramCh := State.mk_dramCh ..
@[simp] theorem State.modSec_dmc (s : State) (f : Sec → Sec) : (s.modSec f).dmc = s.dmc := State.mk_dmc ..
@[simp] theorem State.modSec_sfm (s : State) (f : Sec → Sec) : (s.modSec f).sfm = s.sfm := State.mk_sfm ..
@[simp] theorem State.modSec_tgn (s : State) (f : Sec → Sec) : (s.modSec f).tgn = s.tgn := State.mk_tgn ..
@[simp] theorem State.modSec_headPolders (s : State) (f : Sec → Sec) : (s.modSec f).headPolders = s.headPolders := State.mk_headPolders ..
@[simp] theorem State.modSec_polders (s : State) (f : Sec → Sec) : (s.modSec f).polders = s.polders := State.mk_polders ..
@[simp] theorem State.modSec_cals (s : State) (f : Sec → Sec) : (s.modSec f).cals = s.cals := State.mk_cals ..
@[simp] theorem State.modSec_pnl (s : State) (f : Sec → Sec) : (s.modSec f).pnl = s.pnl := State.mk_pnl ..
@[simp] theorem State.modSec_lsc (s : State) (f : Sec → Sec) : (s.modSec f).lsc = s.lsc := State.mk_lsc ..
@[simp] theorem State.modSec_tim (s : State) (f : Sec → Sec) : (s.modSec f).tim = s.tim := State.mk_tim ..
@[simp] theorem State.modSec_ckpts (s : State) (f : Sec → Sec) : (s.modSec f).ckpts = s.ckpts := State.mk_ckpts ..
@[simp] theorem State.modSec_wire (s : State) (f : Sec → Sec) : (s.modSec f).wire = s.wire := State.mk_wire ..
@[simp] theorem State.modSec_pending (s : State) (f : Sec → Sec) : (s.modSec f).pending = s.pending := State.mk_pending ..

/-! ### modCh -/

@[simp] theorem State.modCh_now (s : State) (c : Nat) (f : DramCh → DramCh) : (s.modCh c f).now = s.now := State.mk_now ..
@[simp] theorem State.modCh_order (s : State) (c : Nat) (f : DramCh → DramCh) : (s.modCh c f).order = s.order := State.mk_order ..
@[simp] theorem State.modCh_free (s : State) (c : Nat) (f : DramCh → DramCh) : (s.modCh c f).free = s.free := State.mk_free ..
@[simp] theorem State.modCh_regs (s : State) (c : Nat) (f : DramCh → DramCh) : (s.modCh c f).regs = s.regs := State.mk_regs ..
@[simp] theorem State.modCh_force (s : State) (c : Nat) (f : DramCh → DramCh) : (s.modCh c f).force = s.force := State.mk_force ..
@[simp] theorem State.modCh_counters (s : State) (c : Nat) (f : DramCh → DramCh) : (s.modCh c f).counters = s.counters := State.mk_counters ..
@[simp] theorem State.modCh_hiCap (s : State) (c : Nat) (f : DramCh → DramCh) : (s.modCh c f).hiCap = s.hiCap := State.mk_hiCap ..
@[simp] theorem State.modCh_dram (s : State) (c : Nat) (f : DramCh → DramCh) : (s.modCh c f).dram = s.dram := State.mk_dram ..
@[simp] theorem State.modCh_basin (s : State) (c : Nat) (f : DramCh → DramCh) : (s.modCh c f).basin = s.basin := State.mk_basin ..
@[simp] theorem State.modCh_flash (s : State) (c : Nat) (f : DramCh → DramCh) : (s.modCh c f).flash = s.flash := State.mk_flash ..
@[simp] theorem State.modCh_cfg (s : State) (c : Nat) (f : DramCh → DramCh) : (s.modCh c f).cfg = s.cfg := State.mk_cfg ..
@[simp] theorem State.modCh_blkState (s : State) (c : Nat) (f : DramCh → DramCh) : (s.modCh c f).blkState = s.blkState := State.mk_blkState ..
@[simp] theorem State.modCh_unitsOut (s : State) (c : Nat) (f : DramCh → DramCh) : (s.modCh c f).unitsOut = s.unitsOut := State.mk_unitsOut ..
@[simp] theorem State.modCh_thermal (s : State) (c : Nat) (f : DramCh → DramCh) : (s.modCh c f).thermal = s.thermal := State.mk_thermal ..
@[simp] theorem State.modCh_otp (s : State) (c : Nat) (f : DramCh → DramCh) : (s.modCh c f).otp = s.otp := State.mk_otp ..
@[simp] theorem State.modCh_dbg (s : State) (c : Nat) (f : DramCh → DramCh) : (s.modCh c f).dbg = s.dbg := State.mk_dbg ..
@[simp] theorem State.modCh_boot (s : State) (c : Nat) (f : DramCh → DramCh) : (s.modCh c f).boot = s.boot := State.mk_boot ..
@[simp] theorem State.modCh_mgt (s : State) (c : Nat) (f : DramCh → DramCh) : (s.modCh c f).mgt = s.mgt := State.mk_mgt ..
@[simp] theorem State.modCh_recd (s : State) (c : Nat) (f : DramCh → DramCh) : (s.modCh c f).recd = s.recd := State.mk_recd ..
@[simp] theorem State.modCh_pwg (s : State) (c : Nat) (f : DramCh → DramCh) : (s.modCh c f).pwg = s.pwg := State.mk_pwg ..
@[simp] theorem State.modCh_sec (s : State) (c : Nat) (f : DramCh → DramCh) : (s.modCh c f).sec = s.sec := State.mk_sec ..
@[simp] theorem State.modCh_lanes (s : State) (c : Nat) (f : DramCh → DramCh) : (s.modCh c f).lanes = s.lanes := State.mk_lanes ..
@[simp] theorem State.modCh_groups (s : State) (c : Nat) (f : DramCh → DramCh) : (s.modCh c f).groups = s.groups := State.mk_groups ..
@[simp] theorem State.modCh_ports (s : State) (c : Nat) (f : DramCh → DramCh) : (s.modCh c f).ports = s.ports := State.mk_ports ..
@[simp] theorem State.modCh_calLanes (s : State) (c : Nat) (f : DramCh → DramCh) : (s.modCh c f).calLanes = s.calLanes := State.mk_calLanes ..
@[simp] theorem State.modCh_calGroups (s : State) (c : Nat) (f : DramCh → DramCh) : (s.modCh c f).calGroups = s.calGroups := State.mk_calGroups ..
@[simp] theorem State.modCh_dmc (s : State) (c : Nat) (f : DramCh → DramCh) : (s.modCh c f).dmc = s.dmc := State.mk_dmc ..
@[simp] theorem State.modCh_sfm (s : State) (c : Nat) (f : DramCh → DramCh) : (s.modCh c f).sfm = s.sfm := State.mk_sfm ..
@[simp] theorem State.modCh_tgn (s : State) (c : Nat) (f : DramCh → DramCh) : (s.modCh c f).tgn = s.tgn := State.mk_tgn ..
@[simp] theorem State.modCh_headPolders (s : State) (c : Nat) (f : DramCh → DramCh) : (s.modCh c f).headPolders = s.headPolders := State.mk_headPolders ..
@[simp] theorem State.modCh_polders (s : State) (c : Nat) (f : DramCh → DramCh) : (s.modCh c f).polders = s.polders := State.mk_polders ..
@[simp] theorem State.modCh_cals (s : State) (c : Nat) (f : DramCh → DramCh) : (s.modCh c f).cals = s.cals := State.mk_cals ..
@[simp] theorem State.modCh_pnl (s : State) (c : Nat) (f : DramCh → DramCh) : (s.modCh c f).pnl = s.pnl := State.mk_pnl ..
@[simp] theorem State.modCh_lsc (s : State) (c : Nat) (f : DramCh → DramCh) : (s.modCh c f).lsc = s.lsc := State.mk_lsc ..
@[simp] theorem State.modCh_tim (s : State) (c : Nat) (f : DramCh → DramCh) : (s.modCh c f).tim = s.tim := State.mk_tim ..
@[simp] theorem State.modCh_ckpts (s : State) (c : Nat) (f : DramCh → DramCh) : (s.modCh c f).ckpts = s.ckpts := State.mk_ckpts ..
@[simp] theorem State.modCh_wire (s : State) (c : Nat) (f : DramCh → DramCh) : (s.modCh c f).wire = s.wire := State.mk_wire ..
@[simp] theorem State.modCh_pending (s : State) (c : Nat) (f : DramCh → DramCh) : (s.modCh c f).pending = s.pending := State.mk_pending ..

/-! ### modPcal -/

@[simp] theorem State.modPcal_now (s : State) (p : Nat) (f : PortCal → PortCal) : (s.modPcal p f).now = s.now := State.mk_now ..
@[simp] theorem State.modPcal_order (s : State) (p : Nat) (f : PortCal → PortCal) : (s.modPcal p f).order = s.order := State.mk_order ..
@[simp] theorem State.modPcal_free (s : State) (p : Nat) (f : PortCal → PortCal) : (s.modPcal p f).free = s.free := State.mk_free ..
@[simp] theorem State.modPcal_regs (s : State) (p : Nat) (f : PortCal → PortCal) : (s.modPcal p f).regs = s.regs := State.mk_regs ..
@[simp] theorem State.modPcal_force (s : State) (p : Nat) (f : PortCal → PortCal) : (s.modPcal p f).force = s.force := State.mk_force ..
@[simp] theorem State.modPcal_counters (s : State) (p : Nat) (f : PortCal → PortCal) : (s.modPcal p f).counters = s.counters := State.mk_counters ..
@[simp] theorem State.modPcal_hiCap (s : State) (p : Nat) (f : PortCal → PortCal) : (s.modPcal p f).hiCap = s.hiCap := State.mk_hiCap ..
@[simp] theorem State.modPcal_dram (s : State) (p : Nat) (f : PortCal → PortCal) : (s.modPcal p f).dram = s.dram := State.mk_dram ..
@[simp] theorem State.modPcal_basin (s : State) (p : Nat) (f : PortCal → PortCal) : (s.modPcal p f).basin = s.basin := State.mk_basin ..
@[simp] theorem State.modPcal_flash (s : State) (p : Nat) (f : PortCal → PortCal) : (s.modPcal p f).flash = s.flash := State.mk_flash ..
@[simp] theorem State.modPcal_cfg (s : State) (p : Nat) (f : PortCal → PortCal) : (s.modPcal p f).cfg = s.cfg := State.mk_cfg ..
@[simp] theorem State.modPcal_blkState (s : State) (p : Nat) (f : PortCal → PortCal) : (s.modPcal p f).blkState = s.blkState := State.mk_blkState ..
@[simp] theorem State.modPcal_unitsOut (s : State) (p : Nat) (f : PortCal → PortCal) : (s.modPcal p f).unitsOut = s.unitsOut := State.mk_unitsOut ..
@[simp] theorem State.modPcal_thermal (s : State) (p : Nat) (f : PortCal → PortCal) : (s.modPcal p f).thermal = s.thermal := State.mk_thermal ..
@[simp] theorem State.modPcal_otp (s : State) (p : Nat) (f : PortCal → PortCal) : (s.modPcal p f).otp = s.otp := State.mk_otp ..
@[simp] theorem State.modPcal_dbg (s : State) (p : Nat) (f : PortCal → PortCal) : (s.modPcal p f).dbg = s.dbg := State.mk_dbg ..
@[simp] theorem State.modPcal_boot (s : State) (p : Nat) (f : PortCal → PortCal) : (s.modPcal p f).boot = s.boot := State.mk_boot ..
@[simp] theorem State.modPcal_mgt (s : State) (p : Nat) (f : PortCal → PortCal) : (s.modPcal p f).mgt = s.mgt := State.mk_mgt ..
@[simp] theorem State.modPcal_recd (s : State) (p : Nat) (f : PortCal → PortCal) : (s.modPcal p f).recd = s.recd := State.mk_recd ..
@[simp] theorem State.modPcal_pwg (s : State) (p : Nat) (f : PortCal → PortCal) : (s.modPcal p f).pwg = s.pwg := State.mk_pwg ..
@[simp] theorem State.modPcal_sec (s : State) (p : Nat) (f : PortCal → PortCal) : (s.modPcal p f).sec = s.sec := State.mk_sec ..
@[simp] theorem State.modPcal_lanes (s : State) (p : Nat) (f : PortCal → PortCal) : (s.modPcal p f).lanes = s.lanes := State.mk_lanes ..
@[simp] theorem State.modPcal_groups (s : State) (p : Nat) (f : PortCal → PortCal) : (s.modPcal p f).groups = s.groups := State.mk_groups ..
@[simp] theorem State.modPcal_ports (s : State) (p : Nat) (f : PortCal → PortCal) : (s.modPcal p f).ports = s.ports := State.mk_ports ..
@[simp] theorem State.modPcal_calLanes (s : State) (p : Nat) (f : PortCal → PortCal) : (s.modPcal p f).calLanes = s.calLanes := State.mk_calLanes ..
@[simp] theorem State.modPcal_calGroups (s : State) (p : Nat) (f : PortCal → PortCal) : (s.modPcal p f).calGroups = s.calGroups := State.mk_calGroups ..
@[simp] theorem State.modPcal_dramCh (s : State) (p : Nat) (f : PortCal → PortCal) : (s.modPcal p f).dramCh = s.dramCh := State.mk_dramCh ..
@[simp] theorem State.modPcal_dmc (s : State) (p : Nat) (f : PortCal → PortCal) : (s.modPcal p f).dmc = s.dmc := State.mk_dmc ..
@[simp] theorem State.modPcal_sfm (s : State) (p : Nat) (f : PortCal → PortCal) : (s.modPcal p f).sfm = s.sfm := State.mk_sfm ..
@[simp] theorem State.modPcal_tgn (s : State) (p : Nat) (f : PortCal → PortCal) : (s.modPcal p f).tgn = s.tgn := State.mk_tgn ..
@[simp] theorem State.modPcal_headPolders (s : State) (p : Nat) (f : PortCal → PortCal) : (s.modPcal p f).headPolders = s.headPolders := State.mk_headPolders ..
@[simp] theorem State.modPcal_polders (s : State) (p : Nat) (f : PortCal → PortCal) : (s.modPcal p f).polders = s.polders := State.mk_polders ..
@[simp] theorem State.modPcal_pnl (s : State) (p : Nat) (f : PortCal → PortCal) : (s.modPcal p f).pnl = s.pnl := State.mk_pnl ..
@[simp] theorem State.modPcal_lsc (s : State) (p : Nat) (f : PortCal → PortCal) : (s.modPcal p f).lsc = s.lsc := State.mk_lsc ..
@[simp] theorem State.modPcal_tim (s : State) (p : Nat) (f : PortCal → PortCal) : (s.modPcal p f).tim = s.tim := State.mk_tim ..
@[simp] theorem State.modPcal_ckpts (s : State) (p : Nat) (f : PortCal → PortCal) : (s.modPcal p f).ckpts = s.ckpts := State.mk_ckpts ..
@[simp] theorem State.modPcal_wire (s : State) (p : Nat) (f : PortCal → PortCal) : (s.modPcal p f).wire = s.wire := State.mk_wire ..
@[simp] theorem State.modPcal_pending (s : State) (p : Nat) (f : PortCal → PortCal) : (s.modPcal p f).pending = s.pending := State.mk_pending ..

/-! ### modCalLane -/

@[simp] theorem State.modCalLane_now (s : State) (n : Nat) (f : CalLane → CalLane) : (s.modCalLane n f).now = s.now := State.mk_now ..
@[simp] theorem State.modCalLane_order (s : State) (n : Nat) (f : CalLane → CalLane) : (s.modCalLane n f).order = s.order := State.mk_order ..
@[simp] theorem State.modCalLane_free (s : State) (n : Nat) (f : CalLane → CalLane) : (s.modCalLane n f).free = s.free := State.mk_free ..
@[simp] theorem State.modCalLane_regs (s : State) (n : Nat) (f : CalLane → CalLane) : (s.modCalLane n f).regs = s.regs := State.mk_regs ..
@[simp] theorem State.modCalLane_force (s : State) (n : Nat) (f : CalLane → CalLane) : (s.modCalLane n f).force = s.force := State.mk_force ..
@[simp] theorem State.modCalLane_counters (s : State) (n : Nat) (f : CalLane → CalLane) : (s.modCalLane n f).counters = s.counters := State.mk_counters ..
@[simp] theorem State.modCalLane_hiCap (s : State) (n : Nat) (f : CalLane → CalLane) : (s.modCalLane n f).hiCap = s.hiCap := State.mk_hiCap ..
@[simp] theorem State.modCalLane_dram (s : State) (n : Nat) (f : CalLane → CalLane) : (s.modCalLane n f).dram = s.dram := State.mk_dram ..
@[simp] theorem State.modCalLane_basin (s : State) (n : Nat) (f : CalLane → CalLane) : (s.modCalLane n f).basin = s.basin := State.mk_basin ..
@[simp] theorem State.modCalLane_flash (s : State) (n : Nat) (f : CalLane → CalLane) : (s.modCalLane n f).flash = s.flash := State.mk_flash ..
@[simp] theorem State.modCalLane_cfg (s : State) (n : Nat) (f : CalLane → CalLane) : (s.modCalLane n f).cfg = s.cfg := State.mk_cfg ..
@[simp] theorem State.modCalLane_blkState (s : State) (n : Nat) (f : CalLane → CalLane) : (s.modCalLane n f).blkState = s.blkState := State.mk_blkState ..
@[simp] theorem State.modCalLane_unitsOut (s : State) (n : Nat) (f : CalLane → CalLane) : (s.modCalLane n f).unitsOut = s.unitsOut := State.mk_unitsOut ..
@[simp] theorem State.modCalLane_thermal (s : State) (n : Nat) (f : CalLane → CalLane) : (s.modCalLane n f).thermal = s.thermal := State.mk_thermal ..
@[simp] theorem State.modCalLane_otp (s : State) (n : Nat) (f : CalLane → CalLane) : (s.modCalLane n f).otp = s.otp := State.mk_otp ..
@[simp] theorem State.modCalLane_dbg (s : State) (n : Nat) (f : CalLane → CalLane) : (s.modCalLane n f).dbg = s.dbg := State.mk_dbg ..
@[simp] theorem State.modCalLane_boot (s : State) (n : Nat) (f : CalLane → CalLane) : (s.modCalLane n f).boot = s.boot := State.mk_boot ..
@[simp] theorem State.modCalLane_mgt (s : State) (n : Nat) (f : CalLane → CalLane) : (s.modCalLane n f).mgt = s.mgt := State.mk_mgt ..
@[simp] theorem State.modCalLane_recd (s : State) (n : Nat) (f : CalLane → CalLane) : (s.modCalLane n f).recd = s.recd := State.mk_recd ..
@[simp] theorem State.modCalLane_pwg (s : State) (n : Nat) (f : CalLane → CalLane) : (s.modCalLane n f).pwg = s.pwg := State.mk_pwg ..
@[simp] theorem State.modCalLane_sec (s : State) (n : Nat) (f : CalLane → CalLane) : (s.modCalLane n f).sec = s.sec := State.mk_sec ..
@[simp] theorem State.modCalLane_lanes (s : State) (n : Nat) (f : CalLane → CalLane) : (s.modCalLane n f).lanes = s.lanes := State.mk_lanes ..
@[simp] theorem State.modCalLane_groups (s : State) (n : Nat) (f : CalLane → CalLane) : (s.modCalLane n f).groups = s.groups := State.mk_groups ..
@[simp] theorem State.modCalLane_ports (s : State) (n : Nat) (f : CalLane → CalLane) : (s.modCalLane n f).ports = s.ports := State.mk_ports ..
@[simp] theorem State.modCalLane_calGroups (s : State) (n : Nat) (f : CalLane → CalLane) : (s.modCalLane n f).calGroups = s.calGroups := State.mk_calGroups ..
@[simp] theorem State.modCalLane_dramCh (s : State) (n : Nat) (f : CalLane → CalLane) : (s.modCalLane n f).dramCh = s.dramCh := State.mk_dramCh ..
@[simp] theorem State.modCalLane_dmc (s : State) (n : Nat) (f : CalLane → CalLane) : (s.modCalLane n f).dmc = s.dmc := State.mk_dmc ..
@[simp] theorem State.modCalLane_sfm (s : State) (n : Nat) (f : CalLane → CalLane) : (s.modCalLane n f).sfm = s.sfm := State.mk_sfm ..
@[simp] theorem State.modCalLane_tgn (s : State) (n : Nat) (f : CalLane → CalLane) : (s.modCalLane n f).tgn = s.tgn := State.mk_tgn ..
@[simp] theorem State.modCalLane_headPolders (s : State) (n : Nat) (f : CalLane → CalLane) : (s.modCalLane n f).headPolders = s.headPolders := State.mk_headPolders ..
@[simp] theorem State.modCalLane_polders (s : State) (n : Nat) (f : CalLane → CalLane) : (s.modCalLane n f).polders = s.polders := State.mk_polders ..
@[simp] theorem State.modCalLane_cals (s : State) (n : Nat) (f : CalLane → CalLane) : (s.modCalLane n f).cals = s.cals := State.mk_cals ..
@[simp] theorem State.modCalLane_pnl (s : State) (n : Nat) (f : CalLane → CalLane) : (s.modCalLane n f).pnl = s.pnl := State.mk_pnl ..
@[simp] theorem State.modCalLane_lsc (s : State) (n : Nat) (f : CalLane → CalLane) : (s.modCalLane n f).lsc = s.lsc := State.mk_lsc ..
@[simp] theorem State.modCalLane_tim (s : State) (n : Nat) (f : CalLane → CalLane) : (s.modCalLane n f).tim = s.tim := State.mk_tim ..
@[simp] theorem State.modCalLane_ckpts (s : State) (n : Nat) (f : CalLane → CalLane) : (s.modCalLane n f).ckpts = s.ckpts := State.mk_ckpts ..
@[simp] theorem State.modCalLane_wire (s : State) (n : Nat) (f : CalLane → CalLane) : (s.modCalLane n f).wire = s.wire := State.mk_wire ..
@[simp] theorem State.modCalLane_pending (s : State) (n : Nat) (f : CalLane → CalLane) : (s.modCalLane n f).pending = s.pending := State.mk_pending ..

/-! ### modCalGroup -/

@[simp] theorem State.modCalGroup_now (s : State) (g : Nat) (f : CalGroup → CalGroup) : (s.modCalGroup g f).now = s.now := State.mk_now ..
@[simp] theorem State.modCalGroup_order (s : State) (g : Nat) (f : CalGroup → CalGroup) : (s.modCalGroup g f).order = s.order := State.mk_order ..
@[simp] theorem State.modCalGroup_free (s : State) (g : Nat) (f : CalGroup → CalGroup) : (s.modCalGroup g f).free = s.free := State.mk_free ..
@[simp] theorem State.modCalGroup_regs (s : State) (g : Nat) (f : CalGroup → CalGroup) : (s.modCalGroup g f).regs = s.regs := State.mk_regs ..
@[simp] theorem State.modCalGroup_force (s : State) (g : Nat) (f : CalGroup → CalGroup) : (s.modCalGroup g f).force = s.force := State.mk_force ..
@[simp] theorem State.modCalGroup_counters (s : State) (g : Nat) (f : CalGroup → CalGroup) : (s.modCalGroup g f).counters = s.counters := State.mk_counters ..
@[simp] theorem State.modCalGroup_hiCap (s : State) (g : Nat) (f : CalGroup → CalGroup) : (s.modCalGroup g f).hiCap = s.hiCap := State.mk_hiCap ..
@[simp] theorem State.modCalGroup_dram (s : State) (g : Nat) (f : CalGroup → CalGroup) : (s.modCalGroup g f).dram = s.dram := State.mk_dram ..
@[simp] theorem State.modCalGroup_basin (s : State) (g : Nat) (f : CalGroup → CalGroup) : (s.modCalGroup g f).basin = s.basin := State.mk_basin ..
@[simp] theorem State.modCalGroup_flash (s : State) (g : Nat) (f : CalGroup → CalGroup) : (s.modCalGroup g f).flash = s.flash := State.mk_flash ..
@[simp] theorem State.modCalGroup_cfg (s : State) (g : Nat) (f : CalGroup → CalGroup) : (s.modCalGroup g f).cfg = s.cfg := State.mk_cfg ..
@[simp] theorem State.modCalGroup_blkState (s : State) (g : Nat) (f : CalGroup → CalGroup) : (s.modCalGroup g f).blkState = s.blkState := State.mk_blkState ..
@[simp] theorem State.modCalGroup_unitsOut (s : State) (g : Nat) (f : CalGroup → CalGroup) : (s.modCalGroup g f).unitsOut = s.unitsOut := State.mk_unitsOut ..
@[simp] theorem State.modCalGroup_thermal (s : State) (g : Nat) (f : CalGroup → CalGroup) : (s.modCalGroup g f).thermal = s.thermal := State.mk_thermal ..
@[simp] theorem State.modCalGroup_otp (s : State) (g : Nat) (f : CalGroup → CalGroup) : (s.modCalGroup g f).otp = s.otp := State.mk_otp ..
@[simp] theorem State.modCalGroup_dbg (s : State) (g : Nat) (f : CalGroup → CalGroup) : (s.modCalGroup g f).dbg = s.dbg := State.mk_dbg ..
@[simp] theorem State.modCalGroup_boot (s : State) (g : Nat) (f : CalGroup → CalGroup) : (s.modCalGroup g f).boot = s.boot := State.mk_boot ..
@[simp] theorem State.modCalGroup_mgt (s : State) (g : Nat) (f : CalGroup → CalGroup) : (s.modCalGroup g f).mgt = s.mgt := State.mk_mgt ..
@[simp] theorem State.modCalGroup_recd (s : State) (g : Nat) (f : CalGroup → CalGroup) : (s.modCalGroup g f).recd = s.recd := State.mk_recd ..
@[simp] theorem State.modCalGroup_pwg (s : State) (g : Nat) (f : CalGroup → CalGroup) : (s.modCalGroup g f).pwg = s.pwg := State.mk_pwg ..
@[simp] theorem State.modCalGroup_sec (s : State) (g : Nat) (f : CalGroup → CalGroup) : (s.modCalGroup g f).sec = s.sec := State.mk_sec ..
@[simp] theorem State.modCalGroup_lanes (s : State) (g : Nat) (f : CalGroup → CalGroup) : (s.modCalGroup g f).lanes = s.lanes := State.mk_lanes ..
@[simp] theorem State.modCalGroup_groups (s : State) (g : Nat) (f : CalGroup → CalGroup) : (s.modCalGroup g f).groups = s.groups := State.mk_groups ..
@[simp] theorem State.modCalGroup_ports (s : State) (g : Nat) (f : CalGroup → CalGroup) : (s.modCalGroup g f).ports = s.ports := State.mk_ports ..
@[simp] theorem State.modCalGroup_calLanes (s : State) (g : Nat) (f : CalGroup → CalGroup) : (s.modCalGroup g f).calLanes = s.calLanes := State.mk_calLanes ..
@[simp] theorem State.modCalGroup_dramCh (s : State) (g : Nat) (f : CalGroup → CalGroup) : (s.modCalGroup g f).dramCh = s.dramCh := State.mk_dramCh ..
@[simp] theorem State.modCalGroup_dmc (s : State) (g : Nat) (f : CalGroup → CalGroup) : (s.modCalGroup g f).dmc = s.dmc := State.mk_dmc ..
@[simp] theorem State.modCalGroup_sfm (s : State) (g : Nat) (f : CalGroup → CalGroup) : (s.modCalGroup g f).sfm = s.sfm := State.mk_sfm ..
@[simp] theorem State.modCalGroup_tgn (s : State) (g : Nat) (f : CalGroup → CalGroup) : (s.modCalGroup g f).tgn = s.tgn := State.mk_tgn ..
@[simp] theorem State.modCalGroup_headPolders (s : State) (g : Nat) (f : CalGroup → CalGroup) : (s.modCalGroup g f).headPolders = s.headPolders := State.mk_headPolders ..
@[simp] theorem State.modCalGroup_polders (s : State) (g : Nat) (f : CalGroup → CalGroup) : (s.modCalGroup g f).polders = s.polders := State.mk_polders ..
@[simp] theorem State.modCalGroup_cals (s : State) (g : Nat) (f : CalGroup → CalGroup) : (s.modCalGroup g f).cals = s.cals := State.mk_cals ..
@[simp] theorem State.modCalGroup_pnl (s : State) (g : Nat) (f : CalGroup → CalGroup) : (s.modCalGroup g f).pnl = s.pnl := State.mk_pnl ..
@[simp] theorem State.modCalGroup_lsc (s : State) (g : Nat) (f : CalGroup → CalGroup) : (s.modCalGroup g f).lsc = s.lsc := State.mk_lsc ..
@[simp] theorem State.modCalGroup_tim (s : State) (g : Nat) (f : CalGroup → CalGroup) : (s.modCalGroup g f).tim = s.tim := State.mk_tim ..
@[simp] theorem State.modCalGroup_ckpts (s : State) (g : Nat) (f : CalGroup → CalGroup) : (s.modCalGroup g f).ckpts = s.ckpts := State.mk_ckpts ..
@[simp] theorem State.modCalGroup_wire (s : State) (g : Nat) (f : CalGroup → CalGroup) : (s.modCalGroup g f).wire = s.wire := State.mk_wire ..
@[simp] theorem State.modCalGroup_pending (s : State) (g : Nat) (f : CalGroup → CalGroup) : (s.modCalGroup g f).pending = s.pending := State.mk_pending ..

/-! ### modDom -/

@[simp] theorem State.modDom_now (s : State) (d : Nat) (f : TimDom → TimDom) : (s.modDom d f).now = s.now := State.mk_now ..
@[simp] theorem State.modDom_order (s : State) (d : Nat) (f : TimDom → TimDom) : (s.modDom d f).order = s.order := State.mk_order ..
@[simp] theorem State.modDom_free (s : State) (d : Nat) (f : TimDom → TimDom) : (s.modDom d f).free = s.free := State.mk_free ..
@[simp] theorem State.modDom_regs (s : State) (d : Nat) (f : TimDom → TimDom) : (s.modDom d f).regs = s.regs := State.mk_regs ..
@[simp] theorem State.modDom_force (s : State) (d : Nat) (f : TimDom → TimDom) : (s.modDom d f).force = s.force := State.mk_force ..
@[simp] theorem State.modDom_counters (s : State) (d : Nat) (f : TimDom → TimDom) : (s.modDom d f).counters = s.counters := State.mk_counters ..
@[simp] theorem State.modDom_hiCap (s : State) (d : Nat) (f : TimDom → TimDom) : (s.modDom d f).hiCap = s.hiCap := State.mk_hiCap ..
@[simp] theorem State.modDom_dram (s : State) (d : Nat) (f : TimDom → TimDom) : (s.modDom d f).dram = s.dram := State.mk_dram ..
@[simp] theorem State.modDom_basin (s : State) (d : Nat) (f : TimDom → TimDom) : (s.modDom d f).basin = s.basin := State.mk_basin ..
@[simp] theorem State.modDom_flash (s : State) (d : Nat) (f : TimDom → TimDom) : (s.modDom d f).flash = s.flash := State.mk_flash ..
@[simp] theorem State.modDom_cfg (s : State) (d : Nat) (f : TimDom → TimDom) : (s.modDom d f).cfg = s.cfg := State.mk_cfg ..
@[simp] theorem State.modDom_blkState (s : State) (d : Nat) (f : TimDom → TimDom) : (s.modDom d f).blkState = s.blkState := State.mk_blkState ..
@[simp] theorem State.modDom_unitsOut (s : State) (d : Nat) (f : TimDom → TimDom) : (s.modDom d f).unitsOut = s.unitsOut := State.mk_unitsOut ..
@[simp] theorem State.modDom_thermal (s : State) (d : Nat) (f : TimDom → TimDom) : (s.modDom d f).thermal = s.thermal := State.mk_thermal ..
@[simp] theorem State.modDom_otp (s : State) (d : Nat) (f : TimDom → TimDom) : (s.modDom d f).otp = s.otp := State.mk_otp ..
@[simp] theorem State.modDom_dbg (s : State) (d : Nat) (f : TimDom → TimDom) : (s.modDom d f).dbg = s.dbg := State.mk_dbg ..
@[simp] theorem State.modDom_boot (s : State) (d : Nat) (f : TimDom → TimDom) : (s.modDom d f).boot = s.boot := State.mk_boot ..
@[simp] theorem State.modDom_mgt (s : State) (d : Nat) (f : TimDom → TimDom) : (s.modDom d f).mgt = s.mgt := State.mk_mgt ..
@[simp] theorem State.modDom_recd (s : State) (d : Nat) (f : TimDom → TimDom) : (s.modDom d f).recd = s.recd := State.mk_recd ..
@[simp] theorem State.modDom_pwg (s : State) (d : Nat) (f : TimDom → TimDom) : (s.modDom d f).pwg = s.pwg := State.mk_pwg ..
@[simp] theorem State.modDom_sec (s : State) (d : Nat) (f : TimDom → TimDom) : (s.modDom d f).sec = s.sec := State.mk_sec ..
@[simp] theorem State.modDom_lanes (s : State) (d : Nat) (f : TimDom → TimDom) : (s.modDom d f).lanes = s.lanes := State.mk_lanes ..
@[simp] theorem State.modDom_groups (s : State) (d : Nat) (f : TimDom → TimDom) : (s.modDom d f).groups = s.groups := State.mk_groups ..
@[simp] theorem State.modDom_ports (s : State) (d : Nat) (f : TimDom → TimDom) : (s.modDom d f).ports = s.ports := State.mk_ports ..
@[simp] theorem State.modDom_calLanes (s : State) (d : Nat) (f : TimDom → TimDom) : (s.modDom d f).calLanes = s.calLanes := State.mk_calLanes ..
@[simp] theorem State.modDom_calGroups (s : State) (d : Nat) (f : TimDom → TimDom) : (s.modDom d f).calGroups = s.calGroups := State.mk_calGroups ..
@[simp] theorem State.modDom_dramCh (s : State) (d : Nat) (f : TimDom → TimDom) : (s.modDom d f).dramCh = s.dramCh := State.mk_dramCh ..
@[simp] theorem State.modDom_dmc (s : State) (d : Nat) (f : TimDom → TimDom) : (s.modDom d f).dmc = s.dmc := State.mk_dmc ..
@[simp] theorem State.modDom_sfm (s : State) (d : Nat) (f : TimDom → TimDom) : (s.modDom d f).sfm = s.sfm := State.mk_sfm ..
@[simp] theorem State.modDom_tgn (s : State) (d : Nat) (f : TimDom → TimDom) : (s.modDom d f).tgn = s.tgn := State.mk_tgn ..
@[simp] theorem State.modDom_headPolders (s : State) (d : Nat) (f : TimDom → TimDom) : (s.modDom d f).headPolders = s.headPolders := State.mk_headPolders ..
@[simp] theorem State.modDom_polders (s : State) (d : Nat) (f : TimDom → TimDom) : (s.modDom d f).polders = s.polders := State.mk_polders ..
@[simp] theorem State.modDom_cals (s : State) (d : Nat) (f : TimDom → TimDom) : (s.modDom d f).cals = s.cals := State.mk_cals ..
@[simp] theorem State.modDom_pnl (s : State) (d : Nat) (f : TimDom → TimDom) : (s.modDom d f).pnl = s.pnl := State.mk_pnl ..
@[simp] theorem State.modDom_lsc (s : State) (d : Nat) (f : TimDom → TimDom) : (s.modDom d f).lsc = s.lsc := State.mk_lsc ..
@[simp] theorem State.modDom_tim_run (s : State) (d : Nat) (f : TimDom → TimDom) : (s.modDom d f).tim.run = s.tim.run := Tim.mk_run ..
@[simp] theorem State.modDom_tim_eth (s : State) (d : Nat) (f : TimDom → TimDom) : (s.modDom d f).tim.eth = s.tim.eth := Tim.mk_eth ..
@[simp] theorem State.modDom_tim_vlan (s : State) (d : Nat) (f : TimDom → TimDom) : (s.modDom d f).tim.vlan = s.tim.vlan := Tim.mk_vlan ..
@[simp] theorem State.modDom_tim_link (s : State) (d : Nat) (f : TimDom → TimDom) : (s.modDom d f).tim.link = s.tim.link := Tim.mk_link ..
@[simp] theorem State.modDom_tim_base (s : State) (d : Nat) (f : TimDom → TimDom) : (s.modDom d f).tim.base = s.tim.base := Tim.mk_base ..
@[simp] theorem State.modDom_tim_tick0 (s : State) (d : Nat) (f : TimDom → TimDom) : (s.modDom d f).tim.tick0 = s.tim.tick0 := Tim.mk_tick0 ..
@[simp] theorem State.modDom_tim_addend (s : State) (d : Nat) (f : TimDom → TimDom) : (s.modDom d f).tim.addend = s.tim.addend := Tim.mk_addend ..
@[simp] theorem State.modDom_tim_state (s : State) (d : Nat) (f : TimDom → TimDom) : (s.modDom d f).tim.state = s.tim.state := Tim.mk_state ..
@[simp] theorem State.modDom_tim_sel (s : State) (d : Nat) (f : TimDom → TimDom) : (s.modDom d f).tim.sel = s.tim.sel := Tim.mk_sel ..
@[simp] theorem State.modDom_tim_stepDone (s : State) (d : Nat) (f : TimDom → TimDom) : (s.modDom d f).tim.stepDone = s.tim.stepDone := Tim.mk_stepDone ..
@[simp] theorem State.modDom_tim_stepTick (s : State) (d : Nat) (f : TimDom → TimDom) : (s.modDom d f).tim.stepTick = s.tim.stepTick := Tim.mk_stepTick ..
@[simp] theorem State.modDom_tim_armed (s : State) (d : Nat) (f : TimDom → TimDom) : (s.modDom d f).tim.armed = s.tim.armed := Tim.mk_armed ..
@[simp] theorem State.modDom_tim_tsq (s : State) (d : Nat) (f : TimDom → TimDom) : (s.modDom d f).tim.tsq = s.tim.tsq := Tim.mk_tsq ..
@[simp] theorem State.modDom_tim_outs (s : State) (d : Nat) (f : TimDom → TimDom) : (s.modDom d f).tim.outs = s.tim.outs := Tim.mk_outs ..
@[simp] theorem State.modDom_tim_capSecLo (s : State) (d : Nat) (f : TimDom → TimDom) : (s.modDom d f).tim.capSecLo = s.tim.capSecLo := Tim.mk_capSecLo ..
@[simp] theorem State.modDom_tim_capSecHi (s : State) (d : Nat) (f : TimDom → TimDom) : (s.modDom d f).tim.capSecHi = s.tim.capSecHi := Tim.mk_capSecHi ..
@[simp] theorem State.modDom_tim_capFrac (s : State) (d : Nat) (f : TimDom → TimDom) : (s.modDom d f).tim.capFrac = s.tim.capFrac := Tim.mk_capFrac ..
@[simp] theorem State.modDom_tim_capAdd (s : State) (d : Nat) (f : TimDom → TimDom) : (s.modDom d f).tim.capAdd = s.tim.capAdd := Tim.mk_capAdd ..
@[simp] theorem State.modDom_ckpts (s : State) (d : Nat) (f : TimDom → TimDom) : (s.modDom d f).ckpts = s.ckpts := State.mk_ckpts ..
@[simp] theorem State.modDom_wire (s : State) (d : Nat) (f : TimDom → TimDom) : (s.modDom d f).wire = s.wire := State.mk_wire ..
@[simp] theorem State.modDom_pending (s : State) (d : Nat) (f : TimDom → TimDom) : (s.modDom d f).pending = s.pending := State.mk_pending ..

/-! ### modOut -/

@[simp] theorem State.modOut_now (s : State) (k : Nat) (f : PulseOut → PulseOut) : (s.modOut k f).now = s.now := State.mk_now ..
@[simp] theorem State.modOut_order (s : State) (k : Nat) (f : PulseOut → PulseOut) : (s.modOut k f).order = s.order := State.mk_order ..
@[simp] theorem State.modOut_free (s : State) (k : Nat) (f : PulseOut → PulseOut) : (s.modOut k f).free = s.free := State.mk_free ..
@[simp] theorem State.modOut_regs (s : State) (k : Nat) (f : PulseOut → PulseOut) : (s.modOut k f).regs = s.regs := State.mk_regs ..
@[simp] theorem State.modOut_force (s : State) (k : Nat) (f : PulseOut → PulseOut) : (s.modOut k f).force = s.force := State.mk_force ..
@[simp] theorem State.modOut_counters (s : State) (k : Nat) (f : PulseOut → PulseOut) : (s.modOut k f).counters = s.counters := State.mk_counters ..
@[simp] theorem State.modOut_hiCap (s : State) (k : Nat) (f : PulseOut → PulseOut) : (s.modOut k f).hiCap = s.hiCap := State.mk_hiCap ..
@[simp] theorem State.modOut_dram (s : State) (k : Nat) (f : PulseOut → PulseOut) : (s.modOut k f).dram = s.dram := State.mk_dram ..
@[simp] theorem State.modOut_basin (s : State) (k : Nat) (f : PulseOut → PulseOut) : (s.modOut k f).basin = s.basin := State.mk_basin ..
@[simp] theorem State.modOut_flash (s : State) (k : Nat) (f : PulseOut → PulseOut) : (s.modOut k f).flash = s.flash := State.mk_flash ..
@[simp] theorem State.modOut_cfg (s : State) (k : Nat) (f : PulseOut → PulseOut) : (s.modOut k f).cfg = s.cfg := State.mk_cfg ..
@[simp] theorem State.modOut_blkState (s : State) (k : Nat) (f : PulseOut → PulseOut) : (s.modOut k f).blkState = s.blkState := State.mk_blkState ..
@[simp] theorem State.modOut_unitsOut (s : State) (k : Nat) (f : PulseOut → PulseOut) : (s.modOut k f).unitsOut = s.unitsOut := State.mk_unitsOut ..
@[simp] theorem State.modOut_thermal (s : State) (k : Nat) (f : PulseOut → PulseOut) : (s.modOut k f).thermal = s.thermal := State.mk_thermal ..
@[simp] theorem State.modOut_otp (s : State) (k : Nat) (f : PulseOut → PulseOut) : (s.modOut k f).otp = s.otp := State.mk_otp ..
@[simp] theorem State.modOut_dbg (s : State) (k : Nat) (f : PulseOut → PulseOut) : (s.modOut k f).dbg = s.dbg := State.mk_dbg ..
@[simp] theorem State.modOut_boot (s : State) (k : Nat) (f : PulseOut → PulseOut) : (s.modOut k f).boot = s.boot := State.mk_boot ..
@[simp] theorem State.modOut_mgt (s : State) (k : Nat) (f : PulseOut → PulseOut) : (s.modOut k f).mgt = s.mgt := State.mk_mgt ..
@[simp] theorem State.modOut_recd (s : State) (k : Nat) (f : PulseOut → PulseOut) : (s.modOut k f).recd = s.recd := State.mk_recd ..
@[simp] theorem State.modOut_pwg (s : State) (k : Nat) (f : PulseOut → PulseOut) : (s.modOut k f).pwg = s.pwg := State.mk_pwg ..
@[simp] theorem State.modOut_sec (s : State) (k : Nat) (f : PulseOut → PulseOut) : (s.modOut k f).sec = s.sec := State.mk_sec ..
@[simp] theorem State.modOut_lanes (s : State) (k : Nat) (f : PulseOut → PulseOut) : (s.modOut k f).lanes = s.lanes := State.mk_lanes ..
@[simp] theorem State.modOut_groups (s : State) (k : Nat) (f : PulseOut → PulseOut) : (s.modOut k f).groups = s.groups := State.mk_groups ..
@[simp] theorem State.modOut_ports (s : State) (k : Nat) (f : PulseOut → PulseOut) : (s.modOut k f).ports = s.ports := State.mk_ports ..
@[simp] theorem State.modOut_calLanes (s : State) (k : Nat) (f : PulseOut → PulseOut) : (s.modOut k f).calLanes = s.calLanes := State.mk_calLanes ..
@[simp] theorem State.modOut_calGroups (s : State) (k : Nat) (f : PulseOut → PulseOut) : (s.modOut k f).calGroups = s.calGroups := State.mk_calGroups ..
@[simp] theorem State.modOut_dramCh (s : State) (k : Nat) (f : PulseOut → PulseOut) : (s.modOut k f).dramCh = s.dramCh := State.mk_dramCh ..
@[simp] theorem State.modOut_dmc (s : State) (k : Nat) (f : PulseOut → PulseOut) : (s.modOut k f).dmc = s.dmc := State.mk_dmc ..
@[simp] theorem State.modOut_sfm (s : State) (k : Nat) (f : PulseOut → PulseOut) : (s.modOut k f).sfm = s.sfm := State.mk_sfm ..
@[simp] theorem State.modOut_tgn (s : State) (k : Nat) (f : PulseOut → PulseOut) : (s.modOut k f).tgn = s.tgn := State.mk_tgn ..
@[simp] theorem State.modOut_headPolders (s : State) (k : Nat) (f : PulseOut → PulseOut) : (s.modOut k f).headPolders = s.headPolders := State.mk_headPolders ..
@[simp] theorem State.modOut_polders (s : State) (k : Nat) (f : PulseOut → PulseOut) : (s.modOut k f).polders = s.polders := State.mk_polders ..
@[simp] theorem State.modOut_cals (s : State) (k : Nat) (f : PulseOut → PulseOut) : (s.modOut k f).cals = s.cals := State.mk_cals ..
@[simp] theorem State.modOut_pnl (s : State) (k : Nat) (f : PulseOut → PulseOut) : (s.modOut k f).pnl = s.pnl := State.mk_pnl ..
@[simp] theorem State.modOut_lsc (s : State) (k : Nat) (f : PulseOut → PulseOut) : (s.modOut k f).lsc = s.lsc := State.mk_lsc ..
@[simp] theorem State.modOut_tim_run (s : State) (k : Nat) (f : PulseOut → PulseOut) : (s.modOut k f).tim.run = s.tim.run := Tim.mk_run ..
@[simp] theorem State.modOut_tim_eth (s : State) (k : Nat) (f : PulseOut → PulseOut) : (s.modOut k f).tim.eth = s.tim.eth := Tim.mk_eth ..
@[simp] theorem State.modOut_tim_vlan (s : State) (k : Nat) (f : PulseOut → PulseOut) : (s.modOut k f).tim.vlan = s.tim.vlan := Tim.mk_vlan ..
@[simp] theorem State.modOut_tim_link (s : State) (k : Nat) (f : PulseOut → PulseOut) : (s.modOut k f).tim.link = s.tim.link := Tim.mk_link ..
@[simp] theorem State.modOut_tim_base (s : State) (k : Nat) (f : PulseOut → PulseOut) : (s.modOut k f).tim.base = s.tim.base := Tim.mk_base ..
@[simp] theorem State.modOut_tim_tick0 (s : State) (k : Nat) (f : PulseOut → PulseOut) : (s.modOut k f).tim.tick0 = s.tim.tick0 := Tim.mk_tick0 ..
@[simp] theorem State.modOut_tim_addend (s : State) (k : Nat) (f : PulseOut → PulseOut) : (s.modOut k f).tim.addend = s.tim.addend := Tim.mk_addend ..
@[simp] theorem State.modOut_tim_state (s : State) (k : Nat) (f : PulseOut → PulseOut) : (s.modOut k f).tim.state = s.tim.state := Tim.mk_state ..
@[simp] theorem State.modOut_tim_sel (s : State) (k : Nat) (f : PulseOut → PulseOut) : (s.modOut k f).tim.sel = s.tim.sel := Tim.mk_sel ..
@[simp] theorem State.modOut_tim_stepDone (s : State) (k : Nat) (f : PulseOut → PulseOut) : (s.modOut k f).tim.stepDone = s.tim.stepDone := Tim.mk_stepDone ..
@[simp] theorem State.modOut_tim_stepTick (s : State) (k : Nat) (f : PulseOut → PulseOut) : (s.modOut k f).tim.stepTick = s.tim.stepTick := Tim.mk_stepTick ..
@[simp] theorem State.modOut_tim_armed (s : State) (k : Nat) (f : PulseOut → PulseOut) : (s.modOut k f).tim.armed = s.tim.armed := Tim.mk_armed ..
@[simp] theorem State.modOut_tim_tsq (s : State) (k : Nat) (f : PulseOut → PulseOut) : (s.modOut k f).tim.tsq = s.tim.tsq := Tim.mk_tsq ..
@[simp] theorem State.modOut_tim_doms (s : State) (k : Nat) (f : PulseOut → PulseOut) : (s.modOut k f).tim.doms = s.tim.doms := Tim.mk_doms ..
@[simp] theorem State.modOut_tim_capSecLo (s : State) (k : Nat) (f : PulseOut → PulseOut) : (s.modOut k f).tim.capSecLo = s.tim.capSecLo := Tim.mk_capSecLo ..
@[simp] theorem State.modOut_tim_capSecHi (s : State) (k : Nat) (f : PulseOut → PulseOut) : (s.modOut k f).tim.capSecHi = s.tim.capSecHi := Tim.mk_capSecHi ..
@[simp] theorem State.modOut_tim_capFrac (s : State) (k : Nat) (f : PulseOut → PulseOut) : (s.modOut k f).tim.capFrac = s.tim.capFrac := Tim.mk_capFrac ..
@[simp] theorem State.modOut_tim_capAdd (s : State) (k : Nat) (f : PulseOut → PulseOut) : (s.modOut k f).tim.capAdd = s.tim.capAdd := Tim.mk_capAdd ..
@[simp] theorem State.modOut_ckpts (s : State) (k : Nat) (f : PulseOut → PulseOut) : (s.modOut k f).ckpts = s.ckpts := State.mk_ckpts ..
@[simp] theorem State.modOut_wire (s : State) (k : Nat) (f : PulseOut → PulseOut) : (s.modOut k f).wire = s.wire := State.mk_wire ..
@[simp] theorem State.modOut_pending (s : State) (k : Nat) (f : PulseOut → PulseOut) : (s.modOut k f).pending = s.pending := State.mk_pending ..

/-! ### modChan -/

@[simp] theorem State.modChan_now (s : State) (c : Nat) (f : LscChan → LscChan) : (s.modChan c f).now = s.now := State.mk_now ..
@[simp] theorem State.modChan_order (s : State) (c : Nat) (f : LscChan → LscChan) : (s.modChan c f).order = s.order := State.mk_order ..
@[simp] theorem State.modChan_free (s : State) (c : Nat) (f : LscChan → LscChan) : (s.modChan c f).free = s.free := State.mk_free ..
@[simp] theorem State.modChan_regs (s : State) (c : Nat) (f : LscChan → LscChan) : (s.modChan c f).regs = s.regs := State.mk_regs ..
@[simp] theorem State.modChan_force (s : State) (c : Nat) (f : LscChan → LscChan) : (s.modChan c f).force = s.force := State.mk_force ..
@[simp] theorem State.modChan_counters (s : State) (c : Nat) (f : LscChan → LscChan) : (s.modChan c f).counters = s.counters := State.mk_counters ..
@[simp] theorem State.modChan_hiCap (s : State) (c : Nat) (f : LscChan → LscChan) : (s.modChan c f).hiCap = s.hiCap := State.mk_hiCap ..
@[simp] theorem State.modChan_dram (s : State) (c : Nat) (f : LscChan → LscChan) : (s.modChan c f).dram = s.dram := State.mk_dram ..
@[simp] theorem State.modChan_basin (s : State) (c : Nat) (f : LscChan → LscChan) : (s.modChan c f).basin = s.basin := State.mk_basin ..
@[simp] theorem State.modChan_flash (s : State) (c : Nat) (f : LscChan → LscChan) : (s.modChan c f).flash = s.flash := State.mk_flash ..
@[simp] theorem State.modChan_cfg (s : State) (c : Nat) (f : LscChan → LscChan) : (s.modChan c f).cfg = s.cfg := State.mk_cfg ..
@[simp] theorem State.modChan_blkState (s : State) (c : Nat) (f : LscChan → LscChan) : (s.modChan c f).blkState = s.blkState := State.mk_blkState ..
@[simp] theorem State.modChan_unitsOut (s : State) (c : Nat) (f : LscChan → LscChan) : (s.modChan c f).unitsOut = s.unitsOut := State.mk_unitsOut ..
@[simp] theorem State.modChan_thermal (s : State) (c : Nat) (f : LscChan → LscChan) : (s.modChan c f).thermal = s.thermal := State.mk_thermal ..
@[simp] theorem State.modChan_otp (s : State) (c : Nat) (f : LscChan → LscChan) : (s.modChan c f).otp = s.otp := State.mk_otp ..
@[simp] theorem State.modChan_dbg (s : State) (c : Nat) (f : LscChan → LscChan) : (s.modChan c f).dbg = s.dbg := State.mk_dbg ..
@[simp] theorem State.modChan_boot (s : State) (c : Nat) (f : LscChan → LscChan) : (s.modChan c f).boot = s.boot := State.mk_boot ..
@[simp] theorem State.modChan_mgt (s : State) (c : Nat) (f : LscChan → LscChan) : (s.modChan c f).mgt = s.mgt := State.mk_mgt ..
@[simp] theorem State.modChan_recd (s : State) (c : Nat) (f : LscChan → LscChan) : (s.modChan c f).recd = s.recd := State.mk_recd ..
@[simp] theorem State.modChan_pwg (s : State) (c : Nat) (f : LscChan → LscChan) : (s.modChan c f).pwg = s.pwg := State.mk_pwg ..
@[simp] theorem State.modChan_sec (s : State) (c : Nat) (f : LscChan → LscChan) : (s.modChan c f).sec = s.sec := State.mk_sec ..
@[simp] theorem State.modChan_lanes (s : State) (c : Nat) (f : LscChan → LscChan) : (s.modChan c f).lanes = s.lanes := State.mk_lanes ..
@[simp] theorem State.modChan_groups (s : State) (c : Nat) (f : LscChan → LscChan) : (s.modChan c f).groups = s.groups := State.mk_groups ..
@[simp] theorem State.modChan_ports (s : State) (c : Nat) (f : LscChan → LscChan) : (s.modChan c f).ports = s.ports := State.mk_ports ..
@[simp] theorem State.modChan_calLanes (s : State) (c : Nat) (f : LscChan → LscChan) : (s.modChan c f).calLanes = s.calLanes := State.mk_calLanes ..
@[simp] theorem State.modChan_calGroups (s : State) (c : Nat) (f : LscChan → LscChan) : (s.modChan c f).calGroups = s.calGroups := State.mk_calGroups ..
@[simp] theorem State.modChan_dramCh (s : State) (c : Nat) (f : LscChan → LscChan) : (s.modChan c f).dramCh = s.dramCh := State.mk_dramCh ..
@[simp] theorem State.modChan_dmc (s : State) (c : Nat) (f : LscChan → LscChan) : (s.modChan c f).dmc = s.dmc := State.mk_dmc ..
@[simp] theorem State.modChan_sfm (s : State) (c : Nat) (f : LscChan → LscChan) : (s.modChan c f).sfm = s.sfm := State.mk_sfm ..
@[simp] theorem State.modChan_tgn (s : State) (c : Nat) (f : LscChan → LscChan) : (s.modChan c f).tgn = s.tgn := State.mk_tgn ..
@[simp] theorem State.modChan_headPolders (s : State) (c : Nat) (f : LscChan → LscChan) : (s.modChan c f).headPolders = s.headPolders := State.mk_headPolders ..
@[simp] theorem State.modChan_polders (s : State) (c : Nat) (f : LscChan → LscChan) : (s.modChan c f).polders = s.polders := State.mk_polders ..
@[simp] theorem State.modChan_cals (s : State) (c : Nat) (f : LscChan → LscChan) : (s.modChan c f).cals = s.cals := State.mk_cals ..
@[simp] theorem State.modChan_pnl (s : State) (c : Nat) (f : LscChan → LscChan) : (s.modChan c f).pnl = s.pnl := State.mk_pnl ..
@[simp] theorem State.modChan_lsc_eng (s : State) (c : Nat) (f : LscChan → LscChan) : (s.modChan c f).lsc.eng = s.lsc.eng := Lsc.mk_eng ..
@[simp] theorem State.modChan_lsc_reason (s : State) (c : Nat) (f : LscChan → LscChan) : (s.modChan c f).lsc.reason = s.lsc.reason := Lsc.mk_reason ..
@[simp] theorem State.modChan_lsc_queue (s : State) (c : Nat) (f : LscChan → LscChan) : (s.modChan c f).lsc.queue = s.lsc.queue := Lsc.mk_queue ..
@[simp] theorem State.modChan_lsc_jobs (s : State) (c : Nat) (f : LscChan → LscChan) : (s.modChan c f).lsc.jobs = s.lsc.jobs := Lsc.mk_jobs ..
@[simp] theorem State.modChan_lsc_qPeak (s : State) (c : Nat) (f : LscChan → LscChan) : (s.modChan c f).lsc.qPeak = s.lsc.qPeak := Lsc.mk_qPeak ..
@[simp] theorem State.modChan_lsc_coefs (s : State) (c : Nat) (f : LscChan → LscChan) : (s.modChan c f).lsc.coefs = s.lsc.coefs := Lsc.mk_coefs ..
@[simp] theorem State.modChan_lsc_groups (s : State) (c : Nat) (f : LscChan → LscChan) : (s.modChan c f).lsc.groups = s.lsc.groups := Lsc.mk_groups ..
@[simp] theorem State.modChan_lsc_outer (s : State) (c : Nat) (f : LscChan → LscChan) : (s.modChan c f).lsc.outer = s.lsc.outer := Lsc.mk_outer ..
@[simp] theorem State.modChan_lsc_slots (s : State) (c : Nat) (f : LscChan → LscChan) : (s.modChan c f).lsc.slots = s.lsc.slots := Lsc.mk_slots ..
@[simp] theorem State.modChan_tim (s : State) (c : Nat) (f : LscChan → LscChan) : (s.modChan c f).tim = s.tim := State.mk_tim ..
@[simp] theorem State.modChan_ckpts (s : State) (c : Nat) (f : LscChan → LscChan) : (s.modChan c f).ckpts = s.ckpts := State.mk_ckpts ..
@[simp] theorem State.modChan_wire (s : State) (c : Nat) (f : LscChan → LscChan) : (s.modChan c f).wire = s.wire := State.mk_wire ..
@[simp] theorem State.modChan_pending (s : State) (c : Nat) (f : LscChan → LscChan) : (s.modChan c f).pending = s.pending := State.mk_pending ..

/-! ### modGrp -/

@[simp] theorem State.modGrp_now (s : State) (g : Nat) (f : LscGroup → LscGroup) : (s.modGrp g f).now = s.now := State.mk_now ..
@[simp] theorem State.modGrp_order (s : State) (g : Nat) (f : LscGroup → LscGroup) : (s.modGrp g f).order = s.order := State.mk_order ..
@[simp] theorem State.modGrp_free (s : State) (g : Nat) (f : LscGroup → LscGroup) : (s.modGrp g f).free = s.free := State.mk_free ..
@[simp] theorem State.modGrp_regs (s : State) (g : Nat) (f : LscGroup → LscGroup) : (s.modGrp g f).regs = s.regs := State.mk_regs ..
@[simp] theorem State.modGrp_force (s : State) (g : Nat) (f : LscGroup → LscGroup) : (s.modGrp g f).force = s.force := State.mk_force ..
@[simp] theorem State.modGrp_counters (s : State) (g : Nat) (f : LscGroup → LscGroup) : (s.modGrp g f).counters = s.counters := State.mk_counters ..
@[simp] theorem State.modGrp_hiCap (s : State) (g : Nat) (f : LscGroup → LscGroup) : (s.modGrp g f).hiCap = s.hiCap := State.mk_hiCap ..
@[simp] theorem State.modGrp_dram (s : State) (g : Nat) (f : LscGroup → LscGroup) : (s.modGrp g f).dram = s.dram := State.mk_dram ..
@[simp] theorem State.modGrp_basin (s : State) (g : Nat) (f : LscGroup → LscGroup) : (s.modGrp g f).basin = s.basin := State.mk_basin ..
@[simp] theorem State.modGrp_flash (s : State) (g : Nat) (f : LscGroup → LscGroup) : (s.modGrp g f).flash = s.flash := State.mk_flash ..
@[simp] theorem State.modGrp_cfg (s : State) (g : Nat) (f : LscGroup → LscGroup) : (s.modGrp g f).cfg = s.cfg := State.mk_cfg ..
@[simp] theorem State.modGrp_blkState (s : State) (g : Nat) (f : LscGroup → LscGroup) : (s.modGrp g f).blkState = s.blkState := State.mk_blkState ..
@[simp] theorem State.modGrp_unitsOut (s : State) (g : Nat) (f : LscGroup → LscGroup) : (s.modGrp g f).unitsOut = s.unitsOut := State.mk_unitsOut ..
@[simp] theorem State.modGrp_thermal (s : State) (g : Nat) (f : LscGroup → LscGroup) : (s.modGrp g f).thermal = s.thermal := State.mk_thermal ..
@[simp] theorem State.modGrp_otp (s : State) (g : Nat) (f : LscGroup → LscGroup) : (s.modGrp g f).otp = s.otp := State.mk_otp ..
@[simp] theorem State.modGrp_dbg (s : State) (g : Nat) (f : LscGroup → LscGroup) : (s.modGrp g f).dbg = s.dbg := State.mk_dbg ..
@[simp] theorem State.modGrp_boot (s : State) (g : Nat) (f : LscGroup → LscGroup) : (s.modGrp g f).boot = s.boot := State.mk_boot ..
@[simp] theorem State.modGrp_mgt (s : State) (g : Nat) (f : LscGroup → LscGroup) : (s.modGrp g f).mgt = s.mgt := State.mk_mgt ..
@[simp] theorem State.modGrp_recd (s : State) (g : Nat) (f : LscGroup → LscGroup) : (s.modGrp g f).recd = s.recd := State.mk_recd ..
@[simp] theorem State.modGrp_pwg (s : State) (g : Nat) (f : LscGroup → LscGroup) : (s.modGrp g f).pwg = s.pwg := State.mk_pwg ..
@[simp] theorem State.modGrp_sec (s : State) (g : Nat) (f : LscGroup → LscGroup) : (s.modGrp g f).sec = s.sec := State.mk_sec ..
@[simp] theorem State.modGrp_lanes (s : State) (g : Nat) (f : LscGroup → LscGroup) : (s.modGrp g f).lanes = s.lanes := State.mk_lanes ..
@[simp] theorem State.modGrp_groups (s : State) (g : Nat) (f : LscGroup → LscGroup) : (s.modGrp g f).groups = s.groups := State.mk_groups ..
@[simp] theorem State.modGrp_ports (s : State) (g : Nat) (f : LscGroup → LscGroup) : (s.modGrp g f).ports = s.ports := State.mk_ports ..
@[simp] theorem State.modGrp_calLanes (s : State) (g : Nat) (f : LscGroup → LscGroup) : (s.modGrp g f).calLanes = s.calLanes := State.mk_calLanes ..
@[simp] theorem State.modGrp_calGroups (s : State) (g : Nat) (f : LscGroup → LscGroup) : (s.modGrp g f).calGroups = s.calGroups := State.mk_calGroups ..
@[simp] theorem State.modGrp_dramCh (s : State) (g : Nat) (f : LscGroup → LscGroup) : (s.modGrp g f).dramCh = s.dramCh := State.mk_dramCh ..
@[simp] theorem State.modGrp_dmc (s : State) (g : Nat) (f : LscGroup → LscGroup) : (s.modGrp g f).dmc = s.dmc := State.mk_dmc ..
@[simp] theorem State.modGrp_sfm (s : State) (g : Nat) (f : LscGroup → LscGroup) : (s.modGrp g f).sfm = s.sfm := State.mk_sfm ..
@[simp] theorem State.modGrp_tgn (s : State) (g : Nat) (f : LscGroup → LscGroup) : (s.modGrp g f).tgn = s.tgn := State.mk_tgn ..
@[simp] theorem State.modGrp_headPolders (s : State) (g : Nat) (f : LscGroup → LscGroup) : (s.modGrp g f).headPolders = s.headPolders := State.mk_headPolders ..
@[simp] theorem State.modGrp_polders (s : State) (g : Nat) (f : LscGroup → LscGroup) : (s.modGrp g f).polders = s.polders := State.mk_polders ..
@[simp] theorem State.modGrp_cals (s : State) (g : Nat) (f : LscGroup → LscGroup) : (s.modGrp g f).cals = s.cals := State.mk_cals ..
@[simp] theorem State.modGrp_pnl (s : State) (g : Nat) (f : LscGroup → LscGroup) : (s.modGrp g f).pnl = s.pnl := State.mk_pnl ..
@[simp] theorem State.modGrp_lsc_eng (s : State) (g : Nat) (f : LscGroup → LscGroup) : (s.modGrp g f).lsc.eng = s.lsc.eng := Lsc.mk_eng ..
@[simp] theorem State.modGrp_lsc_reason (s : State) (g : Nat) (f : LscGroup → LscGroup) : (s.modGrp g f).lsc.reason = s.lsc.reason := Lsc.mk_reason ..
@[simp] theorem State.modGrp_lsc_queue (s : State) (g : Nat) (f : LscGroup → LscGroup) : (s.modGrp g f).lsc.queue = s.lsc.queue := Lsc.mk_queue ..
@[simp] theorem State.modGrp_lsc_jobs (s : State) (g : Nat) (f : LscGroup → LscGroup) : (s.modGrp g f).lsc.jobs = s.lsc.jobs := Lsc.mk_jobs ..
@[simp] theorem State.modGrp_lsc_qPeak (s : State) (g : Nat) (f : LscGroup → LscGroup) : (s.modGrp g f).lsc.qPeak = s.lsc.qPeak := Lsc.mk_qPeak ..
@[simp] theorem State.modGrp_lsc_coefs (s : State) (g : Nat) (f : LscGroup → LscGroup) : (s.modGrp g f).lsc.coefs = s.lsc.coefs := Lsc.mk_coefs ..
@[simp] theorem State.modGrp_lsc_chans (s : State) (g : Nat) (f : LscGroup → LscGroup) : (s.modGrp g f).lsc.chans = s.lsc.chans := Lsc.mk_chans ..
@[simp] theorem State.modGrp_lsc_outer (s : State) (g : Nat) (f : LscGroup → LscGroup) : (s.modGrp g f).lsc.outer = s.lsc.outer := Lsc.mk_outer ..
@[simp] theorem State.modGrp_lsc_slots (s : State) (g : Nat) (f : LscGroup → LscGroup) : (s.modGrp g f).lsc.slots = s.lsc.slots := Lsc.mk_slots ..
@[simp] theorem State.modGrp_tim (s : State) (g : Nat) (f : LscGroup → LscGroup) : (s.modGrp g f).tim = s.tim := State.mk_tim ..
@[simp] theorem State.modGrp_ckpts (s : State) (g : Nat) (f : LscGroup → LscGroup) : (s.modGrp g f).ckpts = s.ckpts := State.mk_ckpts ..
@[simp] theorem State.modGrp_wire (s : State) (g : Nat) (f : LscGroup → LscGroup) : (s.modGrp g f).wire = s.wire := State.mk_wire ..
@[simp] theorem State.modGrp_pending (s : State) (g : Nat) (f : LscGroup → LscGroup) : (s.modGrp g f).pending = s.pending := State.mk_pending ..

/-! ### modOuter -/

@[simp] theorem State.modOuter_now (s : State) (h : Nat) (f : Outer → Outer) : (s.modOuter h f).now = s.now := State.mk_now ..
@[simp] theorem State.modOuter_order (s : State) (h : Nat) (f : Outer → Outer) : (s.modOuter h f).order = s.order := State.mk_order ..
@[simp] theorem State.modOuter_free (s : State) (h : Nat) (f : Outer → Outer) : (s.modOuter h f).free = s.free := State.mk_free ..
@[simp] theorem State.modOuter_regs (s : State) (h : Nat) (f : Outer → Outer) : (s.modOuter h f).regs = s.regs := State.mk_regs ..
@[simp] theorem State.modOuter_force (s : State) (h : Nat) (f : Outer → Outer) : (s.modOuter h f).force = s.force := State.mk_force ..
@[simp] theorem State.modOuter_counters (s : State) (h : Nat) (f : Outer → Outer) : (s.modOuter h f).counters = s.counters := State.mk_counters ..
@[simp] theorem State.modOuter_hiCap (s : State) (h : Nat) (f : Outer → Outer) : (s.modOuter h f).hiCap = s.hiCap := State.mk_hiCap ..
@[simp] theorem State.modOuter_dram (s : State) (h : Nat) (f : Outer → Outer) : (s.modOuter h f).dram = s.dram := State.mk_dram ..
@[simp] theorem State.modOuter_basin (s : State) (h : Nat) (f : Outer → Outer) : (s.modOuter h f).basin = s.basin := State.mk_basin ..
@[simp] theorem State.modOuter_flash (s : State) (h : Nat) (f : Outer → Outer) : (s.modOuter h f).flash = s.flash := State.mk_flash ..
@[simp] theorem State.modOuter_cfg (s : State) (h : Nat) (f : Outer → Outer) : (s.modOuter h f).cfg = s.cfg := State.mk_cfg ..
@[simp] theorem State.modOuter_blkState (s : State) (h : Nat) (f : Outer → Outer) : (s.modOuter h f).blkState = s.blkState := State.mk_blkState ..
@[simp] theorem State.modOuter_unitsOut (s : State) (h : Nat) (f : Outer → Outer) : (s.modOuter h f).unitsOut = s.unitsOut := State.mk_unitsOut ..
@[simp] theorem State.modOuter_thermal (s : State) (h : Nat) (f : Outer → Outer) : (s.modOuter h f).thermal = s.thermal := State.mk_thermal ..
@[simp] theorem State.modOuter_otp (s : State) (h : Nat) (f : Outer → Outer) : (s.modOuter h f).otp = s.otp := State.mk_otp ..
@[simp] theorem State.modOuter_dbg (s : State) (h : Nat) (f : Outer → Outer) : (s.modOuter h f).dbg = s.dbg := State.mk_dbg ..
@[simp] theorem State.modOuter_boot (s : State) (h : Nat) (f : Outer → Outer) : (s.modOuter h f).boot = s.boot := State.mk_boot ..
@[simp] theorem State.modOuter_mgt (s : State) (h : Nat) (f : Outer → Outer) : (s.modOuter h f).mgt = s.mgt := State.mk_mgt ..
@[simp] theorem State.modOuter_recd (s : State) (h : Nat) (f : Outer → Outer) : (s.modOuter h f).recd = s.recd := State.mk_recd ..
@[simp] theorem State.modOuter_pwg (s : State) (h : Nat) (f : Outer → Outer) : (s.modOuter h f).pwg = s.pwg := State.mk_pwg ..
@[simp] theorem State.modOuter_sec (s : State) (h : Nat) (f : Outer → Outer) : (s.modOuter h f).sec = s.sec := State.mk_sec ..
@[simp] theorem State.modOuter_lanes (s : State) (h : Nat) (f : Outer → Outer) : (s.modOuter h f).lanes = s.lanes := State.mk_lanes ..
@[simp] theorem State.modOuter_groups (s : State) (h : Nat) (f : Outer → Outer) : (s.modOuter h f).groups = s.groups := State.mk_groups ..
@[simp] theorem State.modOuter_ports (s : State) (h : Nat) (f : Outer → Outer) : (s.modOuter h f).ports = s.ports := State.mk_ports ..
@[simp] theorem State.modOuter_calLanes (s : State) (h : Nat) (f : Outer → Outer) : (s.modOuter h f).calLanes = s.calLanes := State.mk_calLanes ..
@[simp] theorem State.modOuter_calGroups (s : State) (h : Nat) (f : Outer → Outer) : (s.modOuter h f).calGroups = s.calGroups := State.mk_calGroups ..
@[simp] theorem State.modOuter_dramCh (s : State) (h : Nat) (f : Outer → Outer) : (s.modOuter h f).dramCh = s.dramCh := State.mk_dramCh ..
@[simp] theorem State.modOuter_dmc (s : State) (h : Nat) (f : Outer → Outer) : (s.modOuter h f).dmc = s.dmc := State.mk_dmc ..
@[simp] theorem State.modOuter_sfm (s : State) (h : Nat) (f : Outer → Outer) : (s.modOuter h f).sfm = s.sfm := State.mk_sfm ..
@[simp] theorem State.modOuter_tgn (s : State) (h : Nat) (f : Outer → Outer) : (s.modOuter h f).tgn = s.tgn := State.mk_tgn ..
@[simp] theorem State.modOuter_headPolders (s : State) (h : Nat) (f : Outer → Outer) : (s.modOuter h f).headPolders = s.headPolders := State.mk_headPolders ..
@[simp] theorem State.modOuter_polders (s : State) (h : Nat) (f : Outer → Outer) : (s.modOuter h f).polders = s.polders := State.mk_polders ..
@[simp] theorem State.modOuter_cals (s : State) (h : Nat) (f : Outer → Outer) : (s.modOuter h f).cals = s.cals := State.mk_cals ..
@[simp] theorem State.modOuter_pnl (s : State) (h : Nat) (f : Outer → Outer) : (s.modOuter h f).pnl = s.pnl := State.mk_pnl ..
@[simp] theorem State.modOuter_lsc_eng (s : State) (h : Nat) (f : Outer → Outer) : (s.modOuter h f).lsc.eng = s.lsc.eng := Lsc.mk_eng ..
@[simp] theorem State.modOuter_lsc_reason (s : State) (h : Nat) (f : Outer → Outer) : (s.modOuter h f).lsc.reason = s.lsc.reason := Lsc.mk_reason ..
@[simp] theorem State.modOuter_lsc_queue (s : State) (h : Nat) (f : Outer → Outer) : (s.modOuter h f).lsc.queue = s.lsc.queue := Lsc.mk_queue ..
@[simp] theorem State.modOuter_lsc_jobs (s : State) (h : Nat) (f : Outer → Outer) : (s.modOuter h f).lsc.jobs = s.lsc.jobs := Lsc.mk_jobs ..
@[simp] theorem State.modOuter_lsc_qPeak (s : State) (h : Nat) (f : Outer → Outer) : (s.modOuter h f).lsc.qPeak = s.lsc.qPeak := Lsc.mk_qPeak ..
@[simp] theorem State.modOuter_lsc_coefs (s : State) (h : Nat) (f : Outer → Outer) : (s.modOuter h f).lsc.coefs = s.lsc.coefs := Lsc.mk_coefs ..
@[simp] theorem State.modOuter_lsc_chans (s : State) (h : Nat) (f : Outer → Outer) : (s.modOuter h f).lsc.chans = s.lsc.chans := Lsc.mk_chans ..
@[simp] theorem State.modOuter_lsc_groups (s : State) (h : Nat) (f : Outer → Outer) : (s.modOuter h f).lsc.groups = s.lsc.groups := Lsc.mk_groups ..
@[simp] theorem State.modOuter_lsc_slots (s : State) (h : Nat) (f : Outer → Outer) : (s.modOuter h f).lsc.slots = s.lsc.slots := Lsc.mk_slots ..
@[simp] theorem State.modOuter_tim (s : State) (h : Nat) (f : Outer → Outer) : (s.modOuter h f).tim = s.tim := State.mk_tim ..
@[simp] theorem State.modOuter_ckpts (s : State) (h : Nat) (f : Outer → Outer) : (s.modOuter h f).ckpts = s.ckpts := State.mk_ckpts ..
@[simp] theorem State.modOuter_wire (s : State) (h : Nat) (f : Outer → Outer) : (s.modOuter h f).wire = s.wire := State.mk_wire ..
@[simp] theorem State.modOuter_pending (s : State) (h : Nat) (f : Outer → Outer) : (s.modOuter h f).pending = s.pending := State.mk_pending ..

/-! ### modSlot -/

@[simp] theorem State.modSlot_now (s : State) (k : Nat) (f : Slot → Slot) : (s.modSlot k f).now = s.now := State.mk_now ..
@[simp] theorem State.modSlot_order (s : State) (k : Nat) (f : Slot → Slot) : (s.modSlot k f).order = s.order := State.mk_order ..
@[simp] theorem State.modSlot_free (s : State) (k : Nat) (f : Slot → Slot) : (s.modSlot k f).free = s.free := State.mk_free ..
@[simp] theorem State.modSlot_regs (s : State) (k : Nat) (f : Slot → Slot) : (s.modSlot k f).regs = s.regs := State.mk_regs ..
@[simp] theorem State.modSlot_force (s : State) (k : Nat) (f : Slot → Slot) : (s.modSlot k f).force = s.force := State.mk_force ..
@[simp] theorem State.modSlot_counters (s : State) (k : Nat) (f : Slot → Slot) : (s.modSlot k f).counters = s.counters := State.mk_counters ..
@[simp] theorem State.modSlot_hiCap (s : State) (k : Nat) (f : Slot → Slot) : (s.modSlot k f).hiCap = s.hiCap := State.mk_hiCap ..
@[simp] theorem State.modSlot_dram (s : State) (k : Nat) (f : Slot → Slot) : (s.modSlot k f).dram = s.dram := State.mk_dram ..
@[simp] theorem State.modSlot_basin (s : State) (k : Nat) (f : Slot → Slot) : (s.modSlot k f).basin = s.basin := State.mk_basin ..
@[simp] theorem State.modSlot_flash (s : State) (k : Nat) (f : Slot → Slot) : (s.modSlot k f).flash = s.flash := State.mk_flash ..
@[simp] theorem State.modSlot_cfg (s : State) (k : Nat) (f : Slot → Slot) : (s.modSlot k f).cfg = s.cfg := State.mk_cfg ..
@[simp] theorem State.modSlot_blkState (s : State) (k : Nat) (f : Slot → Slot) : (s.modSlot k f).blkState = s.blkState := State.mk_blkState ..
@[simp] theorem State.modSlot_unitsOut (s : State) (k : Nat) (f : Slot → Slot) : (s.modSlot k f).unitsOut = s.unitsOut := State.mk_unitsOut ..
@[simp] theorem State.modSlot_thermal (s : State) (k : Nat) (f : Slot → Slot) : (s.modSlot k f).thermal = s.thermal := State.mk_thermal ..
@[simp] theorem State.modSlot_otp (s : State) (k : Nat) (f : Slot → Slot) : (s.modSlot k f).otp = s.otp := State.mk_otp ..
@[simp] theorem State.modSlot_dbg (s : State) (k : Nat) (f : Slot → Slot) : (s.modSlot k f).dbg = s.dbg := State.mk_dbg ..
@[simp] theorem State.modSlot_boot (s : State) (k : Nat) (f : Slot → Slot) : (s.modSlot k f).boot = s.boot := State.mk_boot ..
@[simp] theorem State.modSlot_mgt (s : State) (k : Nat) (f : Slot → Slot) : (s.modSlot k f).mgt = s.mgt := State.mk_mgt ..
@[simp] theorem State.modSlot_recd (s : State) (k : Nat) (f : Slot → Slot) : (s.modSlot k f).recd = s.recd := State.mk_recd ..
@[simp] theorem State.modSlot_pwg (s : State) (k : Nat) (f : Slot → Slot) : (s.modSlot k f).pwg = s.pwg := State.mk_pwg ..
@[simp] theorem State.modSlot_sec (s : State) (k : Nat) (f : Slot → Slot) : (s.modSlot k f).sec = s.sec := State.mk_sec ..
@[simp] theorem State.modSlot_lanes (s : State) (k : Nat) (f : Slot → Slot) : (s.modSlot k f).lanes = s.lanes := State.mk_lanes ..
@[simp] theorem State.modSlot_groups (s : State) (k : Nat) (f : Slot → Slot) : (s.modSlot k f).groups = s.groups := State.mk_groups ..
@[simp] theorem State.modSlot_ports (s : State) (k : Nat) (f : Slot → Slot) : (s.modSlot k f).ports = s.ports := State.mk_ports ..
@[simp] theorem State.modSlot_calLanes (s : State) (k : Nat) (f : Slot → Slot) : (s.modSlot k f).calLanes = s.calLanes := State.mk_calLanes ..
@[simp] theorem State.modSlot_calGroups (s : State) (k : Nat) (f : Slot → Slot) : (s.modSlot k f).calGroups = s.calGroups := State.mk_calGroups ..
@[simp] theorem State.modSlot_dramCh (s : State) (k : Nat) (f : Slot → Slot) : (s.modSlot k f).dramCh = s.dramCh := State.mk_dramCh ..
@[simp] theorem State.modSlot_dmc (s : State) (k : Nat) (f : Slot → Slot) : (s.modSlot k f).dmc = s.dmc := State.mk_dmc ..
@[simp] theorem State.modSlot_sfm (s : State) (k : Nat) (f : Slot → Slot) : (s.modSlot k f).sfm = s.sfm := State.mk_sfm ..
@[simp] theorem State.modSlot_tgn (s : State) (k : Nat) (f : Slot → Slot) : (s.modSlot k f).tgn = s.tgn := State.mk_tgn ..
@[simp] theorem State.modSlot_headPolders (s : State) (k : Nat) (f : Slot → Slot) : (s.modSlot k f).headPolders = s.headPolders := State.mk_headPolders ..
@[simp] theorem State.modSlot_polders (s : State) (k : Nat) (f : Slot → Slot) : (s.modSlot k f).polders = s.polders := State.mk_polders ..
@[simp] theorem State.modSlot_cals (s : State) (k : Nat) (f : Slot → Slot) : (s.modSlot k f).cals = s.cals := State.mk_cals ..
@[simp] theorem State.modSlot_pnl (s : State) (k : Nat) (f : Slot → Slot) : (s.modSlot k f).pnl = s.pnl := State.mk_pnl ..
@[simp] theorem State.modSlot_lsc_eng (s : State) (k : Nat) (f : Slot → Slot) : (s.modSlot k f).lsc.eng = s.lsc.eng := Lsc.mk_eng ..
@[simp] theorem State.modSlot_lsc_reason (s : State) (k : Nat) (f : Slot → Slot) : (s.modSlot k f).lsc.reason = s.lsc.reason := Lsc.mk_reason ..
@[simp] theorem State.modSlot_lsc_queue (s : State) (k : Nat) (f : Slot → Slot) : (s.modSlot k f).lsc.queue = s.lsc.queue := Lsc.mk_queue ..
@[simp] theorem State.modSlot_lsc_jobs (s : State) (k : Nat) (f : Slot → Slot) : (s.modSlot k f).lsc.jobs = s.lsc.jobs := Lsc.mk_jobs ..
@[simp] theorem State.modSlot_lsc_qPeak (s : State) (k : Nat) (f : Slot → Slot) : (s.modSlot k f).lsc.qPeak = s.lsc.qPeak := Lsc.mk_qPeak ..
@[simp] theorem State.modSlot_lsc_coefs (s : State) (k : Nat) (f : Slot → Slot) : (s.modSlot k f).lsc.coefs = s.lsc.coefs := Lsc.mk_coefs ..
@[simp] theorem State.modSlot_lsc_chans (s : State) (k : Nat) (f : Slot → Slot) : (s.modSlot k f).lsc.chans = s.lsc.chans := Lsc.mk_chans ..
@[simp] theorem State.modSlot_lsc_groups (s : State) (k : Nat) (f : Slot → Slot) : (s.modSlot k f).lsc.groups = s.lsc.groups := Lsc.mk_groups ..
@[simp] theorem State.modSlot_lsc_outer (s : State) (k : Nat) (f : Slot → Slot) : (s.modSlot k f).lsc.outer = s.lsc.outer := Lsc.mk_outer ..
@[simp] theorem State.modSlot_tim (s : State) (k : Nat) (f : Slot → Slot) : (s.modSlot k f).tim = s.tim := State.mk_tim ..
@[simp] theorem State.modSlot_ckpts (s : State) (k : Nat) (f : Slot → Slot) : (s.modSlot k f).ckpts = s.ckpts := State.mk_ckpts ..
@[simp] theorem State.modSlot_wire (s : State) (k : Nat) (f : Slot → Slot) : (s.modSlot k f).wire = s.wire := State.mk_wire ..
@[simp] theorem State.modSlot_pending (s : State) (k : Nat) (f : Slot → Slot) : (s.modSlot k f).pending = s.pending := State.mk_pending ..

end Sys2Proof.Machine
end

