-- ==== Sys2Proof/Laws/Gate.lean ====
section
/-!
SUPPORT. What each shared operation does, said once: register words, counters, events, recorder items, the gate that every
register write passes, and the reset that stops commands. The statements about single commands cite these in place of unfolding the operations.
-/
namespace Sys2Proof.Machine

/-! ### Register words and words in force -/

theorem word_setWord {s : State} {a b : Nat} {w : Word} (h : s.regs.rising = true) :
    (s.setWord a w).word b = if b = a then w else s.word b := by
  unfold State.word
  rw [State.setWord_regs]
  by_cases hw : w = resetWord a
  · rw [if_pos hw, find_erase h]
    by_cases hb : b = a
    · simp [hb, hw]
    · simp [hb]
  · rw [if_neg hw, find_insert h]
    by_cases hb : b = a <;> simp [hb]

theorem inForce_setForce {s : State} {a b : Nat} {w : Word} (h : s.force.rising = true) :
    (s.setForce a w).inForce b = if b = a then w else s.inForce b := by
  unfold State.inForce
  rw [State.setForce_force]
  by_cases hw : w = resetWord a
  · rw [if_pos hw, find_erase h]
    by_cases hb : b = a
    · simp [hb, hw]
    · simp [hb]
  · rw [if_neg hw, find_insert h]
    by_cases hb : b = a <;> simp [hb]

theorem rd_wr {s : State} {r q : Reg} {ix jx : List Nat} {w : Word} (h : s.regs.rising = true) :
    (s.wr r ix w).rd q jx = if q.at jx = r.at ix then w else s.rd q jx := word_setWord h

theorem word_force {s : State} {a b : Nat} {w : Word} : (s.setForce a w).word b = s.word b := by
  unfold State.word; rw [State.setForce_regs]

theorem inForce_wr {s : State} {r : Reg} {ix : List Nat} {w : Word} {b : Nat} : (s.wr r ix w).inForce b = s.inForce b := by
  unfold State.inForce; rw [State.wr_force]

/-! ### Counters -/

theorem cnt_put {m : SMap Counter} {a b : Nat} {c : Counter} (h : m.rising = true) :
    SMap.get {} (m.put {} a c) b = if b = a then c else SMap.get {} m b := get_put h

theorem cnt_clearCnt {s : State} {r : Reg} {ix : List Nat} {b : Nat} (h : s.counters.rising = true) :
    (clearCnt r ix s).cnt b = if b = r.at ix then (s.cnt b).afterClear s.now else s.cnt b := by
  unfold State.cnt
  rw [clearCnt_counters, get_upd h]
  by_cases hb : b = r.at ix <;> simp [hb]

/-! ### Events -/

/-- Whether the head that a register determines is under a re-run (R365). -/
def State.rerunOf (s : State) (a : Nat) : Bool := match s.headOfAddr a with | some h => s.replaying h | none => false

theorem raise_cases {p k u reg x y : Nat} {s : State} :
    raise p k u reg x y s = if s.rerunOf reg then s else present p k u reg x y s := by
  unfold raise State.rerunOf
  cases s.headOfAddr reg <;> rfl

theorem raise_off {p k u reg x y : Nat} {s : State} (h : s.rerunOf reg = false) : raise p k u reg x y s = present p k u reg x y s := by
  rw [raise_cases, h]; rfl

/-- An event changes the collector and nothing else. -/
theorem raise_frame {p k u reg x y : Nat} {s : State} : raise p k u reg x y s = { s with mgt := (raise p k u reg x y s).mgt } := by
  rw [raise_cases]
  cases s.rerunOf reg <;> rfl

theorem raise_regs {p k u reg x y : Nat} {s : State} : (raise p k u reg x y s).regs = s.regs := by rw [raise_frame]
theorem raise_dram {p k u reg x y : Nat} {s : State} : (raise p k u reg x y s).dram = s.dram := by rw [raise_frame]
theorem raise_recd {p k u reg x y : Nat} {s : State} : (raise p k u reg x y s).recd = s.recd := by rw [raise_frame]
theorem raise_counters {p k u reg x y : Nat} {s : State} : (raise p k u reg x y s).counters = s.counters := by rw [raise_frame]

theorem invalidWrite_frame {a : Nat} {s : State} : invalidWrite a s = { s with mgt := (invalidWrite a s).mgt } := raise_frame

/-- An event raised on a condition. -/
theorem raiseIf_frame {c : Bool} {p k u reg x y : Nat} {s : State} :
    (if c = true then raise p k u reg x y s else s) = { s with mgt := (if c = true then raise p k u reg x y s else s).mgt } := by
  cases c
  · rfl
  · exact raise_frame

theorem raiseIf_counters {c : Bool} {p k u reg x y : Nat} {s : State} :
    (if c = true then raise p k u reg x y s else s).counters = s.counters := by
  rw [raiseIf_frame]

/-- Counting changes the counters and the collector and nothing else. -/
theorem count_frame {r : Reg} {ix : List Nat} {n : Nat} {s : State} :
    count r ix n s = { s with counters := (count r ix n s).counters, mgt := (count r ix n s).mgt } := by
  unfold count
  split
  · rfl
  dsimp only
  generalize SMap.put _ s.counters _ _ = m
  rw [raiseIf_counters]
  exact raiseIf_frame

theorem count_dram {r : Reg} {ix : List Nat} {n : Nat} {s : State} : (count r ix n s).dram = s.dram := by rw [count_frame]
theorem count_recd {r : Reg} {ix : List Nat} {n : Nat} {s : State} : (count r ix n s).recd = s.recd := by rw [count_frame]

/-! ### Stored writes -/

theorem invalidIf_frame {c : Bool} {a : Nat} {u : State} :
    (if c = true then invalidWrite a u else u) = { u with mgt := (if c = true then invalidWrite a u else u).mgt } := raiseIf_frame

theorem storeWrite_eq {r : Reg} {ix : List Nat} {v : Word} {s : State} :
    storeWrite r ix v s = if anyIllegal r.legal v = true
      then invalidWrite (r.at ix) (s.setWord (r.at ix) (r.merge (s.word (r.at ix)) (keepIllegal (s.word (r.at ix)) r.legal v)))
      else s.setWord (r.at ix) (r.merge (s.word (r.at ix)) (keepIllegal (s.word (r.at ix)) r.legal v)) := rfl

/-- A stored write sets the word and may present an event; nothing else changes. -/
theorem storeWrite_frame {r : Reg} {ix : List Nat} {v : Word} {s : State} :
    storeWrite r ix v s = { s.setWord (r.at ix) (r.merge (s.word (r.at ix)) (keepIllegal (s.word (r.at ix)) r.legal v)) with
      mgt := (storeWrite r ix v s).mgt } := by
  rw [storeWrite_eq]
  exact invalidIf_frame

theorem word_storeWrite {r : Reg} {ix : List Nat} {v : Word} {s : State} {b : Nat} (h : s.regs.rising = true) :
    (storeWrite r ix v s).word b =
      if b = r.at ix then r.merge (s.word (r.at ix)) (keepIllegal (s.word (r.at ix)) r.legal v) else s.word b := by
  rw [← word_setWord h, storeWrite_eq]
  generalize State.setWord s _ _ = u
  unfold State.word invalidWrite
  split
  · rw [raise_regs]
  · rfl

/-! ### The recorder's items -/

theorem recording_off {s : State} (h : s.recd.state = 0) (n : Nat) : s.recording n = false := by simp [State.recording, h]

theorem recFor_off {s : State} {k h u : Nat} {l : List Nat} (hr : s.recording h = false) : recFor k h u l s = s := by simp [recFor, hr]

theorem recReg_off {s : State} {src : Source} {a : Nat} {v : Word} (hr : ∀ h, s.recording h = false) : recReg src a v s = s := by
  unfold recReg
  split
  · exact recFor_off (hr _)
  · rfl

/-- An item changes DRAM, the recorder, the counters and the collector and nothing else. -/
theorem recItem_frame {k h u : Nat} {l : List Nat} {s : State} :
    recItem k h u l s = { s with dram := (recItem k h u l s).dram, recd := (recItem k h u l s).recd, counters := (recItem k h u l s).counters,
                                 mgt := (recItem k h u l s).mgt } := by
  unfold recItem
  dsimp only
  generalize ringStore _ _ _ _ _ = d
  split
  · split
    · unfold raiseState
      generalize ({ s.recd with state := 4, result := 3 } : Recorder) = c
      rw [raise_dram, raise_recd, raise_counters]
      exact raise_frame
    · rfl
  · unfold count1
    generalize ({ s.recd with items := _, nextNum := _, head := _ } : Recorder) = c
    rw [count_dram, count_recd]
    exact count_frame

theorem recFor_frame {k h u : Nat} {l : List Nat} {s : State} :
    recFor k h u l s = { s with dram := (recFor k h u l s).dram, recd := (recFor k h u l s).recd, counters := (recFor k h u l s).counters,
                                mgt := (recFor k h u l s).mgt } := by
  unfold recFor
  split
  · exact recItem_frame
  · rfl

theorem recReg_frame {src : Source} {a : Nat} {v : Word} {s : State} :
    recReg src a v s = { s with dram := (recReg src a v s).dram, recd := (recReg src a v s).recd, counters := (recReg src a v s).counters,
                                mgt := (recReg src a v s).mgt } := by
  unfold recReg
  split
  · exact recFor_frame
  · rfl

/-! ### The gate, and the reset that stops commands -/

theorem takes_parts {s : State} {src : Source} {a : Nat} (h : s.takes src a = true) :
    s.boot.held = false ∧ s.denied src a = false ∧ (src == .spi && !s.spiReach a) = false ∧ s.absent (a / 0x100000) = false ∧
      s.rerunOf a = false := by
  unfold State.takes at h
  simp only [Bool.and_eq_true, Bool.not_eq_true'] at h
  obtain ⟨⟨⟨⟨h1, h2⟩, h3⟩, h4⟩, h5⟩ := h
  refine ⟨h1, h2, h3, h4, ?_⟩
  unfold State.rerunOf
  cases hh : s.headOfAddr a with
  | none => rfl
  | some k => rw [hh] at h5; exact h5

/-- A write that takes effect is recorded and has its effect. -/
theorem gatedWrite_takes {s : State} {src : Source} {a : Nat} {v : Word} {eff : State → State} (h : s.takes src a = true) :
    gatedWrite src a v eff s = eff (recReg src a v s) := by
  obtain ⟨h1, h2, h3, h4, h5⟩ := takes_parts h
  unfold State.rerunOf at h5
  unfold gatedWrite recReg
  simp only [h1, h2, h3, h4, Bool.or_self, Bool.false_eq_true, if_false]
  cases hh : s.headOfAddr a with
  | none => rfl
  | some k => rw [hh] at h5; simp only at h5; simp only [h5, Bool.false_eq_true, if_false]

theorem gatedWrite_held {s : State} {src : Source} {a : Nat} {v : Word} {eff : State → State} (h : s.boot.held = true) :
    gatedWrite src a v eff s = s := by simp [gatedWrite, h]

theorem gatedWrite_denied {s : State} {src : Source} {a : Nat} {v : Word} {eff : State → State} (h : s.denied src a = true) :
    gatedWrite src a v eff s = s := by simp [gatedWrite, h]

theorem gatedWrite_absent {s : State} {src : Source} {a : Nat} {v : Word} {eff : State → State} (h1 : s.boot.held = false)
    (h2 : s.denied src a = false) (h3 : (src == .spi && !s.spiReach a) = false) (h4 : s.absent (a / 0x100000) = true) :
    gatedWrite src a v eff s = absentWrite a s := by simp [gatedWrite, h1, h2, h3, h4]

theorem live_ready {f : State → State} {s : State} (h : s.boot.held = false) : live f s = .next (f s) := by simp [live, h]
theorem live_held {f : State → State} {s : State} (h : s.boot.held = true) : live f s = .next s := by simp [live, h]
theorem live_answers {f : State → State} {s : State} : live f s = .next (if s.boot.held then s else f s) := rfl

/-! ### Free values -/

theorem draw_fst {s : State} : s.draw.1 = Config.freeWord s.free := rfl
theorem draw_snd {s : State} : s.draw.2 = { s with free := s.free + 1 } := rfl

/-! ### Units of a store -/

theorem hd_modHd {s : State} {h k : Nat} {f : TgnHead → TgnHead} (hr : s.tgn.rising = true) :
    (s.modHd h f).hd k = if k = h then f (s.hd h) else s.hd k := get_upd hr
theorem lane_setLane {s : State} {n k : Nat} {x : Lane} (hr : s.lanes.rising = true) :
    (s.setLane n x).lane k = if k = n then x else s.lane k := get_put hr
theorem port_setPort {s : State} {p k : Nat} {x : Port} (hr : s.ports.rising = true) :
    (s.setPort p x).port k = if k = p then x else s.port k := get_put hr
theorem ch_modCh {s : State} {c k : Nat} {f : DramCh → DramCh} (hr : s.dramCh.rising = true) :
    (s.modCh c f).ch k = if k = c then f (s.ch c) else s.ch k := get_upd hr
theorem calGroup_modCalGroup {s : State} {g k : Nat} {f : CalGroup → CalGroup} (hr : s.calGroups.rising = true) :
    (s.modCalGroup g f).calGroup k = if k = g then f (s.calGroup g) else s.calGroup k := get_upd hr
theorem calLane_modCalLane {s : State} {n k : Nat} {f : CalLane → CalLane} (hr : s.calLanes.rising = true) :
    (s.modCalLane n f).calLane k = if k = n then f (s.calLane n) else s.calLane k := get_upd hr
theorem chan_modChan {s : State} {c k : Nat} {f : LscChan → LscChan} (hr : s.lsc.chans.rising = true) :
    (s.modChan c f).chan k = if k = c then f (s.chan c) else s.chan k := get_upd hr
theorem dom_modDom {s : State} {d k : Nat} {f : TimDom → TimDom} (hr : s.tim.doms.rising = true) :
    (s.modDom d f).dom k = if k = d then f (s.dom d) else s.dom k := get_upd hr

end Sys2Proof.Machine
end

