-- ==== Sys2Proof/Laws/KeepsOrder.lean ====
section
/-!
SUPPORT. Every operation of Sys2Proof/Machine/Order.lean keeps what `Keeps` names.
-/
namespace Sys2Proof.Machine

@[simp] theorem awaitTurn_keeps {st0 : State} (n : Nat) (ts : List Turn) (s : State) (hk : Keeps st0 s) : Keeps st0 (awaitTurn n ts s) := by
  induction n generalizing s with
  | zero => exact hk
  | succ n ih =>
    unfold awaitTurn
    split
    · exact ih _ (tick_keeps _ hk)
    · exact hk

@[simp] theorem noteTurn_keeps {st0 : State} (s : State) (t : Turn) (hk : Keeps st0 s) : Keeps st0 (noteTurn s t) :=
  Keeps.order hk rfl (Rises.insert _ _ _)

@[simp] theorem atTurn_keeps {st0 : State} (s : State) (ts : List Turn) (hk : Keeps st0 s) : Keeps st0 (State.atTurn s ts) := by
  unfold State.atTurn
  try dsimp only
  (repeat' split) <;> simp +contextual (maxDischargeDepth := 20) [*, -List.foldl_cons]

end Sys2Proof.Machine
end

