-- ==== Sys2Proof/Laws/KeepsRows.lean ====
section
/-!
SUPPORT. Every operation of Sys2Proof/Machine/Rows.lean keeps what `Keeps` names.
-/
namespace Sys2Proof.Machine

@[simp] theorem turn_keeps {st0 : State} (s : State) (c : Instr) (hk : Keeps st0 s) : Keeps st0 (State.turn s c) := atTurn_keeps _ _ hk

/-- A device held in reset waits for no place. -/
theorem turn_held {s : State} {c : Instr} (h : s.boot.held = true) : s.turn c = s := by
  unfold State.turn State.atTurn
  rw [if_pos h]

@[simp] theorem batchEnd_keeps {st0 : State} (s : State) (hk : Keeps st0 s) : Keeps st0 (batchEnd s) := by
  unfold batchEnd
  try dsimp only
  (repeat' split) <;> simp +contextual (maxDischargeDepth := 20) [*, -List.foldl_cons]

end Sys2Proof.Machine
end

