-- ==== Sys2Proof/Tests/Slice0.lean ====
section
/-!
SUPPORT. Tests: small states, one ill-formed term for each well-formedness check, single steps with the results the spec gives
them, and for each obligation with hypotheses the states and operands that meet them.
-/
set_option Elab.async false

namespace Sys2Proof.Tests
open Sys2Proof Sys2Proof.Machine

/-! ### Small states -/

/-- The firmware as the sender. -/
def fw : Source := .firmware

/-- A structure with a mirror head on a formatter port, a panel head on a row and a column driver port, a laser driver port
and an ingress port. -/
def topo : Topo :=
  { applied := true, rates := List.replicate 12 3, blocks := 0xFFFF
    ports := [⟨0, 0, 4, false, 0⟩, ⟨1, 8, 2, true, 1⟩, ⟨2, 16, 1, true, 2⟩, ⟨3, 24, 1, true, 3⟩, ⟨4, 32, 1, true, 4⟩]
    heads := [{ en := true, mirror := true, width := 16, height := 8, arrays := [⟨16, 8, 20000, 1⟩] },
      { en := true, width := 16, height := 8, rowPort := 3, colPorts := [4] }, {}, {}]
    laser := { drivers := [some ⟨0, 2⟩], groups := [⟨0, 0⟩], chans := [some 0, some 0] }
    basin := [⟨0, 0, 2⟩, ⟨1, 1, 2⟩, ⟨3, 0, 1⟩]
    dram := { mask := 1, ranks := 1, densities := [0], reserved := [⟨16, 4096⟩] } }

/-- A device in READY with its structure in force and nothing enabled. -/
def rdy : State :=
  { cfg := topo
    boot := { stage := 5, dram := true, lanes := true, i3c := true, rstoutN := true }
    pwg := { run := true, pllLock := true }
    blkState := (List.range 16).map fun n => (n, 3)
    lanes := [0, 1, 2, 3, 8, 9, 16, 24, 32].map fun n => (n, { state := 5 })
    groups := (List.range 5).map fun g => (g, { state := 4, rate := 3 })
    calGroups := (List.range 5).map fun g => (g, { state := 1 })
    ports := (List.range 5).map fun p => (p, { state := 4, mask := 1, capsOk := true, fresh := false })
    dramCh := [(0, { state := 3 })]
    dmc := { formed := true, working := [0], capMib := 512, rate := 3, avail := 15, basinWork := List.range 64,
             regions := [some [0, 1], some [2, 3], some [4]], reservedOk := [true] }
    tgn := [(0, { state := 1 }), (1, { state := 1 })]
    pnl := [(1, {})]
    sec := { src := 1, secVer := 5, keySet := 2 } }

/-- The same device held in a reset. -/
def held : State := { rdy with boot := { rdy.boot with held := true } }
/-- The same device with its LTE, LSC, PNL and TIM left out. -/
def bare : State := { rdy with cfg := { topo with blocks := 0x0FFF } }
/-- A recorder that records head 0. -/
def recording : Recorder := { state := 2, ctl := 0x05000041, sizeMib := 64, base := 1048576 }
/-- A recorder that re-runs head 0. -/
def rerunning : Recorder := { state := 5, ctl := 0x43, sizeMib := 64 }

def setRec (r : Recorder) (s : State) : State := { s with recd := r }
def setStage (n : Nat) (s : State) : State := { s with boot := { s.boot with stage := n } }
def setLane (n : Nat) (x : Lane) (s : State) : State := { s with lanes := s.lanes.put {} n x }
def setGroup (n : Nat) (x : LaneGroup) (s : State) : State := { s with groups := s.groups.put {} n x }
def setPort (n : Nat) (x : Port) (s : State) : State := { s with ports := s.ports.put {} n x }
def setHead (h : Nat) (x : TgnHead) (s : State) : State := { s with tgn := s.tgn.put {} h x }
def setCh (n : Nat) (x : DramCh) (s : State) : State := { s with dramCh := s.dramCh.put {} n x }
def setDmc (f : Dmc → Dmc) (s : State) : State := { s with dmc := f s.dmc }
def setCalGroup (n : Nat) (x : CalGroup) (s : State) : State := { s with calGroups := s.calGroups.put {} n x }
def setCalLane (n : Nat) (x : CalLane) (s : State) : State := { s with calLanes := s.calLanes.put {} n x }
def setCal (n : Nat) (x : PortCal) (s : State) : State := { s with cals := s.cals.put {} n x }
def setSec (x : Sec) (s : State) : State := { s with sec := x }
def setMgt (x : Mgt) (s : State) : State := { s with mgt := x }
def setPwg (f : Pwg → Pwg) (s : State) : State := { s with pwg := f s.pwg }
def setSfm (f : Sfm → Sfm) (s : State) : State := { s with sfm := f s.sfm }
def setTim (f : Tim → Tim) (s : State) : State := { s with tim := f s.tim }
def setLsc (f : Lsc → Lsc) (s : State) : State := { s with lsc := f s.lsc }
def setDom (d : Nat) (x : TimDom) (s : State) : State := { s with tim := { s.tim with doms := s.tim.doms.put {} d x } }
def setChan (n : Nat) (x : LscChan) (s : State) : State := { s with lsc := { s.lsc with chans := s.lsc.chans.put {} n x } }
def words (l : List (Nat × Word)) (s : State) : State := l.foldl (fun s x => s.setWord x.1 x.2) s
def forces (l : List (Nat × Word)) (s : State) : State := l.foldl (fun s x => s.setForce x.1 x.2) s
/-- A grant decided and ramped for a request, on its way. -/
def granted (cls unit : Nat) (s : State) : State :=
  { s with now := s.now + 1000, pwg := { s.pwg with decided := [⟨cls, unit, 5, 5, 0⟩], ramped := [⟨cls, unit, 5, 5, 0⟩] } }
/-- A refusal on its way. -/
def turnedDown (cls unit reason : Nat) (s : State) : State :=
  { s with now := s.now + 1000, pwg := { s.pwg with refused := [(⟨cls, unit, 5, 5, 0⟩, reason)] } }

def surfDesc (n base : Nat) (s : State) : State :=
  (((s.wr Rg.SFM_SURF_BASE0 [n] (word (base / 64))).wr Rg.SFM_SURF_PITCH [n] 1).wr Rg.SFM_SURF_SIZE [n] 0x7000F)
/-- A page table at 0 and surfaces: 0 VALID on page 0, 1 DRAINING on page 4, 2 VALID on page 1, which is read only, 3 on page
2, which is absent, 4 on page 3, which is reserved, 5 FREE. -/
def surf : State :=
  let s := surfDesc 6 0x40000 <| surfDesc 4 0x30000 (surfDesc 3 0x20000 (surfDesc 2 0x10000 (surfDesc 1 0x40000 (surfDesc 0 0 (surfDesc 5 0x50000 rdy)))))
  { s with
    dram := Memory.store 0 [] 0 [3, 0x10, 0, 0, 1, 0x20, 0, 0, 0, 0, 0, 0, 3, 0, 1, 0, 3, 0x30, 0, 0]
    sfm := { table := some 0, entries := [(0, { state := 1 }), (1, { state := 2, leases := 1 }), (2, { state := 1 }), (3, { state := 1 }),
      (4, { state := 1 }), (6, { state := 1 })] } }

/-- Timing, pixel increments and lead of a head. -/
def timing (h : Nat) : List (Nat × Word) :=
  [(Rg.TGN_H_HTIME.at [h], 0x27000F), (Rg.TGN_H_HSYNC.at [h], 0x40002), (Rg.TGN_H_VTIME.at [h], 0x130007), (Rg.TGN_H_VSYNC.at [h], 0x20002)] ++
  if h = 0 then [(Rg.TGN_H_PIX_INC.at [0], 0x2000)] else [(Rg.TGN_H_PIX_INC.at [h], 0x800000), (Rg.PNL_H_LEAD.at [h], 700)]
def timed (h : Nat) (s : State) : State := forces (timing h) (words (timing h) s)
/-- Both heads timed, their ports calibrated. -/
def both : State := timed 1 (timed 0 { surf with cals := (List.range 5).map fun p => (p, { status := 1 }) })

/-- A packet of `n` blocks of zeros with a right CRC. -/
def pkt (type stream seq seq2 n : Nat) : LinkPkt :=
  { type := type, stream := stream, unseq := false, seq := seq, blocks := n, body := List.replicate (8 * n) 0, prot := false, epoch := 0
    retrans := false, seq2 := seq2, err := false
    crc := packetCrc type stream false seq n (List.replicate (8 * n) 0) false 0 false seq2 }
/-- A CAPS body. -/
def caps (version kind count size flags : Nat) : List Byte :=
  [BitVec.ofNat 8 version, BitVec.ofNat 8 kind, BitVec.ofNat 8 count, 15] ++ bytesLE size 2 ++ [0, 0, 0, 0, 0, 0, 12, BitVec.ofNat 8 flags, 0, 0]

/-- A message of a grandmaster, the Sync a domain keeps of it, the record of its announcements and a Sync pair. -/
def msg : PtpMsg :=
  { source := 0x777000001, seq := 5, twoStep := true, version := 2, minor := 1, frame := ⟨0x011B19000000, [], 0x88F7, 0, 5, false, false, 0, true⟩, dnum := 0, corr := 0, sec := 10, ns := 0, interval := 0
    requesting := rdy.ownPort, p1 := 1, cls := 2, acc := 3, var := 4, p2 := 5, gm := 6, steps := 1 }
def kept : SyncWait := { seq := 5, t2 := (10000000100 : Int) * 65536, corr := 0, at' := 20000000000 }
def known : Foreign :=
  { source := 0x777000001, times := [19999999900, 20000000000], interval := 0, p1 := 1, cls := 2, acc := 3, var := 4, p2 := 5, gm := 6, steps := 1 }
def pair : TimPair := { t1 := 65536000000, t2 := 65562214400, cs := 100 }
/-- The time port running with its link up at 20 s, domain 0 as given. -/
def timePort (x : TimDom) (s : State) : State :=
  { s with now := 20000000000, tim := { s.tim with run := true, link := true, state := 1, doms := [(0, x)] } }

/-- An event presented and an event record. -/
def shown : Presented := { stamp := 5, sub := 3, kind := 6, unit := 2, reg := 7, arg0 := 1, arg1 := 2, val := 9 }
def evt : EvRec := { stamp := 77777, seq := 4, sub := 1, kind := 2, unit := 3, reg := 0x300104, val := 0xDEADBEEF, arg0 := 5, arg1 := 6 }
/-- The collector as given. -/
def collector (m : Mgt) : State := { rdy with mgt := m }
/-- A recorder as given with its registers: heads, size, place and the checkpoint to load. -/
def recorder (ctl : Word) (r : Recorder) : State :=
  setRec r (((((rdy.wr Rg.MGT_REC_CTL [] ctl).wr Rg.MGT_REC_SIZE [] 1).wr Rg.MGT_REC_BASE [] 32).wr Rg.MGT_REC_FROM [] 1).wr Rg.MGT_REC_TRIG [] 0x83060002)
def item (k o : Nat) : RecItem := { stamp := 50, kind := k, head := 0, unit := 0, num := 1, vals := [1, 2], offset := o }
/-- The device with 64 MiB of DRAM reserved for the recorder. -/
def roomy (s : State) : State := { s with cfg := { s.cfg with dram := { s.cfg.dram with reserved := [⟨32, 65536⟩] } } }

/-- The base point of the curve as a peer's public key. -/
def basePoint : List Byte := bytesBE ecBase.x 48 ++ bytesBE ecBase.y 48

/-! ### Forms of statements -/

/-- A statement about one state. -/
abbrev At (s : State) (p : State → Prop) : Prop := p s
/-- The next state of an outcome, or the state given. -/
def after (s : State) (o : Host.Outcome State Fault Refusal) : State := match o with | .next t => t | _ => s
def answers (o : Host.Outcome State Fault Refusal) : Bool := match o with | .next _ => true | _ => false

/-! ### Ill-formed commands: one for each check of well-formedness -/

def okRead : ReadDone := { requester := 0, block := 0, outcome := 0, link := false, kind := 1, layer := 9, polder := 0, merge := false, acts := 0 }
def okReq : CulvertReq := { op := 1, be := 15, tag := 0, addr := 0, count := 1, words := [] }
def okMon : MonRec := { chan := 0, seq := 0, flags := 0, mon := 0, aux := 0, stamp := 0 }
def okPix : PixelTxn := { surface := 0, plane := 0, line := 0, offset := 0, data := [0] }

theorem test_wf_accepts : [Instr.culvertRead 0 0 okReq, .dramReadComplete okRead, .monSample 0 okMon, .pixelStream 0 0 okPix, .syncReceive 0 msg,
    .linkPacketReceive 0 (pkt 3 0 0 0 1), .surfaceWrite 0 0 0 (List.replicate 64 0), .registerWrite .spi 15 0xFFFFFFFF 0].all Instr.wf = true := by
  decide +kernel
theorem test_wf_byte_enables : (Instr.registerWrite .spi 16 0 0).wf = false := by decide
theorem test_wf_registers : [Instr.registerWrite .spi 15 (2 ^ 32) 0, .counterLowRead .spi (2 ^ 24), .counterLowRead .spi 2, .spiWrite (2 ^ 24) [],
    .spiRead (2 ^ 24) 1, .i3cEntdaaDone [⟨2 ^ 48, 0, 0⟩], .i3cEntdaaDone [⟨0, 256, 0⟩], .i3cEntdaaDone [⟨0, 0, 256⟩],
    .thermalSample (List.replicate 15 (0, true)), .composeTileRow 0 136, .freeboardPanic 0 65536].all (fun c => !c.wf) = true := by decide
theorem test_wf_culvert : [{ okReq with op := 16 }, { okReq with be := 16 }, { okReq with tag := 65536 }, { okReq with addr := 2 ^ 24 },
    { okReq with count := 0 }, { okReq with count := 65 }].all (fun r => !(Instr.culvertRead 0 0 r).wf && !(Instr.culvertWrite 0 0 r).wf) = true := by
  decide
theorem test_wf_pixels : [{ okPix with surface := 4096 }, { okPix with plane := 2 }, { okPix with line := 16384 }, { okPix with offset := 4096 },
    { okPix with data := [] }, { okPix with data := List.replicate 8193 0 }].all (fun x => !(Instr.pixelStream 0 0 x).wf) = true := by decide +kernel
theorem test_wf_surface_write : [Instr.surfaceWrite 0 0 (2 ^ 36) (List.replicate 64 0), .surfaceWrite 0 0 32 (List.replicate 64 0),
    .surfaceWrite 0 0 0 (List.replicate 63 0), .surfaceWrite 0 0 0 [], .surfaceWrite 0 0 0 (List.replicate 8256 0)].all (fun c => !c.wf) = true := by
  decide +kernel
theorem test_wf_packets : [{ pkt 3 0 0 0 1 with type := 16 }, { pkt 3 0 0 0 1 with stream := 8 }, { pkt 3 0 0 0 1 with seq := 4096 },
    { pkt 3 0 0 0 1 with blocks := 65536 }, { pkt 3 0 0 0 1 with epoch := 2 }, { pkt 3 0 0 0 1 with seq2 := 4096 },
    { pkt 3 0 0 0 1 with crc := 2 ^ 32 }].all (fun k => !(Instr.linkPacketReceive 0 k).wf) = true := by decide +kernel
theorem test_wf_link : [Instr.doorbell 0 0 0 (2 ^ 48), .echoReply 0 65536 0 0 0 false, .echoReply 0 0 (2 ^ 64) 0 0 false, .echoReply 0 0 0 (2 ^ 64) 0 false,
    .echoReply 0 0 0 0 (2 ^ 64) false, .ackReceive 0 4096, .nakReceive 0 4096, .creditReceive 0 4 0 0, .creditReceive 0 0 65536 0,
    .creditReceive 0 0 0 (2 ^ 24), .widthReceive 0 65536, .capsReceive 0 (List.replicate 65 0)].all (fun c => !c.wf) = true := by decide
theorem test_wf_samples : [{ okMon with chan := 256 }, { okMon with seq := 65536 }, { okMon with flags := 256 }, { okMon with mon := 65536 },
    { okMon with aux := 65536 }, { okMon with stamp := 2 ^ 32 }].all (fun x => !(Instr.monSample 0 x).wf) = true := by decide
theorem test_wf_reads : [{ okRead with outcome := 4 }, { okRead with layer := 10 }, { okRead with kind := 0 }, { okRead with kind := 4 }].all
    (fun x => !(Instr.dramReadComplete x).wf) = true ∧ (Instr.refreshInterval 0 [0, 0, 0] false).wf = false := by decide
theorem test_wf_messages : [{ msg with source := 2 ^ 80 }, { msg with seq := 65536 }, { msg with version := 16 }, { msg with minor := 16 },
    { msg with sec := 2 ^ 48 }, { msg with ns := 2 ^ 32 }, { msg with requesting := 2 ^ 80 }, { msg with p1 := 256 }, { msg with cls := 256 },
    { msg with acc := 256 }, { msg with var := 65536 }, { msg with p2 := 256 }, { msg with gm := 2 ^ 64 }, { msg with steps := 65536 },
    { msg with interval := -129 }, { msg with interval := 128 }].all (fun m => !(Instr.syncReceive 0 m).wf && !(Instr.followUpReceive 0 m).wf &&
      !(Instr.announceReceive 0 m).wf && !(Instr.delayRespReceive 0 m).wf) = true := by decide +kernel

/-! ### The table gives no row any bits -/

/-- No word spells a command, and the device given one is unchanged. -/
theorem test_decode_none : decodeTableWord 32 0 = none ∧ decodeTableWord 8 255 = none ∧ (rdy.withFetchWord 32 0).pending = [] := by decide

/-! ### Worked examples of the specification -/

/-- CRC-32 of IEEE 802.3: its check value. -/
theorem test_crc32 : crc32 [0x31, 0x32, 0x33, 0x34, 0x35, 0x36, 0x37, 0x38, 0x39] = 0xCBF43926 := by decide +kernel

/-- The blending example of 04_layer_composition.md. -/
theorem test_blend : (blendPx 0 3000 ((0, 100000, 0), 0) (0, 10000, 0)).1.2.1 = 75934 ∧
    (blendPx 1 4095 ((0, 200000, 0), 2056) (0, 75934, 0)).1.2.1 = 138225 ∧
    (blendPx 2 2048 ((0, 150000, 0), 3072) (0, 138225, 0)) = ((div4095 (0), 161396, 0), false) := by decide

/-- The YCbCr example of 05_colour_pipeline.md. -/
theorem test_ycc : limY 10 8032 = 524288 ∧ limC 10 6400 = -131072 ∧ limC 10 (620 * 16) = 126391 ∧
    yccToRgb 0 524288 (-131072) 126391 = (723332, 489679, 281072) := by decide

/-- The dither example of 07_weighted_light_planes.md: residues 700, 3,231, 1,666 and 101 over four frames. -/
theorem test_dither : [700, 3231, 1666, 101].map (fun r => (ditherT12 5 2 r, ditherV 16 5 2 r 185973)) =
    [(3676, 185972), (2111, 185972), (546, 185976), (3077, 185972)] := by decide

/-- The worked decomposition of 07_weighted_light_planes.md with the sequence of reset: 90 FULL entries lit, weight 371,946. -/
theorem test_decomposition :
    let q := planeEntries (seqOf (rdy.forceOf 0) 0)
    let lit := (q.zip (rdy.planeBits 0 0 31 185973 0 q)).filter (·.2) |>.map (·.1)
    slotSum (fullEntries lit) = 90 ∧ (lit.map slotWeight).sum = 371946 := by decide +kernel

/-- The sample of 09_light_source_loops.md: rows 0, 4 and 5, and the integral part. -/
theorem test_loop :
    let w : List Int := [40100, 0, 0, 0, 150000, 40020, 2300, 40000]
    let row (l : List (Nat × Int × Nat)) := outRow (fun j => ((l.find? (·.1 == j)).map (·.2)).getD (0, 8)) w
    row [(0, 65536, 8), (4, 69905, 5), (5, 32768, 8)] = 40055 ∧ row [(0, -98304, 9), (7, 86016, 11)] = 149850 ∧
    row [(5, -65536, 9), (7, 65536, 9)] = -20 ∧ integralPart (81920, 4) (-1200000) = -183 := by decide

/-- The bumpless swap of 09_light_source_loops.md. -/
theorem test_swap : rescaleZ 12800000 (81920, 4) (65536, 5) = 8000000 ∧ integralPart (81920, 4) 12800000 = 1953 ∧
    integralPart (65536, 5) 8000000 = 1953 ∧ integralPart (65536, 5) 7991040 = 1951 := by decide

/-- The line of 11_panel_drive.md: overdrive, dither and demura of one component. -/
theorem test_panel_line :
    odTable (fun i => [((6, 10), 180000), ((6, 11), 196000), ((7, 10), 176000), ((7, 11), 192000)].foldl
      (fun a x => if i = 17 * x.1.1 + x.1.2 then x.2 else a) 0) 98304 (4 * 40960) = 180001 ∧
    odTempOf [0, 480, 640, 800] (some 616) = (1, 218) ∧ rnd (180001 * 38 + 174001 * 218) 256 = 174892 ∧
    panelDither true 10 1002 540 3500 174892 = 684 ∧ demuraOut (0x3EC * 1024) (96 * 1024) 1 10 684 = 699 := by decide

/-! ### Single commands -/

/-- The state a command leaves. -/
def run (c : Instr) (s : State) : State := after s (exec c s)
/-- The power example of 17_power_and_clocks.md: lane groups 0 to 8, heads 0 and 1 and the loop engine hold their grants. -/
def powered (q : List GrantReq) (tran : Nat) : State :=
  setPwg (fun p => { p with queue := q, held := ⟨3, 0, 11250, 1, 0⟩ :: ⟨3, 1, 8000, 1, 0⟩ :: ⟨4, 0, 1500, 1, 0⟩ :: ⟨7, 0, tran, 1, 0⟩ :: [] })
    ((setStage 5 { rdy with groups := [] }).wr Rg.PWG_BUDGET [] 0x1388BF68)

/-- The power example: S, T and the limit; a class 5 request over the limit waits, class 0 goes first, and without the
self-test the bulk operation is granted. -/
theorem test_power : ((powered [] 0).loadS, (powered [] 5000).loadT, (powered [] 0).limitE) = (43250, 48250, 49000) ∧
    (run .grantDecision (powered [⟨5, 0, 800, 1000, 0⟩] 5000)).pwg.decided = [] ∧
    (run .grantDecision (powered [⟨5, 0, 800, 1000, 0⟩, ⟨0, 5, 200, 10, 0⟩] 5000)).pwg.decided = [⟨0, 5, 200, 10, 0⟩] ∧
    (run .grantDecision (powered [⟨5, 0, 800, 1000, 0⟩] 0)).pwg.decided = [⟨5, 0, 800, 1000, 0⟩] := by decide +kernel

/-- Reserved bits of a register stay 0 whatever is written, and a write narrower than a word does nothing (R5). -/
theorem test_register_write : (run (.registerWrite fw 15 (Rg.TGN_H_HTIME.at [0]) 0xFFFF1234) rdy).rd Rg.TGN_H_HTIME [0] = 0x3FFF1234 ∧
    { run (.registerWrite fw 3 (Rg.TGN_H_HTIME.at [0]) 0xFFFF1234) rdy with order := [] } = rdy := by decide +kernel

/-- The counter example of 00_scope.md: a saturated counter with its overflow bit. -/
theorem test_counter_read :
    let s := { rdy with counters := [(Rg.LNE_L_HDR_ERR_CNT.at [0], { val := 2 ^ 48 - 1, ovf := true })] }
    let t := run (.counterLowRead fw (Rg.LNE_L_HDR_ERR_CNT.at [0])) s
    (peek (Rg.LNE_L_HDR_ERR_CNT.at [0]) t, peek (Rg.LNE_L_HDR_ERR_CNT.at [0] + 4) t) = (0xFFFFFFFF, 0x8000FFFF) := by decide +kernel

/-- Step 4 of the example of 15_network_time.md: an offset of 200 ns. -/
theorem test_servo :
    let t := run (.followUpReceive 0 msg) (timePort
      { state := 3, master := some 0x777000001, syncs := [{ kept with t2 := 10000002100 * 65536 }], acc := 4123136, mpd := 1900 } rdy)
    ((t.dom 0).acc, (t.dom 0).s, t.tim.addend) = (4123336, 64552, 5368644568) := by decide +kernel

/-- The batches of 18_errors_ordering_replay.md: 256 records are accepted when 256 places are free, and not before. -/
theorem test_batches :
    let s (n : Nat) := collector { queue := List.replicate n evt, waiting := [List.replicate 256 shown, List.replicate 8 shown], nextSeq := 10000 }
    let sum (t : State) := (t.mgt.queue.length, t.mgt.nextSeq, t.mgt.waiting.length)
    sum (run .batchAccept (s 256)) = (512, 10256, 1) ∧ sum (run .batchAccept (s 257)) = (257, 10000, 2) := by decide +kernel

/-- A layer fetch above the mapped capacity is not performed: a range event, counted, and the layer is abandoned (R281, R293). -/
theorem test_fetch_range :
    let s := setHead 0 { state := 4, cur := some { num := 3, shows :=
      [{ mode := 1, regs := [(Rg.CMP_L_CTL.at [0, 0], 1), (Rg.CMP_L_SURF.at [0, 0], 5)] }] } } surf
    let t := run (.dramReadComplete { okRead with block := 2 ^ 40, layer := 0, polder := 6 }) s
    (t.dmc.errKind, (t.cnt Rg.DMC_UE_CNT.at).val, bit (t.rd Rg.CMP_L_STATE [0, 0]) 28) = (4, 1, true) := by decide +kernel

/-- A surface without leases becomes FREE; one with leases DRAINING with its early-free event (R56). -/
theorem test_surface_free : ((run (.surfaceFree fw 0) surf).sfm.entries.get {} 0).state = 0 ∧
    ((run (.surfaceFree fw 0) { surf with sfm := { surf.sfm with entries := [(0, { state := 1, leases := 2 })] } }).sfm.entries.get {} 0).state = 2 := by
  decide +kernel

/-- A surface write lands in the DRAM page of its surface page (R53). -/
theorem test_surface_write :
    let x : Port := { state := 4, mask := 1, capsOk := true, accepted := [⟨1, 0, [1, 0, 0, 0, 1, 0, 0, 0], List.replicate 64 7⟩] }
    (run (.surfaceWrite 0 0 64 (List.replicate 64 7)) (setPort 0 x surf)).dram.contains (65600, 7) = true := by decide +kernel

/-- A coefficient with ki's index: stored with its shift, and the index wraps to 0; an index of 65 stores nothing (R192). -/
theorem test_coef_store :
    let s (a : Word) := rdy.wr Rg.LSC_COEF_ADDR [] a
    (run (.coefStore fw 0x0C012345) (s 0x1040)).coef 0 1 0 64 = (0x12345, 4) ∧
    (run (.coefStore fw 0x0C012345) (s 0x1040)).rd Rg.LSC_COEF_ADDR = 0x1000 ∧
    (run (.coefStore fw 0x0C012345) (s 0x1041)).lsc.coefs = [] := by decide +kernel

/-- A ring write puts the 32 bytes of a record into slot wr mod 2^lsize (R352). -/
theorem test_ring_write :
    let t := run .ringWrite (collector { ringEn := true, ringSize := 4, ringPage := 16, wr := 17, rd := 10, writer := [evt] })
    t.mgt.wr = 18 ∧ t.dram.contains (0x100020, 0xD1) = true ∧ t.dram.contains (0x100034, 0xEF) = true := by decide +kernel

/-- A sensor at 115 °C trips: the device is held in reset (R344). -/
theorem test_thermal_trip :
    let t := run (.thermalSample (List.replicate 15 (100, true) ++ [(460, true)])) rdy
    (t.thermal.tripped, t.boot.held) = (true, true) := by decide +kernel

/-- The trigger of 16_calibration_and_trim.md: 241 against 208 starts a run, 239 does not; and the steps its sub-windows propose. -/
theorem test_calibration :
    let s (x : Int) := setCalGroup 0 { state := 1, calTemp := some 208 } { rdy with thermal := { temps := List.replicate 16 (x, true) } }
    ((run (.calTempRead 0) (s 241)).calGroup 0).state = 2 ∧ ((run (.calTempRead 0) (s 239)).calGroup 0).state = 1 ∧
    [10240, 8192, -9000, -7000].map (fun d => ((run (.calSubwindowEnd 0 ⟨d, false⟩)
      (setCalLane 0 { taking := true } (setCalGroup 0 { state := 2 } rdy))).calLane 0).runNow) = [[1], [0], [-1], [0]] := by decide +kernel

/-- The packets of 13_ammos_link.md: a CRC error is answered NAK 100 once, and 101 is accepted. -/
theorem test_link :
    let s (x : Bool) := setPort 0 { state := 4, mask := 1, rxExp := 101, nakSent := x } rdy
    (run (.linkPacketReceive 0 { pkt 3 0 101 101 1 with crc := 0 }) (s false)).wire.take 1 = [.nak 0 100 1] ∧
    (run (.linkPacketReceive 0 (pkt 3 0 102 102 1)) (s true)).wire = [] ∧
    ((run (.linkPacketReceive 0 (pkt 3 0 101 101 1)) (s true)).port 0).rxExp = 102 := by decide +kernel

/-- A training block with the expected lane index completes comma lock at 64 (R243). -/
theorem test_train_block : ((run (.trainBlockReceive 8 0x0FFFFF2D) (setLane 8 { state := 3, commaRun := 63 } rdy)).lane 8).commaLock = true ∧
    ((run (.trainBlockReceive 8 0x0FFFFF2D) (setLane 8 { state := 3, commaRun := 62 } rdy)).lane 8).commaLock = false := by decide +kernel

/-- A pulse output armed for 30 s with a period of 2 µs (R315). -/
theorem test_pulse_output :
    let t := run (.pulseOutputEnable fw 0 0x80010000) (((timePort {} rdy).wr Rg.TIM_P_PERIOD [0] 2000).wr Rg.TIM_P_SEC [0] 30)
    (t.out 0).next = some (30000000000 * 2 ^ 32) ∧ (t.out 0).period = 2000 * 2 ^ 32 := by decide +kernel

/-- A sample waits in the queue with its readings (R169). -/
theorem test_sample : ((run (.monSample 2 ⟨0, 5, 0, 40020, 2300, 7⟩) (setLsc (fun l =>
    { l with eng := 2, chans := [(0, { state := 2, points := [⟨7, 0, true⟩], expect := some 5 })] }) rdy)).lsc.queue.map fun q => (q.chan, q.y1, q.y2)) =
    [(0, 40020, 2300)] := by decide +kernel

/-- The mask of 07_weighted_light_planes.md for hp = 63 lights 63 slots of the sequence of reset. -/
theorem test_mask :
    let s := setHead 0 { masks := [(maskKey 0 3 63, 0x14A5294A5)] } rdy
    let q := fullEntries (seqOf (rdy.forceOf 0) 0)
    slotSum (((List.range q.length).filter (s.fullLit 0 0 3 63 0)).map fun n => q.getD n 0) = 63 := by decide +kernel

/-- The published answers of SHA-384 and SHA-256 for "abc", and of AES-256 for the example of its standard (log 7). -/
theorem test_sha : (sha384 [0x61, 0x62, 0x63]).take 8 = [0xcb, 0x00, 0x75, 0x3f, 0x45, 0xa3, 0x5e, 0x8b] ∧
    (sha256 [0x61, 0x62, 0x63]).take 8 = [0xba, 0x78, 0x16, 0xbf, 0x8f, 0x01, 0xcf, 0xea] := by decide +kernel
theorem test_aes : aesBlock (aesKeys ((List.range 32).map fun i => BitVec.ofNat 8 i)) ((List.range 16).map fun i => 0x11 * i) =
    [0x8e, 0xa2, 0xb7, 0xca, 0x51, 0x67, 0x45, 0xbf, 0xea, 0xfc, 0x49, 0x90, 0x4b, 0x49, 0x60, 0x89] := by decide +kernel

/-! ### What meets the hypotheses of the obligations: for each clause a state and operands -/

/-! The clauses of obligations that read "for every outcome the command is not …" are met by any other command. -/

theorem witness_StructureFixed :
    At rdy fun s => answers (exec .standingRampDone s) = true ∧ (∀ bad, Instr.standingRampDone ≠ .polderSelfTestDone bad) ∧
      (∀ io, Instr.standingRampDone ≠ .flashCmdDone io) ∧ (∀ ok, Instr.standingRampDone ≠ .otpProgramDone ok) :=
  ⟨by decide +kernel, fun _ => by simp, fun _ => by simp, fun _ => by simp⟩

/-- A signal of a DOORBELL, commanded after the latch of a head in the same core clock, is overtaken (R60, R66). -/
theorem witness_QueueAndWire :
    (At { rdy with pending := [.standingRampDone] } fun s => answers (exec .standingRampDone s) = true ∧ answers (step s) = true) ∧
    (At held fun s => s.boot.held = true) ∧
    (At both fun s => s.boot.held = false ∧ s.inv = true ∧ ∀ t ∈ s.turns (.doorbell 0 1 7 3), s.overtaken t = false) ∧
    At (both.turn (.frameBoundary 0)) fun s => s.boot.held = false ∧ s.inv = true ∧
      ∃ t ∈ s.turns (.doorbell 0 1 7 3), s.overtaken t = true ∧ t.tests = true ∧ (s.order.find t.unit).isSome = true :=
  ⟨by decide +kernel, by decide +kernel, by decide +kernel, by decide +kernel⟩

/-- The overtaken signal is evaluated in the next core clock; a second latch of the clock is not overtaken. -/
theorem test_doorbell_behind_latch :
    ((both.turn (.frameBoundary 0)).turn (.doorbell 0 1 7 3)).now = both.now + 1 ∧
      ((both.turn (.frameBoundary 0)).turn (.frameBoundary 1)).now = both.now := by decide +kernel

theorem witness_WriteStores :
    [(Rg.MGT_REC_BASE, []), (Rg.MGT_REC_SIZE, []), (Rg.SEC_LOAD_NEXT, []), (Rg.PWG_THERM_CTL, []), (Rg.PWG_FLAGS, []),
      (Rg.CAL_CTL, []), (Rg.LNE_TRK_CTL, []), (Rg.LNK_TIMERS, []), (Rg.DMC_TRAIN_CTL, []), (Rg.SFM_PT_BASE, []), (Rg.CMP_L_SURF, [3, 8]),
      (Rg.PXP_H_GMTX, [3, 8]), (Rg.TGN_H_HTIME, [3]), (Rg.PSQ_SLOT_CTL, [0, 165]), (Rg.LTE_H_FRONT, [0]), (Rg.LSC_CTX_ADDR, []),
      (Rg.PNL_H_LEAD, [1]), (Rg.TIM_SERVO_KP, [])].all (fun x =>
        let s := rdy.turn (.registerWrite fw 0xF (x.1.at x.2) 5)
        s.storesOk && s.takes fw (x.1.at x.2) && decide (x.1.at x.2 < 0x1000000) && x.1.at x.2 % 4 == 0 &&
          lookupReg (x.1.at x.2) == some x && s.instLives (x.1.at x.2)) = true ∧
    At (rdy.turn (.registerWrite fw 0xF (({ blk := 0, off := 0x1FFC } : Reg).at []) 5)) fun s => s.storesOk = true ∧
      s.takes fw (({ blk := 0, off := 0x1FFC } : Reg).at []) = true ∧ lookupReg (({ blk := 0, off := 0x1FFC } : Reg).at []) = none :=
  ⟨by decide +kernel, by decide +kernel⟩

theorem witness_WriteTurnedAway :
    (At ((held).turn (.registerWrite .firmware (15 : Nat) (0x200104 : Nat) (0 : Word))) fun s => ((15 : Nat) ≠ 0xF ∨ (0x200104 : Nat) % 4 ≠ 0 ∨ 0x1000000 ≤ (0x200104 : Nat) ∨ s.boot.held = true ∨ s.denied .firmware (0x200104 : Nat) = true ∨ ((.firmware : Source) = .spi ∧
      s.spiReach (0x200104 : Nat) = false))) ∧
    (At ((bare).turn (.registerWrite .firmware (0xF : Nat) (0xF0000C : Nat) (0 : Word))) fun s => (0xF0000C : Nat) % 4 = 0 ∧
      (0xF0000C : Nat) < 0x1000000 ∧ s.boot.held = false ∧ s.denied .firmware (0xF0000C : Nat) = false ∧
      ((.firmware : Source) = .spi → s.spiReach (0xF0000C : Nat) = true) ∧ s.absent ((0xF0000C : Nat) / 0x100000) = true ∧
      ((0xF0000C : Nat) % 0x100000 < 0x10 ∨ bit (s.rd Rg.MGT_ABSENT) ((0xF0000C : Nat) / 0x100000) = true)) ∧
    (At ((bare).turn (.mgtAbsentRearm .firmware (0 : Word))) fun s => s.regs.rising = true ∧ s.takes .firmware Rg.MGT_ABSENT.at = true ∧
      0x200104 ≠ Rg.MGT_ABSENT.at) ∧
    (At ((bare).turn (.registerWrite .firmware (0xF : Nat) (0xF00010 : Nat) (0 : Word))) fun s => (0xF00010 : Nat) % 4 = 0 ∧
      (0xF00010 : Nat) < 0x1000000 ∧ s.boot.held = false ∧ s.denied .firmware (0xF00010 : Nat) = false ∧
      ((.firmware : Source) = .spi → s.spiReach (0xF00010 : Nat) = true) ∧ s.absent ((0xF00010 : Nat) / 0x100000) = true ∧
      0x10 ≤ (0xF00010 : Nat) % 0x100000 ∧ bit (s.rd Rg.MGT_ABSENT) ((0xF00010 : Nat) / 0x100000) = false) ∧
    (At ((setRec rerunning both).turn (.registerWrite .firmware 0xF (Rg.TGN_H_CTL.at [1] : Nat) (0 : Word))) fun s => s.boot.held = false ∧
      s.denied .firmware (Rg.TGN_H_CTL.at [1] : Nat) = false ∧ ((.firmware : Source) = .spi → s.spiReach (Rg.TGN_H_CTL.at [1] : Nat) = true) ∧
      (Rg.TGN_H_CTL.at [1] : Nat) % 4 = 0 ∧ (Rg.TGN_H_CTL.at [1] : Nat) < 0x1000000 ∧ s.absent ((Rg.TGN_H_CTL.at [1] : Nat) / 0x100000) = false ∧
      s.headOfAddr (Rg.TGN_H_CTL.at [1] : Nat) = some 1 ∧ s.recd.state = 5 ∧ bit s.recd.ctl 1 = true)
    := by and_intros <;> decide +kernel

theorem witness_CounterReads :
    (At ((rdy).turn (.counterLowRead .firmware (0x100104 : Nat))) fun s => s.boot.held = false ∧ s.hiCap.rising = true ∧
      isCounter (0x100104 : Nat) = false) ∧
    (At ((rdy).turn (.timeCaptureRead .firmware true)) fun s => s.boot.held = false ∧ s.hiCap.rising = true ∧ s.absent 15 = false) ∧
    (At ((rdy).turn (.timeCaptureRead .firmware false)) fun s => s.boot.held = false ∧ s.hiCap.rising = true ∧ s.absent 15 = false) ∧
    (At ((rdy).turn (.counterLowRead .firmware (Rg.SFM_PARK_CNT.at : Nat))) fun s => s.boot.held = false ∧ s.hiCap.rising = true ∧
      isCounter (Rg.SFM_PARK_CNT.at : Nat) = true ∧ s.absent ((Rg.SFM_PARK_CNT.at : Nat) / 0x100000) = false ∧
      s.instLives (Rg.SFM_PARK_CNT.at : Nat) = true ∧ 0x200104 ≠ (Rg.SFM_PARK_CNT.at : Nat) + 4)
    := by and_intros <;> decide +kernel

theorem witness_InvKept :
    (At ({ rdy with pending := [.standingRampDone] }) fun s => s.inv = true ∧ answers (step s) = true)
    := by decide +kernel

theorem witness_HeldDoesNothing :
    (At (held) fun s => s.boot.held = true)
    := by decide +kernel

theorem witness_FusesOnlyBlown :
    (At ({ rdy with otp := { revoked := 3, life := 1, rollback := 3, att := 1, attBad := 1 }, dbg := { isOpen := true, wasOpen := true } }) fun s => answers (exec (.standingRampDone : Instr) s) = true ∧
      s.otp.revoked.testBit 0 ∧ s.otp.life.testBit 0 ∧ s.otp.rollback.testBit 0 ∧ s.otp.att.testBit 0 ∧ s.otp.attBad.testBit 0)
    := by decide +kernel

theorem witness_DebugEndsAtPowerOn :
    (At ({ rdy with otp := { revoked := 3, life := 1, rollback := 3, att := 1, attBad := 1 }, dbg := { isOpen := true, wasOpen := true } }) fun s => answers (exec (.standingRampDone : Instr) s) = true ∧
      (.standingRampDone : Instr) ≠ .powerOnReset ∧ (.standingRampDone : Instr) ≠ .pkEngineDone ∧ answers (exec (.pkEngineDone : Instr) s) = true ∧
      s.dbg.isOpen = true ∧ answers (exec (.powerOnReset : Instr) s) = true)
    := by decide +kernel

theorem witness_CounterClearsHeads :
    (At ((rdy).turn (.sfmCntClr fw (0xFFFFFFFF : Word))) fun s => s.counters.rising = true ∧ s.takes (fw : Source) Rg.SFM_CNT_CLR.at = true) ∧
    (At ((rdy).turn (.cmpHCntClr fw (0 : Fin 4) (0xFFFFFFFF : Word))) fun s => s.counters.rising = true ∧
      s.takes (fw : Source) (Rg.CMP_H_CNT_CLR.at [0]) = true) ∧
    (At ((rdy).turn (.tgnHCntClr fw (0 : Fin 4) (0xFFFFFFFF : Word))) fun s => s.counters.rising = true ∧
      s.takes (fw : Source) (Rg.TGN_H_CNT_CLR.at [0]) = true) ∧
    (At ((rdy).turn (.psqHCntClr fw (0 : Fin 4) (0xFFFFFFFF : Word))) fun s => s.counters.rising = true ∧
      s.takes (fw : Source) (Rg.PSQ_H_CNT_CLR.at [0]) = true) ∧
    (At ((rdy).turn (.lteHCntClr fw (0 : Fin 4) (0xFFFFFFFF : Word))) fun s => s.counters.rising = true ∧
      s.takes (fw : Source) (Rg.LTE_H_CNT_CLR.at [0]) = true) ∧
    (At ((rdy).turn (.lscOCntClr fw (0 : Fin 4) (0xFFFFFFFF : Word))) fun s => s.counters.rising = true ∧
      s.takes (fw : Source) (Rg.LSC_O_CNT_CLR.at [0]) = true) ∧
    (At ((rdy).turn (.pnlHCntClr fw (0 : Fin 4) (0xFFFFFFFF : Word))) fun s => s.counters.rising = true ∧
      s.takes (fw : Source) (Rg.PNL_H_CNT_CLR.at [0]) = true) ∧
    (At ((rdy).turn (.lscCntClr fw (0xFFFFFFFF : Word))) fun s => s.counters.rising = true ∧ s.takes (fw : Source) Rg.LSC_CNT_CLR.at = true)
    := by and_intros <;> decide +kernel

theorem witness_CounterClearsBlocks :
    (At ((rdy).turn (.lneLCntClr fw (0 : Fin 96) (0xFFFFFFFF : Word))) fun s => s.counters.rising = true ∧
      s.takes (fw : Source) (Rg.LNE_L_CNT_CLR.at [0]) = true) ∧
    (At ((rdy).turn (.lnkPCntClr fw (0 : Fin 24) (0xFFFFFFFF : Word))) fun s => s.counters.rising = true ∧
      s.takes (fw : Source) (Rg.LNK_P_CNT_CLR.at [0]) = true) ∧
    (At ((rdy).turn (.dmcCntClr fw (0xFFFFFFFF : Word))) fun s => s.counters.rising = true ∧ s.takes (fw : Source) Rg.DMC_CNT_CLR.at = true) ∧
    (At ((rdy).turn (.dmcChCntClr fw (0 : Fin 16) (0xFFFFFFFF : Word))) fun s => s.counters.rising = true ∧
      s.takes (fw : Source) (Rg.DMC_CH_CNT_CLR.at [0]) = true) ∧
    (At ((rdy).turn (.timCntClr fw (0xFFFFFFFF : Word))) fun s => s.counters.rising = true ∧ s.takes (fw : Source) Rg.TIM_CNT_CLR.at = true) ∧
    (At ((rdy).turn (.calCntClr fw (0xFFFFFFFF : Word))) fun s => s.counters.rising = true ∧ s.takes (fw : Source) Rg.CAL_CNT_CLR.at = true) ∧
    (At ((rdy).turn (.pwgCntClr fw (0xFFFFFFFF : Word))) fun s => s.counters.rising = true ∧ s.takes (fw : Source) Rg.PWG_CNT_CLR.at = true) ∧
    (At ((rdy).turn (.mgtCntClr fw (0xFFFFFFFF : Word))) fun s => s.counters.rising = true ∧ s.takes (fw : Source) Rg.MGT_CNT_CLR.at = true)
    := by and_intros <;> decide +kernel

theorem witness_ResetsClear :
    (At ((rdy).turn Instr.warmReset) fun s => ((Instr.warmReset = .warmReset ∧
      1 = 1) ∨ (Instr.warmReset = .softwareReset (fw : Source) (0xA5000001 : Word) ∧ 1 = 2 ∧ s.takes (fw : Source) Rg.MGT_RST_CMD.at = true ∧
      fld (0xA5000001 : Word) 31 24 = 0xA5 ∧ bit (0xA5000001 : Word) 0 = true) ∨ (Instr.warmReset = .clockFaultReset ∧ 1 = 3 ∧
      s.boot.held = false ∧ s.pwg.run = true ∧ s.regs.rising = true)) ∧ 0x200104 ≠ Rg.MGT_RST_CAUSE.at ∧ 0x200104 ≠ Rg.SEC_LOAD_NEXT.at ∧
      0x200104 ≠ Rg.PWG_FLAGS.at) ∧
    (At ((rdy).turn (.softwareReset fw 0xA5000001)) fun s => (((Instr.softwareReset fw 0xA5000001) = .warmReset ∧
      2 = 1) ∨ ((Instr.softwareReset fw 0xA5000001) = .softwareReset (fw : Source) (0xA5000001 : Word) ∧ 2 = 2 ∧
      s.takes (fw : Source) Rg.MGT_RST_CMD.at = true ∧ fld (0xA5000001 : Word) 31 24 = 0xA5 ∧
      bit (0xA5000001 : Word) 0 = true) ∨ ((Instr.softwareReset fw 0xA5000001) = .clockFaultReset ∧ 2 = 3 ∧ s.boot.held = false ∧
      s.pwg.run = true ∧ s.regs.rising = true)) ∧ 0x200104 ≠ Rg.MGT_RST_CAUSE.at ∧ 0x200104 ≠ Rg.SEC_LOAD_NEXT.at ∧ 0x200104 ≠ Rg.PWG_FLAGS.at) ∧
    (At ((rdy).turn Instr.clockFaultReset) fun s => ((Instr.clockFaultReset = .warmReset ∧
      3 = 1) ∨ (Instr.clockFaultReset = .softwareReset (fw : Source) (0xA5000001 : Word) ∧ 3 = 2 ∧ s.takes (fw : Source) Rg.MGT_RST_CMD.at = true ∧
      fld (0xA5000001 : Word) 31 24 = 0xA5 ∧ bit (0xA5000001 : Word) 0 = true) ∨ (Instr.clockFaultReset = .clockFaultReset ∧ 3 = 3 ∧
      s.boot.held = false ∧ s.pwg.run = true ∧ s.regs.rising = true)) ∧ 0x200104 ≠ Rg.MGT_RST_CAUSE.at ∧ 0x200104 ≠ Rg.SEC_LOAD_NEXT.at ∧
      0x200104 ≠ Rg.PWG_FLAGS.at) ∧
    (At ((rdy).turn (.softwareReset fw (0xA5000000 : Word))) fun s => s.takes (fw : Source) Rg.MGT_RST_CMD.at = true ∧
      fld (0xA5000000 : Word) 31 24 = 0xA5 ∧ bit (0xA5000000 : Word) 0 = false) ∧
    (At (({ rdy with pwg := {} }).turn (.softwareReset .firmware (0 : Word))) fun s => s.takes .firmware Rg.MGT_RST_CMD.at = true ∧
      fld (0 : Word) 31 24 ≠ 0xA5) ∧
    (At ({ rdy with pwg := {} }) fun s => s.pwg.run = false)
    := by and_intros <;> decide +kernel

theorem witness_ReleaseAndLock :
    (At (rdy) fun s => (s.boot.held = false ∨ s.thermal.tripped = true) ∧ (s.thermal.tripped = false ∨ s.thermal.cool < 4000)) ∧
    (At ((rdy).turn .pllLock) fun s => s.pwg.run = true) ∧
    (At (held) fun s => s.boot.held = true ∧ s.thermal.tripped = false) ∧
    (At ({ held with thermal := { tripped := true, cool := 4000 } }) fun s => s.thermal.tripped = true ∧ 4000 ≤ s.thermal.cool) ∧
    (At ((({} : State)).turn .pllLock) fun s => s.boot.held = false ∧ s.pwg.run = false ∧ s.boot.stage = 0)
    := by and_intros <;> decide +kernel

theorem witness_BootTests :
    (At (granted 6 0 ({ rdy with cfg := {}, boot := { stage := 1, testing := false, staged := topo }, blkState := [] })) fun s => s.boot.held = false ∧
      (s.boot.stage = 1 ∨ s.boot.stage = 3) ∧ s.boot.testing = false ∧ (takeGrant 6 0 s).isSome = true) ∧
    (At (turnedDown 6 0 2 ({ rdy with cfg := {}, boot := { stage := 3, testing := false, staged := topo }, blkState := [] })) fun s => s.boot.held = false ∧
      (s.boot.stage = 1 ∨ s.boot.stage = 3) ∧ s.boot.testing = false ∧ takeGrant 6 0 s = none ∧ (takeRefusal 6 0 s).isSome = true) ∧
    (At ({ rdy with cfg := {}, boot := { stage := 1, testing := true, staged := topo }, blkState := [] }) fun s => s.boot.held = false ∧
      s.boot.stage = 1 ∧ s.boot.testing = true ∧ 1 ∈ ([0, 1] : List (Fin 64)) ∧ s.boot.sources = .slot 0 :: [.slot 1]) ∧
    (At (({ rdy with boot := { stage := 3, testing := true, staged := topo } }).turn (.polderSelfTestDone ([] : List (Fin 40960)))) fun s => s.boot.held = false ∧
      s.boot.stage = 3 ∧ s.boot.testing = true ∧ s.blkState.rising = true) ∧
    (At ({ rdy with boot := { stage := 1, testing := true, sources := [.spi] } }) fun s => s.boot.held = false ∧ s.boot.stage = 1 ∧
      s.boot.testing = true ∧ s.boot.sources.head? = some .spi)
    := by and_intros <;> decide +kernel

theorem witness_LoaderTakes :
    (At ({ rdy with cfg := {}, boot := { stage := 2, sources := [.slot 0, .slot 1] } }) fun s => s.boot.held = false ∧ s.boot.stage = 2 ∧
      s.boot.sources = .slot (0 : Nat) :: ([.slot 1] : List LoadSrc) ∧ (true : Bool) = true) ∧
    (At (({ rdy with cfg := {}, boot := { stage := 2, sources := [.slot 0, .slot 1] } }).turn (.loadStreamWrite fw (0 : Word))) fun s => s.takes (fw : Source) Rg.SEC_LOAD_STREAM.at = true ∧
      (s.boot.stage ≠ 6 ∨ s.dmc.basinWork.length < 8)) ∧
    (At (({ rdy with cfg := {}, boot := { stage := 6, stream := List.replicate 56 0, streaming := true }, dmc := { basinWork := List.range 8 } }).turn (.loadStreamWrite fw (0 : Word))) fun s => s.takes (fw : Source) Rg.SEC_LOAD_STREAM.at = true ∧
      s.boot.stage = 6 ∧ 8 ≤ s.dmc.basinWork.length ∧ s.boot.stream.length + 4 < 64) ∧
    (At ({ rdy with cfg := {}, boot := { stage := 6, stream := List.replicate 56 0, streaming := true }, dmc := { basinWork := List.range 8 } }) fun s => s.boot.held = false ∧
      s.boot.stage = 6 ∧ s.boot.streaming = true) ∧
    (At (({ rdy with cfg := {}, boot := { stage := 6, stream := List.replicate 60 0, streaming := false }, dmc := { basinWork := List.range 8 } }).turn (.loadStreamWrite fw (0 : Word))) fun s => s.takes (fw : Source) Rg.SEC_LOAD_STREAM.at = true ∧
      s.boot.stage = 6 ∧ 8 ≤ s.dmc.basinWork.length ∧ 64 ≤ s.boot.stream.length + 4 ∧
      min (contLen (streamImage (s.boot.stream ++ bytesLE (0 : Word).toNat 4))) 8388608 ≤ s.boot.stream.length + 4)
    := by and_intros <;> decide +kernel

theorem witness_BringupSteps :
    (At ((granted 0 0 ({ rdy with boot := { stage := 4 }, dramCh := [(0, { bootSteps := [0, 1], stepOn := false, bootFails := 0 })] })).turn (.dramTrainGrant (0 : Fin 16))) fun s => s.boot.held = false ∧
      s.inv = true ∧ (takeGrant 0 0 s).isSome = true ∧ (s.ch 0).bootSteps ≠ [] ∧ (s.ch 0).stepOn = false ∧ (s.ch 0).state ≠ 5) ∧
    (At (({ rdy with boot := { stage := 4 }, dramCh := [(0, { bootSteps := [0, 1], stepOn := true, bootFails := 0 })] }).turn (.dramTrainStepDone (0 : Fin 16) true)) fun s => s.boot.held = false ∧
      s.inv = true ∧ (s.ch 0).stepOn = true ∧ (s.ch 0).bootSteps = (0 : Nat) :: (1 : Nat) :: ([] : List Nat)) ∧
    (At (({ rdy with boot := { stage := 4 }, dramCh := [(0, { bootSteps := [0, 1], stepOn := true, bootFails := 0 })] }).turn (.dramTrainStepDone (0 : Fin 16) false)) fun s => s.boot.held = false ∧
      s.inv = true ∧ (s.ch 0).stepOn = true ∧ (s.ch 0).bootSteps ≠ [] ∧ (s.ch 0).bootFails < 2) ∧
    (At ({ rdy with boot := { stage := 4, i3cEn := true } }) fun s => s.boot.held = false ∧ s.inv = true ∧ (s.boot.stage = 4 ∨ s.boot.stage = 7) ∧
      s.boot.i3cEn = true ∧ s.boot.i3c = false ∧ ⟨7, 0, 0⟩ ∈ ([⟨7, 0, 0⟩] : List I3cDevice)[0]?) ∧
    (At (({ rdy with boot := { stage := 3, rstoutN := true } }).wr Rg.MGT_BOOT_CTL [] 1) fun s => s.boot.held = false ∧ s.inv = true ∧
      s.boot.stage = 3 ∧ s.boot.rstoutN = true ∧ bit (s.rd Rg.MGT_BOOT_CTL) 1 = false)
    := by and_intros <;> decide +kernel

theorem witness_SpiPort :
    (At ((rdy).turn (.registerWrite .spi 0xF (0x300104 : Nat) (1 : Word))) fun s => s.boot.held = false ∧ (0x300104 : Nat) < 0xFFFFFC ∧
      (0x300104 : Nat) % 4 = 0 ∧ s.spiReach (0x300104 : Nat) = true ∧ s.denied .spi (0x300104 : Nat) = false) ∧
    (At ((rdy).turn (.spiWrite (0x300104 : Nat) [(1 : Word)])) fun s => s.boot.held = false ∧ (0x300104 : Nat) < 0xFFFFFC) ∧
    (At ((rdy).turn (.spiRead (0x300104 : Nat) 1)) fun s => s.boot.held = false ∧ (0x300104 : Nat) < 0xFFFFFC ∧ (0x300104 : Nat) % 4 = 0 ∧
      s.spiReach (0x300104 : Nat) = true) ∧
    (At ((setSec { rdy.sec with lock := true, lockSpi := true } rdy).turn (.spiWrite (Rg.SEC_KEY_CMD.at : Nat) [(1 : Word)])) fun s => s.boot.held = false ∧
      (Rg.SEC_KEY_CMD.at : Nat) < 0xFFFFFC ∧ (Rg.SEC_KEY_CMD.at : Nat) % 4 = 0 ∧ s.spiReach (Rg.SEC_KEY_CMD.at : Nat) = true ∧
      s.denied .spi (Rg.SEC_KEY_CMD.at : Nat) = true) ∧
    (At ((rdy).turn (.spiWrite (2 : Nat) [(1 : Word)])) fun s => s.boot.held = false ∧ (2 : Nat) < 0xFFFFFC ∧
      ((2 : Nat) % 4 ≠ 0 ∨ s.spiReach (2 : Nat) = false)) ∧
    (At ((rdy).turn (.spiRead (2 : Nat) 1)) fun s => s.boot.held = false ∧ (2 : Nat) < 0xFFFFFC ∧ ((2 : Nat) % 4 ≠ 0 ∨ s.spiReach (2 : Nat) = false))
    := by and_intros <;> decide +kernel

theorem witness_FlashCommands :
    (At ((setSec { rdy.sec with flashJob := some ⟨1, 0, 0, [], false, [], []⟩ } rdy).turn (.flashErase fw (0 : Fin 2))) fun s => s.takes (fw : Source) Rg.SEC_FLASH_CMD.at = true ∧
      (((Instr.flashErase fw (0 : Fin 2)), 1) = (.flashErase (fw : Source) (0 : Fin 2), 1) ∨ ((Instr.flashErase fw (0 : Fin 2)), 1) = (.flashProgram (fw : Source) (0 : Fin 2), 2) ∨ ((Instr.flashErase fw (0 : Fin 2)), 1) = (.flashVerify (fw : Source) (0 : Fin 2), 3) ∨ ((Instr.flashErase fw (0 : Fin 2)), 1) = (.flashCommit (fw : Source) (0 : Fin 2), 4)) ∧
      s.sec.flashJob.isSome = true) ∧
    (At ((rdy).turn (.flashErase fw (0 : Fin 2))) fun s => s.takes (fw : Source) Rg.SEC_FLASH_CMD.at = true ∧
      (((Instr.flashErase fw (0 : Fin 2)), 1) = (.flashErase (fw : Source) (0 : Fin 2), 1) ∨ ((Instr.flashErase fw (0 : Fin 2)), 1) = (.flashProgram (fw : Source) (0 : Fin 2), 2) ∨ ((Instr.flashErase fw (0 : Fin 2)), 1) = (.flashVerify (fw : Source) (0 : Fin 2), 3) ∨ ((Instr.flashErase fw (0 : Fin 2)), 1) = (.flashCommit (fw : Source) (0 : Fin 2), 4)) ∧
      s.sec.flashJob = none ∧ s.sec.src = 0 + 1 ∧ s.sec.passed.contains (1 - 0) = false) ∧
    (At ((rdy).turn (.flashCommit fw (0 : Fin 2))) fun s => s.takes (fw : Source) Rg.SEC_FLASH_CMD.at = true ∧
      (((Instr.flashCommit fw (0 : Fin 2)), 4) = (.flashErase (fw : Source) (0 : Fin 2), 1) ∨ ((Instr.flashCommit fw (0 : Fin 2)), 4) = (.flashProgram (fw : Source) (0 : Fin 2), 2) ∨ ((Instr.flashCommit fw (0 : Fin 2)), 4) = (.flashVerify (fw : Source) (0 : Fin 2), 3) ∨ ((Instr.flashCommit fw (0 : Fin 2)), 4) = (.flashCommit (fw : Source) (0 : Fin 2), 4)) ∧
      s.sec.flashJob = none ∧ s.sec.verified.contains 0 = false) ∧
    (At ((rdy).turn (.flashProgram fw (0 : Fin 2))) fun s => s.takes (fw : Source) Rg.SEC_FLASH_CMD.at = true ∧
      (((Instr.flashProgram fw (0 : Fin 2)), 2) = (.flashErase (fw : Source) (0 : Fin 2), 1) ∨ ((Instr.flashProgram fw (0 : Fin 2)), 2) = (.flashProgram (fw : Source) (0 : Fin 2), 2) ∨ ((Instr.flashProgram fw (0 : Fin 2)), 2) = (.flashVerify (fw : Source) (0 : Fin 2), 3) ∨ ((Instr.flashProgram fw (0 : Fin 2)), 2) = (.flashCommit (fw : Source) (0 : Fin 2), 4)) ∧
      s.sec.flashJob = none ∧ (2 = 1 → s.sec.src ≠ 0 + 1 ∨ s.sec.passed.contains (1 - 0) = true) ∧ (2 = 4 → s.sec.verified.contains 0 = true)) ∧
    (At ((rdy).turn (.flashVerify fw (0 : Fin 2))) fun s => s.takes (fw : Source) Rg.SEC_FLASH_CMD.at = true ∧
      (((Instr.flashVerify fw (0 : Fin 2)), 3) = (.flashErase (fw : Source) (0 : Fin 2), 1) ∨ ((Instr.flashVerify fw (0 : Fin 2)), 3) = (.flashProgram (fw : Source) (0 : Fin 2), 2) ∨ ((Instr.flashVerify fw (0 : Fin 2)), 3) = (.flashVerify (fw : Source) (0 : Fin 2), 3) ∨ ((Instr.flashVerify fw (0 : Fin 2)), 3) = (.flashCommit (fw : Source) (0 : Fin 2), 4)) ∧
      s.sec.flashJob = none ∧ (3 = 1 → s.sec.src ≠ 0 + 1 ∨ s.sec.passed.contains (1 - 0) = true) ∧ (3 = 4 → s.sec.verified.contains 0 = true) ∧
      s.verifyBanks = []) ∧
    (At (({ rdy with dmc := { rdy.dmc with regions := [some [0, 1], some [2, 3], some [4, 5, 6, 7, 8, 9, 10, 11]] } }).turn (.flashVerify fw (0 : Fin 2))) fun s => s.takes (fw : Source) Rg.SEC_FLASH_CMD.at = true ∧
      (((Instr.flashVerify fw (0 : Fin 2)), 3) = (.flashErase (fw : Source) (0 : Fin 2), 1) ∨ ((Instr.flashVerify fw (0 : Fin 2)), 3) = (.flashProgram (fw : Source) (0 : Fin 2), 2) ∨ ((Instr.flashVerify fw (0 : Fin 2)), 3) = (.flashVerify (fw : Source) (0 : Fin 2), 3) ∨ ((Instr.flashVerify fw (0 : Fin 2)), 3) = (.flashCommit (fw : Source) (0 : Fin 2), 4)) ∧
      s.sec.flashJob = none ∧ (3 = 1 → s.sec.src ≠ 0 + 1 ∨ s.sec.passed.contains (1 - 0) = true) ∧ (3 = 4 → s.sec.verified.contains 0 = true) ∧
      s.verifyBanks ≠ [])
    := by and_intros <;> decide +kernel

theorem witness_FlashEffects :
    (At ({ (setSec { rdy.sec with flashJob := some ⟨1, 1, 2, [1, 2, 3], false, [], []⟩ } rdy) with flash := [(0, 1), (8192, 3), (0x800000, 4)] }) fun s => s.boot.held = false ∧
      (s.sec.flashJob).isSome = true ∧ (((s.sec.flashJob).getD (⟨0, 0, 0, [], false, [], []⟩ : FlashJob)).cmd = 3 → s.sec.engine = none) ∧
      Memory.wf 0xFF s.flash = true ∧ (true : Bool) = true) ∧
    (At ({ (setSec { rdy.sec with flashJob := some ⟨1, 1, 2, [1, 2, 3], false, [], []⟩ } rdy) with flash := [(0, 1), (8192, 3), (0x800000, 4)] }) fun s => s.boot.held = false ∧
      (s.sec.flashJob).isSome = true ∧ (((s.sec.flashJob).getD (⟨0, 0, 0, [], false, [], []⟩ : FlashJob)).cmd = 3 → s.sec.engine = none) ∧
      Memory.wf 0xFF s.flash = true ∧ (false : Bool) = false ∧ ((s.sec.flashJob).getD (⟨0, 0, 0, [], false, [], []⟩ : FlashJob)).cmd ≠ 3 ∧
      ((s.sec.flashJob).getD (⟨0, 0, 0, [], false, [], []⟩ : FlashJob)).cmd = 1) ∧
    (At ({ (setSec { rdy.sec with flashJob := some ⟨2, 1, 2, [1, 2, 3], false, [], []⟩ } rdy) with flash := [(0, 1), (8192, 3), (0x800000, 4)] }) fun s => s.boot.held = false ∧
      (s.sec.flashJob).isSome = true ∧ (((s.sec.flashJob).getD (⟨0, 0, 0, [], false, [], []⟩ : FlashJob)).cmd = 3 → s.sec.engine = none) ∧
      Memory.wf 0xFF s.flash = true ∧ (false : Bool) = false ∧ ((s.sec.flashJob).getD (⟨0, 0, 0, [], false, [], []⟩ : FlashJob)).cmd = 2) ∧
    (At ({ (setSec { rdy.sec with flashJob := some ⟨3, 1, 2, [1, 2, 3], false, [], []⟩ } rdy) with flash := [(0, 1), (8192, 3), (0x800000, 4)] }) fun s => s.boot.held = false ∧
      (s.sec.flashJob).isSome = true ∧ (((s.sec.flashJob).getD (⟨0, 0, 0, [], false, [], []⟩ : FlashJob)).cmd = 3 → s.sec.engine = none) ∧
      Memory.wf 0xFF s.flash = true ∧ (false : Bool) = false ∧ ((s.sec.flashJob).getD (⟨0, 0, 0, [], false, [], []⟩ : FlashJob)).cmd = 3 ∧
      ((s.sec.flashJob).getD (⟨0, 0, 0, [], false, [], []⟩ : FlashJob)).staged = false) ∧
    (At ({ (setSec { rdy.sec with flashJob := some ⟨4, 1, 2, [1, 2, 3], false, [], []⟩ } rdy) with flash := [(0, 1), (8192, 3), (0x800000, 4)] }) fun s => s.boot.held = false ∧
      (s.sec.flashJob).isSome = true ∧ (((s.sec.flashJob).getD (⟨0, 0, 0, [], false, [], []⟩ : FlashJob)).cmd = 3 → s.sec.engine = none) ∧
      Memory.wf 0xFF s.flash = true ∧ (false : Bool) = false ∧ ((s.sec.flashJob).getD (⟨0, 0, 0, [], false, [], []⟩ : FlashJob)).cmd = 4) ∧
    (At ({ (setSec { rdy.sec with flashJob := some ⟨3, 1, 2, [1, 2, 3], true, [], []⟩ } rdy) with flash := [(0, 1), (8192, 3), (0x800000, 4)] }) fun s => s.boot.held = false ∧
      (s.sec.flashJob).isSome = true ∧ (((s.sec.flashJob).getD (⟨0, 0, 0, [], false, [], []⟩ : FlashJob)).cmd = 3 → s.sec.engine = none) ∧
      Memory.wf 0xFF s.flash = true ∧ (false : Bool) = false ∧ ((s.sec.flashJob).getD (⟨0, 0, 0, [], false, [], []⟩ : FlashJob)).cmd = 3 ∧
      ((s.sec.flashJob).getD (⟨0, 0, 0, [], false, [], []⟩ : FlashJob)).staged = true)
    := by and_intros <;> decide +kernel

theorem witness_FuseCommands :
    (At ((rdy).turn (.otpAdvance fw (0 : Word))) fun s => s.takes (fw : Source) Rg.SEC_OTP_CMD.at = true ∧ s.sec.otpJob = none ∧ s.sec.src ≠ 0 ∧
      rollbackValue s.otp = fld (0 : Word) 7 0 ∧ fld (0 : Word) 7 0 ≤ s.sec.secVer) ∧
    (At ((rdy).turn (.otpRevoke fw (0 : Word))) fun s => s.takes (fw : Source) Rg.SEC_OTP_CMD.at = true ∧ s.sec.otpJob = none ∧ s.sec.src ≠ 0 ∧
      fld (0 : Word) 7 0 < 4 ∧ fld (0 : Word) 7 0 < s.sec.keySet) ∧
    (At ((rdy).turn (.otpLock fw)) fun s => s.takes (fw : Source) Rg.SEC_OTP_CMD.at = true ∧ s.sec.otpJob = none ∧ lifeOf s.otp = 0) ∧
    (At ((rdy).turn (.otpReturn fw)) fun s => s.takes (fw : Source) Rg.SEC_OTP_CMD.at = true ∧ s.sec.otpJob = none ∧
      (lifeOf s.otp ≠ 1 ∨ s.dbgOpen = false)) ∧
    (At (rdy) fun s => s.boot.held = false ∧ s.sec.otpJob = none) ∧
    (At ((rdy).turn (.otpAdvance fw (5 : Word))) fun s => s.takes (fw : Source) Rg.SEC_OTP_CMD.at = true ∧ s.sec.otpJob = none ∧ s.sec.src ≠ 0 ∧
      rollbackValue s.otp < fld (5 : Word) 7 0 ∧ fld (5 : Word) 7 0 ≤ s.sec.secVer) ∧
    (At (({ rdy with otp := { rollback := 3, life := 1 }, dbg := { isOpen := true } }).turn (.otpAdvance fw (1 : Word))) fun s => s.takes (fw : Source) Rg.SEC_OTP_CMD.at = true ∧
      s.sec.otpJob = none ∧ (s.sec.src = 0 ∨ fld (1 : Word) 7 0 < rollbackValue s.otp ∨ s.sec.secVer < fld (1 : Word) 7 0)) ∧
    (At (({ rdy with otp := { rollback := 3, life := 1 }, dbg := { isOpen := true } }).turn (.otpLock fw)) fun s => s.takes (fw : Source) Rg.SEC_OTP_CMD.at = true ∧
      s.sec.otpJob = none ∧ lifeOf s.otp ≠ 0) ∧
    (At (({ rdy with otp := { rollback := 3, life := 1 }, dbg := { isOpen := true } }).turn (.otpReturn fw)) fun s => s.takes (fw : Source) Rg.SEC_OTP_CMD.at = true ∧
      s.sec.otpJob = none ∧ lifeOf s.otp = 1 ∧ s.dbgOpen = true) ∧
    (At (setSec { rdy.sec with otpJob := some (.revoke 3), attLeaf := 512 } rdy) fun s => s.boot.held = false ∧
      s.sec.otpJob = some (.revoke (3 : Nat))) ∧
    (At (setSec { rdy.sec with otpJob := some (.lock), attLeaf := 512 } rdy) fun s => s.boot.held = false ∧ s.sec.otpJob = some .lock) ∧
    (At (setSec { rdy.sec with otpJob := some (.ret), attLeaf := 512 } rdy) fun s => s.boot.held = false ∧ s.sec.otpJob = some .ret) ∧
    (At (setSec { rdy.sec with otpJob := some (.advance 2 4), attLeaf := 512 } rdy) fun s => s.boot.held = false ∧
      s.sec.otpJob = some (.advance (2 : Nat) (4 : Nat)) ∧ (2 : Nat) ≠ (4 : Nat)) ∧
    (At (setSec { rdy.sec with otpJob := some (.advance 4 4), attLeaf := 512 } rdy) fun s => s.boot.held = false ∧
      s.sec.otpJob = some (.advance (4 : Nat) (4 : Nat))) ∧
    (At (setSec { rdy.sec with otpJob := some (.reserve 2), attLeaf := 512 } rdy) fun s => s.boot.held = false ∧
      s.sec.otpJob = some (.reserve (2 : Nat)) ∧ s.sec.attLeaf = 256 * (2 : Nat))
    := by and_intros <;> decide +kernel

theorem witness_Attestation :
    (At (({ rdy with dbg := { isOpen := true } }).turn (.attestRequest fw)) fun s => s.takes (fw : Source) Rg.SEC_ATT_CTL.at = true ∧
      (lifeOf s.otp = 3 ∨ s.dbgOpen = true)) ∧
    (At (({ (setSec { rdy.sec with attLast := some (1000 * msCore + 1) } rdy) with now := 2000 * msCore }).turn (.attestRequest fw)) fun s => s.takes (fw : Source) Rg.SEC_ATT_CTL.at = true ∧
      s.dbgOpen = false ∧ s.sec.engine = none ∧ s.sec.otpJob = none ∧ s.sec.attLast = some (1000 * msCore + 1) ∧
      s.now < (1000 * msCore + 1) + 1000 * msCore) ∧
    (At (({ (setSec { rdy.sec with attLeaf := 1048576 } rdy) with now := 2000 * msCore }).turn (.attestRequest fw)) fun s => s.takes (fw : Source) Rg.SEC_ATT_CTL.at = true ∧
      s.dbgOpen = false ∧ s.sec.engine = none ∧ s.sec.otpJob = none ∧ s.sec.attLast.all (fun l => decide (l + 1000 * msCore ≤ s.now)) = true ∧
      s.sec.attLeaf = 1048576) ∧
    (At ((granted 7 0 ({ (setSec { rdy.sec with attLeaf := 257 } rdy) with now := 2000 * msCore })).turn (.attestRequest .firmware)) fun s => s.takes .firmware Rg.SEC_ATT_CTL.at = true ∧
      s.dbgOpen = false ∧ s.sec.engine = none ∧ s.sec.otpJob = none ∧ s.sec.attLast.all (fun l => decide (l + 1000 * msCore ≤ s.now)) = true ∧
      s.sec.attLeaf ≠ 1048576) ∧
    (At (granted 7 0 ({ (setSec { rdy.sec with attLeaf := 257 } rdy) with now := 2000 * msCore })) fun s => s.boot.held = false ∧
      (takeGrant 7 0 s).isSome = true ∧ (s.sec.attLeaf % 256 ≠ 0 ∨ s.otp.att.testBit (s.sec.attLeaf / 256) = true)) ∧
    (At (granted 7 0 ({ (setSec { rdy.sec with attLeaf := 256 } rdy) with now := 2000 * msCore })) fun s => s.boot.held = false ∧
      (takeGrant 7 0 s).isSome = true ∧ s.sec.attLeaf % 256 = 0 ∧ s.otp.att.testBit (s.sec.attLeaf / 256) = false ∧ s.sec.otpJob = none) ∧
    (At (({ (setSec { rdy.sec with attSign := true, engine := some .attest } rdy) with now := 2000 * msCore }).turn (.attestRequest .firmware)) fun s => s.takes .firmware Rg.SEC_ATT_CTL.at = true ∧
      s.dbgOpen = false ∧ (s.sec.engine.isSome ∨ s.sec.otpJob.isSome)) ∧
    (At (({ (setSec { rdy.sec with attSign := true, engine := some .attest } rdy) with now := 2000 * msCore }).turn .attestSignDone) fun s => s.boot.held = false ∧
      s.sec.attSign = true)
    := by and_intros <;> decide +kernel

theorem witness_LinkKeys :
    (At (({ rdy with dbg := { isOpen := true } }).turn (.keyOffer fw (1 : Fin 32) (0 : Fin 2))) fun s => s.inv = true ∧
      s.takes (fw : Source) Rg.SEC_KEY_CMD.at = true ∧ lifeOf s.otp ≠ 3 ∧ (s.port 1).state ≠ 0 ∧ s.dbgOpen = true) ∧
    (At ((setPort 1 { state := 4, caps := List.replicate 16 255, txKey := [some ⟨[1], some 5⟩, none], txEpoch := 1 } (setSec { rdy.sec with offer := some ⟨1, 0, 3⟩ } rdy)).turn (.keyOffer fw (1 : Fin 32) (0 : Fin 2))) fun s => s.inv = true ∧
      s.takes (fw : Source) Rg.SEC_KEY_CMD.at = true ∧ lifeOf s.otp ≠ 3 ∧ (s.port 1).state ≠ 0 ∧ s.dbgOpen = false ∧ s.sec.engine = none) ∧
    (At ((setPort 1 { state := 4, caps := List.replicate 16 255, txKey := [some ⟨[1], some 5⟩, none], txEpoch := 1 } (setSec { rdy.sec with offer := some ⟨1, 0, 3⟩ } rdy)).turn (.keyInstall fw (1 : Fin 32) (0 : Fin 2))) fun s => s.inv = true ∧
      s.takes (fw : Source) Rg.SEC_KEY_CMD.at = true ∧ lifeOf s.otp ≠ 3 ∧ (s.port 1).state ≠ 0 ∧ s.dbgOpen = false ∧
      (s.port 1).peerReports 0 = true ∧ (s.sec.offer).isSome = true ∧ ((s.sec.offer).getD (⟨0, 0, 0⟩ : Offer)).port = 1 ∧
      ((s.sec.offer).getD (⟨0, 0, 0⟩ : Offer)).epoch = 0 ∧ s.slotInUse 1 0 = false ∧ s.sec.engine = none) ∧
    (At ((setPort 1 { state := 4, caps := List.replicate 16 255, txKey := [some ⟨[1], some 5⟩, none], txEpoch := 1 } (setSec { rdy.sec with offer := some ⟨1, 0, 3⟩ } rdy)).turn (.keySelect fw (1 : Fin 32) (0 : Fin 2))) fun s => s.inv = true ∧
      s.takes (fw : Source) Rg.SEC_KEY_CMD.at = true ∧ lifeOf s.otp ≠ 3 ∧ (s.port 1).state ≠ 0 ∧ ((s.port 1).txKey.getD 0 none).isSome = true) ∧
    (At ((setPort 1 { state := 4, caps := List.replicate 16 255, txKey := [some ⟨[1], some 5⟩, none], txEpoch := 1 } (setSec { rdy.sec with offer := some ⟨1, 0, 3⟩ } rdy)).turn (.keyClear fw (1 : Fin 32))) fun s => s.inv = true ∧
      s.takes (fw : Source) Rg.SEC_KEY_CMD.at = true ∧ lifeOf s.otp ≠ 3 ∧ (s.port 1).state ≠ 0) ∧
    (At (setPort 1 { state := 4, caps := List.replicate 16 255 } (setSec { rdy.sec with engine := some (.offer 1 0) } rdy)) fun s => s.inv = true ∧
      s.boot.held = false ∧ s.sec.engine = some (.offer 1 0)) ∧
    (At (setPort 1 { state := 4, caps := List.replicate 16 255 } (setSec { rdy.sec with engine := some (.unlock [5]) } rdy)) fun s => s.inv = true ∧ s.boot.held = false ∧
      s.sec.engine = some (.unlock ([5] : List Byte)) ∧ s.tokenOk ([5] : List Byte) = false) ∧
    (At (setSec { rdy.sec with offer := some ⟨1, 0, 3⟩, engine := some (.install 1 0 basePoint) } (setPort 1 { state := 4 } rdy)) fun s => s.inv = true ∧
      s.boot.held = false ∧ s.sec.engine = some (.install 1 0 (basePoint : List Byte)) ∧ (s.sec.offer).isSome = true ∧
      onCurve (basePoint : List Byte) = true ∧ s.slotInUse 1 0 = false)
    := by and_intros <;> decide +kernel

theorem witness_UnlockAndLocks :
    (At ((rdy).turn (.debugUnlock fw)) fun s => s.takes (fw : Source) Rg.SEC_DEBUG_CMD.at = true ∧ s.sec.flashJob = none ∧ s.sec.engine = none) ∧
    (At ((rdy).turn (.sourceLock fw (0x8000017F : Word))) fun s => s.takes (fw : Source) Rg.SEC_LOCK.at = true ∧ s.sec.lock = false) ∧
    (At ((setSec { rdy.sec with engine := some .attest } rdy).turn (.debugUnlock fw)) fun s => s.takes (fw : Source) Rg.SEC_DEBUG_CMD.at = true ∧
      (s.sec.flashJob.isSome ∨ s.sec.engine.isSome)) ∧
    (At ((setSec { rdy.sec with lock := true } rdy).turn (.sourceLock fw (5 : Word))) fun s => s.takes (fw : Source) Rg.SEC_LOCK.at = true ∧
      s.sec.lock = true) ∧
    (At ((setSec { rdy.sec with lock := true } rdy).turn (.spiLock fw (5 : Word))) fun s => s.takes (fw : Source) Rg.SEC_LOCK.at = true ∧
      s.sec.lock = true)
    := by and_intros <;> decide +kernel

theorem witness_SurfaceTable :
    (At ((surf).turn (.surfaceDescriptorWrite fw (5 : Fin 4096) (4 : Fin 5) (7 : Word))) fun s => s.takes (fw : Source) ((descReg 4).at [5]) = true ∧ s.regs.rising = true ∧
      (s.entry 5).state = 0 ∧ anyIllegal (descReg 4).legal 7 = false ∧ 0 ≠ (descReg 4).at [5]) ∧
    (At ((surf).turn (.surfaceValidate fw (5 : Fin 4096))) fun s => s.takes (fw : Source) (Rg.SFM_SURF_CTL.at [5]) = true ∧
      s.sfm.entries.rising = true ∧ (s.entry 5).state = 0 ∧ (s.desc 5).refusal? = none) ∧
    (At ((surf).turn (.surfaceFree fw (5 : Fin 4096))) fun s => s.takes (fw : Source) (Rg.SFM_SURF_CTL.at [5]) = true ∧
      s.sfm.entries.rising = true ∧ (s.entry 5).state ≠ 1) ∧
    (At ((surf).turn (.ptInvalidate fw)) fun s => s.takes (fw : Source) Rg.SFM_PT_INV.at = true ∧ s.sfm.invBusy = false) ∧
    (At ((surf).turn (.surfaceValidate fw (1 : Fin 4096))) fun s => s.takes (fw : Source) (Rg.SFM_SURF_CTL.at [1]) = true ∧
      s.sfm.entries.rising = true ∧ ((s.entry 1).state = 0 ∧ (s.desc 1).refusal? = some 4 ∨ (s.entry 1).state = 2 ∧ 4 = 4)) ∧
    (At ((setSfm (fun f => { f with entries := [(0, { state := 1, leases := 2 })] }) surf).turn (.surfaceFree fw (0 : Fin 4096))) fun s => s.takes (fw : Source) (Rg.SFM_SURF_CTL.at [0]) = true ∧
      s.sfm.entries.rising = true ∧ (s.entry 0).state = 1 ∧ (s.entry 0).leases ≠ 0) ∧
    (At ((setSfm (fun f => { f with invBusy := true }) surf).turn (.surfaceDescriptorWrite fw (0 : Fin 4096) (0 : Fin 5) (0 : Word))) fun s => s.takes (fw : Source) ((descReg 0).at [0]) = true ∧
      s.regs.rising = true ∧ (s.entry 0).state ≠ 0) ∧
    (At ((setSfm (fun f => { f with invBusy := true }) surf).turn (.surfaceValidate fw (0 : Fin 4096))) fun s => s.takes (fw : Source) (Rg.SFM_SURF_CTL.at [0]) = true ∧
      s.sfm.entries.rising = true ∧ (s.entry 0).state = 1) ∧
    (At ((setSfm (fun f => { f with invBusy := true }) surf).turn (.surfaceFree fw (0 : Fin 4096))) fun s => s.takes (fw : Source) (Rg.SFM_SURF_CTL.at [0]) = true ∧
      s.sfm.entries.rising = true ∧ (s.entry 0).state = 1 ∧ (s.entry 0).leases = 0) ∧
    (At ((setSfm (fun f => { f with invBusy := true }) surf).turn (.ptInvalidate fw)) fun s => s.takes (fw : Source) Rg.SFM_PT_INV.at = true ∧
      s.sfm.invBusy = true) ∧
    (At (setSfm (fun f => { f with invBusy := true }) surf) fun s => s.boot.held = false ∧ s.sfm.invBusy = true)
    := by and_intros <;> decide +kernel

theorem witness_Timelines :
    (At ((setSfm (fun f => { f with tl := [(3, 2 ^ 33)], tlHi := [(3, 2)] }) surf).turn (.timelineWrite fw (3 : Fin 256) (1 : Word))) fun s => s.sfm.tl.rising = true ∧
      s.sfm.streams.rising = true ∧ s.takes (fw : Source) (Rg.SFM_TL_LO.at [3]) = true ∧
      s.tlVal 3 < (s.sfm.tlHi.get 0 3 * 2 ^ 32 + (1 : Word).toNat : Nat) ∧ s.recd.state = 0) ∧
    (At ((setSfm (fun f => { f with tl := [(3, 2 ^ 33)], tlHi := [(3, 2)] }) surf).turn (.doorbell (0 : Fin 24) (1 : Fin 8) (3 : Fin 256) (0 : Nat))) fun s => s.sfm.tl.rising = true ∧
      s.sfm.streams.rising = true ∧ s.boot.held = false ∧ s.absent 7 = false ∧ s.ingress 0 = true ∧ s.posted 0 1 = [] ∧ s.held (8 * 0 + 1) = [] ∧
      s.recd.state = 0) ∧
    (At ((setSfm (fun f => { f with tl := [(3, 2 ^ 33)], tlHi := [(3, 1)] }) surf).turn (.timelineWrite fw (3 : Fin 256) (0xFFFFFFFF : Word))) fun s => s.sfm.tl.rising = true ∧
      s.sfm.streams.rising = true ∧ s.takes (fw : Source) (Rg.SFM_TL_LO.at [3]) = true ∧
      (s.sfm.tlHi.get 0 3 * 2 ^ 32 + (0xFFFFFFFF : Word).toNat : Nat) < s.tlVal 3) ∧
    (At ((setSfm (fun f => { f with tl := [(3, 2 ^ 33)], tlHi := [(3, 2)], streams := [(1, [.block 0x40000 true (List.replicate 64 1)])] }) surf).turn (.timelineWrite .firmware (0 : Fin 256) (0 : Word))) fun s => s.sfm.tl.rising = true ∧
      s.sfm.streams.rising = true ∧ s.takes .firmware (Rg.SFM_TL_LO.at [0]) = true ∧
      (s.sfm.tlHi.get 0 0 * 2 ^ 32 + (0 : Word).toNat : Nat) = s.tlVal 0) ∧
    (At ((setSfm (fun f => { f with tl := [(3, 2 ^ 33)], tlHi := [(3, 2)], streams := [(1, [.block 0x40000 true (List.replicate 64 1)])] }) surf).turn (.doorbell (0 : Fin 24) (1 : Fin 8) (0 : Fin 256) (0 : Nat))) fun s => s.sfm.tl.rising = true ∧
      s.sfm.streams.rising = true ∧ s.boot.held = false ∧ s.absent 7 = false ∧ s.ingress 0 = true ∧ s.posted 0 1 = [] ∧ s.held (8 * 0 + 1) ≠ []) ∧
    (At ((surf).turn (.doorbell (1 : Fin 24) (1 : Fin 8) (3 : Fin 256) (0 : Nat))) fun s => s.sfm.tl.rising = true ∧ s.sfm.streams.rising = true ∧
      s.boot.held = false ∧ s.absent 7 = false ∧ s.posted 1 1 = ([] : List Txn) ++ ([] : List Txn) ∧ ([] : List Txn) = [] ∧ s.ingress 1 = false) ∧
    (At ((setPort 0 { state := 4, mask := 1, accepted := [⟨2, 1, [0, 0, 0, 0, 0, 0, 1, 0], [7]⟩, ⟨5, 1, [5, 3, 1, 0, 0, 0, 0, 0], []⟩] } surf).turn (.doorbell (0 : Fin 24) (1 : Fin 8) (3 : Fin 256) (0 : Nat))) fun s => s.sfm.tl.rising = true ∧
      s.sfm.streams.rising = true ∧ s.boot.held = false ∧ s.absent 7 = false ∧ s.posted 0 1 = ((s.posted 0 1).take 1) ++ ((s.posted 0 1).drop 1) ∧
      ((s.posted 0 1).drop 1) = ((s.posted 0 1).getD 1 ⟨0, 0, [], []⟩) :: ([] : List Txn) ∧ ((s.posted 0 1).getD 1 ⟨0, 0, [], []⟩).type = 5 ∧
      (∀ y ∈ ((s.posted 0 1).take 1), y.type ≠ 5))
    := by and_intros <;> decide +kernel

theorem witness_HostWrites :
    (At ((surf.wr Rg.SFM_CTL [] 1)) fun s => s.boot.held = false ∧ s.absent 7 = false ∧ s.beforeMap = false ∧ s.inv = true ∧
      s.sfm.streams.rising = true ∧ s.recd.state = 0 ∧ 0 < (List.replicate 64 1 : List Byte).length ∧
      (List.replicate 64 1 : List Byte).length ≤ 64 ∧ s.ingress 0 = true ∧ s.posted 0 1 = [] ∧ s.unprotRefused 0 1 = false ∧
      s.held (8 * 0 + 1) = [] ∧ (0x40000 : Nat) = (0x40000 : Nat) / 64 * 64 % 2 ^ 36 ∧ (List.replicate 64 1 : List Byte).length = 64) ∧
    (At ((surf.wr Rg.SFM_CTL [] 1)) fun s => s.parks (0x40000 : Nat) 64 = true) ∧
    (At (surf) fun s => s.boot.held = false ∧ s.absent 7 = false ∧ s.beforeMap = false ∧ s.inv = true ∧ s.sfm.streams.rising = true ∧
      s.recd.state = 0 ∧ 0 < (List.replicate 64 1 : List Byte).length ∧ (List.replicate 64 1 : List Byte).length ≤ 64 ∧ s.ingress 0 = true ∧
      s.posted 0 1 = [] ∧ s.unprotRefused 0 1 = false ∧ s.held (8 * 0 + 1) = [] ∧ (0x20000 : Nat) = (0x20000 : Nat) / 64 * 64 % 2 ^ 36 ∧
      (List.replicate 64 1 : List Byte).length = 64) ∧
    (At (surf) fun s => s.parks (0x20000 : Nat) 64 = false ∧ (pteValid ((translate 0x10 ((0x20000 : Nat) / 65536 % 2 ^ 20) s).1 : Nat) = false ∨ pteHostWr ((translate 0x10 ((0x20000 : Nat) / 65536 % 2 ^ 20) s).1 : Nat) = false ∨ s.touchesReserved (ptePage ((translate 0x10 ((0x20000 : Nat) / 65536 % 2 ^ 20) s).1 : Nat) + (0x20000 : Nat) % 65536 : Nat) 64 = true)) ∧
    (At ((surf.wr Rg.SFM_CTL [] 1)) fun s => s.boot.held = false ∧ s.absent 7 = false ∧ s.beforeMap = false ∧ s.inv = true ∧
      s.sfm.streams.rising = true ∧ s.recd.state = 0 ∧ 0 < (List.replicate 3 1 : List Byte).length ∧ (List.replicate 3 1 : List Byte).length ≤ 64 ∧
      s.ingress 0 = true ∧ s.posted 0 1 = [] ∧ s.unprotRefused 0 2 = false ∧ s.held (8 * 0 + 1) = [] ∧
      (⟨6, 0, 0, 0, List.replicate 3 1⟩ : PixelTxn).data = (List.replicate 3 1 : List Byte) ∧
      s.pixelAddr ((⟨6, 0, 0, 0, List.replicate 3 1⟩ : PixelTxn).surface % 4096) ((⟨6, 0, 0, 0, List.replicate 3 1⟩ : PixelTxn).plane % 2) ((⟨6, 0, 0, 0, List.replicate 3 1⟩ : PixelTxn).line % 16384) ((⟨6, 0, 0, 0, List.replicate 3 1⟩ : PixelTxn).offset % 4096) (List.replicate 3 1 : List Byte).length = some (0x40000 : Nat)) ∧
    (At ((surf.wr Rg.SFM_CTL [] 1)) fun s => s.parks (0x40000 : Nat) (List.replicate 3 1 : List Byte).length = true) ∧
    (At (surf) fun s => s.boot.held = false ∧ s.absent 7 = false ∧ s.beforeMap = false ∧ s.inv = true ∧ s.sfm.streams.rising = true ∧
      s.recd.state = 0 ∧ 0 < (List.replicate 3 1 : List Byte).length ∧ (List.replicate 3 1 : List Byte).length ≤ 64 ∧ s.ingress 0 = true ∧
      s.posted 0 1 = [] ∧ s.unprotRefused 0 2 = false ∧ s.held (8 * 0 + 1) = [] ∧
      (⟨0, 0, 0, 0, List.replicate 3 1⟩ : PixelTxn).data = (List.replicate 3 1 : List Byte) ∧
      s.pixelAddr ((⟨0, 0, 0, 0, List.replicate 3 1⟩ : PixelTxn).surface % 4096) ((⟨0, 0, 0, 0, List.replicate 3 1⟩ : PixelTxn).plane % 2) ((⟨0, 0, 0, 0, List.replicate 3 1⟩ : PixelTxn).line % 16384) ((⟨0, 0, 0, 0, List.replicate 3 1⟩ : PixelTxn).offset % 4096) (List.replicate 3 1 : List Byte).length = some (0 : Nat)) ∧
    (At (surf) fun s => s.parks (0 : Nat) (List.replicate 3 1 : List Byte).length = false ∧
      pteValid ((translate 0x10 ((0 : Nat) / 65536 % 2 ^ 20) s).1 : Nat) = true ∧
      pteHostWr ((translate 0x10 ((0 : Nat) / 65536 % 2 ^ 20) s).1 : Nat) = true ∧
      s.touchesReserved (ptePage ((translate 0x10 ((0 : Nat) / 65536 % 2 ^ 20) s).1 : Nat) + (0 : Nat) % 65536 : Nat) (List.replicate 3 1 : List Byte).length = false ∧
      (ptePage ((translate 0x10 ((0 : Nat) / 65536 % 2 ^ 20) s).1 : Nat) + (0 : Nat) % 65536 : Nat) + (List.replicate 3 1 : List Byte).length ≤ s.capBytes) ∧
    (At (surf) fun s => s.boot.held = false ∧ s.absent 7 = false ∧ s.beforeMap = false ∧ s.inv = true ∧ s.sfm.streams.rising = true ∧
      s.recd.state = 0 ∧ 0 < (List.replicate 3 1 : List Byte).length ∧ (List.replicate 3 1 : List Byte).length ≤ 64 ∧ s.ingress 0 = true ∧
      s.posted 0 1 = [] ∧ s.unprotRefused 0 2 = false ∧ s.held (8 * 0 + 1) = [] ∧
      (⟨2, 0, 0, 0, List.replicate 3 1⟩ : PixelTxn).data = (List.replicate 3 1 : List Byte) ∧
      s.pixelAddr ((⟨2, 0, 0, 0, List.replicate 3 1⟩ : PixelTxn).surface % 4096) ((⟨2, 0, 0, 0, List.replicate 3 1⟩ : PixelTxn).plane % 2) ((⟨2, 0, 0, 0, List.replicate 3 1⟩ : PixelTxn).line % 16384) ((⟨2, 0, 0, 0, List.replicate 3 1⟩ : PixelTxn).offset % 4096) (List.replicate 3 1 : List Byte).length = some (0x10000 : Nat)) ∧
    (At (surf) fun s => s.parks (0x10000 : Nat) (List.replicate 3 1 : List Byte).length = false ∧
      (pteValid ((translate 0x10 ((0x10000 : Nat) / 65536 % 2 ^ 20) s).1 : Nat) = false ∨ pteHostWr ((translate 0x10 ((0x10000 : Nat) / 65536 % 2 ^ 20) s).1 : Nat) = false ∨ s.touchesReserved (ptePage ((translate 0x10 ((0x10000 : Nat) / 65536 % 2 ^ 20) s).1 : Nat) + (0x10000 : Nat) % 65536 : Nat) (List.replicate 3 1 : List Byte).length = true)) ∧
    (At (surf) fun s => s.boot.held = false ∧ s.absent 7 = false ∧ s.beforeMap = false ∧ s.inv = true ∧ s.sfm.streams.rising = true ∧
      s.recd.state = 0 ∧ 0 < (List.replicate 64 1 : List Byte).length ∧ (List.replicate 64 1 : List Byte).length ≤ 64 ∧ s.ingress 0 = true ∧
      s.posted 0 1 = [] ∧ s.unprotRefused 0 1 = false ∧ s.held (8 * 0 + 1) = [] ∧ (0 : Nat) = (0 : Nat) / 64 * 64 % 2 ^ 36 ∧
      (List.replicate 64 1 : List Byte).length = 64) ∧
    (At (surf) fun s => s.parks (0 : Nat) 64 = false ∧ pteValid ((translate 0x10 ((0 : Nat) / 65536 % 2 ^ 20) s).1 : Nat) = true ∧
      pteHostWr ((translate 0x10 ((0 : Nat) / 65536 % 2 ^ 20) s).1 : Nat) = true ∧
      s.touchesReserved (ptePage ((translate 0x10 ((0 : Nat) / 65536 % 2 ^ 20) s).1 : Nat) + (0 : Nat) % 65536 : Nat) 64 = false ∧
      (ptePage ((translate 0x10 ((0 : Nat) / 65536 % 2 ^ 20) s).1 : Nat) + (0 : Nat) % 65536 : Nat) + 64 ≤ s.capBytes ∧
      s.unprotRefused 0 2 = false ∧ (⟨0, 0, 8, 0, List.replicate 64 1⟩ : PixelTxn).data = (List.replicate 64 1 : List Byte) ∧
      s.pixelAddr ((⟨0, 0, 8, 0, List.replicate 64 1⟩ : PixelTxn).surface % 4096) ((⟨0, 0, 8, 0, List.replicate 64 1⟩ : PixelTxn).plane % 2) ((⟨0, 0, 8, 0, List.replicate 64 1⟩ : PixelTxn).line % 16384) ((⟨0, 0, 8, 0, List.replicate 64 1⟩ : PixelTxn).offset % 4096) (List.replicate 64 1 : List Byte).length = none) ∧
    (At (setSfm (fun f => { f with streams := [(1, [.block 0x40 true (List.replicate 64 1)])] }) surf) fun s => s.boot.held = false ∧
      s.absent 7 = false ∧ s.beforeMap = false ∧ s.inv = true ∧ s.sfm.streams.rising = true ∧ s.recd.state = 0 ∧
      0 < (List.replicate 64 1 : List Byte).length ∧ (List.replicate 64 1 : List Byte).length ≤ 64 ∧
      s.held (8 * 0 + 1) = [.block (0x40 : Nat) true (List.replicate 64 1 : List Byte)] ∧ s.parks (0x40 : Nat) 64 = false ∧
      pteValid ((translate 0x10 ((0x40 : Nat) / 65536 % 2 ^ 20) s).1 : Nat) = true ∧
      pteHostWr ((translate 0x10 ((0x40 : Nat) / 65536 % 2 ^ 20) s).1 : Nat) = true ∧
      s.touchesReserved (ptePage ((translate 0x10 ((0x40 : Nat) / 65536 % 2 ^ 20) s).1 : Nat) + (0x40 : Nat) % 65536 : Nat) (List.replicate 64 1 : List Byte).length = false ∧
      (ptePage ((translate 0x10 ((0x40 : Nat) / 65536 % 2 ^ 20) s).1 : Nat) + (0x40 : Nat) % 65536 : Nat) + (List.replicate 64 1 : List Byte).length ≤ s.capBytes) ∧
    (At (setSfm (fun f => { f with streams := [(1, [.block 0x40000 true (List.replicate 64 1), .free 1])] }) (surf.wr Rg.SFM_CTL [] 1)) fun s => s.boot.held = false ∧
      s.absent 7 = false ∧ s.beforeMap = false ∧ s.inv = true ∧ s.sfm.streams.rising = true ∧ s.recd.state = 0 ∧
      0 < (List.replicate 64 1 : List Byte).length ∧ (List.replicate 64 1 : List Byte).length ≤ 64 ∧
      s.held (8 * 0 + 1) = .block (0x40000 : Nat) true (List.replicate 64 1 : List Byte) :: ([.free 1] : List HostOp) ∧
      s.parks (0x40000 : Nat) 64 = true) ∧
    (At (surf) fun s => s.boot.held = false ∧ s.absent 7 = false ∧ s.beforeMap = false ∧ s.inv = true ∧ s.sfm.streams.rising = true ∧
      s.recd.state = 0 ∧ 0 < (List.replicate 64 1 : List Byte).length ∧ (List.replicate 64 1 : List Byte).length ≤ 64 ∧
      s.posted 1 1 = ([] : List Txn) ++ ([] : List Txn) ∧ ([] : List Txn) = [] ∧ s.ingress 1 = false) ∧
    (At (setPort 0 { state := 4, mask := 1, accepted := [⟨2, 1, [0, 0, 0, 0, 0, 0, 1, 0], [7]⟩, ⟨1, 1, [5, 3, 1, 0, 0, 0, 0, 0], List.replicate 64 1⟩] } surf) fun s => s.boot.held = false ∧
      s.absent 7 = false ∧ s.beforeMap = false ∧ s.inv = true ∧ s.sfm.streams.rising = true ∧ s.recd.state = 0 ∧
      0 < (List.replicate 64 1 : List Byte).length ∧ (List.replicate 64 1 : List Byte).length ≤ 64 ∧
      s.posted 0 1 = ((s.posted 0 1).take 1) ++ ((s.posted 0 1).drop 1) ∧
      ((s.posted 0 1).drop 1) = ((s.posted 0 1).getD 1 ⟨0, 0, [], []⟩) :: ([] : List Txn) ∧ ((s.posted 0 1).getD 1 ⟨0, 0, [], []⟩).type = 1 ∧
      (∀ y ∈ ((s.posted 0 1).take 1), y.type ≠ 1)) ∧
    (At (setPort 0 { state := 4, mask := 1, accepted := [⟨1, 1, [1, 0, 0, 0, 1, 0, 0, 0], List.replicate 64 1⟩, ⟨2, 1, [0, 0, 0, 0, 0, 0, 1, 0], [7]⟩] } surf) fun s => s.boot.held = false ∧
      s.absent 7 = false ∧ s.beforeMap = false ∧ s.inv = true ∧ s.sfm.streams.rising = true ∧ s.recd.state = 0 ∧
      0 < (List.replicate 64 1 : List Byte).length ∧ (List.replicate 64 1 : List Byte).length ≤ 64 ∧
      s.posted 0 1 = ((s.posted 0 1).take 1) ++ ((s.posted 0 1).drop 1) ∧
      ((s.posted 0 1).drop 1) = ((s.posted 0 1).getD 1 ⟨0, 0, [], []⟩) :: ([] : List Txn) ∧ ((s.posted 0 1).getD 1 ⟨0, 0, [], []⟩).type = 2 ∧
      (∀ y ∈ ((s.posted 0 1).take 1), y.type ≠ 2)) ∧
    (At (surf.wr Rg.LNK_P_CTL [0] 1) fun s => s.boot.held = false ∧ s.absent 7 = false ∧ s.beforeMap = false ∧ s.inv = true ∧
      s.sfm.streams.rising = true ∧ s.recd.state = 0 ∧ 0 < (List.replicate 64 1 : List Byte).length ∧
      (List.replicate 64 1 : List Byte).length ≤ 64 ∧ s.posted 0 1 = ([] : List Txn) ++ ([] : List Txn) ∧ ([] : List Txn) = [] ∧
      s.unprotRefused 0 1 = true ∧ s.unprotRefused 0 2 = true)
    := by and_intros <;> decide +kernel

theorem witness_FetchFaults :
    (At (surf) fun s => s.boot.held = false ∧ s.inv = true ∧ (s.hd 0).cur = none) ∧
    (At (setHead 0 { state := 4, cur := some { num := 3, shows := [{ mode := 1, regs := [(Rg.CMP_L_CTL.at [0, 0], 1), (Rg.CMP_L_SURF.at [0, 0], 5)] }] } } surf) fun s => s.boot.held = false ∧
      s.inv = true ∧ ((s.hd 0).cur).isSome = true ∧ (((((s.hd 0).cur).getD ({} : Frame)).shows.getD 0 {}).surface? 0 0).isSome = true ∧
      ((((s.hd 0).cur).getD ({} : Frame)).shows.getD 0 {}).fault = none ∧ (((s.hd 0).cur).getD ({} : Frame)).aborted = false ∧
      pteValid (translate 0 ((0 : Nat) % 2 ^ 20) s).1 = true) ∧
    (At (setHead 0 { state := 4, cur := some { num := 3, shows := [{ mode := 1, regs := [(Rg.CMP_L_CTL.at [0, 0], 1), (Rg.CMP_L_SURF.at [0, 0], 5)] }], aborted := true } } surf) fun s => s.boot.held = false ∧
      s.inv = true ∧ ((s.hd 0).cur).isSome = true ∧ (((((s.hd 0).cur).getD ({} : Frame)).shows.getD 0 {}).surface? 0 0 = none ∨ ((((s.hd 0).cur).getD ({} : Frame)).shows.getD 0 {}).fault.isSome = true ∨ (((s.hd 0).cur).getD ({} : Frame)).aborted = true)) ∧
    (At (setHead 0 { state := 4, cur := some { num := 3, shows := [{ mode := 1, regs := [(Rg.CMP_L_CTL.at [0, 0], 1), (Rg.CMP_L_SURF.at [0, 0], 5)] }] } } surf) fun s => s.boot.held = false ∧
      s.inv = true ∧ ((s.hd 0).cur).isSome = true ∧ (((((s.hd 0).cur).getD ({} : Frame)).shows.getD 0 {}).surface? 0 0).isSome = true ∧
      ((((s.hd 0).cur).getD ({} : Frame)).shows.getD 0 {}).fault = none ∧ (((s.hd 0).cur).getD ({} : Frame)).aborted = false ∧
      pteValid (translate 0 ((5 : Nat) % 2 ^ 20) s).1 = false)
    := by and_intros <;> decide +kernel

theorem witness_CulvertAccess :
    (At ((rdy).turn (.culvertWrite (0 : Fin 24) (0 : Fin 4) (⟨0, 3, 3, 0x200104, 1, [5]⟩ : CulvertReq))) fun s => s.boot.held = false ∧
      (s.cfg.port? 0).isSome = true ∧ (s.port 0).accepted.find? (fun z => z.type == 3 && z.stream == 0) = none ∧
      ((⟨0, 3, 3, 0x200104, 1, [5]⟩ : CulvertReq).be ≠ 0xF ∨ (⟨0, 3, 3, 0x200104, 1, [5]⟩ : CulvertReq).addr % 4 ≠ 0)) ∧
    (At ((rdy).turn (.culvertRead (0 : Fin 24) (0 : Fin 4) (⟨0, 3, 3, 0x200104, 1, [5]⟩ : CulvertReq))) fun s => s.boot.held = false ∧
      (s.cfg.port? 0).isSome = true ∧ (s.port 0).accepted.find? (fun z => z.type == 3 && z.stream == 0) = none ∧
      ((⟨0, 3, 3, 0x200104, 1, [5]⟩ : CulvertReq).be ≠ 0xF ∨ (⟨0, 3, 3, 0x200104, 1, [5]⟩ : CulvertReq).addr % 4 ≠ 0)) ∧
    (At ((rdy).turn (.culvertWrite (0 : Fin 24) (0 : Fin 4) (⟨0, 15, 3, 0xFFFFFC, 2, [5, 6]⟩ : CulvertReq))) fun s => s.boot.held = false ∧
      (s.cfg.port? 0).isSome = true ∧ (s.port 0).accepted.find? (fun z => z.type == 3 && z.stream == 0) = none ∧
      (⟨0, 15, 3, 0xFFFFFC, 2, [5, 6]⟩ : CulvertReq).be = 0xF ∧ (⟨0, 15, 3, 0xFFFFFC, 2, [5, 6]⟩ : CulvertReq).addr % 4 = 0 ∧
      0 < (⟨0, 15, 3, 0xFFFFFC, 2, [5, 6]⟩ : CulvertReq).count ∧
      0x1000000 < (⟨0, 15, 3, 0xFFFFFC, 2, [5, 6]⟩ : CulvertReq).addr + 4 * (⟨0, 15, 3, 0xFFFFFC, 2, [5, 6]⟩ : CulvertReq).count) ∧
    (At ((rdy).turn (.culvertRead (0 : Fin 24) (0 : Fin 4) (⟨0, 15, 3, 0xFFFFFC, 2, [5, 6]⟩ : CulvertReq))) fun s => s.boot.held = false ∧
      (s.cfg.port? 0).isSome = true ∧ (s.port 0).accepted.find? (fun z => z.type == 3 && z.stream == 0) = none ∧
      (⟨0, 15, 3, 0xFFFFFC, 2, [5, 6]⟩ : CulvertReq).be = 0xF ∧ (⟨0, 15, 3, 0xFFFFFC, 2, [5, 6]⟩ : CulvertReq).addr % 4 = 0 ∧
      0 < (⟨0, 15, 3, 0xFFFFFC, 2, [5, 6]⟩ : CulvertReq).count ∧
      0x1000000 < (⟨0, 15, 3, 0xFFFFFC, 2, [5, 6]⟩ : CulvertReq).addr + 4 * (⟨0, 15, 3, 0xFFFFFC, 2, [5, 6]⟩ : CulvertReq).count) ∧
    (At (((setSec { rdy.sec with lock := true } rdy).wr Rg.SEC_LOCK [] 1).turn (.culvertWrite (0 : Fin 24) (0 : Fin 4) (⟨0, 15, 3, Rg.SEC_KEY_CMD.at, 1, [5]⟩ : CulvertReq))) fun s => s.boot.held = false ∧
      (s.cfg.port? 0).isSome = true ∧ (s.port 0).accepted.find? (fun z => z.type == 3 && z.stream == 0) = none ∧
      (⟨0, 15, 3, Rg.SEC_KEY_CMD.at, 1, [5]⟩ : CulvertReq).be = 0xF ∧ (⟨0, 15, 3, Rg.SEC_KEY_CMD.at, 1, [5]⟩ : CulvertReq).addr % 4 = 0 ∧
      (⟨0, 15, 3, Rg.SEC_KEY_CMD.at, 1, [5]⟩ : CulvertReq).addr + 4 * (⟨0, 15, 3, Rg.SEC_KEY_CMD.at, 1, [5]⟩ : CulvertReq).count ≤ 0x1000000 ∧
      (∃ i ∈ List.range ((⟨0, 15, 3, Rg.SEC_KEY_CMD.at, 1, [5]⟩ : CulvertReq).count), s.denied (culvertSource (0 : Fin 24) (0 : Fin 4)) ((⟨0, 15, 3, Rg.SEC_KEY_CMD.at, 1, [5]⟩ : CulvertReq).addr + 4 * i) = true)) ∧
    (At ((rdy).turn (.culvertWrite (0 : Fin 24) (0 : Fin 4) (⟨0, 15, 3, 0xFFFFFC, 1, [5]⟩ : CulvertReq))) fun s => s.boot.held = false ∧
      (s.cfg.port? 0).isSome = true ∧ (s.port 0).accepted.find? (fun z => z.type == 3 && z.stream == 0) = none ∧
      (⟨0, 15, 3, 0xFFFFFC, 1, [5]⟩ : CulvertReq).be = 0xF ∧ (⟨0, 15, 3, 0xFFFFFC, 1, [5]⟩ : CulvertReq).addr % 4 = 0 ∧
      (⟨0, 15, 3, 0xFFFFFC, 1, [5]⟩ : CulvertReq).addr + 4 * (⟨0, 15, 3, 0xFFFFFC, 1, [5]⟩ : CulvertReq).count ≤ 0x1000000 ∧
      (∀ i ∈ List.range ((⟨0, 15, 3, 0xFFFFFC, 1, [5]⟩ : CulvertReq).count), s.denied (culvertSource (0 : Fin 24) (0 : Fin 4)) ((⟨0, 15, 3, 0xFFFFFC, 1, [5]⟩ : CulvertReq).addr + 4 * i) = false) ∧
      (⟨0, 15, 3, 0xFFFFFC, 1, [5]⟩ : CulvertReq).words.length = (⟨0, 15, 3, 0xFFFFFC, 1, [5]⟩ : CulvertReq).count) ∧
    (At ((rdy).turn (.registerWrite (culvertSource (0 : Fin 24) (0 : Fin 4)) 0xF (⟨0, 15, 3, 0xFFFFFC, 1, [5]⟩ : CulvertReq).addr (5 : Word))) fun s => s.boot.held = false ∧
      (s.cfg.port? 0).isSome = true ∧ (⟨0, 15, 3, 0xFFFFFC, 1, [5]⟩ : CulvertReq).be = 0xF ∧
      (⟨0, 15, 3, 0xFFFFFC, 1, [5]⟩ : CulvertReq).addr % 4 = 0 ∧
      (⟨0, 15, 3, 0xFFFFFC, 1, [5]⟩ : CulvertReq).addr + 4 * (⟨0, 15, 3, 0xFFFFFC, 1, [5]⟩ : CulvertReq).count ≤ 0x1000000 ∧
      (∀ i ∈ List.range ((⟨0, 15, 3, 0xFFFFFC, 1, [5]⟩ : CulvertReq).count), s.denied (culvertSource (0 : Fin 24) (0 : Fin 4)) ((⟨0, 15, 3, 0xFFFFFC, 1, [5]⟩ : CulvertReq).addr + 4 * i) = false) ∧
      (⟨0, 15, 3, 0xFFFFFC, 1, [5]⟩ : CulvertReq).words = [(5 : Word)] ∧ (⟨0, 15, 3, 0xFFFFFC, 1, [5]⟩ : CulvertReq).count = 1) ∧
    (At ((rdy).turn (.culvertRead (0 : Fin 24) (0 : Fin 4) (⟨0, 15, 3, 0xFFFFFC, 1, [5]⟩ : CulvertReq))) fun s => s.boot.held = false ∧
      (s.cfg.port? 0).isSome = true ∧ (s.port 0).accepted.find? (fun z => z.type == 3 && z.stream == 0) = none ∧
      (⟨0, 15, 3, 0xFFFFFC, 1, [5]⟩ : CulvertReq).be = 0xF ∧ (⟨0, 15, 3, 0xFFFFFC, 1, [5]⟩ : CulvertReq).addr % 4 = 0 ∧
      (⟨0, 15, 3, 0xFFFFFC, 1, [5]⟩ : CulvertReq).addr + 4 * (⟨0, 15, 3, 0xFFFFFC, 1, [5]⟩ : CulvertReq).count ≤ 0x1000000 ∧
      (((⟨0, 15, 3, 0xFFFFFC, 1, [5]⟩ : CulvertReq).op ≠ 1 ∧ (⟨0, 15, 3, 0xFFFFFC, 1, [5]⟩ : CulvertReq).op ≠ 2) ∨ (⟨0, 15, 3, 0xFFFFFC, 1, [5]⟩ : CulvertReq).words ≠ [])) ∧
    (At ((rdy).turn (.culvertWrite (0 : Fin 24) (0 : Fin 4) (⟨1, 15, 3, 0xFFFFFC, 1, []⟩ : CulvertReq))) fun s => s.boot.held = false ∧
      (s.cfg.port? 0).isSome = true ∧ (s.port 0).accepted.find? (fun z => z.type == 3 && z.stream == 0) = none ∧
      (⟨1, 15, 3, 0xFFFFFC, 1, []⟩ : CulvertReq).be = 0xF ∧ (⟨1, 15, 3, 0xFFFFFC, 1, []⟩ : CulvertReq).addr % 4 = 0 ∧
      (⟨1, 15, 3, 0xFFFFFC, 1, []⟩ : CulvertReq).addr + 4 * (⟨1, 15, 3, 0xFFFFFC, 1, []⟩ : CulvertReq).count ≤ 0x1000000 ∧
      (∀ i ∈ List.range ((⟨1, 15, 3, 0xFFFFFC, 1, []⟩ : CulvertReq).count), s.denied (culvertSource (0 : Fin 24) (0 : Fin 4)) ((⟨1, 15, 3, 0xFFFFFC, 1, []⟩ : CulvertReq).addr + 4 * i) = false) ∧
      (⟨1, 15, 3, 0xFFFFFC, 1, []⟩ : CulvertReq).words.length ≠ (⟨1, 15, 3, 0xFFFFFC, 1, []⟩ : CulvertReq).count) ∧
    (At ((rdy).turn (.culvertRead (0 : Fin 24) (0 : Fin 4) (⟨1, 15, 3, 0xFFFFFC, 1, []⟩ : CulvertReq))) fun s => s.boot.held = false ∧
      (s.cfg.port? 0).isSome = true ∧ (s.port 0).accepted.find? (fun z => z.type == 3 && z.stream == 0) = none ∧
      (⟨1, 15, 3, 0xFFFFFC, 1, []⟩ : CulvertReq).be = 0xF ∧ (⟨1, 15, 3, 0xFFFFFC, 1, []⟩ : CulvertReq).addr % 4 = 0 ∧
      (⟨1, 15, 3, 0xFFFFFC, 1, []⟩ : CulvertReq).addr + 4 * (⟨1, 15, 3, 0xFFFFFC, 1, []⟩ : CulvertReq).count ≤ 0x1000000 ∧
      ((⟨1, 15, 3, 0xFFFFFC, 1, []⟩ : CulvertReq).op = 1 ∨ (⟨1, 15, 3, 0xFFFFFC, 1, []⟩ : CulvertReq).op = 2) ∧
      (⟨1, 15, 3, 0xFFFFFC, 1, []⟩ : CulvertReq).words = []) ∧
    (At ((setPort 0 { state := 4, mask := 1, accepted := [⟨3, 0, [1, 15, 3, 0, 2, 0, 0, 0], []⟩] } rdy).turn (.culvertWrite (0 : Fin 24) (0 : Fin 4) (⟨0, 15, 3, 0, 1, []⟩ : CulvertReq))) fun s => s.boot.held = false ∧
      (s.cfg.port? 0).isSome = true ∧ ((s.port 0).accepted.find? (fun z => z.type == 3 && z.stream == 0)).isSome = true ∧
      ((freeTxn 0 (((s.port 0).accepted.find? (fun z => z.type == 3 && z.stream == 0)).getD (⟨0, 0, [], []⟩ : Txn)) (s.modPort 0 fun y => { y with accepted := y.accepted.erase (((s.port 0).accepted.find? (fun z => z.type == 3 && z.stream == 0)).getD (⟨0, 0, [], []⟩ : Txn)) }) : State).culvertStatus (culvertSource (0 : Fin 24) (0 : Fin 4)) (culvertReqOf (((s.port 0).accepted.find? (fun z => z.type == 3 && z.stream == 0)).getD (⟨0, 0, [], []⟩ : Txn)) : CulvertReq) : Nat) ≠ 0) ∧
    (At ((setPort 0 { state := 4, mask := 1, accepted := [⟨3, 0, [1, 15, 3, 0, 2, 0, 0, 0], []⟩] } rdy).turn (.culvertRead (0 : Fin 24) (0 : Fin 4) (⟨0, 15, 3, 0, 1, []⟩ : CulvertReq))) fun s => s.boot.held = false ∧
      (s.cfg.port? 0).isSome = true ∧ ((s.port 0).accepted.find? (fun z => z.type == 3 && z.stream == 0)).isSome = true ∧
      ((freeTxn 0 (((s.port 0).accepted.find? (fun z => z.type == 3 && z.stream == 0)).getD (⟨0, 0, [], []⟩ : Txn)) (s.modPort 0 fun y => { y with accepted := y.accepted.erase (((s.port 0).accepted.find? (fun z => z.type == 3 && z.stream == 0)).getD (⟨0, 0, [], []⟩ : Txn)) }) : State).culvertStatus (culvertSource (0 : Fin 24) (0 : Fin 4)) (culvertReqOf (((s.port 0).accepted.find? (fun z => z.type == 3 && z.stream == 0)).getD (⟨0, 0, [], []⟩ : Txn)) : CulvertReq) : Nat) ≠ 0) ∧
    (At ((setPort 0 { state := 4, mask := 1, accepted := [⟨3, 0, [1, 15, 3, 0, 0xFC, 0xFF, 0xFF, 0], []⟩] } rdy).turn (.culvertWrite (0 : Fin 24) (0 : Fin 4) (⟨0, 15, 3, 0, 1, []⟩ : CulvertReq))) fun s => s.boot.held = false ∧
      (s.cfg.port? 0).isSome = true ∧ ((s.port 0).accepted.find? (fun z => z.type == 3 && z.stream == 0)).isSome = true ∧
      ((freeTxn 0 (((s.port 0).accepted.find? (fun z => z.type == 3 && z.stream == 0)).getD (⟨0, 0, [], []⟩ : Txn)) (s.modPort 0 fun y => { y with accepted := y.accepted.erase (((s.port 0).accepted.find? (fun z => z.type == 3 && z.stream == 0)).getD (⟨0, 0, [], []⟩ : Txn)) }) : State).culvertStatus (culvertSource (0 : Fin 24) (0 : Fin 4)) (culvertReqOf (((s.port 0).accepted.find? (fun z => z.type == 3 && z.stream == 0)).getD (⟨0, 0, [], []⟩ : Txn)) : CulvertReq) : Nat) = 0 ∧
      (culvertReqOf (((s.port 0).accepted.find? (fun z => z.type == 3 && z.stream == 0)).getD (⟨0, 0, [], []⟩ : Txn)) : CulvertReq).op = 1) ∧
    (At ((setPort 0 { state := 4, mask := 1, accepted := [⟨3, 0, [1, 15, 3, 0, 0xFC, 0xFF, 0xFF, 0], []⟩] } rdy).turn (.culvertRead (0 : Fin 24) (0 : Fin 4) (⟨0, 15, 3, 0, 1, []⟩ : CulvertReq))) fun s => s.boot.held = false ∧
      (s.cfg.port? 0).isSome = true ∧ ((s.port 0).accepted.find? (fun z => z.type == 3 && z.stream == 0)).isSome = true ∧
      ((freeTxn 0 (((s.port 0).accepted.find? (fun z => z.type == 3 && z.stream == 0)).getD (⟨0, 0, [], []⟩ : Txn)) (s.modPort 0 fun y => { y with accepted := y.accepted.erase (((s.port 0).accepted.find? (fun z => z.type == 3 && z.stream == 0)).getD (⟨0, 0, [], []⟩ : Txn)) }) : State).culvertStatus (culvertSource (0 : Fin 24) (0 : Fin 4)) (culvertReqOf (((s.port 0).accepted.find? (fun z => z.type == 3 && z.stream == 0)).getD (⟨0, 0, [], []⟩ : Txn)) : CulvertReq) : Nat) = 0 ∧
      (culvertReqOf (((s.port 0).accepted.find? (fun z => z.type == 3 && z.stream == 0)).getD (⟨0, 0, [], []⟩ : Txn)) : CulvertReq).op = 1) ∧
    (At ((setPort 0 { state := 4, mask := 1, accepted := [⟨3, 0, [2, 15, 3, 0, 4, 1, 0x30, 0], [5, 0, 0, 0, 0, 0, 0, 0]⟩] } rdy).turn (.culvertWrite (0 : Fin 24) (0 : Fin 4) (⟨0, 15, 3, 0, 1, []⟩ : CulvertReq))) fun s => s.boot.held = false ∧
      (s.cfg.port? 0).isSome = true ∧ ((s.port 0).accepted.find? (fun z => z.type == 3 && z.stream == 0)).isSome = true ∧
      ((freeTxn 0 (((s.port 0).accepted.find? (fun z => z.type == 3 && z.stream == 0)).getD (⟨0, 0, [], []⟩ : Txn)) (s.modPort 0 fun y => { y with accepted := y.accepted.erase (((s.port 0).accepted.find? (fun z => z.type == 3 && z.stream == 0)).getD (⟨0, 0, [], []⟩ : Txn)) }) : State).culvertStatus (culvertSource (0 : Fin 24) (0 : Fin 4)) (culvertReqOf (((s.port 0).accepted.find? (fun z => z.type == 3 && z.stream == 0)).getD (⟨0, 0, [], []⟩ : Txn)) : CulvertReq) : Nat) = 0 ∧
      (culvertReqOf (((s.port 0).accepted.find? (fun z => z.type == 3 && z.stream == 0)).getD (⟨0, 0, [], []⟩ : Txn)) : CulvertReq).op = 2) ∧
    (At ((setPort 0 { state := 4, mask := 1, accepted := [⟨3, 0, [2, 15, 3, 0, 4, 1, 0x30, 0], [5, 0, 0, 0, 0, 0, 0, 0]⟩] } rdy).turn (.culvertRead (0 : Fin 24) (0 : Fin 4) (⟨0, 15, 3, 0, 1, []⟩ : CulvertReq))) fun s => s.boot.held = false ∧
      (s.cfg.port? 0).isSome = true ∧ ((s.port 0).accepted.find? (fun z => z.type == 3 && z.stream == 0)).isSome = true ∧
      ((freeTxn 0 (((s.port 0).accepted.find? (fun z => z.type == 3 && z.stream == 0)).getD (⟨0, 0, [], []⟩ : Txn)) (s.modPort 0 fun y => { y with accepted := y.accepted.erase (((s.port 0).accepted.find? (fun z => z.type == 3 && z.stream == 0)).getD (⟨0, 0, [], []⟩ : Txn)) }) : State).culvertStatus (culvertSource (0 : Fin 24) (0 : Fin 4)) (culvertReqOf (((s.port 0).accepted.find? (fun z => z.type == 3 && z.stream == 0)).getD (⟨0, 0, [], []⟩ : Txn)) : CulvertReq) : Nat) = 0 ∧
      (culvertReqOf (((s.port 0).accepted.find? (fun z => z.type == 3 && z.stream == 0)).getD (⟨0, 0, [], []⟩ : Txn)) : CulvertReq).op = 2) ∧
    (At ((rdy).turn (.culvertRead (7 : Fin 24) (0 : Fin 4) (⟨0, 15, 3, 0, 1, []⟩ : CulvertReq))) fun s => s.boot.held = false ∧
      s.cfg.port? 7 = none) ∧
    (At ((rdy).turn (.culvertWrite (7 : Fin 24) (0 : Fin 4) (⟨0, 15, 3, 0, 1, []⟩ : CulvertReq))) fun s => s.boot.held = false ∧ s.cfg.port? 7 = none)
    := by and_intros <;> decide +kernel

theorem witness_HeadStates :
    (At ((both).turn (.headEnable fw (1 : Fin 4) (0 : Word))) fun s => s.inv = true ∧ s.takes (fw : Source) (Rg.TGN_H_CTL.at [1]) = true ∧
      s.boot.stage = 5 ∧ (s.hd 1).state = 1 ∧ s.timingOk (s.forceOf 1) 1 true = true ∧
      (s.panel 1 = true → s.cfg.inst 14 = true → s.pnlCheck (s.forceOf 1) 1 = none)) ∧
    (At ((rdy).turn (.headEnable fw (0 : Fin 4) (0 : Word))) fun s => s.inv = true ∧ s.takes (fw : Source) (Rg.TGN_H_CTL.at [0]) = true ∧
      s.boot.stage = 5 ∧ (s.hd 0).state = 1 ∧ s.timingOk (s.forceOf 0) 0 true = false) ∧
    (At ((granted 3 1 (setHead 1 { state := 2 } (both))).turn (.headDisable .firmware (1 : Fin 4) (0 : Word))) fun s => s.inv = true ∧
      s.takes .firmware (Rg.TGN_H_CTL.at [1]) = true ∧ (s.hd 1).state = 2) ∧
    (At ((granted 3 1 (setHead 1 { state := 2 } (both))).turn (.headGrant (1 : Fin 4))) fun s => s.inv = true ∧ s.boot.held = false ∧
      (s.hd 1).state = 2 ∧ (takeGrant 3 1 s).isSome = true) ∧
    (At (turnedDown 3 1 4 (setHead 1 { state := 2 } (both))) fun s => s.inv = true ∧ s.boot.held = false ∧ (s.hd 1).state = 2 ∧
      (takeRefusal 3 1 s).isSome = true) ∧
    (At ((setHead 0 { state := 5, stopped := true } (both)).turn (.headDisable .firmware (0 : Fin 4) (0 : Word))) fun s => s.inv = true ∧
      s.takes .firmware (Rg.TGN_H_CTL.at [0]) = true ∧ (s.hd 0).state ≠ 2) ∧
    (At ((setHead 0 { state := 5, stopped := true } (both)).turn (.headStopComplete (0 : Fin 4))) fun s => s.inv = true ∧ s.boot.held = false ∧
      s.replaying 0 = false ∧ (s.hd 0).state = 5 ∧ (s.hd 0).stopped = true ∧ (s.hd 0).past = [] ∧ s.mirror 0 = true)
    := by and_intros <;> decide +kernel

theorem witness_Commits :
    (At ((setHead 1 { state := 4, pend := [{ seq := 0, words := timing 1, retEn := true, retTl := 2, retVal := 5, target := 3, late := false, trans := false, reacq := false }, { seq := 1, words := timing 1, retEn := true, retTl := 2, retVal := 5, target := 3, late := false, trans := false, reacq := false }, { seq := 2, words := timing 1, retEn := true, retTl := 2, retVal := 5, target := 3, late := false, trans := false, reacq := false }, { seq := 3, words := timing 1, retEn := true, retTl := 2, retVal := 5, target := 3, late := false, trans := false, reacq := false }] } (both)).turn (.commitSubmit fw (1 : Fin 4) (0x103 : Word))) fun s => s.inv = true ∧
      s.sfm.tl.rising = true ∧ s.takes (fw : Source) (Rg.TGN_H_COMMIT.at [1]) = true ∧
      (commitChecks (s.capture 1) 1 ((bit (setBit (0x103 : Word) 31 true) 9 || diffT (s.capture 1) (s.reference 1)) : Bool) (recReg (fw : Source) (Rg.TGN_H_COMMIT.at [1]) (setBit (0x103 : Word) 31 true) s : State)).1 ≠ 0 ∧
      4 ≤ (s.hd 1).pend.length) ∧
    (At ((setHead 1 { state := 5 } (both)).turn (.commitSubmit fw (1 : Fin 4) (0x203 : Word))) fun s => s.inv = true ∧ s.sfm.tl.rising = true ∧
      s.takes (fw : Source) (Rg.TGN_H_COMMIT.at [1]) = true ∧ (commitChecks (s.capture 1) 1 ((bit (setBit (0x203 : Word) 31 true) 9 || diffT (s.capture 1) (s.reference 1)) : Bool) (recReg (fw : Source) (Rg.TGN_H_COMMIT.at [1]) (setBit (0x203 : Word) 31 true) s : State)).1 ≠ 0 ∧
      (s.hd 1).pend.length < 4 ∧ ((s.hd 1).state = 0 ∨ (s.hd 1).state = 5)) ∧
    (At ((setHead 1 { state := 4 } (both)).turn (.commitSubmit fw (1 : Fin 4) (0x103 : Word))) fun s => s.inv = true ∧ s.sfm.tl.rising = true ∧
      s.takes (fw : Source) (Rg.TGN_H_COMMIT.at [1]) = true ∧ (commitChecks (s.capture 1) 1 ((bit (setBit (0x103 : Word) 31 true) 9 || diffT (s.capture 1) (s.reference 1)) : Bool) (recReg (fw : Source) (Rg.TGN_H_COMMIT.at [1]) (setBit (0x103 : Word) 31 true) s : State)).1 = 0 ∧
      (s.hd 1).state ≠ 1) ∧
    (At ((both).turn (.commitSubmit fw (1 : Fin 4) (0x103 : Word))) fun s => s.inv = true ∧ s.sfm.tl.rising = true ∧
      s.takes (fw : Source) (Rg.TGN_H_COMMIT.at [1]) = true ∧ (commitChecks (s.capture 1) 1 ((bit (setBit (0x103 : Word) 31 true) 9 || diffT (s.capture 1) (s.reference 1)) : Bool) (recReg (fw : Source) (Rg.TGN_H_COMMIT.at [1]) (setBit (0x103 : Word) 31 true) s : State)).1 = 0 ∧
      (s.hd 1).state = 1 ∧ bit (setBit (0x103 : Word) 31 true) 8 = true)
    := by and_intros <;> decide +kernel

theorem witness_FrameBoundaries :
    (At ((setHead 1 { state := 4, holdLeft := 1, pend := [], cur := some { num := 3, leases := [0], rets := [(2, 7)] }, past := [{ num := 1, leases := [0], rets := [(2, 7)] }] } (both)).turn (.frameBoundary (1 : Fin 4))) fun s => s.boot.held = false ∧
      s.inv = true ∧ s.replaying 1 = false ∧ 3 ≤ (s.hd 1).state ∧ (s.hd 1).state ≤ 5 ∧ ((s.hd 1).state = 4 ∨ (s.hd 1).state = 3 ∧
      (s.hd 1).holdLeft ≤ 1) ∧ ((s.hd 1).pend.any fun c => decide (c.target ≤ (min cntMax ((s.cnt (Rg.TGN_H_FRAME.at [1])).val + 1) : Nat)) && c.trans && !c.moved) = false) ∧
    (At ((setHead 1 { state := 4, holdLeft := 1, pend := [], cur := some { num := 3, leases := [0], rets := [(2, 7)] }, past := [{ num := 1, leases := [0], rets := [(2, 7)] }] } (both)).turn (.holdEnd (1 : Fin 4))) fun s => s.boot.held = false ∧
      s.inv = true ∧ ((s.hd 1).state ≠ 3 ∨ 1 < (s.hd 1).holdLeft)) ∧
    (At ((setHead 1 { state := 4, holdLeft := 1, pend := [], cur := some { num := 3, leases := [0], rets := [(2, 7)] }, past := [{ num := 1, leases := [0], rets := [(2, 7)] }] } (both)).turn (.frameRetire (1 : Fin 4))) fun s => s.boot.held = false ∧
      s.inv = true ∧ (s.hd 1).past ≠ [] ∧ (s.hd 1).state ≠ 3 ∧ s.sfm.tl.rising = true ∧ s.sfm.entries.rising = true ∧ s.replaying 1 = false ∧
      (((s.hd 1).past).headD {}).rets ≠ [] ∧ s.fd Rg.TGN_H_CTL [1] 8 8 = 1) ∧
    (At ((setHead 1 { state := 4, holdLeft := 1, pend := [{ seq := 0, words := timing 1, retEn := true, retTl := 2, retVal := 5, target := 1, late := false, trans := true, reacq := false, moved := false }], cur := some { num := 3, leases := [0], rets := [(2, 7)] }, past := [] } (both)).turn (.frameBoundary (1 : Fin 4))) fun s => s.boot.held = false ∧
      s.inv = true ∧ s.replaying 1 = false ∧ 3 ≤ (s.hd 1).state ∧ (s.hd 1).state ≤ 5 ∧ (s.hd 1).state ≠ 5 ∧
      ((s.hd 1).pend.any fun c => decide (c.target ≤ (min cntMax ((s.cnt (Rg.TGN_H_FRAME.at [1])).val + 1) : Nat)) && c.trans && !c.moved) = true) ∧
    (At ((setHead 1 { state := 4, holdLeft := 1, pend := [{ seq := 0, words := timing 1, retEn := true, retTl := 2, retVal := 5, target := 1, late := false, trans := true, reacq := false, moved := false }], cur := some { num := 3, leases := [0], rets := [(2, 7)] }, past := [] } (both)).turn (.frameRetire (1 : Fin 4))) fun s => s.boot.held = false ∧
      s.inv = true ∧ ((s.hd 1).past = [] ∨ (s.hd 1).state = 3)) ∧
    (At ((setHead 1 { state := 3, holdLeft := 1, pend := [], cur := some { num := 3, leases := [0], rets := [(2, 7)] }, past := [] } (both)).turn (.holdEnd (1 : Fin 4))) fun s => s.boot.held = false ∧
      s.inv = true ∧ (s.hd 1).state = 3 ∧ (s.hd 1).holdLeft ≤ 1 ∧ s.replaying 1 = false ∧
      ((s.hd 1).pend.any fun c => decide (c.target ≤ (min cntMax ((s.cnt (Rg.TGN_H_FRAME.at [1])).val + 1) : Nat)) && c.trans && !c.moved) = false) ∧
    (At ((setHead 1 { state := 3, holdLeft := 2, pend := [], cur := some { num := 3, leases := [0], rets := [(2, 7)] }, past := [] } (both)).turn (.frameBoundary (1 : Fin 4))) fun s => s.boot.held = false ∧
      s.inv = true ∧ s.replaying 1 = false ∧ 3 ≤ (s.hd 1).state ∧ (s.hd 1).state ≤ 5 ∧ (s.hd 1).state = 3 ∧ 1 < (s.hd 1).holdLeft ∧
      ((s.hd 1).pend.any fun c => decide (c.target ≤ (min cntMax ((s.cnt (Rg.TGN_H_FRAME.at [1])).val + 1) : Nat)) && c.trans && !c.moved) = false) ∧
    (At ((setHead 1 { state := 5, holdLeft := 1, pend := [], cur := some { num := 3, leases := [0], rets := [(2, 7)] }, past := [] } (both)).turn (.frameBoundary (1 : Fin 4))) fun s => s.boot.held = false ∧
      s.inv = true ∧ s.replaying 1 = false ∧ 3 ≤ (s.hd 1).state ∧ (s.hd 1).state ≤ 5 ∧ (s.hd 1).state = 5) ∧
    (At ((setHead 1 { state := 4, holdLeft := 1, pend := [], cur := some { num := 3, leases := [0], rets := [(2, 7)] }, past := [{ num := 1, leases := [0], rets := [(2, 7)] }] } (setRec { rerunning with ctl := 0x42 } both)).turn (.frameBoundary (1 : Fin 4))) fun s => s.boot.held = false ∧
      s.inv = true ∧ ((s.hd 1).state < 3 ∨ 5 < (s.hd 1).state ∨ s.replaying 1 = true)) ∧
    (At ((setHead 1 { state := 4, holdLeft := 1, pend := [], cur := some { num := 3, leases := [0], rets := [(2, 7)] }, past := [{ num := 1, leases := [0], rets := [(2, 7)] }] } (setRec { rerunning with ctl := 0x42 } both)).turn (.frameRetire (1 : Fin 4))) fun s => s.boot.held = false ∧
      s.inv = true ∧ (s.hd 1).past ≠ [] ∧ (s.hd 1).state ≠ 3 ∧ s.sfm.tl.rising = true ∧ s.sfm.entries.rising = true ∧ s.replaying 1 = true)
    := by and_intros <;> decide +kernel

theorem witness_BreachAndChecks :
    (At (both) fun s => s.boot.held = false ∧ s.inv = true ∧ (s.hd 0).state ≤ 1) ∧
    (At (setHead 0 { state := 4, cur := some { num := 3, view := both.forceOf 0 } } (both)) fun s => s.boot.held = false ∧ s.inv = true ∧
      1 < (s.hd 0).state ∧ s.dmc.panic.length = 4 ∧ max 400 (s.fd Rg.TGN_H_FB_CTL [0] 15 0) ≤ min 65535 (1000 : Nat) ∧
      min 65535 1000 < 2 * max 400 (s.fd Rg.TGN_H_FB_CTL [0] 15 0)) ∧
    (At (setHead 1 { state := 4, cur := some { num := 3, view := both.forceOf 1, taps := [(7, {})] } } (both)) fun s => s.boot.held = false ∧
      s.inv = true ∧ s.replaying 1 = false ∧ ((s.hd 1).cur).isSome = true ∧ (((s.hd 1).cur).getD ({} : Frame)).aborted = false ∧
      s.hasBuffer 1 0 = true ∧ 1 < (s.hd 1).state ∧ s.dmc.panic.length = 4 ∧ s.dramFeeds 1 = true ∧
      2 * max 400 (s.fd Rg.TGN_H_FB_CTL [1] 15 0) ≤ min 65535 (2000 : Nat) ∧ (((s.hd 1).cur).getD ({} : Frame)).self = false ∧
      32 * 0 < vActive (s.forceOf 1) 1 ∧ (((s.hd 1).cur).getD ({} : Frame)).shows = [] ∧ 32 * 0 ≤ 0) ∧
    (At (setHead 1 { state := 4, cur := some { num := 3, view := both.forceOf 1, taps := [(7, {})] } } (both)) fun s => 0 < 32 * (0 : Nat) + 32 ∧
      0 < vActive (s.forceOf 1) 1 ∧ (((s.hd 1).cur).getD ({} : Frame)).taps.find 0 = none ∧ 32 * 0 ≤ 6 ∧ 6 < 32 * (0 : Nat) + 32 ∧
      6 < vActive (s.forceOf 1) 1 ∧ (((s.hd 1).cur).getD ({} : Frame)).taps.find 6 = none ∧
      (((s.hd 1).cur).getD ({} : Frame)).taps.find 7 = some {} ∧ s.mirror 1 = false) ∧
    (At (setHead 1 { state := 4, cur := some { num := 3, view := (forces [(Rg.TGN_R_CTL.at [1, 1], 1), (Rg.TGN_R_SIZE.at [1, 1], 0x20003)] both).forceOf 1 } } both) fun s => s.boot.held = false ∧
      s.inv = true ∧ ((s.hd 1).cur).isSome = true ∧ (((s.hd 1).cur).getD ({} : Frame)).aborted = false ∧
      (((s.hd 1).cur).getD ({} : Frame)).crc = false ∧ (((s.hd 1).cur).getD ({} : Frame)).held = false ∧
      (((s.hd 1).cur).getD ({} : Frame)).self = false ∧ (((formLines 1 (vActive (((s.hd 1).cur).getD ({} : Frame)).view 1) s).hd 1).cur).isSome = true ∧
      rectsOn ((((formLines 1 (vActive (((s.hd 1).cur).getD ({} : Frame)).view 1) s).hd 1).cur).getD ({} : Frame)).view 1 ≠ []) ∧
    (At (setCh 0 { state := 3, pm := [2, 0], exiting := true } (setHead 0 { state := 4 } (both))) fun s => s.boot.held = false ∧ s.inv = true ∧
      ((s.hd 0).cur = none ∨ (s.hd 0).cur = some ({} : Frame) ∧ ({} : Frame).aborted = true ∨ s.hasBuffer 0 0 = false) ∧ 1 < (s.hd 0).state ∧
      s.dmc.panic.length = 4 ∧ (s.ch 0).exiting = true ∧ (s.ch 0).pm.contains 2 = true ∧ (s.ch 0).state = 3 ∧
      min 65535 0 < max 400 (s.fd Rg.TGN_H_FB_CTL [0] 15 0) ∧ ((s.hd 0).cur = none ∨ (s.hd 0).cur = some ({} : Frame) ∧
      (({} : Frame).aborted = true ∨ ({} : Frame).crc = true)) ∧ ((s.hd 0).cur = none ∨ (s.hd 0).cur = some ({} : Frame) ∧
      (({} : Frame).aborted = true ∨ ({} : Frame).self = true ∨ vActive (s.forceOf 0) 0 ≤ 32 * (0 : Nat)))) ∧
    (At (setHead 0 { state := 4, cur := some { num := 3, view := both.forceOf 0, shows := [{ mode := 1, fault := some 0 }] } } (both)) fun s => s.boot.held = false ∧
      s.inv = true ∧ ((s.hd 0).cur).isSome = true ∧ (((s.hd 0).cur).getD ({} : Frame)).aborted = false ∧
      (((s.hd 0).cur).getD ({} : Frame)).self = false ∧ 32 * 0 < vActive (s.forceOf 0) 0 ∧
      ((((s.hd 0).cur).getD ({} : Frame)).shows.getD 0 {}).fault.isSome = true)
    := by and_intros <;> decide +kernel

theorem witness_TableStores :
    (At ((both.wr Rg.PXP_H_TBL_ADDR [0] 0).turn (.pxpTableStore fw (0 : Fin 4) (0 : Word))) fun s => s.inv = true ∧
      s.takes (fw : Source) (Rg.PXP_H_TBL_D2.at [0]) = true ∧ (s.hd 0).tablesLut.rising = true ∧
      (fld (s.rd Rg.PXP_H_TBL_ADDR [0]) 31 31 = s.ff Rg.PXP_H_CTL [0] 8 8 ∨ tblLen (fld (s.rd Rg.PXP_H_TBL_ADDR [0]) 27 26) ≤ fld (s.rd Rg.PXP_H_TBL_ADDR [0]) 15 0)) ∧
    (At ((both.wr Rg.PXP_H_TBL_ADDR [0] 0).turn (.psqMaskStore fw (0 : Fin 4) (0 : Word))) fun s => s.inv = true ∧
      s.takes (fw : Source) (Rg.PSQ_H_TBL_HI.at [0]) = true ∧ (s.hd 0).masks.rising = true ∧ s.mirror 0 = true ∧
      fld (s.rd Rg.PSQ_H_TBL_ADDR [0]) 31 31 ≠ s.ff Rg.PSQ_H_CTL [0] 8 8 ∧
      maskKey 0 0 3 ≠ maskKey (fld (s.rd Rg.PSQ_H_TBL_ADDR [0]) 31 31) (fld (s.rd Rg.PSQ_H_TBL_ADDR [0]) 27 24) (fld (s.rd Rg.PSQ_H_TBL_ADDR [0]) 6 0)) ∧
    (At ((both.wr Rg.PXP_H_TBL_ADDR [0] 0).turn (.coefStore fw (0 : Word))) fun s => s.inv = true ∧
      s.takes (fw : Source) Rg.LSC_COEF_DATA.at = true ∧ s.lsc.coefs.rising = true ∧
      fld (s.rd Rg.LSC_COEF_ADDR) 12 12 ≠ s.bankF (fld (s.rd Rg.LSC_COEF_ADDR) 23 16) ∧ fld (s.rd Rg.LSC_COEF_ADDR) 6 0 ≤ 64 ∧
      (¬ (fld (s.rd Rg.LSC_COEF_ADDR) 6 0 = 64 ∧ bit (0 : Word) 17 = true)) ∧
      0 ≠ (coefKey (fld (s.rd Rg.LSC_COEF_ADDR) 23 16) (fld (s.rd Rg.LSC_COEF_ADDR) 12 12) (fld (s.rd Rg.LSC_COEF_ADDR) 9 8) (fld (s.rd Rg.LSC_COEF_ADDR) 6 0) : Nat)) ∧
    (At ((both.wr Rg.PXP_H_TBL_ADDR [0] 0).turn (.odTableStore fw (0 : Fin 4) (0 : Word))) fun s => s.inv = true ∧
      s.takes (fw : Source) (Rg.PNL_H_TBL_D2.at [0]) = true ∧ (s.hd 0).odTables.rising = true ∧ s.panel 0 = false) ∧
    (At ((both.wr Rg.PSQ_H_TBL_ADDR [1] 0).turn (.pxpTableStore fw (1 : Fin 4) (0 : Word))) fun s => s.inv = true ∧
      s.takes (fw : Source) (Rg.PXP_H_TBL_D2.at [1]) = true ∧ (s.hd 1).tablesLut.rising = true ∧
      fld (s.rd Rg.PXP_H_TBL_ADDR [1]) 31 31 ≠ s.ff Rg.PXP_H_CTL [1] 8 8 ∧
      fld (s.rd Rg.PXP_H_TBL_ADDR [1]) 15 0 < tblLen (fld (s.rd Rg.PXP_H_TBL_ADDR [1]) 27 26) ∧
      (¬ ((tblKey (fld (s.rd Rg.PXP_H_TBL_ADDR [1]) 31 31) (fld (s.rd Rg.PXP_H_TBL_ADDR [1]) 27 26) (fld (s.rd Rg.PXP_H_TBL_ADDR [1]) 15 0) 0 : Nat) ≤ tblKey 0 0 3 0 ∧
      tblKey 0 0 3 0 ≤ (tblKey (fld (s.rd Rg.PXP_H_TBL_ADDR [1]) 31 31) (fld (s.rd Rg.PXP_H_TBL_ADDR [1]) 27 26) (fld (s.rd Rg.PXP_H_TBL_ADDR [1]) 15 0) 0 : Nat) + 2))) ∧
    (At ((both.wr Rg.PSQ_H_TBL_ADDR [1] 0).turn (.psqMaskStore fw (1 : Fin 4) (0 : Word))) fun s => s.inv = true ∧
      s.takes (fw : Source) (Rg.PSQ_H_TBL_HI.at [1]) = true ∧ (s.hd 1).masks.rising = true ∧ s.mirror 1 = false) ∧
    (At ((both.wr Rg.PSQ_H_TBL_ADDR [1] 0).turn (.odTableStore fw (1 : Fin 4) (0 : Word))) fun s => s.inv = true ∧
      s.takes (fw : Source) (Rg.PNL_H_TBL_D2.at [1]) = true ∧ (s.hd 1).odTables.rising = true ∧ s.panel 1 = true ∧
      fld (s.rd Rg.PNL_H_TBL_ADDR [1]) 31 31 ≠ s.ff Rg.PNL_H_CTL [1] 5 5 ∧ fld (s.rd Rg.PNL_H_TBL_ADDR [1]) 8 0 < 289 ∧
      (0 < (odKey (fld (s.rd Rg.PNL_H_TBL_ADDR [1]) 31 31) (fld (s.rd Rg.PNL_H_TBL_ADDR [1]) 27 26) (fld (s.rd Rg.PNL_H_TBL_ADDR [1]) 8 0) 0 : Nat) ∨ (odKey (fld (s.rd Rg.PNL_H_TBL_ADDR [1]) 31 31) (fld (s.rd Rg.PNL_H_TBL_ADDR [1]) 27 26) (fld (s.rd Rg.PNL_H_TBL_ADDR [1]) 8 0) 0 : Nat) + 2 < 0)) ∧
    (At ((both.wr Rg.PSQ_H_TBL_ADDR [0] 0).turn (.psqMaskStore fw (0 : Fin 4) (0 : Word))) fun s => s.inv = true ∧
      s.takes (fw : Source) (Rg.PSQ_H_TBL_HI.at [0]) = true ∧ (s.hd 0).masks.rising = true ∧ s.mirror 0 = true ∧
      fld (s.rd Rg.PSQ_H_TBL_ADDR [0]) 31 31 = s.ff Rg.PSQ_H_CTL [0] 8 8) ∧
    (At ((both.wr Rg.LSC_COEF_ADDR [] 0).turn (.coefStore fw (0 : Word))) fun s => s.inv = true ∧
      s.takes (fw : Source) Rg.LSC_COEF_DATA.at = true ∧ s.lsc.coefs.rising = true ∧
      (fld (s.rd Rg.LSC_COEF_ADDR) 12 12 = s.bankF (fld (s.rd Rg.LSC_COEF_ADDR) 23 16) ∨ 65 ≤ fld (s.rd Rg.LSC_COEF_ADDR) 6 0 ∨ fld (s.rd Rg.LSC_COEF_ADDR) 6 0 = 64 ∧
      bit (0 : Word) 17 = true)) ∧
    (At ((both.wr Rg.PNL_H_TBL_ADDR [1] 0).turn (.odTableStore fw (1 : Fin 4) (0 : Word))) fun s => s.inv = true ∧
      s.takes (fw : Source) (Rg.PNL_H_TBL_D2.at [1]) = true ∧ (s.hd 1).odTables.rising = true ∧ s.panel 1 = true ∧
      (fld (s.rd Rg.PNL_H_TBL_ADDR [1]) 31 31 = s.ff Rg.PNL_H_CTL [1] 5 5 ∨ 289 ≤ fld (s.rd Rg.PNL_H_TBL_ADDR [1]) 8 0))
    := by and_intros <;> decide +kernel

theorem witness_PortCalibration :
    (At ((setCal 1 { busy := true, echo := 7 } (both)).turn (.portCalibrate fw (1 : Fin 24))) fun s => s.inv = true ∧
      s.takes (fw : Source) (Rg.LTE_P_CAL.at [1]) = true ∧ (s.ltePort 1 = false ∨ (s.pcal 1).busy = true)) ∧
    (At ((setCal 1 { busy := true, echo := 7 } (both)).turn (.panelPortCalibrate fw (1 : Fin 24))) fun s => s.inv = true ∧
      s.takes (fw : Source) (Rg.PNL_P_CAL.at [1]) = true ∧ (s.pnlPort 1 = false ∨ (s.pcal 1).busy = true)) ∧
    (At (setCal 1 { busy := true, echo := 7 } (both)) fun s => s.inv = true ∧ s.boot.held = false ∧ (s.pcal 1).busy = true ∧
      (s.pcal 1).echo = ((match ((takeResponse 1 (· == 0x80) s).1 : Option (List Byte)) with | some bs => byteField bs 2 2 | none => (7 : Nat)) : Nat) ∧
      (s.pcal 1).verify = 0 ∧ (s.pcal 1).clean.length < 15 ∧ (s.pcal 1).tries < 64 ∧ (s.pcal 1).clean.length < 16) ∧
    (At ((both).turn (.portCalibrate fw (1 : Fin 24))) fun s => s.inv = true ∧ s.takes (fw : Source) (Rg.LTE_P_CAL.at [1]) = true ∧
      s.ltePort 1 = true ∧ (s.pcal 1).busy = false) ∧
    (At (both) fun s => s.inv = true ∧ s.boot.held = false ∧ (s.pcal 1).busy = false ∧
      ((s.pcal 1).busy = false ∨ (s.pcal 1).echo ≠ ((match ((takeResponse 1 (· == 0x80) s).1 : Option (List Byte)) with | some bs => byteField bs 2 2 | none => (0 : Nat)) : Nat))) ∧
    (At ((both).turn (.panelPortCalibrate fw (3 : Fin 24))) fun s => s.inv = true ∧ s.takes (fw : Source) (Rg.PNL_P_CAL.at [3]) = true ∧
      s.pnlPort 3 = true ∧ (s.pcal 3).busy = false) ∧
    (At (setCal 1 { busy := true, echo := 7, tries := 64 } (both)) fun s => s.inv = true ∧ s.boot.held = false ∧ (s.pcal 1).busy = true ∧
      (s.pcal 1).echo = ((match ((takeResponse 1 (· == 0x80) s).1 : Option (List Byte)) with | some bs => byteField bs 2 2 | none => (7 : Nat)) : Nat) ∧
      (s.pcal 1).verify = 0 ∧ (s.pcal 1).clean.length < 15 ∧ 64 ≤ (s.pcal 1).tries) ∧
    (At (setCal 1 { busy := true, echo := 7, clean := List.replicate 15 2, tries := 64 } (both)) fun s => s.inv = true ∧ s.boot.held = false ∧
      (s.pcal 1).busy = true ∧ (s.pcal 1).echo = ((match ((takeResponse 1 (· == 0x80) s).1 : Option (List Byte)) with | some bs => byteField bs 2 2 | none => (7 : Nat)) : Nat) ∧
      (s.pcal 1).verify = 0 ∧ (s.pcal 1).clean.length = 15 ∧ (6 : Int) ∈ ((s.pcal 1).clean ++ [((1040 : Nat) : Int) - (10 : Nat) - 1024] : List Int) ∧
      (2 : Int) ∈ ((s.pcal 1).clean ++ [((1040 : Nat) : Int) - (10 : Nat) - 1024] : List Int) ∧
      (∀ x ∈ ((s.pcal 1).clean ++ [((1040 : Nat) : Int) - (10 : Nat) - 1024] : List Int), (2 : Int) ≤ x ∧ x ≤ (6 : Int)) ∧
      (6 : Int) - (2 : Int) ≤ 4 ∧ ((s.portHeads 1).any fun h => (s.hd h).state == 4) = false) ∧
    (At (setCal 1 { busy := true, echo := 7, clean := List.replicate 15 2, tries := 64 } ((setHead 0 { state := 4 } both))) fun s => s.inv = true ∧
      s.boot.held = false ∧ (s.pcal 1).busy = true ∧ (s.pcal 1).echo = ((match ((takeResponse 1 (· == 0x80) s).1 : Option (List Byte)) with | some bs => byteField bs 2 2 | none => (7 : Nat)) : Nat) ∧
      (s.pcal 1).verify = 0 ∧ (s.pcal 1).clean.length = 15 ∧ (6 : Int) ∈ ((s.pcal 1).clean ++ [((1040 : Nat) : Int) - (10 : Nat) - 1024] : List Int) ∧
      (2 : Int) ∈ ((s.pcal 1).clean ++ [((1040 : Nat) : Int) - (10 : Nat) - 1024] : List Int) ∧
      (∀ x ∈ ((s.pcal 1).clean ++ [((1040 : Nat) : Int) - (10 : Nat) - 1024] : List Int), (2 : Int) ≤ x ∧ x ≤ (6 : Int)) ∧
      (6 : Int) - (2 : Int) ≤ 4 ∧ ((s.portHeads 1).any fun h => (s.hd h).state == 4) = true) ∧
    (At (setCal 1 { busy := true, echo := 7, clean := List.replicate 15 1 } (both)) fun s => s.inv = true ∧ s.boot.held = false ∧
      (s.pcal 1).busy = true ∧ (s.pcal 1).echo = ((match ((takeResponse 1 (· == 0x80) s).1 : Option (List Byte)) with | some bs => byteField bs 2 2 | none => (7 : Nat)) : Nat) ∧
      (s.pcal 1).verify = 0 ∧ (s.pcal 1).clean.length = 15 ∧ (6 : Int) ∈ ((s.pcal 1).clean ++ [((1040 : Nat) : Int) - (10 : Nat) - 1024] : List Int) ∧
      (1 : Int) ∈ ((s.pcal 1).clean ++ [((1040 : Nat) : Int) - (10 : Nat) - 1024] : List Int) ∧
      (∀ x ∈ ((s.pcal 1).clean ++ [((1040 : Nat) : Int) - (10 : Nat) - 1024] : List Int), (1 : Int) ≤ x ∧ x ≤ (6 : Int)) ∧
      4 < (6 : Int) - (1 : Int)) ∧
    (At (setCal 1 { busy := true, echo := 7, verify := 1, newMeas := 20 } (both)) fun s => s.inv = true ∧ s.boot.held = false ∧
      (s.pcal 1).busy = true ∧ (s.pcal 1).echo = ((match ((takeResponse 1 (· == 0x80) s).1 : Option (List Byte)) with | some bs => byteField bs 2 2 | none => (7 : Nat)) : Nat) ∧
      (s.pcal 1).verify = 1 ∧ ((match ((takeResponse 1 (· == 0x80) s).1 : Option (List Byte)) with | some bs => byteField bs 4 4 | none => (31 : Nat)) : Nat) < 2 ^ 32 ∧
      (sext 32 (uint 32 ((((match ((takeResponse 1 (· == 0x80) s).1 : Option (List Byte)) with | some bs => byteField bs 4 4 | none => (31 : Nat)) : Nat) : Int) - ((10 : Nat) + (s.pcal 1).newMeas)))).natAbs ≤ 1)
    := by and_intros <;> decide +kernel

theorem witness_PlaneStream :
    (At ((setHead 0 { state := 4, disp := none, nextDisp := none } (both)).turn (.planeLoadWindowOpen (0 : Fin 4) (5 : Nat))) fun s => s.boot.held = false ∧
      s.inv = true ∧ s.dispFor 0 5 = none) ∧
    (At ((setHead 0 { state := 4, disp := none, nextDisp := none } (both)).turn (.loadWindowClose (0 : Fin 4) (5 : Nat) true)) fun s => s.boot.held = false ∧
      s.inv = true ∧ s.dispFor 0 5 = none) ∧
    (At ((setHead 0 { state := 4, disp := none, nextDisp := none } (both)).turn (.pulseIssue (0 : Fin 4) (5 : Nat))) fun s => s.boot.held = false ∧
      s.inv = true ∧ (s.hd 0).disp = none ∧ (s.hd 0).nextDisp = none) ∧
    (At ((setHead 0 { state := 4, disp := some { num := 3, view := both.forceOf 0, dark := some 0 }, nextDisp := none } (both)).turn (.planeLoadWindowOpen (0 : Fin 4) (1 : Nat))) fun s => s.boot.held = false ∧
      s.inv = true ∧ (s.dispFor 0 (1 : Nat)).isSome = true ∧ (((s.dispFor 0 (1 : Nat)).getD ({} : Disp)).dark.isSome = true ∨ (planeStarts (seqOf ((s.dispFor 0 (1 : Nat)).getD ({} : Disp)).view 0)).length ≤ (1 : Nat))) ∧
    (At ((setHead 0 { state := 4, disp := some { num := 3, view := both.forceOf 0, dark := some 0 }, nextDisp := none } (both)).turn (.loadWindowClose (0 : Fin 4) (1 : Nat) true)) fun s => s.boot.held = false ∧
      s.inv = true ∧ (s.dispFor 0 (1 : Nat)).isSome = true ∧ (((s.dispFor 0 (1 : Nat)).getD ({} : Disp)).window ≠ some 1 ∨ ((s.dispFor 0 (1 : Nat)).getD ({} : Disp)).dark.isSome = true)) ∧
    (At ((setHead 0 { state := 4, disp := some { num := 3, view := both.forceOf 0, dark := some 0 }, nextDisp := none } (both)).turn (.loadWindowClose (0 : Fin 4) (1 : Nat) false)) fun s => s.boot.held = false ∧
      s.inv = true ∧ (s.dispFor 0 (1 : Nat)).isSome = true ∧ (((s.dispFor 0 (1 : Nat)).getD ({} : Disp)).window ≠ some 1 ∨ ((s.dispFor 0 (1 : Nat)).getD ({} : Disp)).dark.isSome = true)) ∧
    (At ((setHead 0 { state := 4, disp := some { num := 3, view := both.forceOf 0, dark := some 0 }, nextDisp := none } (both)).turn (.pulseIssue (0 : Fin 4) (1 : Nat))) fun s => s.boot.held = false ∧
      s.inv = true ∧ ((s.hd 0).nextDisp = none ∨ s.slotStarts 0 1 = false) ∧ ((s.hd 0).disp).isSome = true ∧
      (entryAt (seqOf (((s.hd 0).disp).getD ({} : Disp)).view 0) (1 : Nat)).isSome = true ∧
      ((isPlane ((entryAt (seqOf (((s.hd 0).disp).getD ({} : Disp)).view 0) (1 : Nat)).getD ((0, 0, 0) : Nat × Nat × Word)).2.2 && ! ((match (((s.hd 0).disp).getD ({} : Disp)).dark with | some k => decide (k ≤ (1 : Nat)) | none => false) : Bool) && ! (((s.hd 0).disp).getD ({} : Disp)).zero) : Bool) = false) ∧
    (At (setHead 0 { state := 4, disp := some { num := 3, view := both.forceOf 0, dark := some 0 }, nextDisp := none } (both)) fun s => s.boot.held = false ∧
      s.inv = true ∧ s.peerKind 0 = 0) ∧
    (At ((setHead 0 { state := 4, disp := some { num := 3, view := both.forceOf 0, window := some 1 }, nextDisp := none } (both)).turn (.planeLoadWindowOpen (0 : Fin 4) (1 : Nat))) fun s => s.boot.held = false ∧
      s.inv = true ∧ (s.dispFor 0 (1 : Nat)).isSome = true ∧ ((s.dispFor 0 (1 : Nat)).getD ({} : Disp)).dark = none ∧
      (1 : Nat) < (planeStarts (seqOf ((s.dispFor 0 (1 : Nat)).getD ({} : Disp)).view 0)).length) ∧
    (At ((setHead 0 { state := 4, disp := some { num := 3, view := both.forceOf 0, window := some 1 }, nextDisp := none } (both)).turn (.loadWindowClose (0 : Fin 4) (1 : Nat) true)) fun s => s.boot.held = false ∧
      s.inv = true ∧ (s.dispFor 0 (1 : Nat)).isSome = true ∧ ((s.dispFor 0 (1 : Nat)).getD ({} : Disp)).window = some (1 : Nat) ∧
      ((s.dispFor 0 (1 : Nat)).getD ({} : Disp)).dark = none ∧
      ((planeStarts (seqOf ((s.dispFor 0 (1 : Nat)).getD ({} : Disp)).view 0))[(1 : Nat)]?).isSome = true ∧
      s.planeWaits 0 ((s.dispFor 0 (1 : Nat)).getD ({} : Disp)).num 1 = false) ∧
    (At ((setHead 0 { state := 4, disp := some { num := 3, view := both.forceOf 0, window := some 1 }, nextDisp := none } (both)).turn (.loadWindowClose (0 : Fin 4) (1 : Nat) false)) fun s => s.boot.held = false ∧
      s.inv = true ∧ (s.dispFor 0 (1 : Nat)).isSome = true ∧ ((s.dispFor 0 (1 : Nat)).getD ({} : Disp)).window = some (1 : Nat) ∧
      ((s.dispFor 0 (1 : Nat)).getD ({} : Disp)).dark = none ∧
      ((planeStarts (seqOf ((s.dispFor 0 (1 : Nat)).getD ({} : Disp)).view 0))[(1 : Nat)]?).isSome = true ∧ s.replaying 0 = false ∧
      (false = false ∨ s.planeWaits 0 ((s.dispFor 0 (1 : Nat)).getD ({} : Disp)).num 1 = true)) ∧
    (At ((setHead 0 { state := 4, disp := none, nextDisp := some { num := 3, view := both.forceOf 0 } } (both)).turn (.pulseIssue (0 : Fin 4) (0 : Nat))) fun s => s.boot.held = false ∧
      s.inv = true ∧ ((s.hd 0).nextDisp).isSome = true ∧ s.slotStarts 0 0 = true ∧
      (entryAt (seqOf (((s.hd 0).nextDisp).getD ({} : Disp)).view 0) (0 : Nat)).isSome = true) ∧
    (At (setHead 0 { state := 4, disp := some { num := 3, view := (((both.forceOf 0).insert (Rg.PSQ_SLOT_CTL.at [0, 0]) 0x51010003).insert (Rg.PSQ_SLOT_CTL.at [0, 1]) 0xC0000002) }, nextDisp := none } (both)) fun s => s.boot.held = false ∧
      s.inv = true ∧ s.peerKind 1 ≠ 0 ∧ (((match ((takeResponse 1 (fun o => o != 0x80 && o != 0x82) s).1 : Option (List Byte)) with | some bs => (byteField bs 0 1, byteField bs 1 1, byteField bs 2 2) | none => ((130 : Nat), (1 : Nat), (3 : Nat))) : Nat × Nat × Nat).1) % 256 ≠ 0x81) ∧
    (At (setHead 0 { state := 4, disp := some { num := 3, view := (((both.forceOf 0).insert (Rg.PSQ_SLOT_CTL.at [0, 0]) 0x51010003).insert (Rg.PSQ_SLOT_CTL.at [0, 1]) 0xC0000002) }, nextDisp := none } (both)) fun s => s.boot.held = false ∧
      s.inv = true ∧ s.peerKind 1 ≠ 0 ∧ (((match ((takeResponse 1 (fun o => o != 0x80 && o != 0x82) s).1 : Option (List Byte)) with | some bs => (byteField bs 0 1, byteField bs 1 1, byteField bs 2 2) | none => ((129 : Nat), (3 : Nat), (3 : Nat))) : Nat × Nat × Nat).1) % 256 = 0x81 ∧
      (((match ((takeResponse 1 (fun o => o != 0x80 && o != 0x82) s).1 : Option (List Byte)) with | some bs => (byteField bs 0 1, byteField bs 1 1, byteField bs 2 2) | none => ((129 : Nat), (3 : Nat), (3 : Nat))) : Nat × Nat × Nat).2.1) = 3) ∧
    (At (setHead 0 { state := 4, disp := some { num := 3, view := (((both.forceOf 0).insert (Rg.PSQ_SLOT_CTL.at [0, 0]) 0x51010003).insert (Rg.PSQ_SLOT_CTL.at [0, 1]) 0xC0000002) }, nextDisp := none } (both)) fun s => s.boot.held = false ∧
      s.inv = true ∧ s.peerKind 2 = 2 ∧ s.portHeads 2 = [0] ∧ s.mirror 0 = true ∧ s.replaying 0 = false ∧
      (((match ((takeResponse 2 (fun o => o != 0x80 && o != 0x82) s).1 : Option (List Byte)) with | some bs => (byteField bs 0 1, byteField bs 1 1, byteField bs 2 2) | none => ((129 : Nat), (1 : Nat), (5 : Nat))) : Nat × Nat × Nat).1) % 256 = 0x81 ∧
      ((((match ((takeResponse 2 (fun o => o != 0x80 && o != 0x82) s).1 : Option (List Byte)) with | some bs => (byteField bs 0 1, byteField bs 1 1, byteField bs 2 2) | none => ((129 : Nat), (1 : Nat), (5 : Nat))) : Nat × Nat × Nat).2.1) = 1 ∨ (((match ((takeResponse 2 (fun o => o != 0x80 && o != 0x82) s).1 : Option (List Byte)) with | some bs => (byteField bs 0 1, byteField bs 1 1, byteField bs 2 2) | none => ((129 : Nat), (1 : Nat), (5 : Nat))) : Nat × Nat × Nat).2.1) = 2))
    := by and_intros <;> decide +kernel

theorem witness_PanelLines :
    (At (setHead 1 { state := 4, cur := some { num := 3, view := both.forceOf 1, self := true } } (both)) fun s => s.boot.held = false ∧
      s.inv = true ∧ s.panel 1 = true ∧ ((s.hd 1).cur).isSome = true ∧ (((s.hd 1).cur).getD ({} : Frame)).aborted = false ∧
      (((s.hd 1).cur).getD ({} : Frame)).held = false ∧ s.lineBefore 1 ((3 : Nat) + (vTotal (s.forceOf 1) 1 - vActive (s.forceOf 1) 1) : Nat) = false ∧
      ((3 : Nat) + (vTotal (s.forceOf 1) 1 - vActive (s.forceOf 1) 1) : Nat) + 1 < vTotal (s.forceOf 1) 1 ∧
      (((s.hd 1).cur).getD ({} : Frame)).self = true) ∧
    (At ((setHead 1 { state := 4, cur := some { num := 3, view := both.forceOf 1, taps := [(3, { out := [(1, 2, 3)] })], rows := [(3, [5, 6])] } } (both)).turn (.lineLatchDue (1 : Fin 4) (3 : Nat) true)) fun s => s.boot.held = false ∧
      s.inv = true ∧ s.panel 1 = true ∧ s.latchesPast 1 3 = false ∧ ((s.hd 1).cur).isSome = true ∧
      (((s.hd 1).cur).getD ({} : Frame)).aborted = false ∧ (((s.hd 1).cur).getD ({} : Frame)).held = false ∧
      (3 : Nat) < vActive (((s.hd 1).cur).getD ({} : Frame)).view 1 ∧
      (((((s.hd 1).cur).getD ({} : Frame)).taps.find (3 : Nat)).map (·.out)).getD [] ≠ [] ∧
      s.rowWaits 1 (((s.hd 1).cur).getD ({} : Frame)).num 3 = false ∧ ((((s.hd 1).cur).getD ({} : Frame)).rows.find (3 : Nat)).isSome = true ∧
      (s.pn 1).storeLoc = false ∧ (s.pn 1).storeAt + (3 : Nat) * s.storePitch 1 + (((((s.hd 1).cur).getD ({} : Frame)).rows.find (3 : Nat)).getD ([] : List Byte)).length ≤ s.capBytes) ∧
    (At ((setHead 1 { state := 4, cur := some { num := 3, view := both.forceOf 1, taps := [(3, { out := [(1, 2, 3)] })] } } (both)).turn (.lineLatchDue (1 : Fin 4) (3 : Nat) true)) fun s => s.boot.held = false ∧
      s.inv = true ∧ s.panel 1 = true ∧ s.latchesPast 1 3 = false ∧ ((s.hd 1).cur).isSome = true ∧
      (((s.hd 1).cur).getD ({} : Frame)).aborted = false ∧ (((s.hd 1).cur).getD ({} : Frame)).held = false ∧
      (3 : Nat) < vActive (((s.hd 1).cur).getD ({} : Frame)).view 1 ∧
      (((((s.hd 1).cur).getD ({} : Frame)).taps.find (3 : Nat)).map (·.out)).getD [] ≠ [] ∧
      s.rowWaits 1 (((s.hd 1).cur).getD ({} : Frame)).num 3 = false ∧ (((s.hd 1).cur).getD ({} : Frame)).rows.find 3 = none) ∧
    (At ((both).turn (.rowIssue (1 : Fin 4) (15 : Nat))) fun s => s.boot.held = false ∧ s.inv = true ∧ (s.panel 1 = false ∨ ((s.hd 1).state ≠ 3 ∧
      (s.hd 1).state ≠ 4) ∨ (s.lineView 1 (15 : Nat)).2 = true ∨ vTotal (s.lineView 1 (15 : Nat)).1 1 ≤ (15 : Nat))) ∧
    (At ((both).turn (.lineLatchDue (1 : Fin 4) (3 : Nat) true)) fun s => s.boot.held = false ∧ s.inv = true ∧ (s.hd 1).cur = none ∧
      s.latchesPast 1 3 = false) ∧
    (At ((both).turn (.lineLatchDue (1 : Fin 4) (3 : Nat) false)) fun s => s.boot.held = false ∧ s.inv = true ∧ (s.hd 1).cur = none ∧
      s.latchesPast 1 3 = false) ∧
    (At (both) fun s => s.boot.held = false ∧ s.inv = true ∧ ((s.pn 1).asked = false ∨ s.replaying 1 = true)) ∧
    (At ((setHead 1 { state := 4, cur := some { num := 3, view := both.forceOf 1 } } (({ both with pnl := both.pnl.put {} 1 { asked := true, seq := some 7 } }))).turn (.rowIssue (1 : Fin 4) (0 : Nat))) fun s => s.boot.held = false ∧
      s.inv = true ∧ s.panel 1 = true ∧ ((s.hd 1).state = 3 ∨ (s.hd 1).state = 4) ∧ (s.lineView 1 (0 : Nat)).2 = false ∧
      (0 : Nat) < vTotal (s.lineView 1 (0 : Nat)).1 1) ∧
    (At (setHead 1 { state := 4, cur := some { num := 3, view := both.forceOf 1 } } (({ both with pnl := both.pnl.put {} 1 { asked := true, seq := some 7 } }))) fun s => s.boot.held = false ∧
      s.inv = true ∧ (s.panel 1 = false ∨ 0 < vTotal (s.lineView 1 (0 : Nat)).1 1 - vActive (s.lineView 1 (0 : Nat)).1 1 ∨ vTotal (s.lineView 1 (0 : Nat)).1 1 ≤ (0 : Nat)) ∧
      s.panel 1 = true ∧ ((s.hd 1).cur).isSome = true ∧ (((s.hd 1).cur).getD ({} : Frame)).aborted = false ∧
      (((s.hd 1).cur).getD ({} : Frame)).held = false ∧ s.lineBefore 1 ((0 : Nat) + (vTotal (s.forceOf 1) 1 - vActive (s.forceOf 1) 1) : Nat) = false ∧
      ((0 : Nat) + (vTotal (s.forceOf 1) 1 - vActive (s.forceOf 1) 1) : Nat) + 1 < vTotal (s.forceOf 1) 1 ∧ (s.pn 1).asked = true ∧
      s.replaying 1 = false ∧ ([0, 8, 1, 2] : List Byte).getD 0 0 = 0 ∧ (s.pn 1).seq ≠ some (([0, 8, 1, 2] : List Byte).getD 1 0).toNat ∧
      s.recording 1 = false) ∧
    (At ((setHead 1 { state := 4, cur := some { num := 3, view := both.forceOf 1 } } (({ both with pnl := both.pnl.put {} 1 { asked := true, seq := some 7 } }))).turn (.lineLatchDue (1 : Fin 4) (0 : Nat) false)) fun s => s.boot.held = false ∧
      s.inv = true ∧ s.panel 1 = true ∧ s.latchesPast 1 0 = false ∧ ((s.hd 1).cur).isSome = true ∧
      (((s.hd 1).cur).getD ({} : Frame)).aborted = false ∧ (((s.hd 1).cur).getD ({} : Frame)).held = false ∧
      (0 : Nat) < vActive (((s.hd 1).cur).getD ({} : Frame)).view 1) ∧
    (At (setHead 1 { state := 4, cur := some { num := 3, view := both.forceOf 1 } } (({ both with pnl := both.pnl.put {} 1 { asked := true, seq := some 7 } }))) fun s => s.boot.held = false ∧
      s.inv = true ∧ (s.pn 1).asked = true ∧ s.replaying 1 = false ∧
      (([0, 7, 1, 2] : List Byte).getD 0 0 ≠ 0 ∨ (s.pn 1).seq = some (([0, 7, 1, 2] : List Byte).getD 1 0).toNat) ∧ s.recording 1 = false)
    := by and_intros <;> decide +kernel

theorem witness_SelfRefresh :
    (At ((both).turn (.selfRequest fw (0 : Fin 4) (0 : Word))) fun s => s.inv = true ∧ s.takes (fw : Source) (Rg.PNL_H_SR.at [0]) = true ∧
      s.panel 0 = false) ∧
    (At ((both).turn (.selfExitRequest fw (0 : Fin 4) (0 : Word))) fun s => s.inv = true ∧ s.takes (fw : Source) (Rg.PNL_H_SR.at [0]) = true ∧
      s.panel 0 = false) ∧
    (At (((setHead 1 { state := 4, pend := [] } { both with pnl := both.pnl.put {} 1 { sr := 0 } }).wr Rg.PNL_H_SR [1] 1).turn (.selfRequest fw (1 : Fin 4) (0 : Word))) fun s => s.inv = true ∧
      s.takes (fw : Source) (Rg.PNL_H_SR.at [1]) = true ∧ s.panel 1 = true ∧ Rg.PNL_H_SR.at [0] ≠ Rg.PNL_H_SR.at [1]) ∧
    (At (((setHead 1 { state := 4, pend := [] } { both with pnl := both.pnl.put {} 1 { sr := 0 } }).wr Rg.PNL_H_SR [1] 1).turn (.selfExitRequest fw (1 : Fin 4) (0 : Word))) fun s => s.inv = true ∧
      s.takes (fw : Source) (Rg.PNL_H_SR.at [1]) = true ∧ s.panel 1 = true ∧ (s.pn 1).sr ≠ 1) ∧
    (At (((setHead 1 { state := 4, pend := [] } { both with pnl := both.pnl.put {} 1 { sr := 0 } }).wr Rg.PNL_H_SR [1] 1).turn (.frameBoundary (1 : Fin 4))) fun s => s.inv = true ∧
      s.boot.held = false ∧ s.replaying 1 = false ∧ s.panel 1 = true ∧ (s.hd 1).state = 4 ∧
      ((s.hd 1).pend.any fun c => decide (c.target ≤ (min cntMax ((s.cnt (Rg.TGN_H_FRAME.at [1])).val + 1) : Nat))) = false ∧ (s.pn 1).sr = 0 ∧
      bit (s.rd Rg.PNL_H_SR [1]) 0 = true) ∧
    (At ((setHead 1 { state := 4, pend := [{ seq := 0, words := timing 1, retEn := true, retTl := 2, retVal := 5, target := 1, late := false, trans := false, reacq := false }] } { both with pnl := both.pnl.put {} 1 { sr := 0 } }).turn (.frameBoundary (1 : Fin 4))) fun s => s.inv = true ∧
      s.boot.held = false ∧ s.replaying 1 = false ∧ s.panel 1 = true ∧ (s.hd 1).state = 4 ∧
      ((s.hd 1).pend.any fun c => decide (c.target ≤ (min cntMax ((s.cnt (Rg.TGN_H_FRAME.at [1])).val + 1) : Nat))) = true ∧
      ((s.hd 1).pend.any fun c => c.trans) = false) ∧
    (At ((setHead 1 { state := 4, pend := [] } { both with pnl := both.pnl.put {} 1 { sr := 1, srFrame := 4 } }).turn (.selfExitRequest fw (1 : Fin 4) (0 : Word))) fun s => s.inv = true ∧
      s.takes (fw : Source) (Rg.PNL_H_SR.at [1]) = true ∧ s.panel 1 = true ∧ (s.pn 1).sr = 1) ∧
    (At ((setHead 1 { state := 4, pend := [] } { both with pnl := both.pnl.put {} 1 { sr := 1, srFrame := 4 } }).turn (.frameBoundary (1 : Fin 4))) fun s => s.inv = true ∧
      s.boot.held = false ∧ s.replaying 1 = false ∧ s.panel 1 = true ∧ (s.hd 1).state = 4 ∧
      ((s.hd 1).pend.any fun c => decide (c.target ≤ (min cntMax ((s.cnt (Rg.TGN_H_FRAME.at [1])).val + 1) : Nat))) = false ∧ (s.pn 1).sr = 1) ∧
    (At ((setHead 1 { state := 4, pend := [] } { both with pnl := both.pnl.put {} 1 { sr := 2, exitAt := 1 } }).turn (.frameBoundary (1 : Fin 4))) fun s => s.inv = true ∧
      s.boot.held = false ∧ s.replaying 1 = false ∧ s.panel 1 = true ∧ (s.hd 1).state = 4 ∧
      ((s.hd 1).pend.any fun c => decide (c.target ≤ (min cntMax ((s.cnt (Rg.TGN_H_FRAME.at [1])).val + 1) : Nat))) = false ∧ (s.pn 1).sr = 2)
    := by and_intros <;> decide +kernel

theorem witness_LoopSamples :
    (At ((setLsc (fun l => { l with eng := 2, chans := [(0, { state := 2, points := [⟨1000, 0, true⟩, ⟨2000, 3, true⟩], expect := some 5, missRun := 1 })], queue := [⟨0, 1000, 0, 100, 50, 60, 0, false, 0⟩] }) (both)).turn (.monSample (2 : Fin 24) (⟨0, 5, 1, 9, 8, 7⟩ : MonRec))) fun s => s.boot.held = false ∧
      s.inv = true ∧ s.lsc.chans.rising = true ∧ (((s.chan 0).expect).getD (0 : Nat)) < 65536 ∧ (s.portDriver? 2).isSome = true ∧
      0 = 16 * ((s.portDriver? 2).getD (0 : Nat)) + ((match ((takeResponse 2 (· == 0x82) s).1 : Option (List Byte)) with | some bs => monRecOf bs | none => (⟨0, 5, 1, 9, 8, 7⟩ : MonRec)) : MonRec).chan % 16 ∧
      (s.cfg.chanHead? 0).all (fun h => !s.replaying h) = true ∧ s.chanState 0 = 2 ∧ ((s.chan 0).expect).isSome = true ∧
      ((match ((takeResponse 2 (· == 0x82) s).1 : Option (List Byte)) with | some bs => monRecOf bs | none => (⟨0, 5, 1, 9, 8, 7⟩ : MonRec)) : MonRec).seq = (((s.chan 0).expect).getD (0 : Nat)) ∧
      (s.chan 0).points ≠ [] ∧ ((match ((takeResponse 2 (· == 0x82) s).1 : Option (List Byte)) with | some bs => monRecOf bs | none => (⟨0, 5, 1, 9, 8, 7⟩ : MonRec)) : MonRec).flags % 4 ≠ 0) ∧
    (At ((setLsc (fun l => { l with eng := 2, chans := [(0, { state := 3, points := [⟨1000, 0, true⟩, ⟨2000, 3, true⟩], expect := some 5, missRun := 1 })], queue := [⟨0, 1000, 0, 100, 50, 60, 0, false, 0⟩] }) (both)).turn (.monSample (2 : Fin 24) (⟨0, 5, 1, 9, 8, 7⟩ : MonRec))) fun s => s.boot.held = false ∧
      s.inv = true ∧ s.lsc.chans.rising = true ∧ (((s.chan 0).expect).getD (0 : Nat)) < 65536 ∧ (s.portDriver? 2).isSome = true ∧
      0 = 16 * ((s.portDriver? 2).getD (0 : Nat)) + ((match ((takeResponse 2 (· == 0x82) s).1 : Option (List Byte)) with | some bs => monRecOf bs | none => (⟨0, 5, 1, 9, 8, 7⟩ : MonRec)) : MonRec).chan % 16 ∧
      (s.cfg.chanHead? 0).all (fun h => !s.replaying h) = true ∧ s.chanState 0 = 3 ∧ ((s.chan 0).expect).isSome = true ∧
      ((match ((takeResponse 2 (· == 0x82) s).1 : Option (List Byte)) with | some bs => monRecOf bs | none => (⟨0, 5, 1, 9, 8, 7⟩ : MonRec)) : MonRec).seq = (((s.chan 0).expect).getD (0 : Nat)) ∧
      (s.chan 0).points ≠ [] ∧ ((match ((takeResponse 2 (· == 0x82) s).1 : Option (List Byte)) with | some bs => monRecOf bs | none => (⟨0, 5, 1, 9, 8, 7⟩ : MonRec)) : MonRec).flags % 4 ≠ 0 ∧
      (((s.chan 0).points).headD ⟨0, 0, true⟩).exp = true ∧ 1 ≤ (s.chan 0).missRun) ∧
    (At ((setLsc (fun l => { l with eng := 2, chans := [(0, { state := 3, points := [⟨1000, 0, true⟩, ⟨2000, 3, true⟩], expect := some 5, missRun := 1 })], queue := [⟨0, 1000, 0, 100, 50, 60, 0, false, 0⟩] }) (both)).turn (.sampleArrivalTimeout (0 : Fin 256))) fun s => s.boot.held = false ∧
      s.inv = true ∧ s.lsc.chans.rising = true ∧ (5 : Nat) < 65536 ∧ (s.chan 0).points ≠ [] ∧
      (s.chanState 0 = 2 ∨ s.chanState 0 = 3 ∨ s.chanState 0 = 5) ∧ (s.now : Int) < (((s.chan 0).points).headD ⟨0, 0, true⟩).ts + s.chanLat 0 + 896) ∧
    (At ((setLsc (fun l => { l with eng := 2, chans := [(0, { state := 3, points := [⟨1000, 0, true⟩, ⟨2000, 3, true⟩], expect := some 5, missRun := 1 })], queue := [⟨0, 1000, 0, 100, 50, 60, 0, false, 0⟩] }) (both)).turn .sampleBoundary) fun s => s.boot.held = false ∧
      s.inv = true ∧ s.lsc.chans.rising = true ∧ (5 : Nat) < 65536 ∧ (0 : Nat) < 4 ∧ (∀ j ∈ s.lsc.jobs, j.lane ≠ (0 : Nat)) ∧
      (∀ kk ∈ List.range ((0 : Nat)), ∃ j ∈ s.lsc.jobs, j.lane = kk) ∧ (s.nextSample).isSome = true ∧ Rg.LSC_CH_UMAX ∈ classSRegs ∧
      7 ≠ ((s.nextSample).getD (⟨0, 0, 0, 0, 0, 0, 0, false, 0⟩ : Sample)).chan ∧
      s.chanState ((s.nextSample).getD (⟨0, 0, 0, 0, 0, 0, 0, false, 0⟩ : Sample)).chan = 3) ∧
    (At ((setLsc (fun l => { l with eng := 2, chans := [(0, { state := 4, points := [⟨1000, 0, true⟩, ⟨2000, 3, true⟩], expect := some 5, missRun := 1 })], queue := [⟨0, 1000, 0, 100, 50, 60, 0, false, 0⟩] }) (both)).turn (.monSample (2 : Fin 24) (⟨0, 5, 0, 9, 8, 7⟩ : MonRec))) fun s => s.boot.held = false ∧
      s.inv = true ∧ s.lsc.chans.rising = true ∧ (5 : Nat) < 65536 ∧ (s.portDriver? 2).isSome = true ∧
      0 = 16 * ((s.portDriver? 2).getD (0 : Nat)) + ((match ((takeResponse 2 (· == 0x82) s).1 : Option (List Byte)) with | some bs => monRecOf bs | none => (⟨0, 5, 0, 9, 8, 7⟩ : MonRec)) : MonRec).chan % 16 ∧
      (s.cfg.chanHead? 0).all (fun h => !s.replaying h) = true ∧ ((s.chanState 0 ≠ 2 ∧ s.chanState 0 ≠ 3 ∧
      s.chanState 0 ≠ 5) ∨ (s.chan 0).expect = some 5 ∧ 32768 ≤ (((match ((takeResponse 2 (· == 0x82) s).1 : Option (List Byte)) with | some bs => monRecOf bs | none => (⟨0, 5, 0, 9, 8, 7⟩ : MonRec)) : MonRec).seq + 65536 - (5 : Nat)) % 65536)) ∧
    (At ((setLsc (fun l => { l with eng := 2, chans := [(0, { state := 4, points := [⟨1000, 0, true⟩, ⟨2000, 3, true⟩], expect := some 5, missRun := 1 })], queue := [⟨0, 1000, 0, 100, 50, 60, 0, false, 0⟩] }) (both)).turn (.sampleArrivalTimeout (0 : Fin 256))) fun s => s.boot.held = false ∧
      s.inv = true ∧ s.lsc.chans.rising = true ∧ (5 : Nat) < 65536 ∧ ((s.chan 0).points = [] ∨ (s.chanState 0 ≠ 2 ∧ s.chanState 0 ≠ 3 ∧
      s.chanState 0 ≠ 5))) ∧
    (At (((setLsc (fun l => { l with eng := 2, chans := [(0, { state := 2 })], queue := [⟨0, 1000, 0, 100, 50, 60, 0, false, 0⟩] }) (both)).wr Rg.LSC_CH_CTL [0] 3).turn .sampleBoundary) fun s => s.boot.held = false ∧
      s.inv = true ∧ s.lsc.chans.rising = true ∧ (0 : Nat) < 65536 ∧ (0 : Nat) < 4 ∧ (∀ j ∈ s.lsc.jobs, j.lane ≠ (0 : Nat)) ∧
      (∀ kk ∈ List.range ((0 : Nat)), ∃ j ∈ s.lsc.jobs, j.lane = kk) ∧ (s.nextSample).isSome = true ∧
      s.chanState ((s.nextSample).getD (⟨0, 0, 0, 0, 0, 0, 0, false, 0⟩ : Sample)).chan = 2 ∧
      bit (s.rd Rg.LSC_CH_CTL [((s.nextSample).getD (⟨0, 0, 0, 0, 0, 0, 0, false, 0⟩ : Sample)).chan]) 1 = true) ∧
    (At (({ (setLsc (fun l => { l with eng := 2, chans := [(0, { state := 2, points := [⟨1000, 0, true⟩, ⟨2000, 3, true⟩], expect := some 5, missRun := 1 })] }) (both)) with now := 90000 }).turn (.monSample (2 : Fin 24) (⟨0, 5, 0, 9, 8, 7⟩ : MonRec))) fun s => s.boot.held = false ∧
      s.inv = true ∧ s.lsc.chans.rising = true ∧ (((s.chan 0).expect).getD (0 : Nat)) < 65536 ∧ (s.portDriver? 2).isSome = true ∧
      0 = 16 * ((s.portDriver? 2).getD (0 : Nat)) + ((match ((takeResponse 2 (· == 0x82) s).1 : Option (List Byte)) with | some bs => monRecOf bs | none => (⟨0, 5, 0, 9, 8, 7⟩ : MonRec)) : MonRec).chan % 16 ∧
      (s.cfg.chanHead? 0).all (fun h => !s.replaying h) = true ∧ s.chanState 0 = 2 ∧ ((s.chan 0).expect).isSome = true ∧
      ((match ((takeResponse 2 (· == 0x82) s).1 : Option (List Byte)) with | some bs => monRecOf bs | none => (⟨0, 5, 0, 9, 8, 7⟩ : MonRec)) : MonRec).seq = (((s.chan 0).expect).getD (0 : Nat)) ∧
      (s.chan 0).points ≠ [] ∧ ((match ((takeResponse 2 (· == 0x82) s).1 : Option (List Byte)) with | some bs => monRecOf bs | none => (⟨0, 5, 0, 9, 8, 7⟩ : MonRec)) : MonRec).flags % 4 = 0) ∧
    (At (({ (setLsc (fun l => { l with eng := 2, chans := [(0, { state := 2, points := [⟨1000, 0, true⟩, ⟨2000, 3, true⟩], expect := some 5, missRun := 1 })] }) (both)) with now := 90000 }).turn (.sampleArrivalTimeout (0 : Fin 256))) fun s => s.boot.held = false ∧
      s.inv = true ∧ s.lsc.chans.rising = true ∧ (5 : Nat) < 65536 ∧ (s.chan 0).points ≠ [] ∧
      (s.chanState 0 = 2 ∨ s.chanState 0 = 3 ∨ s.chanState 0 = 5) ∧ ((((s.chan 0).points).headD ⟨0, 0, true⟩).ts : Int) + s.chanLat 0 + 896 ≤ s.now) ∧
    (At (({ (setLsc (fun l => { l with eng := 2, chans := [(0, { state := 2, points := [⟨1000, 0, true⟩, ⟨2000, 3, true⟩], expect := some 5, missRun := 1 })] }) (both)) with now := 90000 }).turn .sampleBoundary) fun s => s.boot.held = false ∧
      s.inv = true ∧ s.lsc.chans.rising = true ∧ (5 : Nat) < 65536 ∧ ((∀ kk ∈ List.range (4), ∃ j ∈ s.lsc.jobs, j.lane = kk) ∨ s.nextSample = none))
    := by and_intros <;> decide +kernel

theorem witness_LoopComputation :
    (At ((setLsc (fun l => { l with eng := 2, chans := [(0, { state := 3, codes := List.replicate 8 3, uHold := List.replicate 8 9, ramp := 0 })], jobs := [⟨0, 1000, 0, 100, 50, 60, 0, false, 0⟩] }) (both)).turn (.loopComputeCommit (0 : Fin 256) (0 : Fin 4))) fun s => s.boot.held = false ∧
      s.inv = true ∧ s.lsc.chans.rising = true ∧ (s.chan 0).ctx.rising = true ∧ s.unitsOut.rising = true ∧
      (s.lsc.jobs.find? (·.chan == 0)).isSome = true ∧ ((s.lsc.jobs.find? (·.chan == 0)).getD (⟨0, 0, 0, 0, 0, 0, 0, false, 0⟩ : Sample)).lane = 0 ∧ s.chanState 0 = 3 ∧
      s.pastDeadline ((s.lsc.jobs.find? (·.chan == 0)).getD (⟨0, 0, 0, 0, 0, 0, 0, false, 0⟩ : Sample)) = false ∧
      s.followTrips 0 ((s.loopOut ((s.lsc.jobs.find? (·.chan == 0)).getD (⟨0, 0, 0, 0, 0, 0, 0, false, 0⟩ : Sample))).getD 6 0) = false ∧
      3 ≠ ((s.lsc.jobs.find? (·.chan == 0)).getD (⟨0, 0, 0, 0, 0, 0, 0, false, 0⟩ : Sample)).tier) ∧
    (At ((setLsc (fun l => { l with eng := 2, chans := [(0, { state := 3, codes := List.replicate 8 3, uHold := List.replicate 8 9, ramp := 0 })], jobs := [⟨0, 1000, 0, 100, 50, 60, 0, false, 0⟩] }) (both)).turn (.holdTimerExpiry (0 : Fin 256))) fun s => s.boot.held = false ∧
      s.inv = true ∧ s.lsc.chans.rising = true ∧ (s.chan 0).ctx.rising = true ∧ s.unitsOut.rising = true ∧ s.chanState 0 ≠ 5) ∧
    (At ((setLsc (fun l => { l with eng := 2, chans := [(0, { state := 3, codes := List.replicate 8 3, uHold := List.replicate 8 9, ramp := 0 })], jobs := [⟨0, 1000, 0, 100, 50, 60, 0, false, 0⟩] }) (both)).turn (.rampStep (0 : Fin 256))) fun s => s.boot.held = false ∧
      s.inv = true ∧ s.lsc.chans.rising = true ∧ (s.chan 0).ctx.rising = true ∧ s.unitsOut.rising = true ∧ s.chanState 0 ≠ 6) ∧
    (At ((setLsc (fun l => { l with eng := 2, chans := [(0, { state := 2, codes := List.replicate 8 3, uHold := List.replicate 8 9, ramp := 0 })], jobs := [⟨0, 1000, 0, 100, 50, 60, 0, false, 0⟩] }) (both)).turn (.loopComputeCommit (0 : Fin 256) (0 : Fin 4))) fun s => s.boot.held = false ∧
      s.inv = true ∧ s.lsc.chans.rising = true ∧ (s.chan 0).ctx.rising = true ∧ s.unitsOut.rising = true ∧
      (s.lsc.jobs.find? (·.chan == 0)).isSome = true ∧ ((s.lsc.jobs.find? (·.chan == 0)).getD (⟨0, 0, 0, 0, 0, 0, 0, false, 0⟩ : Sample)).lane = 0 ∧ s.chanState 0 = 2) ∧
    (At ((setLsc (fun l => { l with eng := 2, chans := [(0, { state := 5, codes := List.replicate 8 3, uHold := List.replicate 8 9, ramp := 0 })], jobs := [⟨0, 1000, 0, 100, 50, 60, 0, false, 0⟩] }) (both)).turn (.loopComputeCommit (0 : Fin 256) (0 : Fin 4))) fun s => s.boot.held = false ∧
      s.inv = true ∧ s.lsc.chans.rising = true ∧ (s.chan 0).ctx.rising = true ∧ s.unitsOut.rising = true ∧
      (s.lsc.jobs.find? (·.chan == 0)).isSome = true ∧ ((s.lsc.jobs.find? (·.chan == 0)).getD (⟨0, 0, 0, 0, 0, 0, 0, false, 0⟩ : Sample)).lane = 0 ∧ s.chanState 0 = 5) ∧
    (At ((setLsc (fun l => { l with eng := 2, chans := [(0, { state := 5, codes := List.replicate 8 3, uHold := List.replicate 8 9, ramp := 0 })], jobs := [⟨0, 1000, 0, 100, 50, 60, 0, false, 0⟩] }) (both)).turn (.holdTimerExpiry (0 : Fin 256))) fun s => s.boot.held = false ∧
      s.inv = true ∧ s.lsc.chans.rising = true ∧ (s.chan 0).ctx.rising = true ∧ s.unitsOut.rising = true ∧ s.chanState 0 = 5) ∧
    (At ((setLsc (fun l => { l with eng := 2, chans := [(0, { state := 6, codes := List.replicate 8 3, uHold := List.replicate 8 9, ramp := 18 })], jobs := [] }) (both)).turn (.loopComputeCommit (0 : Fin 256) (0 : Fin 4))) fun s => s.boot.held = false ∧
      s.inv = true ∧ s.lsc.chans.rising = true ∧ (s.chan 0).ctx.rising = true ∧ s.unitsOut.rising = true ∧ s.lsc.jobs.find? (·.chan == 0) = none) ∧
    (At ((setLsc (fun l => { l with eng := 2, chans := [(0, { state := 6, codes := List.replicate 8 3, uHold := List.replicate 8 9, ramp := 18 })], jobs := [] }) (both)).turn (.rampStep (0 : Fin 256))) fun s => s.boot.held = false ∧
      s.inv = true ∧ s.lsc.chans.rising = true ∧ (s.chan 0).ctx.rising = true ∧ s.unitsOut.rising = true ∧ s.chanState 0 = 6 ∧
      (s.chan 0).codes.length = 8 ∧ (s.chan 0).uHold.length = 8 ∧ (s.chan 0).ramp + 1 < 20) ∧
    (At ((setLsc (fun l => { l with eng := 2, chans := [(0, { state := 6, codes := List.replicate 8 3, uHold := List.replicate 8 9, ramp := 19 })], jobs := [] }) (both)).turn (.rampStep (0 : Fin 256))) fun s => s.boot.held = false ∧
      s.inv = true ∧ s.lsc.chans.rising = true ∧ (s.chan 0).ctx.rising = true ∧ s.unitsOut.rising = true ∧ s.chanState 0 = 6 ∧
      20 ≤ (s.chan 0).ramp + 1) ∧
    (At ((setLsc (fun l => { l with eng := 2, chans := [(0, { state := 3, codes := List.replicate 8 3, uHold := List.replicate 8 9 })], jobs := [⟨0, 1000, 0, 100, 50, 60, 0, false, 0⟩] }) (both)).turn (.loopComputeCommit (0 : Fin 256) (1 : Fin 4))) fun s => s.boot.held = false ∧
      s.inv = true ∧ s.lsc.chans.rising = true ∧ (s.chan 0).ctx.rising = true ∧ s.unitsOut.rising = true ∧
      (s.lsc.jobs.find? (·.chan == 0)).isSome = true ∧ ((s.lsc.jobs.find? (·.chan == 0)).getD (⟨0, 0, 0, 0, 0, 0, 0, false, 0⟩ : Sample)).lane ≠ 1) ∧
    (At (({ (setLsc (fun l => { l with eng := 2, chans := [(0, { state := 3, codes := List.replicate 8 3 })], jobs := [⟨0, 1000, 0, 100, 50, 60, 0, false, 0⟩] }) (both)) with now := 20000 }).turn (.loopComputeCommit (0 : Fin 256) (0 : Fin 4))) fun s => s.boot.held = false ∧
      s.inv = true ∧ s.lsc.chans.rising = true ∧ (s.chan 0).ctx.rising = true ∧ s.unitsOut.rising = true ∧
      (s.lsc.jobs.find? (·.chan == 0)).isSome = true ∧ ((s.lsc.jobs.find? (·.chan == 0)).getD (⟨0, 0, 0, 0, 0, 0, 0, false, 0⟩ : Sample)).lane = 0 ∧ s.chanState 0 = 3 ∧
      s.pastDeadline ((s.lsc.jobs.find? (·.chan == 0)).getD (⟨0, 0, 0, 0, 0, 0, 0, false, 0⟩ : Sample)) = true ∧
      s.followTrips 0 ((s.loopOut ((s.lsc.jobs.find? (·.chan == 0)).getD (⟨0, 0, 0, 0, 0, 0, 0, false, 0⟩ : Sample))).getD 6 0) = false) ∧
    (At ((forces [(Rg.LSC_CH_FE.at [0], 0x10000)] (setLsc (fun l => { l with eng := 2, chans := [(0, { state := 3, codes := List.replicate 8 3 })], jobs := [⟨0, 1000, 0, 100, 50, 60, 0, false, 0⟩], coefs := [(52, 0x1DFFFF)] }) (both))).turn (.loopComputeCommit (0 : Fin 256) (0 : Fin 4))) fun s => s.boot.held = false ∧
      s.inv = true ∧ s.lsc.chans.rising = true ∧ (s.chan 0).ctx.rising = true ∧ s.unitsOut.rising = true ∧
      (s.lsc.jobs.find? (·.chan == 0)).isSome = true ∧ ((s.lsc.jobs.find? (·.chan == 0)).getD (⟨0, 0, 0, 0, 0, 0, 0, false, 0⟩ : Sample)).lane = 0 ∧ s.chanState 0 = 3 ∧
      s.followTrips 0 ((s.loopOut ((s.lsc.jobs.find? (·.chan == 0)).getD (⟨0, 0, 0, 0, 0, 0, 0, false, 0⟩ : Sample))).getD 6 0) = true ∧
      (s.chan 0).codes.length = 8 ∧ (s.chan 0).pendingTiers s.now = [])
    := by and_intros <;> decide +kernel

theorem witness_LoopChannels :
    (At ((setLsc (fun l => { l with eng := 0, chans := [(0, { state := 1 })] }) (both)).turn (.engineStart fw)) fun s => s.inv = true ∧
      s.lsc.chans.rising = true ∧ s.takes (fw : Source) Rg.LSC_CTL.at = true ∧ s.boot.stage = 5 ∧ s.lsc.eng = 0) ∧
    (At ((setLsc (fun l => { l with eng := 2, chans := [(0, { state := 2 })] }) (both)).turn (.channelDisable fw (0 : Fin 256) (0 : Word))) fun s => s.inv = true ∧
      s.lsc.chans.rising = true ∧ s.takes (fw : Source) (Rg.LSC_CH_CTL.at [0]) = true ∧ bit (0 : Word) 8 = false ∧ 2 ≤ s.chanState 0 ∧
      s.chanState 0 < 7) ∧
    (At ((setLsc (fun l => { l with eng := 2, chans := [(0, { state := 2 })] }) (both)).turn (.driveWrite fw (0 : Fin 256) (3 : Fin 8) (0 : Word))) fun s => s.inv = true ∧
      s.lsc.chans.rising = true ∧ s.takes (fw : Source) (Rg.LSC_CH_DRIVE.at [0, 3]) = true ∧ s.chanState 0 = 2) ∧
    (At ((setLsc (fun l => { l with eng := 2, chans := [(0, { state := 7, cause := 3 })] }) ({ both with unitsOut := [(13, [0])] })).turn (.channelEnable fw (0 : Fin 256) (0 : Word))) fun s => s.inv = true ∧
      s.lsc.chans.rising = true ∧ s.takes (fw : Source) (Rg.LSC_CH_CTL.at [0]) = true ∧ bit (0 : Word) 8 = false) ∧
    (At ((setLsc (fun l => { l with eng := 2, chans := [(0, { state := 7, cause := 3 })] }) ({ both with unitsOut := [(13, [0])] })).turn (.channelDisable fw (0 : Fin 256) (0 : Word))) fun s => s.inv = true ∧
      s.lsc.chans.rising = true ∧ s.takes (fw : Source) (Rg.LSC_CH_CTL.at [0]) = true ∧ bit (0 : Word) 8 = false ∧
      (s.chanState 0 = 0 ∨ s.chanState 0 = 1 ∨ s.chanState 0 = 7)) ∧
    (At ((setLsc (fun l => { l with eng := 2, chans := [(0, { state := 7, cause := 3 })] }) ({ both with unitsOut := [(13, [0])] })).turn (.channelRestore fw (0 : Fin 256) (0 : Word))) fun s => s.inv = true ∧
      s.lsc.chans.rising = true ∧ s.takes (fw : Source) (Rg.LSC_CH_CTL.at [0]) = true ∧ s.chanState 0 = 7 ∧ s.unitsOut.rising = true ∧
      (s.chan 0).cause ≠ 5 ∧ (s.cfg.chanHead? 0).any (fun h => (s.hd h).state == 1 || (s.hd h).state == 3) = true ∧ (s.outUnits 13).Nodup) ∧
    (At ((setLsc (fun l => { l with eng := 2, chans := [(0, { state := 7, cause := 3 })] }) ({ both with unitsOut := [(13, [0])] })).turn (.driveWrite fw (0 : Fin 256) (3 : Fin 8) (0 : Word))) fun s => s.inv = true ∧
      s.lsc.chans.rising = true ∧ s.takes (fw : Source) (Rg.LSC_CH_DRIVE.at [0, 3]) = true ∧ s.chanState 0 ≠ 2) ∧
    (At ((setLsc (fun l => { l with eng := 2, chans := [(0, { state := 7, cause := 3 })] }) ({ both with unitsOut := [(13, [0])] })).turn (.engineStart fw)) fun s => s.inv = true ∧
      s.lsc.chans.rising = true ∧ s.takes (fw : Source) Rg.LSC_CTL.at = true ∧ s.boot.stage = 5 ∧ s.lsc.eng ≠ 0) ∧
    (At ((setLsc (fun l => { l with eng := 2, chans := [(0, { state := 7, cause := 3 })] }) ({ both with unitsOut := [(13, [0])] })).turn (.engineStop fw)) fun s => s.inv = true ∧
      s.lsc.chans.rising = true ∧ s.takes (fw : Source) Rg.LSC_CTL.at = true ∧ s.lsc.eng = 2 ∧ (∃ j, j ∈ List.range (256) ∧ s.chanState j ≠ 0)) ∧
    (At (setLsc (fun l => { l with eng := 2, chans := [(0, { state := 7, cause := 3 })] }) ({ both with unitsOut := [(13, [0])] })) fun s => s.inv = true ∧
      s.lsc.chans.rising = true ∧ s.boot.held = false ∧ s.lsc.eng ≠ 1) ∧
    (At ((setLsc (fun l => { l with eng := 2, chans := [(0, { state := 7, cause := 5 })] }) (both)).turn (.channelRestore fw (0 : Fin 256) (0 : Word))) fun s => s.inv = true ∧
      s.lsc.chans.rising = true ∧ s.takes (fw : Source) (Rg.LSC_CH_CTL.at [0]) = true ∧ s.chanState 0 = 7 ∧ s.unitsOut.rising = true ∧
      ((s.chan 0).cause = 5 ∨ (s.cfg.chanHead? 0).all (fun h => (s.hd h).state != 1 && (s.hd h).state != 3) = true)) ∧
    (At ((setLsc (fun l => { l with eng := 1, chans := [(0, { state := 1 })] }) (granted 4 0 both)).turn (.engineStop fw)) fun s => s.inv = true ∧
      s.lsc.chans.rising = true ∧ s.takes (fw : Source) Rg.LSC_CTL.at = true ∧ s.lsc.eng = 1) ∧
    (At (setLsc (fun l => { l with eng := 1, chans := [(0, { state := 1 })] }) (granted 4 0 both)) fun s => s.inv = true ∧
      s.lsc.chans.rising = true ∧ s.boot.held = false ∧ s.lsc.eng = 1 ∧ (takeGrant 4 0 s).isSome = true) ∧
    (At (setLsc (fun l => { l with eng := 1, chans := [(0, { state := 1 })] }) (turnedDown 4 0 3 both)) fun s => s.inv = true ∧
      s.lsc.chans.rising = true ∧ s.boot.held = false ∧ s.lsc.eng = 1 ∧ (takeRefusal 4 0 s).isSome = true)
    := by and_intros <;> decide +kernel

theorem witness_OuterLoop :
    (At ((setLsc (fun l => { l with outer := [(0, { phase := 0, waiting := false, asked := [] })], groups := [(0, { base := 2, q := 50000 })], slots := [(0, { seq := some 3, codes := [1, 2, 3, 4] })] }) (both)).turn (.sensorReply (0 : Fin 8) none)) fun s => s.inv = true ∧
      s.lsc.slots.rising = true ∧ s.lsc.outer.rising = true ∧ s.lsc.groups.rising = true ∧ s.boot.held = false ∧ 0 = s.fd Rg.LSC_S_CFG [0] 29 28 ∧
      (s.replaying 0 = true ∨ (s.outerOf 0).waiting = false ∨ (s.outerOf 0).asked.contains 0 = false)) ∧
    (At ((setLsc (fun l => { l with outer := [(0, { phase := 0, waiting := false, asked := [] })], groups := [(0, { base := 2, q := 50000 })], slots := [(0, { seq := some 3, codes := [1, 2, 3, 4] })] }) (both)).turn (.sensorReply (0 : Fin 8) (some ([0, 3, 1] : List Byte)))) fun s => s.inv = true ∧
      s.lsc.slots.rising = true ∧ s.lsc.outer.rising = true ∧ s.lsc.groups.rising = true ∧ s.boot.held = false ∧ 0 = s.fd Rg.LSC_S_CFG [0] 29 28 ∧
      (s.replaying 0 = true ∨ (s.outerOf 0).waiting = false ∨ (s.outerOf 0).asked.contains 0 = false)) ∧
    (At ((setLsc (fun l => { l with outer := [(0, { phase := 0, waiting := false, asked := [] })], groups := [(0, { base := 2, q := 50000 })], slots := [(0, { seq := some 3, codes := [1, 2, 3, 4] })] }) (both)).turn (.outerReadWindowExpiry (0 : Fin 4))) fun s => s.inv = true ∧
      s.lsc.slots.rising = true ∧ s.lsc.outer.rising = true ∧ s.lsc.groups.rising = true ∧ s.boot.held = false ∧ (s.outerOf 0).waiting = false) ∧
    (At ((setLsc (fun l => { l with outer := [(0, { phase := 0, waiting := false, asked := [] })], groups := [(0, { base := 2, q := 50000 })], slots := [(0, { seq := some 3, codes := [1, 2, 3, 4] })] }) (both)).turn (.outerModeManual fw (0 : Fin 4) (0 : Word))) fun s => s.inv = true ∧
      s.lsc.slots.rising = true ∧ s.lsc.outer.rising = true ∧ s.lsc.groups.rising = true ∧ s.takes (fw : Source) (Rg.LSC_O_CTL.at [0]) = true ∧
      s.mirror 0 = true ∧ (s.outerOf 0).phase ≤ 1) ∧
    (At ((setLsc (fun l => { l with outer := [(0, { phase := 0, waiting := false, asked := [] })], groups := [(0, { base := 2, q := 50000 })], slots := [(0, { seq := some 3, codes := [1, 2, 3, 4] })] }) (both)).turn (.outerModeAuto fw (0 : Fin 4) (0 : Word))) fun s => s.inv = true ∧
      s.lsc.slots.rising = true ∧ s.lsc.outer.rising = true ∧ s.lsc.groups.rising = true ∧ s.takes (fw : Source) (Rg.LSC_O_CTL.at [0]) = true ∧
      s.mirror 0 = true ∧ (s.outerOf 0).phase ≤ 1) ∧
    (At ((setLsc (fun l => { l with outer := [(0, { phase := 2, waiting := true, asked := [0, 2] })], groups := [(0, { base := 2, q := 50000 })], slots := [(0, { seq := some 3, codes := [1, 2, 3, 4] })] }) (both)).turn (.sensorReply (0 : Fin 8) (some ([0, 3, 1] : List Byte)))) fun s => s.inv = true ∧
      s.lsc.slots.rising = true ∧ s.lsc.outer.rising = true ∧ s.lsc.groups.rising = true ∧ s.boot.held = false ∧ 0 = s.fd Rg.LSC_S_CFG [0] 29 28 ∧
      s.replaying 0 = false ∧ (s.outerOf 0).waiting = true ∧ (s.outerOf 0).asked.contains 0 = true ∧
      (([0, 3, 1] : List Byte).getD 0 0 ≠ 0 ∨ (s.slot 0).seq = some (([0, 3, 1] : List Byte).getD 1 0).toNat) ∧ (s.outerOf 0).asked.erase 0 ≠ []) ∧
    (At ((setLsc (fun l => { l with outer := [(0, { phase := 3, waiting := true, asked := [0] })], groups := [(0, { base := 2, q := 50000 })], slots := [(0, { seq := some 3, codes := [1, 2, 3, 4] })] }) (both)).turn (.sensorReply (0 : Fin 8) none)) fun s => s.inv = true ∧
      s.lsc.slots.rising = true ∧ s.lsc.outer.rising = true ∧ s.lsc.groups.rising = true ∧ s.boot.held = false ∧ 0 = s.fd Rg.LSC_S_CFG [0] 29 28 ∧
      s.replaying 0 = false ∧ (s.outerOf 0).waiting = true ∧ (s.outerOf 0).asked.contains 0 = true) ∧
    (At ((setLsc (fun l => { l with outer := [(0, { phase := 3, waiting := true, asked := [0] })], groups := [(0, { base := 2, q := 50000 })], slots := [(0, { seq := some 3, codes := [1, 2, 3, 4] })] }) (both)).turn (.sensorReply (0 : Fin 8) (some ([0, 4, 1] : List Byte)))) fun s => s.inv = true ∧
      s.lsc.slots.rising = true ∧ s.lsc.outer.rising = true ∧ s.lsc.groups.rising = true ∧ s.boot.held = false ∧ 0 = s.fd Rg.LSC_S_CFG [0] 29 28 ∧
      s.replaying 0 = false ∧ (s.outerOf 0).waiting = true ∧ (s.outerOf 0).asked.contains 0 = true ∧ ([0, 4, 1] : List Byte).getD 0 0 = 0 ∧
      (s.slot 0).seq ≠ some (([0, 4, 1] : List Byte).getD 1 0).toNat ∧ (s.outerOf 0).asked = [0]) ∧
    (At ((setLsc (fun l => { l with outer := [(0, { phase := 3, waiting := true, asked := [0] })], groups := [(0, { base := 2, q := 50000 })], slots := [(0, { seq := some 3, codes := [1, 2, 3, 4] })] }) (both)).turn (.outerReadWindowExpiry (0 : Fin 4))) fun s => s.inv = true ∧
      s.lsc.slots.rising = true ∧ s.lsc.outer.rising = true ∧ s.lsc.groups.rising = true ∧ s.boot.held = false ∧ (s.outerOf 0).waiting = true ∧
      (s.outerOf 0).asked ≠ [] ∧ (s.outerOf 0).asked.contains 1 = false) ∧
    (At ((setLsc (fun l => { l with outer := [(0, { phase := 3, waiting := true, asked := [0] })], groups := [(0, { base := 2, q := 50000 })], slots := [(0, { seq := some 3, codes := [1, 2, 3, 4] })] }) (both)).turn (.outerModeDirect fw (0 : Fin 4) (2 : Word))) fun s => s.inv = true ∧
      s.lsc.slots.rising = true ∧ s.lsc.outer.rising = true ∧ s.lsc.groups.rising = true ∧ s.takes (fw : Source) (Rg.LSC_O_CTL.at [0]) = true ∧
      s.mirror 0 = true) ∧
    (At ((setLsc (fun l => { l with outer := [(0, { phase := 3, waiting := true, asked := [0] })], groups := [(0, { base := 2, q := 50000 })], slots := [(0, { seq := some 3, codes := [1, 2, 3, 4] })] }) (both)).turn (.outerModeManual fw (0 : Fin 4) (2 : Word))) fun s => s.inv = true ∧
      s.lsc.slots.rising = true ∧ s.lsc.outer.rising = true ∧ s.lsc.groups.rising = true ∧ s.takes (fw : Source) (Rg.LSC_O_CTL.at [0]) = true ∧
      s.mirror 0 = true ∧ 2 ≤ (s.outerOf 0).phase ∧ (∃ g, g ∈ List.range (16) ∧ s.cfg.groupHead? g = some 0 ∧ g < s.cfg.laser.groups.length)) ∧
    (At ((setLsc (fun l => { l with outer := [(0, { phase := 3, waiting := true, asked := [0] })], groups := [(0, { base := 2, q := 50000 })], slots := [(0, { seq := some 3, codes := [1, 2, 3, 4] })] }) (both)).turn (.outerModeAuto fw (0 : Fin 4) (2 : Word))) fun s => s.inv = true ∧
      s.lsc.slots.rising = true ∧ s.lsc.outer.rising = true ∧ s.lsc.groups.rising = true ∧ s.takes (fw : Source) (Rg.LSC_O_CTL.at [0]) = true ∧
      s.mirror 0 = true ∧ s.headGroups 0 ≠ [] ∧ 2 ≤ (s.outerOf 0).phase ∧ bit (2 : Word) 4 = false) ∧
    (At ((setLsc (fun l => { l with outer := [(0, { phase := 3, waiting := true, asked := [0] })], groups := [(0, { base := 2, q := 50000 })], slots := [(0, { seq := some 3, codes := [1, 2, 3, 4] })] }) (both)).turn (.outerTest fw (0 : Fin 4) (2 : Word))) fun s => s.inv = true ∧
      s.lsc.slots.rising = true ∧ s.lsc.outer.rising = true ∧ s.lsc.groups.rising = true ∧ s.takes (fw : Source) (Rg.LSC_O_CTL.at [0]) = true ∧
      s.mirror 0 = true ∧ fld (2 : Word) 1 0 = 2 ∧ (s.outerOf 0).phase = 3 ∧ s.headGroups 0 ≠ []) ∧
    (At ((both).turn (.outerModeDirect fw (1 : Fin 4) (0 : Word))) fun s => s.inv = true ∧ s.lsc.slots.rising = true ∧ s.lsc.outer.rising = true ∧
      s.lsc.groups.rising = true ∧ s.takes (fw : Source) (Rg.LSC_O_CTL.at [1]) = true ∧ s.mirror 1 = false)
    := by and_intros <;> decide +kernel

theorem witness_LaneLimits :
    (At ((setLane 0 { state := 2, attempts := 2, budget := 6 } rdy).turn (.detectTimeout (0 : Fin 96))) fun s => s.boot.held = false ∧
      s.inv = true ∧ (s.lane 0).state = 2 ∧ (2 = 2 → (s.lane 0).waiting = false) ∧ 2 ≤ (s.lane 0).attempts) ∧
    (At ((setLane 0 { state := 3 } rdy).turn (.trainTimeout (0 : Fin 96))) fun s => s.boot.held = false ∧ s.inv = true ∧ (s.lane 0).state = 3 ∧
      (3 = 2 → (s.lane 0).waiting = false) ∧ (s.lane 0).attempts < 2) ∧
    (At ((setLane 0 { state := 3, attempts := 2, budget := 6 } rdy).turn (.trainTimeout (0 : Fin 96))) fun s => s.boot.held = false ∧
      s.inv = true ∧ (s.lane 0).state = 3 ∧ (3 = 2 → (s.lane 0).waiting = false) ∧ 2 ≤ (s.lane 0).attempts) ∧
    (At ((setLane 0 { state := 4 } rdy).turn (.syncTimeout (0 : Fin 96))) fun s => s.boot.held = false ∧ s.inv = true ∧ (s.lane 0).state = 4 ∧
      (4 = 2 → (s.lane 0).waiting = false) ∧ (s.lane 0).attempts < 2) ∧
    (At ((setLane 0 { state := 4, attempts := 2, budget := 6 } rdy).turn (.syncTimeout (0 : Fin 96))) fun s => s.boot.held = false ∧ s.inv = true ∧
      (s.lane 0).state = 4 ∧ (4 = 2 → (s.lane 0).waiting = false) ∧ 2 ≤ (s.lane 0).attempts) ∧
    (At ((setLane 0 { state := 5 } rdy).turn (.laneDropout (0 : Fin 96))) fun s => s.boot.held = false ∧ s.inv = true ∧ (s.lane 0).state = 5 ∧
      ((s.lane 0).rxPm == 0) = true ∧ (s.lane 0).budget + 1 < s.recLim) ∧
    (At ((setLane 0 { state := 5, budget := 7 } rdy).turn (.laneDropout (0 : Fin 96))) fun s => s.boot.held = false ∧ s.inv = true ∧
      (s.lane 0).state = 5 ∧ ((s.lane 0).rxPm == 0) = true ∧ s.recLim ≤ (s.lane 0).budget + 1) ∧
    (At ((setLane 0 { state := 5, budget := 6, waking := true, rxPm := 1 } rdy).turn (.detectTimeout (0 : Fin 96))) fun s => s.boot.held = false ∧
      s.inv = true ∧ ((s.lane 0).state ≠ 2 ∨ (2 = 2 ∧ (s.lane 0).waiting = true))) ∧
    (At ((setLane 0 { state := 5, budget := 6, waking := true, rxPm := 1 } rdy).turn (.laneWakeTimeout (0 : Fin 96))) fun s => s.boot.held = false ∧ s.inv = true ∧
      (s.lane 0).state = 5 ∧ ((s.lane 0).waking) = true ∧ (s.lane 0).budget + 1 < s.recLim) ∧
    (At ((setLane 0 { state := 5, budget := 6, waking := true, rxPm := 1 } rdy).turn (.laneWake (0 : Fin 96))) fun s => s.boot.held = false ∧
      s.inv = true ∧ (s.lane 0).state = 5 ∧ (s.lane 0).rxPm ≠ 0) ∧
    (At ((setLane 0 { state := 5, budget := 7, waking := true, rxPm := 2 } rdy).turn (.laneWakeTimeout (0 : Fin 96))) fun s => s.boot.held = false ∧ s.inv = true ∧
      (s.lane 0).state = 5 ∧ ((s.lane 0).waking) = true ∧ s.recLim ≤ (s.lane 0).budget + 1) ∧
    (At ((setLane 0 { state := 6 } rdy).turn (.recoverTimeout (0 : Fin 96))) fun s => s.boot.held = false ∧ s.inv = true ∧ (s.lane 0).state = 6) ∧
    (At ((setLane 0 { state := 7, test := 3, looping := true } rdy).turn (.loopbackSignalLoss (0 : Fin 96))) fun s => s.boot.held = false ∧
      s.inv = true ∧ (s.lane 0).state = 7 ∧ (s.lane 0).test = 3 ∧ (s.lane 0).looping = true) ∧
    (At ((setLane 0 { state := 2 } rdy).turn (.detectTest (0 : Fin 96) (false : Bool))) fun s => s.boot.held = false ∧ s.inv = true ∧
      ((s.lane 0).state ≠ 2 ∨ (s.lane 0).waiting = true ∨ (false : Bool) = false)) ∧
    (At ((setLane 0 { state := 2 } rdy).turn (.detectTimeout (0 : Fin 96))) fun s => s.boot.held = false ∧ s.inv = true ∧ (s.lane 0).state = 2 ∧
      (2 = 2 → (s.lane 0).waiting = false) ∧ (s.lane 0).attempts < 2) ∧
    (At ((setLane 0 { state := 2 } rdy).turn (.trainTimeout (0 : Fin 96))) fun s => s.boot.held = false ∧ s.inv = true ∧
      ((s.lane 0).state ≠ 3 ∨ (3 = 2 ∧ (s.lane 0).waiting = true))) ∧
    (At ((setLane 0 { state := 2 } rdy).turn (.syncTimeout (0 : Fin 96))) fun s => s.boot.held = false ∧ s.inv = true ∧
      ((s.lane 0).state ≠ 4 ∨ (4 = 2 ∧ (s.lane 0).waiting = true))) ∧
    (At ((setLane 0 { state := 2 } rdy).turn (.attemptWaitEnd (0 : Fin 96))) fun s => s.boot.held = false ∧ s.inv = true) ∧
    (At ((setLane 0 { state := 2 } rdy).turn (.recoverTimeout (0 : Fin 96))) fun s => s.boot.held = false ∧ s.inv = true ∧ (s.lane 0).state ≠ 6) ∧
    (At ((setLane 0 { state := 2 } rdy).turn (.recoverBudgetDecay (0 : Fin 96))) fun s => s.boot.held = false ∧ s.inv = true) ∧
    (At ((setLane 0 { state := 2 } rdy).turn (.laneDropout (0 : Fin 96))) fun s => s.boot.held = false ∧ s.inv = true ∧
      ((s.lane 0).state ≠ 5 ∨ ((s.lane 0).rxPm == 0) = false)) ∧
    (At ((setLane 0 { state := 2 } rdy).turn (.laneWake (0 : Fin 96))) fun s => s.boot.held = false ∧ s.inv = true ∧
      ((s.lane 0).state ≠ 5 ∨ (s.lane 0).rxPm = 0)) ∧
    (At ((setLane 0 { state := 2 } rdy).turn (.laneWakeTimeout (0 : Fin 96))) fun s => s.boot.held = false ∧ s.inv = true ∧
      ((s.lane 0).state ≠ 5 ∨ ((s.lane 0).waking) = false)) ∧
    (At ((setLane 0 { state := 2 } rdy).turn (.loopbackSignalLoss (0 : Fin 96))) fun s => s.boot.held = false ∧ s.inv = true ∧
      ((s.lane 0).state ≠ 7 ∨ (s.lane 0).test ≠ 3 ∨ (s.lane 0).looping = false)) ∧
    (At ((setLane 0 { state := 2 } rdy).turn (.detectTest (0 : Fin 96) true)) fun s => s.boot.held = false ∧ s.inv = true ∧ (s.lane 0).state = 2 ∧
      (s.lane 0).waiting = false)
    := by and_intros <;> decide +kernel

theorem witness_LaneBlocks :
    (At ((setLane 0 { state := 2, eyeBusy := false } rdy).turn (.dataBlockReceive (0 : Fin 96) (0 : Fin 4) (0 : BitVec 64) (7 : Nat))) fun s => s.boot.held = false ∧
      s.inv = true ∧ ((s.lane 0).state < 3 ∨ (s.lane 0).state = 8 ∨ ((s.lane 0).state = 5 ∧ (s.lane 0).rxPm ≠ 0 ∧ (s.lane 0).waking = false))) ∧
    (At ((setLane 0 { state := 3, commaRun := 63 } rdy).turn (.dataBlockReceive (0 : Fin 96) (2 : Fin 4) (268435245 : BitVec 64) (7 : Nat))) fun s => s.boot.held = false ∧
      s.inv = true ∧ (s.lane 0).state = 3 ∧ (s.lane 0).eyeBusy = false ∧ (s.lane 0).badIdxRun < 64 ∧ (s.lane 0).readyRun < 16 ∧
      (s.lane 0).commaLock = false ∧ isTrain (268435245 : BitVec 64).toNat = true ∧ (s.lane 0).commaRun = 63) ∧
    (At ((setLane 0 { state := 3, commaRun := 63 } rdy).turn (.trainBlockReceive (0 : Fin 96) (268435245 : BitVec 64))) fun s => s.boot.held = false ∧
      s.inv = true ∧ ((s.lane 0).eyeBusy = false ∨ (s.lane 0).rxPm ≠ 0) ∧ (s.lane 0).state = 3 ∧ (s.lane 0).eyeBusy = false ∧
      (s.lane 0).badIdxRun < 64 ∧ (s.lane 0).readyRun < 16 ∧ (s.lane 0).commaLock = false ∧ isTrain (268435245 : BitVec 64).toNat = true ∧
      (s.lane 0).commaRun = 63) ∧
    (At ((setLane 0 { state := 3, commaRun := 63 } rdy).turn (.idleBlockReceive (0 : Fin 96) (268435245 : BitVec 64))) fun s => s.boot.held = false ∧ s.inv = true ∧
      ((s.lane 0).eyeBusy = false ∨ (s.lane 0).rxPm ≠ 0)) ∧
    (At ((setLane 0 { state := 3, commaRun := 63 } rdy).turn (.lanePmReceive (0 : Fin 96) (268435245 : BitVec 64) true)) fun s => s.boot.held = false ∧
      s.inv = true) ∧
    (At ((setLane 0 { state := 3, commaRun := 63 } rdy).turn (.lanePmReceive (0 : Fin 96) (268435245 : BitVec 64) false)) fun s => s.boot.held = false ∧
      s.inv = true ∧ ((s.lane 0).eyeBusy = false ∨ (s.lane 0).rxPm ≠ 0)) ∧
    (At ((setLane 0 { state := 3, commaRun := 63 } rdy).turn (.trackerWindowEnd (0 : Fin 96))) fun s => s.boot.held = false ∧ s.inv = true ∧
      ((s.lane 0).state ≠ 5 ∨ (s.lane 0).rxPm ≠ 0 ∨ bit (s.rd Rg.LNE_TRK_CTL) 8 = false)) ∧
    (At ((setLane 0 { state := 3, commaRun := 63 } rdy).turn (.eyeScanComplete (0 : Fin 96) (7 : Nat))) fun s => s.boot.held = false ∧
      s.inv = true ∧ ((s.lane 0).eyeBusy = false ∨ (s.lane 0).rxPm ≠ 0)) ∧
    (At ((setLane 0 { state := 3, commaRun := 63 } rdy).turn (.dataBlockReceive (0 : Fin 96) (1 : Fin 4) (268435245 : BitVec 64) (7 : Nat))) fun s => s.boot.held = false ∧
      s.inv = true ∧ (s.lane 0).state = 3 ∧ (s.lane 0).eyeBusy = false ∧ (s.lane 0).badIdxRun < 64 ∧ (s.lane 0).readyRun < 16 ∧
      (s.lane 0).commaLock = false ∧ (1 ≠ 2 ∨ isTrain (268435245 : BitVec 64).toNat = false)) ∧
    (At ((setLane 0 { state := 3, commaLock := true, readyRun := 15 } rdy).turn (.dataBlockReceive (0 : Fin 96) (2 : Fin 4) (281475245145901 : BitVec 64) (7 : Nat))) fun s => s.boot.held = false ∧
      s.inv = true ∧ (s.lane 0).state = 3 ∧ (s.lane 0).eyeBusy = false ∧ (s.lane 0).commaLock = true ∧
      isTrain (281475245145901 : BitVec 64).toNat = true ∧ bitsOf (281475245145901 : BitVec 64).toNat 59 56 = s.laneIdx 0 ∧
      bitsOf (281475245145901 : BitVec 64).toNat 54 48 = 1 ∧ 15 ≤ (s.lane 0).readyRun) ∧
    (At ((setLane 0 { state := 3, commaLock := true, badIdxRun := 63, attempts := 1 } rdy).turn (.dataBlockReceive (0 : Fin 96) (2 : Fin 4) (360569445434785581 : BitVec 64) (7 : Nat))) fun s => s.boot.held = false ∧
      s.inv = true ∧ (s.lane 0).state = 3 ∧ (s.lane 0).eyeBusy = false ∧ (s.lane 0).commaLock = true ∧
      isTrain (360569445434785581 : BitVec 64).toNat = true ∧ bitsOf (360569445434785581 : BitVec 64).toNat 59 56 ≠ s.laneIdx 0 ∧
      63 ≤ (s.lane 0).badIdxRun ∧ (s.lane 0).attempts < 2) ∧
    (At ((setLane 0 { state := 4, blkLock := true, idleRun := 15 } rdy).turn (.idleBlockReceive (0 : Fin 96) (0x78000f000000001e : BitVec 64))) fun s => s.boot.held = false ∧
      s.inv = true ∧ (s.lane 0).state = 4 ∧ (s.lane 0).eyeBusy = false ∧ isTrain (0x78000f000000001e : BitVec 64).toNat = false ∧
      ((descramble (s.lane 0).scr (0x78000f000000001e : BitVec 64).toNat).1 : Nat) = 0x1E ∧ (s.lane 0).blkLock = true ∧ 15 ≤ (s.lane 0).idleRun) ∧
    (At ((setLane 0 { state := 4, blkLock := true, idleRun := 15 } rdy).turn (.dataBlockReceive (0 : Fin 96) (2 : Fin 4) (0x78000f000000001e : BitVec 64) (7 : Nat))) fun s => s.boot.held = false ∧
      s.inv = true ∧ (s.lane 0).state = 4 ∧ (s.lane 0).eyeBusy = false ∧ isTrain (0x78000f000000001e : BitVec 64).toNat = false ∧
      ((descramble (s.lane 0).scr (0x78000f000000001e : BitVec 64).toNat).1 : Nat) = 0x1E ∧ (s.lane 0).blkLock = true ∧ 15 ≤ (s.lane 0).idleRun) ∧
    (At ((setLane 0 { state := 4, hdrRun := 63 } rdy).turn (.dataBlockReceive (0 : Fin 96) (1 : Fin 4) (0 : BitVec 64) (7 : Nat))) fun s => s.boot.held = false ∧
      s.inv = true ∧ (s.lane 0).state = 4 ∧ (s.lane 0).eyeBusy = false ∧ (1 = 1 ∨ 1 = 2) ∧ (s.lane 0).blkLock = false ∧ (s.lane 0).hdrRun = 63 ∧
      (s.lane 0).trainRun < 3) ∧
    (At ((setLane 0 { state := 4, hdrRun := 63 } rdy).turn (.dataBlockReceive (0 : Fin 96) (0 : Fin 4) (0 : BitVec 64) (7 : Nat))) fun s => s.boot.held = false ∧
      s.inv = true ∧ (s.lane 0).state = 4 ∧ (s.lane 0).eyeBusy = false ∧ (0 = 0 ∨ 0 = 3)) ∧
    (At ((setLane 0 { state := 4, trainRun := 3, budget := 6 } rdy).turn (.dataBlockReceive (0 : Fin 96) (2 : Fin 4) (268435245 : BitVec 64) (7 : Nat))) fun s => s.boot.held = false ∧
      s.inv = true ∧ (s.lane 0).state = 4 ∧ (s.lane 0).eyeBusy = false ∧ isTrain (268435245 : BitVec 64).toNat = true ∧ 3 ≤ (s.lane 0).trainRun ∧
      (s.lane 0).budget + 1 < s.recLim) ∧
    (At ((setLane 0 { state := 5, badHdrs := List.range 15, budget := 6 } rdy).turn (.dataBlockReceive (0 : Fin 96) (3 : Fin 4) (0 : BitVec 64) (7 : Nat))) fun s => s.boot.held = false ∧
      s.inv = true ∧ (s.lane 0).state = 5 ∧ (s.lane 0).eyeBusy = false ∧ (s.lane 0).rxPm = 0 ∧ (3 = 0 ∨ 3 = 3) ∧
      15 ≤ (((s.lane 0).badHdrs.filter fun k => decide (k < 1023)).length : Nat) ∧ (s.lane 0).budget + 1 < s.recLim) ∧
    (At ((setLane 0 { state := 5, badHdrs := List.range 15 } rdy).turn (.dataBlockReceive (0 : Fin 96) (1 : Fin 4) (0 : BitVec 64) (7 : Nat))) fun s => s.boot.held = false ∧
      s.inv = true ∧ (s.lane 0).state = 5 ∧ (s.lane 0).eyeBusy = false ∧ (s.lane 0).rxPm = 0 ∧
      (((s.lane 0).badHdrs.filter fun k => decide (k < 1023)).length : Nat) < 16) ∧
    (At ((setLane 0 { state := 5, trainRun := 3, badHdrs := List.range 15, budget := 6 } rdy).turn (.dataBlockReceive (0 : Fin 96) (2 : Fin 4) (268435245 : BitVec 64) (7 : Nat))) fun s => s.boot.held = false ∧
      s.inv = true ∧ (s.lane 0).state = 5 ∧ (s.lane 0).eyeBusy = false ∧ (s.lane 0).rxPm = 0 ∧ isTrain (268435245 : BitVec 64).toNat = true ∧
      3 ≤ (s.lane 0).trainRun ∧ (((s.lane 0).badHdrs.filter fun k => decide (k < 1023)).length : Nat) < 16 ∧ (s.lane 0).budget + 1 < s.recLim) ∧
    (At ((setLane 0 { state := 5, pmCode := 1, pmRun := 1, badHdrs := List.range 15 } rdy).turn (.lanePmReceive (0 : Fin 96) (341 : BitVec 64) true)) fun s => s.boot.held = false ∧
      s.inv = true ∧ (s.lane 0).state = 5 ∧ (s.lane 0).eyeBusy = false ∧ (s.lane 0).rxPm = 0 ∧ isTrain (341 : BitVec 64).toNat = false ∧
      bitsOf ((descramble (s.lane 0).scr (341 : BitVec 64).toNat).1 : Nat) 7 0 = 0x55 ∧
      (bitsOf ((descramble (s.lane 0).scr (341 : BitVec 64).toNat).1 : Nat) 15 8 = 1 ∨ bitsOf ((descramble (s.lane 0).scr (341 : BitVec 64).toNat).1 : Nat) 15 8 = 2) ∧
      (((s.lane 0).badHdrs.filter fun k => decide (k < 1023)).length : Nat) < 16 ∧
      (s.lane 0).pmCode = bitsOf ((descramble (s.lane 0).scr (341 : BitVec 64).toNat).1 : Nat) 15 8 ∧ 1 ≤ (s.lane 0).pmRun) ∧
    (At ((setLane 0 { state := 5, pmCode := 1, pmRun := 1, badHdrs := List.range 15 } rdy).turn (.lanePmReceive (0 : Fin 96) (341 : BitVec 64) false)) fun s => s.boot.held = false ∧
      s.inv = true ∧ (s.lane 0).state = 5 ∧ (s.lane 0).eyeBusy = false ∧ (s.lane 0).rxPm = 0 ∧ isTrain (341 : BitVec 64).toNat = false ∧
      bitsOf ((descramble (s.lane 0).scr (341 : BitVec 64).toNat).1 : Nat) 7 0 = 0x55 ∧
      (bitsOf ((descramble (s.lane 0).scr (341 : BitVec 64).toNat).1 : Nat) 15 8 = 1 ∨ bitsOf ((descramble (s.lane 0).scr (341 : BitVec 64).toNat).1 : Nat) 15 8 = 2) ∧
      (((s.lane 0).badHdrs.filter fun k => decide (k < 1023)).length : Nat) < 16) ∧
    (At ((setLane 0 { state := 5, pmCode := 1, pmRun := 1, badHdrs := List.range 15 } rdy).turn (.trackerWindowEnd (0 : Fin 96))) fun s => s.boot.held = false ∧
      s.inv = true ∧ (s.lane 0).state = 5 ∧ (s.lane 0).rxPm = 0 ∧ bit (s.rd Rg.LNE_TRK_CTL) 8 = true ∧ (s.lane 0).winN < 4096) ∧
    (At ((setLane 0 { state := 5, rxPm := 1, waking := true, hdrRun := 63 } rdy).turn (.dataBlockReceive (0 : Fin 96) (1 : Fin 4) (0 : BitVec 64) (7 : Nat))) fun s => s.boot.held = false ∧
      s.inv = true ∧ (s.lane 0).state = 5 ∧ (s.lane 0).rxPm = 1 ∧ (s.lane 0).waking = true ∧ (s.lane 0).hdrRun = 63 ∧ (1 = 1 ∨ 1 = 2)) ∧
    (At ((setLane 0 { state := 5, eyeBusy := true } (rdy.wr Rg.LNE_L_EYE_CTL [0] 0x0A000000)).turn (.dataBlockReceive (0 : Fin 96) (1 : Fin 4) (0 : BitVec 64) (7 : Nat))) fun s => s.boot.held = false ∧
      s.inv = true ∧ (s.lane 0).state = 5 ∧ (s.lane 0).eyeBusy = true ∧ (s.lane 0).rxPm = 0 ∧
      (((s.lane 0).badHdrs.filter fun k => decide (k < 1023)).length : Nat) < 16 ∧
      (s.cnt (Rg.LNE_L_EYE_BITS.at [0])).val + 66 < 2 ^ s.fd Rg.LNE_L_EYE_CTL [0] 29 24) ∧
    (At ((setLane 0 { state := 5, eyeBusy := true } (rdy.wr Rg.LNE_L_EYE_CTL [0] 0x0A000000)).turn (.eyeScanComplete (0 : Fin 96) (7 : Nat))) fun s => s.boot.held = false ∧
      s.inv = true ∧ (s.lane 0).eyeBusy = true ∧ (s.lane 0).rxPm = 0 ∧ 2 ^ s.fd Rg.LNE_L_EYE_CTL [0] 29 24 ≤ cntMax ∧
      (s.cnt (Rg.LNE_L_EYE_BITS.at [0])).val ≤ 2 ^ s.fd Rg.LNE_L_EYE_CTL [0] 29 24) ∧
    (At ((setLane 0 { state := 5, winN := 4096, winOnes := 131136 } (rdy.wr Rg.LNE_TRK_CTL [] 0x101)).turn (.trackerWindowEnd (0 : Fin 96))) fun s => s.boot.held = false ∧
      s.inv = true ∧ (s.lane 0).state = 5 ∧ (s.lane 0).rxPm = 0 ∧ bit (s.rd Rg.LNE_TRK_CTL) 8 = true ∧ 4096 ≤ (s.lane 0).winN ∧
      (((s.lane 0).winOnes : Int) - 32 * (s.lane 0).winN : Int).natAbs * 4096 ≤ max 1 (s.fd Rg.LNE_TRK_CTL [] 7 0) * 64 * (s.lane 0).winN) ∧
    (At ((setLane 0 { state := 5, winN := 4096, winOnes := 131137, trim := 30 } (rdy.wr Rg.LNE_TRK_CTL [] 0x101)).turn (.trackerWindowEnd (0 : Fin 96))) fun s => s.boot.held = false ∧
      s.inv = true ∧ (s.lane 0).state = 5 ∧ (s.lane 0).rxPm = 0 ∧ bit (s.rd Rg.LNE_TRK_CTL) 8 = true ∧ 4096 ≤ (s.lane 0).winN ∧
      max 1 (s.fd Rg.LNE_TRK_CTL [] 7 0) * 64 * (s.lane 0).winN < (((s.lane 0).winOnes : Int) - 32 * (s.lane 0).winN : Int).natAbs * 4096 ∧
      0 < (((s.lane 0).winOnes : Int) - 32 * (s.lane 0).winN : Int) ∧ (s.lane 0).trim < 31 ∧ -33 ≤ (s.lane 0).trim) ∧
    (At ((setLane 0 { state := 5, winN := 4096, winOnes := 131007, trim := -31 } (rdy.wr Rg.LNE_TRK_CTL [] 0x101)).turn (.trackerWindowEnd (0 : Fin 96))) fun s => s.boot.held = false ∧
      s.inv = true ∧ (s.lane 0).state = 5 ∧ (s.lane 0).rxPm = 0 ∧ bit (s.rd Rg.LNE_TRK_CTL) 8 = true ∧ 4096 ≤ (s.lane 0).winN ∧
      max 1 (s.fd Rg.LNE_TRK_CTL [] 7 0) * 64 * (s.lane 0).winN < (((s.lane 0).winOnes : Int) - 32 * (s.lane 0).winN : Int).natAbs * 4096 ∧
      (((s.lane 0).winOnes : Int) - 32 * (s.lane 0).winN : Int) ≤ 0 ∧ -32 < (s.lane 0).trim ∧ (s.lane 0).trim ≤ 32) ∧
    (At ((setLane 0 { state := 5, winN := 4096, winOnes := 131137, trim := 31 } (rdy.wr Rg.LNE_TRK_CTL [] 0x101)).turn (.trackerWindowEnd (0 : Fin 96))) fun s => s.boot.held = false ∧
      s.inv = true ∧ (s.lane 0).state = 5 ∧ (s.lane 0).rxPm = 0 ∧ bit (s.rd Rg.LNE_TRK_CTL) 8 = true ∧ 4096 ≤ (s.lane 0).winN ∧
      max 1 (s.fd Rg.LNE_TRK_CTL [] 7 0) * 64 * (s.lane 0).winN < (((s.lane 0).winOnes : Int) - 32 * (s.lane 0).winN : Int).natAbs * 4096 ∧
      ((0 < (((s.lane 0).winOnes : Int) - 32 * (s.lane 0).winN : Int) ∧
      31 ≤ (s.lane 0).trim) ∨ ((((s.lane 0).winOnes : Int) - 32 * (s.lane 0).winN : Int) ≤ 0 ∧ (s.lane 0).trim ≤ -32)))
    := by and_intros <;> decide +kernel

theorem witness_LaneCommands :
    (At ((setLane 0 { state := 5 } (setGroup 0 { state := 4 } rdy)).turn (.laneRetry fw (5 : Fin 96) (0 : Word))) fun s => s.inv = true ∧
      s.takes (fw : Source) (Rg.LNE_L_CTL.at [5]) = true ∧ s.assigned 5 = false) ∧
    (At ((setLane 0 { state := 5 } (setGroup 0 { state := 4 } rdy)).turn (.laneStop fw (5 : Fin 96) (0 : Word))) fun s => s.inv = true ∧
      s.takes (fw : Source) (Rg.LNE_L_CTL.at [5]) = true ∧ s.assigned 5 = false) ∧
    (At ((setLane 0 { state := 5 } (setGroup 0 { state := 4 } rdy)).turn (.laneTestMode fw (5 : Fin 96) (0 : Word))) fun s => s.inv = true ∧
      s.takes (fw : Source) (Rg.LNE_L_CTL.at [5]) = true ∧ s.assigned 5 = false) ∧
    (At ((setLane 0 { state := 5 } (setGroup 0 { state := 4 } rdy)).turn (.eyeGo fw (5 : Fin 96) (0 : Word))) fun s => s.inv = true ∧
      s.takes (fw : Source) (Rg.LNE_L_CTL.at [5]) = true ∧ s.assigned 5 = false) ∧
    (At ((setLane 0 { state := 5 } (setGroup 0 { state := 4 } rdy)).turn (.eyeStop fw (5 : Fin 96) (0 : Word))) fun s => s.inv = true ∧
      s.takes (fw : Source) (Rg.LNE_L_CTL.at [5]) = true ∧ s.assigned 5 = false) ∧
    (At ((setLane 0 { state := 5 } (setGroup 0 { state := 4 } rdy)).turn (.groupGo fw (0 : Fin 12) (0 : Word))) fun s => s.inv = true ∧
      s.takes (fw : Source) (Rg.LNE_G_CTL.at [0]) = true ∧ bit (0 : Word) 30 = false ∧ ((s.boot.stage ≠ 4 ∧ s.boot.stage ≠ 5 ∧
      s.boot.stage ≠ 7) ∨ (s.group 0).state ≠ 1)) ∧
    (At ((setLane 0 { state := 5 } (setGroup 0 { state := 4 } rdy)).turn (.groupDown fw (0 : Fin 12) (0 : Word))) fun s => s.inv = true ∧
      s.takes (fw : Source) (Rg.LNE_G_CTL.at [0]) = true ∧ bit (0 : Word) 31 = false ∧ ((s.group 0).state = 3 ∨ (s.group 0).state = 4) ∧
      s.groupLanes 0 ≠ []) ∧
    (At ((setLane 0 { state := 5 } (setGroup 0 { state := 4 } rdy)).turn (.groupGrant (0 : Fin 12))) fun s => s.inv = true ∧ s.boot.held = false ∧
      ((s.group 0).state ≠ 2 ∨ takeGrant 2 0 s = none)) ∧
    (At ((setLane 0 { state := 5 } (setGroup 0 { state := 4 } rdy)).turn (.groupGrantRefusal (0 : Fin 12))) fun s => s.inv = true ∧
      s.boot.held = false ∧ takeRefusal 2 0 s = none) ∧
    (At ((setLane 0 { state := 8 } (setGroup 0 { state := 4 } ({ rdy with unitsOut := [(4, [0])] }))).turn (.laneRetry fw (0 : Fin 96) (0 : Word))) fun s => s.inv = true ∧
      s.takes (fw : Source) (Rg.LNE_L_CTL.at [0]) = true ∧ s.assigned 0 = true ∧ bit (0 : Word) 31 = false ∧ bit (0 : Word) 30 = false ∧
      bit (0 : Word) 1 = false ∧ bit (0 : Word) 0 = false ∧ fld (0 : Word) 6 4 = 0 ∧ s.fd Rg.LNE_L_CTL [0] 6 4 = 0 ∧ (s.lane 0).state ≠ 7 ∧
      ((s.lane 0).state = 1 ∨ (s.lane 0).state = 8) ∧ (s.group (0 / 8)).state = 4 ∧ (s.lane 0).state = 8 ∧ (s.outUnits 4).Nodup) ∧
    (At ((setLane 0 { state := 8 } (setGroup 0 { state := 4 } ({ rdy with unitsOut := [(4, [0])] }))).turn (.laneStop fw (0 : Fin 96) (0 : Word))) fun s => s.inv = true ∧
      s.takes (fw : Source) (Rg.LNE_L_CTL.at [0]) = true ∧ s.assigned 0 = true ∧ bit (0 : Word) 31 = false ∧ bit (0 : Word) 30 = false ∧
      bit (0 : Word) 1 = false ∧ bit (0 : Word) 0 = false ∧ fld (0 : Word) 6 4 = 0 ∧ s.fd Rg.LNE_L_CTL [0] 6 4 = 0 ∧ (s.lane 0).state ≠ 7 ∧
      ((s.lane 0).state < 2 ∨ 7 < (s.lane 0).state)) ∧
    (At ((setLane 0 { state := 8 } (setGroup 0 { state := 4 } ({ rdy with unitsOut := [(4, [0])] }))).turn (.eyeGo fw (0 : Fin 96) (0 : Word))) fun s => s.inv = true ∧
      s.takes (fw : Source) (Rg.LNE_L_CTL.at [0]) = true ∧ s.assigned 0 = true ∧ bit (0 : Word) 31 = false ∧ bit (0 : Word) 30 = false ∧
      bit (0 : Word) 1 = false ∧ bit (0 : Word) 0 = false ∧ fld (0 : Word) 6 4 = 0 ∧ s.fd Rg.LNE_L_CTL [0] 6 4 = 0 ∧ (s.lane 0).state ≠ 7 ∧
      ((s.lane 0).state ≠ 5 ∨ (s.lane 0).eyeBusy = true)) ∧
    (At ((setLane 0 { state := 5, eyeBusy := true } (setGroup 0 { state := 4 } rdy)).turn (.eyeStop fw (0 : Fin 96) (0 : Word))) fun s => s.inv = true ∧
      s.takes (fw : Source) (Rg.LNE_L_CTL.at [0]) = true ∧ s.assigned 0 = true ∧ bit (0 : Word) 31 = false ∧ bit (0 : Word) 30 = false ∧
      bit (0 : Word) 1 = false ∧ bit (0 : Word) 0 = false ∧ fld (0 : Word) 6 4 = 0 ∧ s.fd Rg.LNE_L_CTL [0] 6 4 = 0 ∧ (s.lane 0).state ≠ 7 ∧
      (s.lane 0).eyeBusy = true) ∧
    (At ((setLane 0 { state := 1 } (setGroup 0 { state := 4 } rdy)).turn (.laneTestMode fw (0 : Fin 96) (0x50 : Word))) fun s => s.inv = true ∧
      s.takes (fw : Source) (Rg.LNE_L_CTL.at [0]) = true ∧ s.assigned 0 = true ∧ bit (0x50 : Word) 31 = false ∧ bit (0x50 : Word) 30 = false ∧
      bit (0x50 : Word) 1 = false ∧ bit (0x50 : Word) 0 = false ∧ 5 ≤ fld (0x50 : Word) 6 4) ∧
    (At ((setLane 0 { state := 1 } (setGroup 0 { state := 4 } rdy)).turn (.laneTestMode fw (0 : Fin 96) (0x10 : Word))) fun s => s.inv = true ∧
      s.takes (fw : Source) (Rg.LNE_L_CTL.at [0]) = true ∧ s.assigned 0 = true ∧ bit (0x10 : Word) 31 = false ∧ bit (0x10 : Word) 30 = false ∧
      bit (0x10 : Word) 1 = false ∧ bit (0x10 : Word) 0 = false ∧ 1 ≤ fld (0x10 : Word) 6 4 ∧ fld (0x10 : Word) 6 4 ≤ 4 ∧ (s.lane 0).state = 1 ∧
      (s.group (0 / 8)).state = 4) ∧
    (At ((setLane 0 { state := 1 } (setGroup 0 { state := 3 } rdy)).turn (.laneTestMode fw (0 : Fin 96) (0x40 : Word))) fun s => s.inv = true ∧
      s.takes (fw : Source) (Rg.LNE_L_CTL.at [0]) = true ∧ s.assigned 0 = true ∧ bit (0x40 : Word) 31 = false ∧ bit (0x40 : Word) 30 = false ∧
      bit (0x40 : Word) 1 = false ∧ bit (0x40 : Word) 0 = false ∧ 1 ≤ fld (0x40 : Word) 6 4 ∧ fld (0x40 : Word) 6 4 ≤ 4 ∧ (s.lane 0).state = 1 ∧
      (s.group (0 / 8)).state ≠ 4) ∧
    (At ((setLane 0 { state := 5 } (setGroup 0 { state := 4 } rdy)).turn (.laneTestMode fw (0 : Fin 96) (0x40 : Word))) fun s => s.inv = true ∧
      s.takes (fw : Source) (Rg.LNE_L_CTL.at [0]) = true ∧ s.assigned 0 = true ∧ bit (0x40 : Word) 31 = false ∧ bit (0x40 : Word) 30 = false ∧
      bit (0x40 : Word) 1 = false ∧ bit (0x40 : Word) 0 = false ∧ 1 ≤ fld (0x40 : Word) 6 4 ∧ fld (0x40 : Word) 6 4 ≤ 4 ∧ (s.lane 0).state ≠ 1 ∧
      (s.lane 0).state ≠ 7) ∧
    (At ((setLane 0 { state := 7 } (setGroup 0 { state := 4 } rdy)).turn (.laneTestMode fw (0 : Fin 96) (0 : Word))) fun s => s.inv = true ∧
      s.takes (fw : Source) (Rg.LNE_L_CTL.at [0]) = true ∧ s.assigned 0 = true ∧ bit (0 : Word) 31 = false ∧ bit (0 : Word) 30 = false ∧
      bit (0 : Word) 1 = false ∧ bit (0 : Word) 0 = false ∧ fld (0 : Word) 6 4 = 0 ∧ (s.lane 0).state = 7) ∧
    (At ((granted 2 0 (setGroup 0 { state := 2 } rdy)).turn (.groupDown fw (0 : Fin 12) (0 : Word))) fun s => s.inv = true ∧
      s.takes (fw : Source) (Rg.LNE_G_CTL.at [0]) = true ∧ bit (0 : Word) 31 = false ∧ (s.group 0).state = 2) ∧
    (At ((granted 2 0 (setGroup 0 { state := 2 } rdy)).turn (.groupGrant (0 : Fin 12))) fun s => s.inv = true ∧ s.boot.held = false ∧
      (s.group 0).state = 2 ∧ (takeGrant 2 0 s).isSome = true ∧ s.groupLanes 0 ≠ []) ∧
    (At ((turnedDown 2 0 3 (setGroup 0 { state := 2 } rdy)).turn (.groupGrantRefusal (0 : Fin 12))) fun s => s.inv = true ∧ s.boot.held = false ∧
      (takeRefusal 2 0 s).isSome = true ∧ (s.group 0).state = 2) ∧
    (At ((turnedDown 2 0 3 (setGroup 0 { state := 1 } rdy)).turn (.laneRetry fw (0 : Fin 96) (0 : Word))) fun s => s.inv = true ∧
      s.takes (fw : Source) (Rg.LNE_L_CTL.at [0]) = true ∧ s.assigned 0 = true ∧ bit (0 : Word) 31 = false ∧ bit (0 : Word) 30 = false ∧
      bit (0 : Word) 1 = false ∧ bit (0 : Word) 0 = false ∧ fld (0 : Word) 6 4 = 0 ∧ s.fd Rg.LNE_L_CTL [0] 6 4 = 0 ∧ (s.lane 0).state ≠ 7 ∧
      (((s.lane 0).state ≠ 1 ∧ (s.lane 0).state ≠ 8) ∨ (s.group (0 / 8)).state ≠ 4)) ∧
    (At ((turnedDown 2 0 3 (setGroup 0 { state := 1 } rdy)).turn (.laneStop fw (0 : Fin 96) (0 : Word))) fun s => s.inv = true ∧
      s.takes (fw : Source) (Rg.LNE_L_CTL.at [0]) = true ∧ s.assigned 0 = true ∧ bit (0 : Word) 31 = false ∧ bit (0 : Word) 30 = false ∧
      bit (0 : Word) 1 = false ∧ bit (0 : Word) 0 = false ∧ fld (0 : Word) 6 4 = 0 ∧ s.fd Rg.LNE_L_CTL [0] 6 4 = 0 ∧ (s.lane 0).state ≠ 7 ∧
      2 ≤ (s.lane 0).state ∧ (s.lane 0).state ≤ 6) ∧
    (At ((turnedDown 2 0 3 (setGroup 0 { state := 1 } rdy)).turn (.eyeGo fw (0 : Fin 96) (0 : Word))) fun s => s.inv = true ∧
      s.takes (fw : Source) (Rg.LNE_L_CTL.at [0]) = true ∧ s.assigned 0 = true ∧ bit (0 : Word) 31 = false ∧ bit (0 : Word) 30 = false ∧
      bit (0 : Word) 1 = false ∧ bit (0 : Word) 0 = false ∧ fld (0 : Word) 6 4 = 0 ∧ s.fd Rg.LNE_L_CTL [0] 6 4 = 0 ∧ (s.lane 0).state ≠ 7 ∧
      (s.lane 0).state = 5 ∧ (s.lane 0).eyeBusy = false) ∧
    (At ((turnedDown 2 0 3 (setGroup 0 { state := 1 } rdy)).turn (.eyeStop fw (0 : Fin 96) (0 : Word))) fun s => s.inv = true ∧
      s.takes (fw : Source) (Rg.LNE_L_CTL.at [0]) = true ∧ s.assigned 0 = true ∧ bit (0 : Word) 31 = false ∧ bit (0 : Word) 30 = false ∧
      bit (0 : Word) 1 = false ∧ bit (0 : Word) 0 = false ∧ fld (0 : Word) 6 4 = 0 ∧ s.fd Rg.LNE_L_CTL [0] 6 4 = 0 ∧ (s.lane 0).state ≠ 7 ∧
      (s.lane 0).eyeBusy = false) ∧
    (At ((turnedDown 2 0 3 (setGroup 0 { state := 1 } rdy)).turn (.groupGo fw (0 : Fin 12) (0 : Word))) fun s => s.inv = true ∧
      s.takes (fw : Source) (Rg.LNE_G_CTL.at [0]) = true ∧ bit (0 : Word) 30 = false ∧ (s.boot.stage = 4 ∨ s.boot.stage = 5 ∨ s.boot.stage = 7) ∧
      (s.group 0).state = 1) ∧
    (At ((turnedDown 2 0 3 (setGroup 0 { state := 1 } rdy)).turn (.groupDown fw (0 : Fin 12) (0 : Word))) fun s => s.inv = true ∧
      s.takes (fw : Source) (Rg.LNE_G_CTL.at [0]) = true ∧ bit (0 : Word) 31 = false ∧ ((s.group 0).state < 2 ∨ 4 < (s.group 0).state)) ∧
    (At ((turnedDown 2 0 3 (setGroup 0 { state := 1 } rdy)).turn (.groupGrantRefusal (0 : Fin 12))) fun s => s.inv = true ∧ s.boot.held = false ∧
      (takeRefusal 2 0 s).isSome = true ∧ (s.group 0).state ≠ 2)
    := by and_intros <;> decide +kernel

theorem witness_LinkBonding :
    (At ((rdy).turn (.alignReceive (5 : Fin 96) (0 : Nat) (true : Bool))) fun s => s.inv = true ∧ s.boot.held = false ∧ s.cfg.portOfLane? 5 = none) ∧
    (At ((rdy).turn (.bondTimeout (7 : Fin 24))) fun s => s.inv = true ∧ s.boot.held = false ∧ s.cfg.port? 7 = none) ∧
    (At ((rdy).turn (.capsReceive (7 : Fin 24) ([] : List Byte))) fun s => s.inv = true ∧ s.boot.held = false ∧ s.cfg.port? 7 = none) ∧
    (At ((rdy).turn (.widthReceive (7 : Fin 24) (0 : Nat))) fun s => s.inv = true ∧ s.boot.held = false ∧ s.cfg.port? 7 = none) ∧
    (At ((rdy).turn (.portRetrain fw (7 : Fin 24) (0 : Word))) fun s => s.inv = true ∧ s.takes (fw : Source) (Rg.LNK_P_CTL.at [7]) = true ∧
      s.cfg.port? 7 = none) ∧
    (At ((setPort 0 { state := 6 } ({ rdy with unitsOut := [(5, [0])] })).turn (.portRetrain fw (0 : Fin 24) (0 : Word))) fun s => s.inv = true ∧
      (s.cfg.port? 0).isSome = true ∧ s.takes (fw : Source) (Rg.LNK_P_CTL.at [0]) = true ∧ (s.port 0).state = 6 ∧ (s.outUnits 5).Nodup) ∧
    (At ((setPort 0 { state := 2, markers := [(1, 5), (2, 5), (3, 5)] } rdy).turn (.alignReceive (0 : Fin 96) (5 : Nat) true)) fun s => s.inv = true ∧
      s.boot.held = false ∧ (s.cfg.portOfLane? 0).isSome = true ∧ (s.lane 0).state = 5 ∧
      (s.port ((s.cfg.portOfLane? 0).getD (⟨0, 0, 0, false, 0⟩ : PortCfg)).port).markers.rising = true ∧
      (0 - ((s.cfg.portOfLane? 0).getD (⟨0, 0, 0, false, 0⟩ : PortCfg)).first : Nat) < 16 ∧
      (s.bondMask ((s.cfg.portOfLane? 0).getD (⟨0, 0, 0, false, 0⟩ : PortCfg))).testBit (0 - ((s.cfg.portOfLane? 0).getD (⟨0, 0, 0, false, 0⟩ : PortCfg)).first : Nat) = true ∧
      (∀ j ∈ List.range (16), (s.bondMask ((s.cfg.portOfLane? 0).getD (⟨0, 0, 0, false, 0⟩ : PortCfg))).testBit j = true → j ≠ (0 - ((s.cfg.portOfLane? 0).getD (⟨0, 0, 0, false, 0⟩ : PortCfg)).first : Nat) → (s.port ((s.cfg.portOfLane? 0).getD (⟨0, 0, 0, false, 0⟩ : PortCfg)).port).markers.find j = some (5 : Nat)) ∧
      (s.port ((s.cfg.portOfLane? 0).getD (⟨0, 0, 0, false, 0⟩ : PortCfg)).port).state = 2) ∧
    (At ((setPort 0 { state := 2, markers := [(1, 5), (2, 5), (3, 5)] } rdy).turn (.bondTimeout (0 : Fin 24))) fun s => s.inv = true ∧
      (s.cfg.port? 0).isSome = true ∧ (((Instr.bondTimeout (0 : Fin 24)) = Instr.bondTimeout (0 : Fin 24) ∧ 1 = 1 ∧ s.boot.held = false ∧
      (s.port 0).state = 2) ∨ ((Instr.bondTimeout (0 : Fin 24)) = Instr.portRetrain (fw : Source) (0 : Fin 24) 0 ∧ 1 = 0 ∧
      s.takes (fw : Source) (Rg.LNK_P_CTL.at [0]) = true)) ∧ (∀ kk, kk ∈ ((s.cfg.port? 0).getD (⟨0, 0, 0, false, 0⟩ : PortCfg)).lanes → (s.lane kk).state = 5) ∧
      ((s.cfg.port? 0).getD (⟨0, 0, 0, false, 0⟩ : PortCfg)).lanes ≠ []) ∧
    (At ((setPort 0 { state := 5, markers := [(1, 5), (2, 5), (3, 5)] } rdy).turn (.alignReceive (0 : Fin 96) (5 : Nat) true)) fun s => s.inv = true ∧
      s.boot.held = false ∧ (s.cfg.portOfLane? 0).isSome = true ∧ (s.lane 0).state = 5 ∧
      (s.port ((s.cfg.portOfLane? 0).getD (⟨0, 0, 0, false, 0⟩ : PortCfg)).port).markers.rising = true ∧
      (0 - ((s.cfg.portOfLane? 0).getD (⟨0, 0, 0, false, 0⟩ : PortCfg)).first : Nat) < 16 ∧
      (s.bondMask ((s.cfg.portOfLane? 0).getD (⟨0, 0, 0, false, 0⟩ : PortCfg))).testBit (0 - ((s.cfg.portOfLane? 0).getD (⟨0, 0, 0, false, 0⟩ : PortCfg)).first : Nat) = true ∧
      (∀ j ∈ List.range (16), (s.bondMask ((s.cfg.portOfLane? 0).getD (⟨0, 0, 0, false, 0⟩ : PortCfg))).testBit j = true → j ≠ (0 - ((s.cfg.portOfLane? 0).getD (⟨0, 0, 0, false, 0⟩ : PortCfg)).first : Nat) → (s.port ((s.cfg.portOfLane? 0).getD (⟨0, 0, 0, false, 0⟩ : PortCfg)).port).markers.find j = some (5 : Nat)) ∧
      (s.port ((s.cfg.portOfLane? 0).getD (⟨0, 0, 0, false, 0⟩ : PortCfg)).port).state = 5 ∧
      (s.port ((s.cfg.portOfLane? 0).getD (⟨0, 0, 0, false, 0⟩ : PortCfg)).port).aligned = false ∧
      (∀ kk, kk ∈ ((s.cfg.portOfLane? 0).getD (⟨0, 0, 0, false, 0⟩ : PortCfg)).lanes → (s.lane kk).state = 5 ∨ (s.lane kk).state = 8) ∧
      (s.port ((s.cfg.portOfLane? 0).getD (⟨0, 0, 0, false, 0⟩ : PortCfg)).port).peerMask = none) ∧
    (At ((setPort 0 { state := 5, markers := [(1, 5), (2, 5), (3, 5)] } rdy).turn (.widthReceive (0 : Fin 24) (1 : Nat))) fun s => s.inv = true ∧
      (s.cfg.port? 0).isSome = true ∧ s.boot.held = false ∧ (s.port 0).state = 5 ∧
      ((s.port 0).sentMask = none ∨ (∃ k, (s.port 0).sentMask = some k ∧ k &&& 1 = 0))) ∧
    (At ((setPort 0 { state := 4, mask := 15, markers := [(0, 5)] } rdy).turn (.alignReceive (0 : Fin 96) (5 : Nat) (true : Bool))) fun s => s.inv = true ∧
      s.boot.held = false ∧ (s.cfg.portOfLane? 0).isSome = true ∧ (s.lane 0).state = 5 ∧
      ((s.port ((s.cfg.portOfLane? 0).getD (⟨0, 0, 0, false, 0⟩ : PortCfg)).port).state = 3 ∨ (s.port ((s.cfg.portOfLane? 0).getD (⟨0, 0, 0, false, 0⟩ : PortCfg)).port).state = 4) ∧
      (s.port ((s.cfg.portOfLane? 0).getD (⟨0, 0, 0, false, 0⟩ : PortCfg)).port).mask.testBit (0 - ((s.cfg.portOfLane? 0).getD (⟨0, 0, 0, false, 0⟩ : PortCfg)).first : Nat) = true ∧
      ((true : Bool) = false ∨ ((s.port ((s.cfg.portOfLane? 0).getD (⟨0, 0, 0, false, 0⟩ : PortCfg)).port).markers.find (0 - ((s.cfg.portOfLane? 0).getD (⟨0, 0, 0, false, 0⟩ : PortCfg)).first : Nat)).any (fun k => (5 : Nat) != (k + 1) % 2 ^ 32) = true) ∧
      (s.lane 0).budget + 1 < s.recLim) ∧
    (At ((setPort 0 { state := 2 } (setLane 2 { state := 4 } rdy)).turn (.alignReceive (0 : Fin 96) (0 : Nat) false)) fun s => s.inv = true ∧
      s.boot.held = false ∧ (s.cfg.portOfLane? 0).isSome = true ∧ (s.lane 0).state = 5 ∧
      (s.port ((s.cfg.portOfLane? 0).getD (⟨0, 0, 0, false, 0⟩ : PortCfg)).port).markers.rising = true ∧
      (0 - ((s.cfg.portOfLane? 0).getD (⟨0, 0, 0, false, 0⟩ : PortCfg)).first : Nat) < 16 ∧
      (s.bondMask ((s.cfg.portOfLane? 0).getD (⟨0, 0, 0, false, 0⟩ : PortCfg))).testBit (0 - ((s.cfg.portOfLane? 0).getD (⟨0, 0, 0, false, 0⟩ : PortCfg)).first : Nat) = true ∧
      ((s.port ((s.cfg.portOfLane? 0).getD (⟨0, 0, 0, false, 0⟩ : PortCfg)).port).state = 2 ∨ (s.port ((s.cfg.portOfLane? 0).getD (⟨0, 0, 0, false, 0⟩ : PortCfg)).port).state = 5)) ∧
    (At ((setPort 0 { state := 2 } (setLane 2 { state := 4 } rdy)).turn (.alignReceive (0 : Fin 96) (0 : Nat) true)) fun s => s.inv = true ∧
      s.boot.held = false ∧ (s.cfg.portOfLane? 0).isSome = true ∧ (s.lane 0).state = 5 ∧
      (s.port ((s.cfg.portOfLane? 0).getD (⟨0, 0, 0, false, 0⟩ : PortCfg)).port).markers.rising = true ∧
      (0 - ((s.cfg.portOfLane? 0).getD (⟨0, 0, 0, false, 0⟩ : PortCfg)).first : Nat) < 16 ∧
      (s.bondMask ((s.cfg.portOfLane? 0).getD (⟨0, 0, 0, false, 0⟩ : PortCfg))).testBit (0 - ((s.cfg.portOfLane? 0).getD (⟨0, 0, 0, false, 0⟩ : PortCfg)).first : Nat) = true ∧
      (∃ j ∈ List.range (16), (s.bondMask ((s.cfg.portOfLane? 0).getD (⟨0, 0, 0, false, 0⟩ : PortCfg))).testBit j = true ∧
      j ≠ (0 - ((s.cfg.portOfLane? 0).getD (⟨0, 0, 0, false, 0⟩ : PortCfg)).first : Nat) ∧
      (s.port ((s.cfg.portOfLane? 0).getD (⟨0, 0, 0, false, 0⟩ : PortCfg)).port).markers.find j ≠ some (0 : Nat)) ∧
      (s.port ((s.cfg.portOfLane? 0).getD (⟨0, 0, 0, false, 0⟩ : PortCfg)).port).state = 2) ∧
    (At ((setPort 0 { state := 2 } (setLane 2 { state := 4 } rdy)).turn (.bondTimeout (0 : Fin 24))) fun s => s.inv = true ∧
      (s.cfg.port? 0).isSome = true ∧ (((Instr.bondTimeout (0 : Fin 24)) = Instr.bondTimeout (0 : Fin 24) ∧ 1 = 1 ∧ s.boot.held = false ∧
      (s.port 0).state = 2) ∨ ((Instr.bondTimeout (0 : Fin 24)) = Instr.portRetrain (fw : Source) (0 : Fin 24) 0 ∧ 1 = 0 ∧
      s.takes (fw : Source) (Rg.LNK_P_CTL.at [0]) = true)) ∧ (∃ kk, kk ∈ ((s.cfg.port? 0).getD (⟨0, 0, 0, false, 0⟩ : PortCfg)).lanes ∧
      (s.lane kk).state ≠ 5 ∧ (s.lane kk).state ≠ 8)) ∧
    (At ((setPort 0 { state := 2 } (setLane 2 { state := 4 } rdy)).turn (.portRetrain fw (0 : Fin 24) (0 : Word))) fun s => s.inv = true ∧
      (s.cfg.port? 0).isSome = true ∧ (((Instr.portRetrain (fw : Source) (0 : Fin 24) (0 : Word)) = Instr.bondTimeout (0 : Fin 24) ∧ 0 = 1 ∧
      s.boot.held = false ∧ (s.port 0).state = 2) ∨ ((Instr.portRetrain (fw : Source) (0 : Fin 24) (0 : Word)) = Instr.portRetrain (fw : Source) (0 : Fin 24) 0 ∧
      0 = 0 ∧ s.takes (fw : Source) (Rg.LNK_P_CTL.at [0]) = true)) ∧ (∃ kk, kk ∈ ((s.cfg.port? 0).getD (⟨0, 0, 0, false, 0⟩ : PortCfg)).lanes ∧
      (s.lane kk).state ≠ 5 ∧ (s.lane kk).state ≠ 8)) ∧
    (At ((setPort 0 { state := 2 } (setLane 2 { state := 4 } rdy)).turn (.portQuietIdle (0 : Fin 24))) fun s => s.inv = true ∧
      (s.cfg.port? 0).isSome = true ∧ s.boot.held = false ∧ ((s.port 0).idle = false ∨ bit (s.rd Rg.LNK_P_CTL [0]) (1) = false ∨ (s.port 0).peerReports (2) = false ∨ s.maySleep (s.lsc.eng == 2) 0 = false)) ∧
    (At ((setPort 0 { state := 2 } (setLane 2 { state := 4 } rdy)).turn (.portDormantIdle (0 : Fin 24))) fun s => s.inv = true ∧
      (s.cfg.port? 0).isSome = true ∧ s.boot.held = false ∧ ((s.port 0).idle = false ∨ bit (s.rd Rg.LNK_P_CTL [0]) (2) = false ∨ (s.port 0).peerReports (3) = false ∨ s.maySleep (s.lsc.eng == 2) 0 = false)) ∧
    (At ((setPort 0 { state := 3, capsOk := false, fresh := false } rdy).turn (.alignReceive (0 : Fin 96) (0 : Nat) (true : Bool))) fun s => s.inv = true ∧
      s.boot.held = false ∧ (s.cfg.portOfLane? 0).isSome = true ∧
      ((s.lane 0).state ≠ 5 ∨ (s.port ((s.cfg.portOfLane? 0).getD (⟨0, 0, 0, false, 0⟩ : PortCfg)).port).state < 2 ∨ 5 < (s.port ((s.cfg.portOfLane? 0).getD (⟨0, 0, 0, false, 0⟩ : PortCfg)).port).state ∨ (((s.port ((s.cfg.portOfLane? 0).getD (⟨0, 0, 0, false, 0⟩ : PortCfg)).port).state = 3 ∨ (s.port ((s.cfg.portOfLane? 0).getD (⟨0, 0, 0, false, 0⟩ : PortCfg)).port).state = 4) ∧
      (s.port ((s.cfg.portOfLane? 0).getD (⟨0, 0, 0, false, 0⟩ : PortCfg)).port).mask.testBit (0 - ((s.cfg.portOfLane? 0).getD (⟨0, 0, 0, false, 0⟩ : PortCfg)).first : Nat) = false))) ∧
    (At ((setPort 0 { state := 3, capsOk := false, fresh := false } rdy).turn (.capsTimeout (0 : Fin 24))) fun s => s.inv = true ∧
      (s.cfg.port? 0).isSome = true ∧ s.boot.held = false ∧ (s.port 0).state = 3) ∧
    (At ((setPort 0 { state := 3, capsOk := false, fresh := false } rdy).turn (.capsReceive (0 : Fin 24) (caps 2 0 4 1040 0 : List Byte))) fun s => s.inv = true ∧
      (s.cfg.port? 0).isSome = true ∧ s.boot.held = false ∧ (s.port 0).state = 3 ∧ (s.port 0).capsOk = false ∧
      ((ofBytesLE ((caps 2 0 4 1040 0 : List Byte).take 1) ≠ 1 ∧ 3 = 3) ∨ (ofBytesLE ((caps 2 0 4 1040 0 : List Byte).take 1) = 1 ∧
      ofBytesLE (((caps 2 0 4 1040 0 : List Byte).drop 1).take 1) ≠ ((s.cfg.port? 0).getD (⟨0, 0, 0, false, 0⟩ : PortCfg)).kind ∧
      3 = 4) ∨ (ofBytesLE ((caps 2 0 4 1040 0 : List Byte).take 1) = 1 ∧
      ofBytesLE (((caps 2 0 4 1040 0 : List Byte).drop 1).take 1) = ((s.cfg.port? 0).getD (⟨0, 0, 0, false, 0⟩ : PortCfg)).kind ∧
      (ofBytesLE (((caps 2 0 4 1040 0 : List Byte).drop 4).take 2) < 1040 ∨ ofBytesLE (((caps 2 0 4 1040 0 : List Byte).drop 2).take 1) ≠ ((s.cfg.port? 0).getD (⟨0, 0, 0, false, 0⟩ : PortCfg)).count) ∧
      3 = 5))) ∧
    (At ((setPort 0 { state := 3, capsOk := false, fresh := false } rdy).turn (.capsReceive (0 : Fin 24) (caps 1 1 4 1040 0 : List Byte))) fun s => s.inv = true ∧
      (s.cfg.port? 0).isSome = true ∧ s.boot.held = false ∧ (s.port 0).state = 3 ∧ (s.port 0).capsOk = false ∧
      ((ofBytesLE ((caps 1 1 4 1040 0 : List Byte).take 1) ≠ 1 ∧ 4 = 3) ∨ (ofBytesLE ((caps 1 1 4 1040 0 : List Byte).take 1) = 1 ∧
      ofBytesLE (((caps 1 1 4 1040 0 : List Byte).drop 1).take 1) ≠ ((s.cfg.port? 0).getD (⟨0, 0, 0, false, 0⟩ : PortCfg)).kind ∧
      4 = 4) ∨ (ofBytesLE ((caps 1 1 4 1040 0 : List Byte).take 1) = 1 ∧
      ofBytesLE (((caps 1 1 4 1040 0 : List Byte).drop 1).take 1) = ((s.cfg.port? 0).getD (⟨0, 0, 0, false, 0⟩ : PortCfg)).kind ∧
      (ofBytesLE (((caps 1 1 4 1040 0 : List Byte).drop 4).take 2) < 1040 ∨ ofBytesLE (((caps 1 1 4 1040 0 : List Byte).drop 2).take 1) ≠ ((s.cfg.port? 0).getD (⟨0, 0, 0, false, 0⟩ : PortCfg)).count) ∧
      4 = 5))) ∧
    (At ((setPort 0 { state := 3, capsOk := false, fresh := false } rdy).turn (.capsReceive (0 : Fin 24) (caps 1 0 3 1040 0 : List Byte))) fun s => s.inv = true ∧
      (s.cfg.port? 0).isSome = true ∧ s.boot.held = false ∧ (s.port 0).state = 3 ∧ (s.port 0).capsOk = false ∧
      ((ofBytesLE ((caps 1 0 3 1040 0 : List Byte).take 1) ≠ 1 ∧ 5 = 3) ∨ (ofBytesLE ((caps 1 0 3 1040 0 : List Byte).take 1) = 1 ∧
      ofBytesLE (((caps 1 0 3 1040 0 : List Byte).drop 1).take 1) ≠ ((s.cfg.port? 0).getD (⟨0, 0, 0, false, 0⟩ : PortCfg)).kind ∧
      5 = 4) ∨ (ofBytesLE ((caps 1 0 3 1040 0 : List Byte).take 1) = 1 ∧
      ofBytesLE (((caps 1 0 3 1040 0 : List Byte).drop 1).take 1) = ((s.cfg.port? 0).getD (⟨0, 0, 0, false, 0⟩ : PortCfg)).kind ∧
      (ofBytesLE (((caps 1 0 3 1040 0 : List Byte).drop 4).take 2) < 1040 ∨ ofBytesLE (((caps 1 0 3 1040 0 : List Byte).drop 2).take 1) ≠ ((s.cfg.port? 0).getD (⟨0, 0, 0, false, 0⟩ : PortCfg)).count) ∧
      5 = 5))) ∧
    (At ((setPort 0 { state := 3, capsOk := false, fresh := false } rdy).turn (.capsReceive (0 : Fin 24) (caps 1 0 4 1040 0 : List Byte))) fun s => s.inv = true ∧
      (s.cfg.port? 0).isSome = true ∧ s.boot.held = false ∧ (s.port 0).state = 3 ∧ ofBytesLE ((caps 1 0 4 1040 0 : List Byte).take 1) = 1 ∧
      ofBytesLE (((caps 1 0 4 1040 0 : List Byte).drop 1).take 1) = ((s.cfg.port? 0).getD (⟨0, 0, 0, false, 0⟩ : PortCfg)).kind ∧
      1040 ≤ ofBytesLE (((caps 1 0 4 1040 0 : List Byte).drop 4).take 2) ∧
      ofBytesLE (((caps 1 0 4 1040 0 : List Byte).drop 2).take 1) = ((s.cfg.port? 0).getD (⟨0, 0, 0, false, 0⟩ : PortCfg)).count ∧
      (s.port 0).capsOk = false ∧ (s.port 0).fresh = false ∧ bitsOf (ofBytesLE (((caps 1 0 4 1040 0 : List Byte).drop 13).take 1)) 1 1 = 0) ∧
    (At ((setPort 0 { state := 3, capsOk := false, fresh := false } rdy).turn (.capsReceive (0 : Fin 24) (caps 1 0 4 1040 2 : List Byte))) fun s => s.inv = true ∧
      (s.cfg.port? 0).isSome = true ∧ s.boot.held = false ∧ (s.port 0).state = 3 ∧ ofBytesLE ((caps 1 0 4 1040 2 : List Byte).take 1) = 1 ∧
      ofBytesLE (((caps 1 0 4 1040 2 : List Byte).drop 1).take 1) = ((s.cfg.port? 0).getD (⟨0, 0, 0, false, 0⟩ : PortCfg)).kind ∧
      1040 ≤ ofBytesLE (((caps 1 0 4 1040 2 : List Byte).drop 4).take 2) ∧
      ofBytesLE (((caps 1 0 4 1040 2 : List Byte).drop 2).take 1) = ((s.cfg.port? 0).getD (⟨0, 0, 0, false, 0⟩ : PortCfg)).count ∧
      (s.port 0).capsOk = false ∧ ((s.port 0).fresh = true ∨ bitsOf (ofBytesLE (((caps 1 0 4 1040 2 : List Byte).drop 13).take 1)) 1 1 = 1)) ∧
    (At ((setPort 0 { state := 3, capsOk := true, fresh := false } rdy).turn (.capsReceive (0 : Fin 24) (caps 1 0 4 1040 0 : List Byte))) fun s => s.inv = true ∧
      (s.cfg.port? 0).isSome = true ∧ s.boot.held = false ∧ (s.port 0).state = 3 ∧ ofBytesLE ((caps 1 0 4 1040 0 : List Byte).take 1) = 1 ∧
      ofBytesLE (((caps 1 0 4 1040 0 : List Byte).drop 1).take 1) = ((s.cfg.port? 0).getD (⟨0, 0, 0, false, 0⟩ : PortCfg)).kind ∧
      1040 ≤ ofBytesLE (((caps 1 0 4 1040 0 : List Byte).drop 4).take 2) ∧
      ofBytesLE (((caps 1 0 4 1040 0 : List Byte).drop 2).take 1) = ((s.cfg.port? 0).getD (⟨0, 0, 0, false, 0⟩ : PortCfg)).count ∧
      (s.port 0).capsOk = true ∧ bitsOf (ofBytesLE (((caps 1 0 4 1040 0 : List Byte).drop 13).take 1)) 0 0 = 0) ∧
    (At ((setPort 0 { state := 3, capsOk := true, fresh := false } rdy).turn (.capsReceive (0 : Fin 24) (caps 1 0 4 1040 1 : List Byte))) fun s => s.inv = true ∧
      (s.cfg.port? 0).isSome = true ∧ s.boot.held = false ∧ (s.port 0).state = 3 ∧ ofBytesLE ((caps 1 0 4 1040 1 : List Byte).take 1) = 1 ∧
      ofBytesLE (((caps 1 0 4 1040 1 : List Byte).drop 1).take 1) = ((s.cfg.port? 0).getD (⟨0, 0, 0, false, 0⟩ : PortCfg)).kind ∧
      1040 ≤ ofBytesLE (((caps 1 0 4 1040 1 : List Byte).drop 4).take 2) ∧
      ofBytesLE (((caps 1 0 4 1040 1 : List Byte).drop 2).take 1) = ((s.cfg.port? 0).getD (⟨0, 0, 0, false, 0⟩ : PortCfg)).count ∧
      (s.port 0).capsOk = true ∧ bitsOf (ofBytesLE (((caps 1 0 4 1040 1 : List Byte).drop 13).take 1)) 0 0 = 1) ∧
    (At ((setPort 0 { state := 5, sentMask := some 1 } rdy).turn (.widthReceive (0 : Fin 24) (9 : Nat))) fun s => s.inv = true ∧
      (s.cfg.port? 0).isSome = true ∧ s.boot.held = false ∧ (s.port 0).state = 5 ∧ (s.port 0).sentMask = some 1 ∧ 1 &&& 9 ≠ 0) ∧
    (At ((setPort 0 { state := 5, peerMask := some 1, markers := [(1, 5), (2, 5), (3, 5)] } rdy).turn (.alignReceive (0 : Fin 96) (5 : Nat) true)) fun s => s.inv = true ∧
      s.boot.held = false ∧ (s.cfg.portOfLane? 0).isSome = true ∧ (s.lane 0).state = 5 ∧
      (s.port ((s.cfg.portOfLane? 0).getD (⟨0, 0, 0, false, 0⟩ : PortCfg)).port).markers.rising = true ∧
      (0 - ((s.cfg.portOfLane? 0).getD (⟨0, 0, 0, false, 0⟩ : PortCfg)).first : Nat) < 16 ∧
      (s.bondMask ((s.cfg.portOfLane? 0).getD (⟨0, 0, 0, false, 0⟩ : PortCfg))).testBit (0 - ((s.cfg.portOfLane? 0).getD (⟨0, 0, 0, false, 0⟩ : PortCfg)).first : Nat) = true ∧
      (∀ j ∈ List.range (16), (s.bondMask ((s.cfg.portOfLane? 0).getD (⟨0, 0, 0, false, 0⟩ : PortCfg))).testBit j = true → j ≠ (0 - ((s.cfg.portOfLane? 0).getD (⟨0, 0, 0, false, 0⟩ : PortCfg)).first : Nat) → (s.port ((s.cfg.portOfLane? 0).getD (⟨0, 0, 0, false, 0⟩ : PortCfg)).port).markers.find j = some (5 : Nat)) ∧
      (s.port ((s.cfg.portOfLane? 0).getD (⟨0, 0, 0, false, 0⟩ : PortCfg)).port).state = 5 ∧
      (s.port ((s.cfg.portOfLane? 0).getD (⟨0, 0, 0, false, 0⟩ : PortCfg)).port).aligned = false ∧
      (∀ kk, kk ∈ ((s.cfg.portOfLane? 0).getD (⟨0, 0, 0, false, 0⟩ : PortCfg)).lanes → (s.lane kk).state = 5 ∨ (s.lane kk).state = 8) ∧
      (s.port ((s.cfg.portOfLane? 0).getD (⟨0, 0, 0, false, 0⟩ : PortCfg)).port).peerMask = some 1 ∧
      (s.bondMask ((s.cfg.portOfLane? 0).getD (⟨0, 0, 0, false, 0⟩ : PortCfg))) &&& 1 ≠ 0) ∧
    (At ((setPort 0 { state := 4, mask := 15, caps := caps 1 0 4 1040 1 } ({ surf.wr Rg.LNK_P_CTL [0] 6 with tgn := [] })).turn (.alignReceive (0 : Fin 96) (0 : Nat) (true : Bool))) fun s => s.inv = true) ∧
    (At ((setPort 0 { state := 4, mask := 15, caps := caps 1 0 4 1040 1 } ({ surf.wr Rg.LNK_P_CTL [0] 6 with tgn := [] })).turn (.capsSend (0 : Fin 24))) fun s => s.inv = true) ∧
    (At ((setPort 0 { state := 4, mask := 15, caps := caps 1 0 4 1040 1 } ({ surf.wr Rg.LNK_P_CTL [0] 6 with tgn := [] })).turn (.portQuietIdle (0 : Fin 24))) fun s => s.inv = true ∧
      (s.cfg.port? 0).isSome = true ∧ s.boot.held = false ∧ (s.port 0).idle = true ∧ bit (s.rd Rg.LNK_P_CTL [0]) (1) = true ∧
      (s.port 0).peerReports (2) = true ∧ s.maySleep (s.lsc.eng == 2) 0 = true ∧
      (s.activeLanes ((s.cfg.port? 0).getD (⟨0, 0, 0, false, 0⟩ : PortCfg))).contains 0 = true ∧
      (s.port 0).mask.testBit (0 - ((s.cfg.port? 0).getD (⟨0, 0, 0, false, 0⟩ : PortCfg)).first) = true ∧
      ((s.activeLanes ((s.cfg.port? 0).getD (⟨0, 0, 0, false, 0⟩ : PortCfg))).contains 97 = false ∨ (s.port 0).mask.testBit (97 - ((s.cfg.port? 0).getD (⟨0, 0, 0, false, 0⟩ : PortCfg)).first) = false)) ∧
    (At ((setPort 0 { state := 4, mask := 15, caps := caps 1 0 4 1040 1 } ({ surf.wr Rg.LNK_P_CTL [0] 6 with tgn := [] })).turn (.alignReceive (0 : Fin 96) (0 : Nat) true)) fun s => s.inv = true ∧
      s.boot.held = false ∧ (s.cfg.portOfLane? 0).isSome = true ∧ (s.lane 0).state = 5 ∧
      ((s.port ((s.cfg.portOfLane? 0).getD (⟨0, 0, 0, false, 0⟩ : PortCfg)).port).state = 3 ∨ (s.port ((s.cfg.portOfLane? 0).getD (⟨0, 0, 0, false, 0⟩ : PortCfg)).port).state = 4) ∧
      (s.port ((s.cfg.portOfLane? 0).getD (⟨0, 0, 0, false, 0⟩ : PortCfg)).port).mask.testBit (0 - ((s.cfg.portOfLane? 0).getD (⟨0, 0, 0, false, 0⟩ : PortCfg)).first : Nat) = true ∧
      ((s.port ((s.cfg.portOfLane? 0).getD (⟨0, 0, 0, false, 0⟩ : PortCfg)).port).markers.find (0 - ((s.cfg.portOfLane? 0).getD (⟨0, 0, 0, false, 0⟩ : PortCfg)).first : Nat) = none ∨ ((s.port ((s.cfg.portOfLane? 0).getD (⟨0, 0, 0, false, 0⟩ : PortCfg)).port).markers.find (0 - ((s.cfg.portOfLane? 0).getD (⟨0, 0, 0, false, 0⟩ : PortCfg)).first : Nat)).any (fun k => 0 == (k + 1) % 2 ^ 32) = true)) ∧
    (At ((setPort 0 { state := 4, mask := 15, caps := caps 1 0 4 1040 1 } ({ surf.wr Rg.LNK_P_CTL [0] 6 with tgn := [] })).turn (.portRetrain fw (0 : Fin 24) (0 : Word))) fun s => s.inv = true ∧
      (s.cfg.port? 0).isSome = true ∧ (((Instr.portRetrain (fw : Source) (0 : Fin 24) (0 : Word)) = Instr.bondTimeout (0 : Fin 24) ∧ 0 = 1 ∧
      s.boot.held = false ∧ (s.port 0).state = 2) ∨ ((Instr.portRetrain (fw : Source) (0 : Fin 24) (0 : Word)) = Instr.portRetrain (fw : Source) (0 : Fin 24) 0 ∧
      0 = 0 ∧ s.takes (fw : Source) (Rg.LNK_P_CTL.at [0]) = true)) ∧
      (∀ kk, kk ∈ ((s.cfg.port? 0).getD (⟨0, 0, 0, false, 0⟩ : PortCfg)).lanes → (s.lane kk).state = 5) ∧
      ((s.cfg.port? 0).getD (⟨0, 0, 0, false, 0⟩ : PortCfg)).lanes ≠ []) ∧
    (At ((setPort 0 { state := 4, mask := 15, caps := caps 1 0 4 1040 1 } ({ surf.wr Rg.LNK_P_CTL [0] 6 with tgn := [] })).turn (.bondTimeout (0 : Fin 24))) fun s => s.inv = true ∧
      (s.cfg.port? 0).isSome = true ∧ s.boot.held = false ∧ (s.port 0).state ≠ 2) ∧
    (At ((setPort 0 { state := 4, mask := 15, caps := caps 1 0 4 1040 1 } ({ surf.wr Rg.LNK_P_CTL [0] 6 with tgn := [] })).turn (.capsReceive (0 : Fin 24) ([] : List Byte))) fun s => s.inv = true ∧
      (s.cfg.port? 0).isSome = true ∧ s.boot.held = false ∧ (s.port 0).state ≠ 3) ∧
    (At ((setPort 0 { state := 4, mask := 15, caps := caps 1 0 4 1040 1 } ({ surf.wr Rg.LNK_P_CTL [0] 6 with tgn := [] })).turn (.capsTimeout (0 : Fin 24))) fun s => s.inv = true ∧
      (s.cfg.port? 0).isSome = true ∧ s.boot.held = false ∧ (s.port 0).state ≠ 3) ∧
    (At ((setPort 0 { state := 4, mask := 15, caps := caps 1 0 4 1040 1 } ({ surf.wr Rg.LNK_P_CTL [0] 6 with tgn := [] })).turn (.widthReceive (0 : Fin 24) (0 : Nat))) fun s => s.inv = true ∧
      (s.cfg.port? 0).isSome = true ∧ s.boot.held = false ∧ (s.port 0).state ≠ 5) ∧
    (At ((setPort 0 { state := 4, mask := 15, caps := caps 1 0 4 1040 1 } ({ surf.wr Rg.LNK_P_CTL [0] 6 with tgn := [] })).turn (.portDormantIdle (0 : Fin 24))) fun s => s.inv = true ∧
      (s.cfg.port? 0).isSome = true ∧ s.boot.held = false ∧ (s.port 0).idle = true ∧ bit (s.rd Rg.LNK_P_CTL [0]) (2) = true ∧
      (s.port 0).peerReports (3) = true ∧ s.maySleep (s.lsc.eng == 2) 0 = true ∧
      (s.activeLanes ((s.cfg.port? 0).getD (⟨0, 0, 0, false, 0⟩ : PortCfg))).contains 0 = true ∧
      (s.port 0).mask.testBit (0 - ((s.cfg.port? 0).getD (⟨0, 0, 0, false, 0⟩ : PortCfg)).first) = true ∧
      ((s.activeLanes ((s.cfg.port? 0).getD (⟨0, 0, 0, false, 0⟩ : PortCfg))).contains 97 = false ∨ (s.port 0).mask.testBit (97 - ((s.cfg.port? 0).getD (⟨0, 0, 0, false, 0⟩ : PortCfg)).first) = false))
    := by and_intros <;> decide +kernel

theorem witness_LinkPackets :
    (At ((setPort 0 { state := 4, mask := 15, rxExp := 5 } rdy).turn (.linkPacketReceive (0 : Fin 24) ({ pkt 3 0 5 5 1 with unseq := true } : LinkPkt))) fun s => s.inv = true) ∧
    (At ((setPort 0 { state := 4, mask := 15, rxExp := 5 } rdy).turn (.creditSend (0 : Fin 24))) fun s => s.inv = true) ∧
    (At ((setPort 0 { state := 4, mask := 15, rxExp := 5 } rdy).turn (.eventTransactionSend)) fun s => s.inv = true) ∧
    (At (setPort 0 { state := 4, mask := 15, rxExp := 5 } rdy) fun s => s.inv = true ∧ s.boot.held = false ∧
      ({ pkt 3 0 5 5 1 with unseq := true } : LinkPkt).unseq = true ∧ (s.port 0).state = 4 ∧ (s.port 0).rxCredit.rising = true ∧
      (s.ingress 0 = true ∨ 8 = 8) ∧ (s.evtPort? = none ∨ s.mgt.sending = false ∨ s.mgt.sent = s.mgt.wr)) ∧
    (At ((setPort 0 { state := 4, mask := 15, rxExp := 5 } rdy).turn (.ackReceive (0 : Fin 24) (0 : Nat))) fun s => s.inv = true ∧
      s.boot.held = false ∧ (s.port 0).state = 4 ∧ (s.port 0).waiting = []) ∧
    (At ((setPort 0 { state := 4, mask := 15, rxExp := 5 } rdy).turn (.nakReceive (0 : Fin 24) (0 : Nat))) fun s => s.inv = true ∧
      s.boot.held = false ∧ (s.port 0).state = 4 ∧ ((s.port 0).replay.filter (fun y => decide (2048 ≤ ((0 : Nat) % 4096 + 4096 - y.seq) % 4096)) : List TxPkt) = [] ∧
      (s.port 0).waiting = []) ∧
    (At ((setPort 0 { state := 4, mask := 15, rxExp := 5 } rdy).turn (.replayTimeout (0 : Fin 24))) fun s => s.inv = true ∧ s.boot.held = false ∧
      (s.port 0).state = 4 ∧ ((s.port 0).replay = [] ∨ (s.port 0).replayClk = some s.now)) ∧
    (At ((setPort 0 { state := 4, mask := 15, rxExp := 5 } rdy).turn (.creditReceive (0 : Fin 24) (0 : Nat) (0 : Nat) (0 : Nat))) fun s => s.inv = true ∧
      s.boot.held = false ∧ (s.port 0).state ≠ 0 ∧ (0 : Nat) < 12 ∧ (s.port 0).waiting = []) ∧
    (At ((setPort 0 { state := 4, mask := 15, rxExp := 5 } rdy).turn (.eventDeliveryCtl fw (0 : Word))) fun s => s.inv = true ∧
      s.takes (fw : Source) Rg.LNK_CTL.at = true ∧ (bit (0 : Word) 0 = false ∨ s.ingress (fld (0 : Word) 20 16) = false)) ∧
    (At (setPort 0 { state := 4, mask := 15, rxExp := 5 } rdy) fun s => s.inv = true ∧ s.boot.held = false ∧ (s.port 0).state = 4 ∧
      ({ pkt 3 0 5 5 1 with err := true } : LinkPkt).unseq = false ∧
      ((({ pkt 3 0 5 5 1 with err := true } : LinkPkt).err = true ∨ (s.port 0).rxErr = true ∨ ({ pkt 3 0 5 5 1 with err := true } : LinkPkt).body.length ≠ 8 * ({ pkt 3 0 5 5 1 with err := true } : LinkPkt).blocks ∨ ({ pkt 3 0 5 5 1 with err := true } : LinkPkt).blocks = 0 ∨ 1040 < ({ pkt 3 0 5 5 1 with err := true } : LinkPkt).blocks ∨ (({ pkt 3 0 5 5 1 with err := true } : LinkPkt).crc = packetCrc ({ pkt 3 0 5 5 1 with err := true } : LinkPkt).type ({ pkt 3 0 5 5 1 with err := true } : LinkPkt).stream ({ pkt 3 0 5 5 1 with err := true } : LinkPkt).unseq ({ pkt 3 0 5 5 1 with err := true } : LinkPkt).seq ({ pkt 3 0 5 5 1 with err := true } : LinkPkt).blocks ({ pkt 3 0 5 5 1 with err := true } : LinkPkt).body ({ pkt 3 0 5 5 1 with err := true } : LinkPkt).prot ({ pkt 3 0 5 5 1 with err := true } : LinkPkt).epoch ({ pkt 3 0 5 5 1 with err := true } : LinkPkt).retrans ({ pkt 3 0 5 5 1 with err := true } : LinkPkt).seq2 ∧
      ({ pkt 3 0 5 5 1 with err := true } : LinkPkt).seq ≠ ({ pkt 3 0 5 5 1 with err := true } : LinkPkt).seq2)) ∧
      3 = 3 ∨ (({ pkt 3 0 5 5 1 with err := true } : LinkPkt).err = false ∧ (s.port 0).rxErr = false ∧
      ({ pkt 3 0 5 5 1 with err := true } : LinkPkt).body.length = 8 * ({ pkt 3 0 5 5 1 with err := true } : LinkPkt).blocks ∧
      ({ pkt 3 0 5 5 1 with err := true } : LinkPkt).blocks ≠ 0 ∧ ({ pkt 3 0 5 5 1 with err := true } : LinkPkt).blocks ≤ 1040 ∧
      ({ pkt 3 0 5 5 1 with err := true } : LinkPkt).crc = packetCrc ({ pkt 3 0 5 5 1 with err := true } : LinkPkt).type ({ pkt 3 0 5 5 1 with err := true } : LinkPkt).stream ({ pkt 3 0 5 5 1 with err := true } : LinkPkt).unseq ({ pkt 3 0 5 5 1 with err := true } : LinkPkt).seq ({ pkt 3 0 5 5 1 with err := true } : LinkPkt).blocks ({ pkt 3 0 5 5 1 with err := true } : LinkPkt).body ({ pkt 3 0 5 5 1 with err := true } : LinkPkt).prot ({ pkt 3 0 5 5 1 with err := true } : LinkPkt).epoch ({ pkt 3 0 5 5 1 with err := true } : LinkPkt).retrans ({ pkt 3 0 5 5 1 with err := true } : LinkPkt).seq2 ∧
      ({ pkt 3 0 5 5 1 with err := true } : LinkPkt).seq = ({ pkt 3 0 5 5 1 with err := true } : LinkPkt).seq2 ∧
      ({ pkt 3 0 5 5 1 with err := true } : LinkPkt).seq ≠ (s.port 0).rxExp ∧
      ((((s.port 0).rxExp + 4096 - ({ pkt 3 0 5 5 1 with err := true } : LinkPkt).seq) % 4096 : Nat) = 0 ∨ 2047 < (((s.port 0).rxExp + 4096 - ({ pkt 3 0 5 5 1 with err := true } : LinkPkt).seq) % 4096 : Nat))) ∧
      3 = 2) ∧ (s.port 0).nakSent = false) ∧
    (At (setPort 0 { state := 4, mask := 15, rxExp := 5 } rdy) fun s => s.inv = true ∧ s.boot.held = false ∧ (s.port 0).state = 4 ∧
      ({ pkt 3 0 5 5 1 with crc := 0 } : LinkPkt).unseq = false ∧ ({ pkt 3 0 5 5 1 with crc := 0 } : LinkPkt).err = false ∧
      (s.port 0).rxErr = false ∧ ({ pkt 3 0 5 5 1 with crc := 0 } : LinkPkt).body.length = 8 * ({ pkt 3 0 5 5 1 with crc := 0 } : LinkPkt).blocks ∧
      ({ pkt 3 0 5 5 1 with crc := 0 } : LinkPkt).blocks ≠ 0 ∧ ({ pkt 3 0 5 5 1 with crc := 0 } : LinkPkt).blocks ≤ 1040 ∧
      ({ pkt 3 0 5 5 1 with crc := 0 } : LinkPkt).crc ≠ packetCrc ({ pkt 3 0 5 5 1 with crc := 0 } : LinkPkt).type ({ pkt 3 0 5 5 1 with crc := 0 } : LinkPkt).stream ({ pkt 3 0 5 5 1 with crc := 0 } : LinkPkt).unseq ({ pkt 3 0 5 5 1 with crc := 0 } : LinkPkt).seq ({ pkt 3 0 5 5 1 with crc := 0 } : LinkPkt).blocks ({ pkt 3 0 5 5 1 with crc := 0 } : LinkPkt).body ({ pkt 3 0 5 5 1 with crc := 0 } : LinkPkt).prot ({ pkt 3 0 5 5 1 with crc := 0 } : LinkPkt).epoch ({ pkt 3 0 5 5 1 with crc := 0 } : LinkPkt).retrans ({ pkt 3 0 5 5 1 with crc := 0 } : LinkPkt).seq2) ∧
    (At (setPort 0 { state := 4, mask := 15, rxExp := 5 } rdy) fun s => s.inv = true ∧ s.boot.held = false ∧ (s.port 0).state = 4 ∧
      (pkt 3 0 6 6 1 : LinkPkt).unseq = false ∧ (((pkt 3 0 6 6 1 : LinkPkt).err = true ∨ (s.port 0).rxErr = true ∨ (pkt 3 0 6 6 1 : LinkPkt).body.length ≠ 8 * (pkt 3 0 6 6 1 : LinkPkt).blocks ∨ (pkt 3 0 6 6 1 : LinkPkt).blocks = 0 ∨ 1040 < (pkt 3 0 6 6 1 : LinkPkt).blocks ∨ ((pkt 3 0 6 6 1 : LinkPkt).crc = packetCrc (pkt 3 0 6 6 1 : LinkPkt).type (pkt 3 0 6 6 1 : LinkPkt).stream (pkt 3 0 6 6 1 : LinkPkt).unseq (pkt 3 0 6 6 1 : LinkPkt).seq (pkt 3 0 6 6 1 : LinkPkt).blocks (pkt 3 0 6 6 1 : LinkPkt).body (pkt 3 0 6 6 1 : LinkPkt).prot (pkt 3 0 6 6 1 : LinkPkt).epoch (pkt 3 0 6 6 1 : LinkPkt).retrans (pkt 3 0 6 6 1 : LinkPkt).seq2 ∧
      (pkt 3 0 6 6 1 : LinkPkt).seq ≠ (pkt 3 0 6 6 1 : LinkPkt).seq2)) ∧ 2 = 3 ∨ ((pkt 3 0 6 6 1 : LinkPkt).err = false ∧
      (s.port 0).rxErr = false ∧ (pkt 3 0 6 6 1 : LinkPkt).body.length = 8 * (pkt 3 0 6 6 1 : LinkPkt).blocks ∧
      (pkt 3 0 6 6 1 : LinkPkt).blocks ≠ 0 ∧ (pkt 3 0 6 6 1 : LinkPkt).blocks ≤ 1040 ∧
      (pkt 3 0 6 6 1 : LinkPkt).crc = packetCrc (pkt 3 0 6 6 1 : LinkPkt).type (pkt 3 0 6 6 1 : LinkPkt).stream (pkt 3 0 6 6 1 : LinkPkt).unseq (pkt 3 0 6 6 1 : LinkPkt).seq (pkt 3 0 6 6 1 : LinkPkt).blocks (pkt 3 0 6 6 1 : LinkPkt).body (pkt 3 0 6 6 1 : LinkPkt).prot (pkt 3 0 6 6 1 : LinkPkt).epoch (pkt 3 0 6 6 1 : LinkPkt).retrans (pkt 3 0 6 6 1 : LinkPkt).seq2 ∧
      (pkt 3 0 6 6 1 : LinkPkt).seq = (pkt 3 0 6 6 1 : LinkPkt).seq2 ∧ (pkt 3 0 6 6 1 : LinkPkt).seq ≠ (s.port 0).rxExp ∧
      ((((s.port 0).rxExp + 4096 - (pkt 3 0 6 6 1 : LinkPkt).seq) % 4096 : Nat) = 0 ∨ 2047 < (((s.port 0).rxExp + 4096 - (pkt 3 0 6 6 1 : LinkPkt).seq) % 4096 : Nat))) ∧
      2 = 2) ∧ (s.port 0).nakSent = false) ∧
    (At (setPort 0 { state := 4, mask := 15, rxExp := 5 } rdy) fun s => s.inv = true ∧ s.boot.held = false ∧ (s.port 0).state = 4 ∧
      (pkt 3 0 2054 2054 1 : LinkPkt).unseq = false ∧ (pkt 3 0 2054 2054 1 : LinkPkt).err = false ∧ (s.port 0).rxErr = false ∧
      (pkt 3 0 2054 2054 1 : LinkPkt).body.length = 8 * (pkt 3 0 2054 2054 1 : LinkPkt).blocks ∧ (pkt 3 0 2054 2054 1 : LinkPkt).blocks ≠ 0 ∧
      (pkt 3 0 2054 2054 1 : LinkPkt).blocks ≤ 1040 ∧ (pkt 3 0 2054 2054 1 : LinkPkt).crc = packetCrc (pkt 3 0 2054 2054 1 : LinkPkt).type (pkt 3 0 2054 2054 1 : LinkPkt).stream (pkt 3 0 2054 2054 1 : LinkPkt).unseq (pkt 3 0 2054 2054 1 : LinkPkt).seq (pkt 3 0 2054 2054 1 : LinkPkt).blocks (pkt 3 0 2054 2054 1 : LinkPkt).body (pkt 3 0 2054 2054 1 : LinkPkt).prot (pkt 3 0 2054 2054 1 : LinkPkt).epoch (pkt 3 0 2054 2054 1 : LinkPkt).retrans (pkt 3 0 2054 2054 1 : LinkPkt).seq2 ∧
      (pkt 3 0 2054 2054 1 : LinkPkt).seq = (pkt 3 0 2054 2054 1 : LinkPkt).seq2 ∧ (pkt 3 0 2054 2054 1 : LinkPkt).seq ≠ (s.port 0).rxExp ∧
      1 ≤ (((s.port 0).rxExp + 4096 - (pkt 3 0 2054 2054 1 : LinkPkt).seq) % 4096 : Nat) ∧
      (((s.port 0).rxExp + 4096 - (pkt 3 0 2054 2054 1 : LinkPkt).seq) % 4096 : Nat) ≤ 2047) ∧
    (At (setPort 0 { state := 4, mask := 15, replay := [⟨4094, 3, 1, [1], false, 0⟩, ⟨4095, 8, 0, [2], true, 1⟩], replays := 3 } rdy) fun s => s.inv = true ∧
      s.boot.held = false ∧ (s.port 0).state = 4 ∧ (pkt 3 0 0 0 1 : LinkPkt).unseq = false ∧ (pkt 3 0 0 0 1 : LinkPkt).err = false ∧
      (s.port 0).rxErr = false ∧ (pkt 3 0 0 0 1 : LinkPkt).body.length = 8 * (pkt 3 0 0 0 1 : LinkPkt).blocks ∧
      (pkt 3 0 0 0 1 : LinkPkt).blocks ≠ 0 ∧ (pkt 3 0 0 0 1 : LinkPkt).blocks ≤ 1040 ∧
      (pkt 3 0 0 0 1 : LinkPkt).crc = packetCrc (pkt 3 0 0 0 1 : LinkPkt).type (pkt 3 0 0 0 1 : LinkPkt).stream (pkt 3 0 0 0 1 : LinkPkt).unseq (pkt 3 0 0 0 1 : LinkPkt).seq (pkt 3 0 0 0 1 : LinkPkt).blocks (pkt 3 0 0 0 1 : LinkPkt).body (pkt 3 0 0 0 1 : LinkPkt).prot (pkt 3 0 0 0 1 : LinkPkt).epoch (pkt 3 0 0 0 1 : LinkPkt).retrans (pkt 3 0 0 0 1 : LinkPkt).seq2 ∧
      (pkt 3 0 0 0 1 : LinkPkt).seq = (pkt 3 0 0 0 1 : LinkPkt).seq2 ∧ (pkt 3 0 0 0 1 : LinkPkt).seq = (s.port 0).rxExp ∧
      ((pkt 3 0 0 0 1 : LinkPkt).type = 3 ∨ (pkt 3 0 0 0 1 : LinkPkt).type = 4 ∨ (pkt 3 0 0 0 1 : LinkPkt).type = 8) ∧
      wellCounted (pkt 3 0 0 0 1 : LinkPkt).type ((pkt 3 0 0 0 1 : LinkPkt).body.take 8) ((pkt 3 0 0 0 1 : LinkPkt).body.drop 8) = true) ∧
    (At (setPort 0 { state := 4, mask := 15, replay := [⟨4094, 3, 1, [1], false, 0⟩, ⟨4095, 8, 0, [2], true, 1⟩], replays := 3 } rdy) fun s => (s.rxCred 0 (txnClass (pkt 3 0 0 0 1 : LinkPkt).type (pkt 3 0 0 0 1 : LinkPkt).stream)).admits (dataUnits ((pkt 3 0 0 0 1 : LinkPkt).body.drop 8).length) = true) ∧
    (At ((setPort 0 { state := 4, mask := 15, replay := [⟨4094, 3, 1, [1], false, 0⟩, ⟨4095, 8, 0, [2], true, 1⟩], replays := 3 } rdy).turn (.nakReceive (0 : Fin 24) (4094 : Nat))) fun s => s.inv = true ∧
      s.boot.held = false ∧ (s.port 0).state = 4 ∧ (((s.port 0).replay.filter (fun y => decide (2048 ≤ ((4094 : Nat) % 4096 + 4096 - y.seq) % 4096)) : List TxPkt)) ≠ [] ∧
      (s.port 0).replayClk ≠ some s.now ∧ (s.port 0).waiting = [] ∧
      (if ((s.port 0).replay.filter (fun y => decide (2048 ≤ ((4094 : Nat) % 4096 + 4096 - y.seq) % 4096)) : List TxPkt).length < (s.port 0).replay.length then 0 else (s.port 0).replays) < max 1 (s.fd Rg.LNK_TIMERS [] 19 16)) ∧
    (At ((setPort 0 { state := 4, mask := 15, replay := [⟨4094, 3, 1, [1], false, 0⟩, ⟨4095, 8, 0, [2], true, 1⟩], replays := 3 } rdy).turn (.replayTimeout (0 : Fin 24))) fun s => s.inv = true ∧
      s.boot.held = false ∧ (s.port 0).state = 4 ∧ ((s.port 0).replay) ≠ [] ∧ (s.port 0).replayClk ≠ some s.now ∧ (s.port 0).waiting = [] ∧
      ((s.port 0).replays) < max 1 (s.fd Rg.LNK_TIMERS [] 19 16)) ∧
    (At ((setPort 0 { state := 4, mask := 15, replay := [⟨4094, 3, 1, [1], false, 0⟩, ⟨4095, 8, 0, [2], true, 1⟩], replays := 3 } rdy).turn (.creditReceive (0 : Fin 24) (12 : Nat) (0 : Nat) (0 : Nat))) fun s => s.inv = true ∧
      s.boot.held = false ∧ ((s.port 0).state = 0 ∨ 12 ≤ (12 : Nat))) ∧
    (At ((setPort 0 { state := 4, mask := 15, replay := [⟨4094, 3, 1, [1], false, 0⟩, ⟨4095, 8, 0, [2], true, 1⟩], replays := 15 } rdy).turn (.nakReceive (0 : Fin 24) (4093 : Nat))) fun s => s.inv = true ∧
      s.boot.held = false ∧ (s.port 0).state = 4 ∧ (((s.port 0).replay.filter (fun y => decide (2048 ≤ ((4093 : Nat) % 4096 + 4096 - y.seq) % 4096)) : List TxPkt)) ≠ [] ∧
      (s.port 0).replayClk ≠ some s.now ∧ (s.port 0).waiting = [] ∧
      max 1 (s.fd Rg.LNK_TIMERS [] 19 16) ≤ (if ((s.port 0).replay.filter (fun y => decide (2048 ≤ ((4093 : Nat) % 4096 + 4096 - y.seq) % 4096)) : List TxPkt).length < (s.port 0).replay.length then 0 else (s.port 0).replays)) ∧
    (At ((setPort 0 { state := 4, mask := 15, replay := [⟨4094, 3, 1, [1], false, 0⟩, ⟨4095, 8, 0, [2], true, 1⟩], replays := 15 } rdy).turn (.replayTimeout (0 : Fin 24))) fun s => s.inv = true ∧
      s.boot.held = false ∧ (s.port 0).state = 4 ∧ ((s.port 0).replay) ≠ [] ∧ (s.port 0).replayClk ≠ some s.now ∧ (s.port 0).waiting = [] ∧
      max 1 (s.fd Rg.LNK_TIMERS [] 19 16) ≤ ((s.port 0).replays)) ∧
    (At ((setPort 0 { state := 3 } (rdy.wr Rg.LNK_CTL [] 1)).turn (.ackReceive (0 : Fin 24) (0 : Nat))) fun s => s.inv = true ∧
      s.boot.held = false ∧ (s.port 0).state ≠ 4) ∧
    (At ((setPort 0 { state := 3 } (rdy.wr Rg.LNK_CTL [] 1)).turn (.nakReceive (0 : Fin 24) (0 : Nat))) fun s => s.inv = true ∧
      s.boot.held = false ∧ (s.port 0).state ≠ 4) ∧
    (At ((setPort 0 { state := 3 } (rdy.wr Rg.LNK_CTL [] 1)).turn (.replayTimeout (0 : Fin 24))) fun s => s.inv = true ∧ s.boot.held = false ∧
      (s.port 0).state ≠ 4) ∧
    (At (setPort 0 { state := 3 } (rdy.wr Rg.LNK_CTL [] 1)) fun s => s.inv = true ∧ s.boot.held = false ∧ s.evtPort? = some 0 ∧
      (s.port 0).state ≠ 4) ∧
    (At (setPort 0 { state := 4, mask := 1, txCredit := (List.range 12).map fun c => (c, { limH := 8, limD := 8 }) } (setMgt { sending := true, sent := 3, wr := 5, rd := 3, ringEn := true, ringSize := 8 } (rdy.wr Rg.LNK_CTL [] 1))) fun s => s.inv = true ∧
      s.boot.held = false ∧ s.evtPort? = some 0 ∧ s.mgt.sending = true ∧ s.mgt.sent ≠ s.mgt.wr ∧ (s.port 0).state = 4 ∧ s.awake 0 = true ∧
      (s.port 0).waiting = [] ∧ s.sendable 0 { type := 6, stream := 0, header := List.replicate 8 0, payload := (s.dramLoad 0x11 (s.mgt.ringPage * 65536 + s.mgt.sent % 2 ^ s.mgt.ringSize * 32) 32) } = true) ∧
    (At ((setPort 0 { state := 4, mask := 1, txCredit := (List.range 12).map fun c => (c, { limH := 8, limD := 8 }) } (setMgt { sending := true, sent := 3, wr := 5, rd := 3, ringEn := true, ringSize := 8 } (rdy.wr Rg.LNK_CTL [] 1))).turn (.eventDeliveryCtl fw (1 : Word))) fun s => s.inv = true ∧
      s.takes (fw : Source) Rg.LNK_CTL.at = true ∧ bit (1 : Word) 0 = true ∧ s.ingress (fld (1 : Word) 20 16) = true ∧
      s.evtPort? = some (fld (1 : Word) 20 16) ∧ s.mgt.sending = true) ∧
    (At ((rdy).turn (.eventDeliveryCtl fw (1 : Word))) fun s => s.inv = true ∧ s.takes (fw : Source) Rg.LNK_CTL.at = true ∧
      bit (1 : Word) 0 = true ∧ s.ingress (fld (1 : Word) 20 16) = true ∧ (s.evtPort? ≠ some (fld (1 : Word) 20 16) ∨ s.mgt.sending = false)) ∧
    (At (setPort 0 { state := 4, mask := 15, rxExp := 5, nakSent := true } rdy) fun s => s.inv = true ∧ s.boot.held = false ∧
      (s.port 0).state = 4 ∧ ({ pkt 3 0 5 5 1 with err := true } : LinkPkt).unseq = false ∧
      ((({ pkt 3 0 5 5 1 with err := true } : LinkPkt).err = true ∨ (s.port 0).rxErr = true ∨ ({ pkt 3 0 5 5 1 with err := true } : LinkPkt).body.length ≠ 8 * ({ pkt 3 0 5 5 1 with err := true } : LinkPkt).blocks ∨ ({ pkt 3 0 5 5 1 with err := true } : LinkPkt).blocks = 0 ∨ 1040 < ({ pkt 3 0 5 5 1 with err := true } : LinkPkt).blocks ∨ (({ pkt 3 0 5 5 1 with err := true } : LinkPkt).crc = packetCrc ({ pkt 3 0 5 5 1 with err := true } : LinkPkt).type ({ pkt 3 0 5 5 1 with err := true } : LinkPkt).stream ({ pkt 3 0 5 5 1 with err := true } : LinkPkt).unseq ({ pkt 3 0 5 5 1 with err := true } : LinkPkt).seq ({ pkt 3 0 5 5 1 with err := true } : LinkPkt).blocks ({ pkt 3 0 5 5 1 with err := true } : LinkPkt).body ({ pkt 3 0 5 5 1 with err := true } : LinkPkt).prot ({ pkt 3 0 5 5 1 with err := true } : LinkPkt).epoch ({ pkt 3 0 5 5 1 with err := true } : LinkPkt).retrans ({ pkt 3 0 5 5 1 with err := true } : LinkPkt).seq2 ∧
      ({ pkt 3 0 5 5 1 with err := true } : LinkPkt).seq ≠ ({ pkt 3 0 5 5 1 with err := true } : LinkPkt).seq2)) ∧
      3 = 3 ∨ (({ pkt 3 0 5 5 1 with err := true } : LinkPkt).err = false ∧ (s.port 0).rxErr = false ∧
      ({ pkt 3 0 5 5 1 with err := true } : LinkPkt).body.length = 8 * ({ pkt 3 0 5 5 1 with err := true } : LinkPkt).blocks ∧
      ({ pkt 3 0 5 5 1 with err := true } : LinkPkt).blocks ≠ 0 ∧ ({ pkt 3 0 5 5 1 with err := true } : LinkPkt).blocks ≤ 1040 ∧
      ({ pkt 3 0 5 5 1 with err := true } : LinkPkt).crc = packetCrc ({ pkt 3 0 5 5 1 with err := true } : LinkPkt).type ({ pkt 3 0 5 5 1 with err := true } : LinkPkt).stream ({ pkt 3 0 5 5 1 with err := true } : LinkPkt).unseq ({ pkt 3 0 5 5 1 with err := true } : LinkPkt).seq ({ pkt 3 0 5 5 1 with err := true } : LinkPkt).blocks ({ pkt 3 0 5 5 1 with err := true } : LinkPkt).body ({ pkt 3 0 5 5 1 with err := true } : LinkPkt).prot ({ pkt 3 0 5 5 1 with err := true } : LinkPkt).epoch ({ pkt 3 0 5 5 1 with err := true } : LinkPkt).retrans ({ pkt 3 0 5 5 1 with err := true } : LinkPkt).seq2 ∧
      ({ pkt 3 0 5 5 1 with err := true } : LinkPkt).seq = ({ pkt 3 0 5 5 1 with err := true } : LinkPkt).seq2 ∧
      ({ pkt 3 0 5 5 1 with err := true } : LinkPkt).seq ≠ (s.port 0).rxExp ∧
      ((((s.port 0).rxExp + 4096 - ({ pkt 3 0 5 5 1 with err := true } : LinkPkt).seq) % 4096 : Nat) = 0 ∨ 2047 < (((s.port 0).rxExp + 4096 - ({ pkt 3 0 5 5 1 with err := true } : LinkPkt).seq) % 4096 : Nat))) ∧
      3 = 2) ∧ (s.port 0).nakSent = true) ∧
    (At (setPort 0 { state := 4, mask := 15, rxExp := 5, nakSent := true } rdy) fun s => s.inv = true ∧ s.boot.held = false ∧
      (s.port 0).state = 4 ∧ (pkt 3 0 6 6 1 : LinkPkt).unseq = false ∧
      (((pkt 3 0 6 6 1 : LinkPkt).err = true ∨ (s.port 0).rxErr = true ∨ (pkt 3 0 6 6 1 : LinkPkt).body.length ≠ 8 * (pkt 3 0 6 6 1 : LinkPkt).blocks ∨ (pkt 3 0 6 6 1 : LinkPkt).blocks = 0 ∨ 1040 < (pkt 3 0 6 6 1 : LinkPkt).blocks ∨ ((pkt 3 0 6 6 1 : LinkPkt).crc = packetCrc (pkt 3 0 6 6 1 : LinkPkt).type (pkt 3 0 6 6 1 : LinkPkt).stream (pkt 3 0 6 6 1 : LinkPkt).unseq (pkt 3 0 6 6 1 : LinkPkt).seq (pkt 3 0 6 6 1 : LinkPkt).blocks (pkt 3 0 6 6 1 : LinkPkt).body (pkt 3 0 6 6 1 : LinkPkt).prot (pkt 3 0 6 6 1 : LinkPkt).epoch (pkt 3 0 6 6 1 : LinkPkt).retrans (pkt 3 0 6 6 1 : LinkPkt).seq2 ∧
      (pkt 3 0 6 6 1 : LinkPkt).seq ≠ (pkt 3 0 6 6 1 : LinkPkt).seq2)) ∧ 2 = 3 ∨ ((pkt 3 0 6 6 1 : LinkPkt).err = false ∧
      (s.port 0).rxErr = false ∧ (pkt 3 0 6 6 1 : LinkPkt).body.length = 8 * (pkt 3 0 6 6 1 : LinkPkt).blocks ∧
      (pkt 3 0 6 6 1 : LinkPkt).blocks ≠ 0 ∧ (pkt 3 0 6 6 1 : LinkPkt).blocks ≤ 1040 ∧
      (pkt 3 0 6 6 1 : LinkPkt).crc = packetCrc (pkt 3 0 6 6 1 : LinkPkt).type (pkt 3 0 6 6 1 : LinkPkt).stream (pkt 3 0 6 6 1 : LinkPkt).unseq (pkt 3 0 6 6 1 : LinkPkt).seq (pkt 3 0 6 6 1 : LinkPkt).blocks (pkt 3 0 6 6 1 : LinkPkt).body (pkt 3 0 6 6 1 : LinkPkt).prot (pkt 3 0 6 6 1 : LinkPkt).epoch (pkt 3 0 6 6 1 : LinkPkt).retrans (pkt 3 0 6 6 1 : LinkPkt).seq2 ∧
      (pkt 3 0 6 6 1 : LinkPkt).seq = (pkt 3 0 6 6 1 : LinkPkt).seq2 ∧ (pkt 3 0 6 6 1 : LinkPkt).seq ≠ (s.port 0).rxExp ∧
      ((((s.port 0).rxExp + 4096 - (pkt 3 0 6 6 1 : LinkPkt).seq) % 4096 : Nat) = 0 ∨ 2047 < (((s.port 0).rxExp + 4096 - (pkt 3 0 6 6 1 : LinkPkt).seq) % 4096 : Nat))) ∧
      2 = 2) ∧ (s.port 0).nakSent = true)
    := by and_intros <;> decide +kernel

theorem witness_DramUpkeep :
    (At (setCh 0 { state := 3, hot := [(3, 0, 2045)] } (rdy.wr Rg.DMC_CTL [] 0x1F)) fun s => s.boot.held = false ∧ s.inv = true ∧
      ((⟨3, 100, 0, false, 1, 0, 0, false, 3⟩ : ReadDone).kind = 3 ∨ (s.dmc.formed = true ∧
      64 * (⟨3, 100, 0, false, 1, 0, 0, false, 3⟩ : ReadDone).block < s.capBytes)) ∧ (⟨3, 100, 0, false, 1, 0, 0, false, 3⟩ : ReadDone).kind ≠ 3 ∧
      (⟨3, 100, 0, false, 1, 0, 0, false, 3⟩ : ReadDone).acts ≠ 0 ∧
      s.locate (64 * (⟨3, 100, 0, false, 1, 0, 0, false, 3⟩ : ReadDone).block) = (s.locate (64 * (⟨3, 100, 0, false, 1, 0, 0, false, 3⟩ : ReadDone).block)) ∧
      (s.ch (s.locate (64 * (⟨3, 100, 0, false, 1, 0, 0, false, 3⟩ : ReadDone).block)).channel).hot.find? (fun e => e.1 == (s.locate (64 * (⟨3, 100, 0, false, 1, 0, 0, false, 3⟩ : ReadDone).block)).key && e.2.1 == (s.locate (64 * (⟨3, 100, 0, false, 1, 0, 0, false, 3⟩ : ReadDone).block)).row) = some ((s.locate (64 * (⟨3, 100, 0, false, 1, 0, 0, false, 3⟩ : ReadDone).block)).key, (s.locate (64 * (⟨3, 100, 0, false, 1, 0, 0, false, 3⟩ : ReadDone).block)).row, 2045) ∧
      2045 < max 1 (fld (s.ch (s.locate (64 * (⟨3, 100, 0, false, 1, 0, 0, false, 3⟩ : ReadDone).block)).channel).rhCtl 31 16) ∧
      max 1 (fld (s.ch (s.locate (64 * (⟨3, 100, 0, false, 1, 0, 0, false, 3⟩ : ReadDone).block)).channel).rhCtl 31 16) ≤ 2045 + (⟨3, 100, 0, false, 1, 0, 0, false, 3⟩ : ReadDone).acts ∧
      (⟨3, 100, 0, false, 1, 0, 0, false, 3⟩ : ReadDone).requester < 4) ∧
    (At ((setCh 0 { state := 3, hot := [(3, 0, 2045)] } (rdy.wr Rg.DMC_CTL [] 0x1F)).turn (.refreshInterval (0 : Fin 16) ([] : List Nat) (true : Bool))) fun s => s.boot.held = false ∧
      s.inv = true ∧ (s.ch 0).state = 3 ∧ (if (s.ch 0).pm.getD 0 0 ≠ 2 ∧
      0 < s.cfg.dram.ranks then max (([] : List Nat).getD 0 0) ((s.ch 0).debt.getD 0 0 - 6) else 0) = (if (s.ch 0).pm.getD 0 0 ≠ 2 ∧
      0 < s.cfg.dram.ranks then max (([] : List Nat).getD 0 0) ((s.ch 0).debt.getD 0 0 - 6) else 0) ∧
      ((true : Bool) = false ∨ (∀ r ∈ List.range (2), (s.ch 0).pm.getD r 0 = 2 ∨ s.cfg.dram.ranks ≤ r ∨ (s.ch 0).debt.getD r 0 < 6))) ∧
    (At ((setCh 0 { state := 3, hot := [(3, 0, 2045)] } (rdy.wr Rg.DMC_CTL [] 0x1F)).turn (.hotRowClear)) fun s => s.boot.held = false ∧
      s.inv = true) ∧
    (At ((setCh 0 { state := 3, hot := [(3, 0, 2045)] } (rdy.wr Rg.DMC_CTL [] 0x1F)).turn (.applyPause (0 : Fin 16))) fun s => s.boot.held = false ∧ s.inv = true) ∧
    (At ((setCh 0 { state := 3, hot := [(3, 0, 2045)] } (rdy.wr Rg.DMC_CTL [] 0x1F)).turn (.patrolScrub (true : Bool))) fun s => s.boot.held = false ∧
      s.inv = true) ∧
    (At ((setCh 0 { state := 3, hot := [(3, 0, 2045)] } (rdy.wr Rg.DMC_CTL [] 0x1F)).turn (.dramSelfRefreshExit (0 : Fin 16))) fun s => s.boot.held = false ∧
      s.inv = true) ∧
    (At ((setCh 0 { state := 3, hot := [(3, 0, 2045)] } (rdy.wr Rg.DMC_CTL [] 0x1F)).turn (.powerDownEntry (0 : Fin 16) (0 : Fin 2))) fun s => s.boot.held = false ∧
      s.inv = true) ∧
    (At ((setCh 0 { state := 3, hot := [(3, 0, 2045)] } (rdy.wr Rg.DMC_CTL [] 0x1F)).turn (.dramReadComplete (⟨9, 100, 0, true, 1, 0, 0, false, 3⟩ : ReadDone))) fun s => s.boot.held = false ∧
      s.inv = true) ∧
    (At (setCh 0 { state := 3, hot := [(3, 0, 2045)] } (rdy.wr Rg.DMC_CTL [] 0x1F)) fun s => s.boot.held = false ∧ s.inv = true ∧
      (s.dmc.formed = false ∨ s.cfg.dram.ecc = false ∨ bit (s.rd Rg.DMC_CTL) 4 = false) ∧
      ((⟨9, 100, 0, true, 1, 0, 0, false, 3⟩ : ReadDone).kind = 3 ∨ (s.dmc.formed = true ∧
      64 * (⟨9, 100, 0, true, 1, 0, 0, false, 3⟩ : ReadDone).block < s.capBytes)) ∧ (⟨9, 100, 0, true, 1, 0, 0, false, 3⟩ : ReadDone).link = true ∧
      ((if (⟨9, 100, 0, true, 1, 0, 0, false, 3⟩ : ReadDone).kind ≠ 3 ∧
      s.dmc.poison.contains (⟨9, 100, 0, true, 1, 0, 0, false, 3⟩ : ReadDone).block = true then 3 else (⟨9, 100, 0, true, 1, 0, 0, false, 3⟩ : ReadDone).outcome) : Nat) < 3 ∧
      (⟨9, 100, 0, true, 1, 0, 0, false, 3⟩ : ReadDone).kind ≠ 3 ∧ (⟨9, 100, 0, true, 1, 0, 0, false, 3⟩ : ReadDone).acts ≠ 0 ∧
      s.locate (64 * (⟨9, 100, 0, true, 1, 0, 0, false, 3⟩ : ReadDone).block) = (s.locate (64 * (⟨9, 100, 0, true, 1, 0, 0, false, 3⟩ : ReadDone).block)) ∧
      (s.ch (s.locate (64 * (⟨9, 100, 0, true, 1, 0, 0, false, 3⟩ : ReadDone).block)).channel).hot.find? (fun e => e.1 == (s.locate (64 * (⟨9, 100, 0, true, 1, 0, 0, false, 3⟩ : ReadDone).block)).key && e.2.1 == (s.locate (64 * (⟨9, 100, 0, true, 1, 0, 0, false, 3⟩ : ReadDone).block)).row) = some ((s.locate (64 * (⟨9, 100, 0, true, 1, 0, 0, false, 3⟩ : ReadDone).block)).key, (s.locate (64 * (⟨9, 100, 0, true, 1, 0, 0, false, 3⟩ : ReadDone).block)).row, 2045) ∧
      2045 < max 1 (fld (s.ch (s.locate (64 * (⟨9, 100, 0, true, 1, 0, 0, false, 3⟩ : ReadDone).block)).channel).rhCtl 31 16) ∧
      max 1 (fld (s.ch (s.locate (64 * (⟨9, 100, 0, true, 1, 0, 0, false, 3⟩ : ReadDone).block)).channel).rhCtl 31 16) ≤ 2045 + (⟨9, 100, 0, true, 1, 0, 0, false, 3⟩ : ReadDone).acts ∧
      4 ≤ (⟨9, 100, 0, true, 1, 0, 0, false, 3⟩ : ReadDone).requester ∧ bit (s.rd Rg.DMC_CTL) 3 = true) ∧
    (At ((setCh 0 { state := 3, hot := [(3, 0, 2045)] } (rdy.wr Rg.DMC_CTL [] 0x1F)).turn (.captureBurstStart (0 : Fin 16))) fun s => s.boot.held = false ∧
      s.inv = true ∧ bit (s.rd Rg.DMC_CTL) 0 = true ∧ (s.ch 0).state = 3 ∧ s.dmc.fstate = 0 ∧ s.dmc.formed = true ∧ (s.ch 0).burst = false ∧
      (s.ch 0).burstReq = false ∧ (s.ch 0).pm.contains 2 = false) ∧
    (At ((setCh 0 { state := 3, hot := [(3, 0, 2045)] } (rdy.wr Rg.DMC_CTL [] 0x1F)).turn (.captureBurstEnd (0 : Fin 16) (none : Option (Nat × Int)))) fun s => s.boot.held = false ∧
      s.inv = true ∧ (s.ch 0).burst = false) ∧
    (At ((setCh 0 { state := 3, hot := [(3, 0, 2045)] } (rdy.wr Rg.DMC_CTL [] 0x1F)).turn (.dramSelfRefreshEntry (0 : Fin 16))) fun s => s.boot.held = false ∧
      s.inv = true ∧ (s.ch 0).state = 3 ∧ s.dmc.formed = true ∧ bit (s.rd Rg.DMC_CTL) 2 = true ∧ (s.ch 0).pm.contains 2 = false ∧
      (s.ch 0).burst = false ∧ s.dmc.fstate ≠ 4 ∧ s.writesLeft 0 = 0 ∧ s.freeboardOf (2 * ((s.ch 0).srExitNs + s.guardNs 0)) = true) ∧
    (At ((setCh 0 { state := 3, hot := [(3, 0, 2045)] } (rdy.wr Rg.DMC_CTL [] 0x1F)).turn (.selfRefreshExitDone (0 : Fin 16))) fun s => s.boot.held = false ∧
      s.inv = true ∧ (s.ch 0).exiting = false) ∧
    (At ((setCh 0 { state := 0 } rdy).turn (.refreshInterval (0 : Fin 16) ([] : List Nat) (true : Bool))) fun s => s.boot.held = false ∧
      s.inv = true ∧ (s.ch 0).state ≠ 3) ∧
    (At ((setCh 0 { state := 0 } rdy).turn (.captureBurstStart (0 : Fin 16))) fun s => s.boot.held = false ∧ s.inv = true ∧
      (bit (s.rd Rg.DMC_CTL) 0 = false ∨ (s.ch 0).state ≠ 3 ∨ s.dmc.fstate ≠ 0 ∨ s.dmc.formed = false ∨ (s.ch 0).burst = true ∨ (s.ch 0).burstReq = true ∨ (s.ch 0).pm.contains 2 = true)) ∧
    (At ((setCh 0 { state := 0 } rdy).turn (.dramSelfRefreshEntry (0 : Fin 16))) fun s => s.boot.held = false ∧ s.inv = true ∧
      ((s.ch 0).state ≠ 3 ∨ s.dmc.formed = false ∨ bit (s.rd Rg.DMC_CTL) 2 = false ∨ (s.ch 0).pm.contains 2 = true ∨ (s.ch 0).burst = true ∨ s.dmc.fstate = 4 ∨ s.writesLeft 0 ≠ 0 ∨ s.freeboardOf (2 * ((s.ch 0).srExitNs + s.guardNs 0)) = false)) ∧
    (At (setCh 0 { state := 0 } rdy) fun s => s.boot.held = false ∧ s.inv = true ∧
      (⟨0, 8388608, 0, false, 1, 0, 0, false, 0⟩ : ReadDone).kind ≠ 3 ∧ s.dmc.formed = true ∧
      s.capBytes ≤ 64 * (⟨0, 8388608, 0, false, 1, 0, 0, false, 0⟩ : ReadDone).block) ∧
    (At ((setCh 0 { state := 3, pm := [0, 0], debt := [6, 0] } (rdy.wr Rg.DMC_CTL [] 0x1F)).turn (.refreshInterval (0 : Fin 16) ([] : List Nat) (true : Bool))) fun s => s.boot.held = false ∧
      s.inv = true ∧ (s.ch 0).state = 3 ∧ (true : Bool) = true ∧ (∃ r ∈ List.range (2), (s.ch 0).pm.getD r 0 ≠ 2 ∧ r < s.cfg.dram.ranks ∧
      6 ≤ (s.ch 0).debt.getD r 0)) ∧
    (At (setCh 0 { state := 3, pm := [0, 0], debt := [6, 0] } (rdy.wr Rg.DMC_CTL [] 0x1F)) fun s => s.boot.held = false ∧ s.inv = true ∧
      ((⟨0, 8388607, 3, false, 1, 0, 0, true, 0⟩ : ReadDone).kind = 3 ∨ (s.dmc.formed = true ∧
      64 * (⟨0, 8388607, 3, false, 1, 0, 0, true, 0⟩ : ReadDone).block < s.capBytes)) ∧
      3 ≤ ((if (⟨0, 8388607, 3, false, 1, 0, 0, true, 0⟩ : ReadDone).kind ≠ 3 ∧
      s.dmc.poison.contains (⟨0, 8388607, 3, false, 1, 0, 0, true, 0⟩ : ReadDone).block = true then 3 else (⟨0, 8388607, 3, false, 1, 0, 0, true, 0⟩ : ReadDone).outcome) : Nat) ∧
      (⟨0, 8388607, 3, false, 1, 0, 0, true, 0⟩ : ReadDone).merge = true ∧ (⟨0, 8388607, 3, false, 1, 0, 0, true, 0⟩ : ReadDone).kind ≠ 3) ∧
    (At (setCh 0 { state := 3 } (rdy.wr Rg.DMC_CTL [] 0x1F)) fun s => s.boot.held = false ∧ s.inv = true ∧
      ((⟨0, 8388608, 2, true, 3, 0, 0, true, 0⟩ : ReadDone).kind = 3 ∨ (s.dmc.formed = true ∧
      64 * (⟨0, 8388608, 2, true, 3, 0, 0, true, 0⟩ : ReadDone).block < s.capBytes)) ∧
      (⟨0, 8388608, 2, true, 3, 0, 0, true, 0⟩ : ReadDone).kind = 3) ∧
    (At ((setCh 0 { state := 3, burst := true } (rdy.wr Rg.DMC_CTL [] 0x1F)).turn (.captureBurstEnd (0 : Fin 16) (some (5, -3) : Option (Nat × Int)))) fun s => s.boot.held = false ∧
      s.inv = true ∧ (s.ch 0).burst = true ∧ s.dmc.fstate ≠ 1 ∧ (some (5, -3) : Option (Nat × Int)) = some (5, (-3))) ∧
    (At ((setCh 0 { state := 3, burst := true, fails := 2 } (rdy.wr Rg.DMC_CTL [] 0x1F)).turn (.captureBurstEnd (0 : Fin 16) (none : Option (Nat × Int)))) fun s => s.boot.held = false ∧
      s.inv = true ∧ (s.ch 0).burst = true ∧ s.dmc.fstate ≠ 1 ∧ (none : Option (Nat × Int)) = none ∧ (s.ch 0).fails = 2) ∧
    (At ((setCh 0 { state := 3, burst := true, fails := 1 } (rdy.wr Rg.DMC_CTL [] 0x1F)).turn (.captureBurstEnd (0 : Fin 16) (none : Option (Nat × Int)))) fun s => s.boot.held = false ∧
      s.inv = true ∧ (s.ch 0).burst = true ∧ s.dmc.fstate ≠ 1 ∧ (none : Option (Nat × Int)) = none ∧ (s.ch 0).fails ≠ 2) ∧
    (At ((setCh 0 { state := 3, burst := true } (setCh 15 { burst := true } (setDmc (fun d => { d with fstate := 1 }) rdy))).turn (.captureBurstEnd (0 : Fin 16) (none : Option (Nat × Int)))) fun s => s.boot.held = false ∧
      s.inv = true ∧ (s.ch 0).burst = true ∧ s.dmc.fstate = 1 ∧ (∃ k ∈ List.range (16), k ≠ 0 ∧ (s.ch k).burst = true)) ∧
    (At ((setCh 0 { state := 3, burst := true } (setDmc (fun d => { d with fstate := 1 }) rdy)).turn (.captureBurstEnd (0 : Fin 16) (none : Option (Nat × Int)))) fun s => s.boot.held = false ∧
      s.inv = true ∧ (s.ch 0).burst = true ∧ s.dmc.fstate = 1 ∧ (∀ kk ∈ List.range (16), kk ≠ 0 → (s.ch kk).burst = false)) ∧
    (At (setCh 0 { state := 3 } (({ rdy with cfg := { topo with dram := { topo.dram with ecc := true } } }).wr Rg.DMC_CTL [] 0x1F)) fun s => s.boot.held = false ∧
      s.inv = true ∧ s.dmc.formed = true ∧ s.cfg.dram.ecc = true ∧ bit (s.rd Rg.DMC_CTL) 4 = true) ∧
    (At ((setCh 0 { state := 3, exiting := true, pm := [2, 0] } rdy).turn (.selfRefreshExitDone (0 : Fin 16))) fun s => s.boot.held = false ∧
      s.inv = true ∧ (s.ch 0).exiting = true ∧ (s.ch 0).state = 3 ∧ s.dmc.fstate = 0 ∧ s.dmc.formed = true ∧ (s.ch 0).burst = false ∧
      (s.ch 0).burstReq = false) ∧
    (At (setDmc (fun d => { d with formed := false }) rdy) fun s => s.boot.held = false ∧ s.inv = true ∧
      (⟨0, 0, 0, false, 1, 0, 0, false, 0⟩ : ReadDone).kind ≠ 3 ∧ s.dmc.formed = false) ∧
    (At (setHead 0 { state := 4, cur := some { num := 3, shows := [{ mode := 1, regs := [(Rg.CMP_L_CTL.at [0, 0], 1), (Rg.CMP_L_SURF.at [0, 0], 5)] }] } } surf) fun s => s.boot.held = false ∧
      s.inv = true ∧ ((⟨0, 0, 3, false, 1, 0, 0, false, 0⟩ : ReadDone).kind = 3 ∨ (s.dmc.formed = true ∧
      64 * (⟨0, 0, 3, false, 1, 0, 0, false, 0⟩ : ReadDone).block < s.capBytes)) ∧
      3 ≤ ((if (⟨0, 0, 3, false, 1, 0, 0, false, 0⟩ : ReadDone).kind ≠ 3 ∧
      s.dmc.poison.contains (⟨0, 0, 3, false, 1, 0, 0, false, 0⟩ : ReadDone).block = true then 3 else (⟨0, 0, 3, false, 1, 0, 0, false, 0⟩ : ReadDone).outcome) : Nat) ∧
      (⟨0, 0, 3, false, 1, 0, 0, false, 0⟩ : ReadDone).merge = false ∧ (((⟨0, 0, 3, false, 1, 0, 0, false, 0⟩ : ReadDone).kind = 3 ∧
      3 ≤ (⟨0, 0, 3, false, 1, 0, 0, false, 0⟩ : ReadDone).outcome) ∨ (s.dmc.formed = true ∧
      (3 ≤ (⟨0, 0, 3, false, 1, 0, 0, false, 0⟩ : ReadDone).outcome ∨ (⟨0, 0, 3, false, 1, 0, 0, false, 0⟩ : ReadDone).kind ≠ 3 ∧
      (s.capBytes ≤ 64 * (⟨0, 0, 3, false, 1, 0, 0, false, 0⟩ : ReadDone).block ∨ s.dmc.poison.contains (⟨0, 0, 3, false, 1, 0, 0, false, 0⟩ : ReadDone).block = true)))) ∧
      (⟨0, 0, 3, false, 1, 0, 0, false, 0⟩ : ReadDone).requester < 4 ∧ (⟨0, 0, 3, false, 1, 0, 0, false, 0⟩ : ReadDone).layer < 9 ∧
      ((s.hd (⟨0, 0, 3, false, 1, 0, 0, false, 0⟩ : ReadDone).requester).cur).isSome = true ∧
      (((s.hd (⟨0, 0, 3, false, 1, 0, 0, false, 0⟩ : ReadDone).requester).cur).getD ({} : Frame)).aborted = false ∧
      (((((s.hd (⟨0, 0, 3, false, 1, 0, 0, false, 0⟩ : ReadDone).requester).cur).getD ({} : Frame)).shows.getD (⟨0, 0, 3, false, 1, 0, 0, false, 0⟩ : ReadDone).layer {}).surface? (⟨0, 0, 3, false, 1, 0, 0, false, 0⟩ : ReadDone).requester (⟨0, 0, 3, false, 1, 0, 0, false, 0⟩ : ReadDone).layer).isSome = true ∧
      ((((s.hd (⟨0, 0, 3, false, 1, 0, 0, false, 0⟩ : ReadDone).requester).cur).getD ({} : Frame)).shows.getD (⟨0, 0, 3, false, 1, 0, 0, false, 0⟩ : ReadDone).layer {}).fault = none)
    := by and_intros <;> decide +kernel

theorem witness_DramFrequencyAndBasin :
    (At ((setStage 4 rdy).turn (.freqChangeRequest fw (0 : Word))) fun s => s.inv = true ∧ s.takes (fw : Source) Rg.DMC_FREQ_CTL.at = true ∧
      bit (0 : Word) 30 = false ∧ s.boot.stage ≠ 5) ∧
    (At ((setStage 4 rdy).turn (.basinClear fw (0 : Word))) fun s => s.inv = true ∧ s.takes (fw : Source) Rg.DMC_BASIN_CMD.at = true ∧
      s.boot.stage ≠ 5) ∧
    (At ((setStage 4 rdy).turn (.basinLoad fw (0 : Word))) fun s => s.inv = true ∧ s.takes (fw : Source) Rg.DMC_BASIN_CMD.at = true ∧
      s.boot.stage ≠ 5) ∧
    (At ((setStage 4 rdy).turn (.basinStore fw (0 : Word))) fun s => s.inv = true ∧ s.takes (fw : Source) Rg.DMC_BASIN_CMD.at = true ∧
      s.boot.stage ≠ 5) ∧
    (At ((setDmc (fun d => { d with fstate := 0, avail := 7, rate := 2 }) (setCh 0 { state := 3, burst := true } rdy)).turn (.freqChangeRequest fw (0 : Word))) fun s => s.inv = true ∧
      s.takes (fw : Source) Rg.DMC_FREQ_CTL.at = true ∧ bit (0 : Word) 30 = false ∧ s.boot.stage = 5 ∧ s.dmc.fstate = 0 ∧
      fld (0 : Word) 1 0 ≠ s.dmc.rate ∧ s.dmc.avail.testBit (fld (0 : Word) 1 0) = true ∧ (∃ k ∈ List.range (16), (s.ch k).burst = true)) ∧
    (At ((setDmc (fun d => { d with fstate := 0, avail := 7, rate := 2 }) (turnedDown 1 0 3 rdy)).turn (.freqChangeRequest fw (2 : Word))) fun s => s.inv = true ∧
      s.takes (fw : Source) Rg.DMC_FREQ_CTL.at = true ∧ bit (2 : Word) 30 = false ∧ s.boot.stage = 5 ∧ s.dmc.fstate = 0 ∧
      fld (2 : Word) 1 0 = s.dmc.rate) ∧
    (At (setDmc (fun d => { d with fstate := 0, avail := 7, rate := 2 }) (turnedDown 1 0 3 rdy)) fun s => s.inv = true ∧ s.boot.held = false ∧
      takeGrant 1 0 s = none ∧ (takeRefusal 1 0 s).isSome = true ∧ s.dmc.fstate ≠ 2) ∧
    (At ((setDmc (fun d => { d with fstate := 0, avail := 7, rate := 2 }) (rdy)).turn (.freqChangeRequest fw (3 : Word))) fun s => s.inv = true ∧
      s.takes (fw : Source) Rg.DMC_FREQ_CTL.at = true ∧ bit (3 : Word) 30 = false ∧ s.boot.stage = 5 ∧ s.dmc.fstate = 0 ∧
      fld (3 : Word) 1 0 ≠ s.dmc.rate ∧ s.dmc.avail.testBit (fld (3 : Word) 1 0) = false) ∧
    (At (setDmc (fun d => { d with fstate := 2, avail := 7, rate := 2 }) (turnedDown 1 0 3 rdy)) fun s => s.inv = true ∧ s.boot.held = false ∧
      takeGrant 1 0 s = none ∧ (takeRefusal 1 0 s).isSome = true ∧ s.dmc.fstate = 2) ∧
    (At ((setDmc (fun d => { d with fstate := 3, avail := 7, rate := 2 }) (granted 1 0 rdy)).turn (.freqChangeRequest fw (0 : Word))) fun s => s.inv = true ∧
      s.takes (fw : Source) Rg.DMC_FREQ_CTL.at = true ∧ bit (0 : Word) 30 = false ∧ s.boot.stage = 5 ∧ s.dmc.fstate ≠ 0) ∧
    (At ((setDmc (fun d => { d with fstate := 3, avail := 7, rate := 2 }) (granted 1 0 rdy)).turn (.freqChangeCancel fw (0 : Word))) fun s => s.inv = true ∧
      s.takes (fw : Source) Rg.DMC_FREQ_CTL.at = true ∧ bit (0 : Word) 31 = false ∧ (s.dmc.fstate = 1 ∨ s.dmc.fstate = 2 ∨ s.dmc.fstate = 3)) ∧
    (At (setDmc (fun d => { d with fstate := 3, avail := 7, rate := 2 }) (granted 1 0 rdy)) fun s => s.inv = true ∧ s.boot.held = false ∧
      (takeGrant 1 0 s).isSome = true) ∧
    (At ((setDmc (fun d => { d with fstate := 3, avail := 7, rate := 2 }) (granted 1 0 rdy)).turn .freqChangeStart) fun s => s.inv = true ∧
      s.boot.held = false ∧ s.dmc.fstate = 3 ∧ s.dmc.working.Nodup ∧ (∀ k ∈ s.dmc.working, s.window k changeNs = true) ∧ s.dmc.working ≠ [] ∧
      (∃ c, c ∈ List.range (16) ∧ s.dmc.working.contains c = false)) ∧
    (At ((setDmc (fun d => { d with fstate := 3, avail := 7, rate := 2 }) (granted 1 0 rdy)).turn .freqWindowTimeout) fun s => s.inv = true ∧
      s.boot.held = false ∧ s.dmc.fstate = 3 ∧ s.dmc.working.Nodup) ∧
    (At ((setDmc (fun d => { d with fstate := 3, avail := 7, rate := 2 }) (granted 1 0 rdy)).turn (.basinCmdDone ([] : List Nat))) fun s => s.inv = true ∧
      s.boot.held = false ∧ s.dmc.basinJob = none) ∧
    (At ((setDmc (fun d => { d with fstate := 3, avail := 7, rate := 2 }) (granted 1 0 rdy)).turn (.basinClear fw (0 : Word))) fun s => s.inv = true ∧
      s.takes (fw : Source) Rg.DMC_BASIN_CMD.at = true ∧ s.boot.stage = 5 ∧ s.regionInUse (fld (0 : Word) 10 8) = false ∧
      (s.regionBanks (fld (0 : Word) 10 8)).isSome = true ∧ (0 = 0 ∨ s.fd Rg.DMC_BASIN_PAGE [] 19 0 * 65536 + ((s.regionBanks (fld (0 : Word) 10 8)).getD ([] : List Nat)).length * 1048576 ≤ s.capBytes) ∧
      s.dmc.basinJob = none) ∧
    (At ((setDmc (fun d => { d with fstate := 3, avail := 7, rate := 2 }) (granted 1 0 rdy)).turn (.basinLoad fw (0 : Word))) fun s => s.inv = true ∧ s.takes (fw : Source) Rg.DMC_BASIN_CMD.at = true ∧
      s.boot.stage = 5 ∧ s.regionInUse (fld (0 : Word) 10 8) = false ∧ (s.regionBanks (fld (0 : Word) 10 8)).isSome = true ∧
      (1 = 0 ∨ s.fd Rg.DMC_BASIN_PAGE [] 19 0 * 65536 + ((s.regionBanks (fld (0 : Word) 10 8)).getD ([] : List Nat)).length * 1048576 ≤ s.capBytes) ∧ s.dmc.basinJob = none) ∧
    (At ((setDmc (fun d => { d with fstate := 3, avail := 7, rate := 2 }) (granted 1 0 rdy)).turn (.basinStore fw (0 : Word))) fun s => s.inv = true ∧
      s.takes (fw : Source) Rg.DMC_BASIN_CMD.at = true ∧ s.boot.stage = 5 ∧ s.regionInUse (fld (0 : Word) 10 8) = false ∧
      (s.regionBanks (fld (0 : Word) 10 8)).isSome = true ∧ (2 = 0 ∨ s.fd Rg.DMC_BASIN_PAGE [] 19 0 * 65536 + ((s.regionBanks (fld (0 : Word) 10 8)).getD ([] : List Nat)).length * 1048576 ≤ s.capBytes) ∧
      s.dmc.basinJob = none) ∧
    (At ((setDmc (fun d => { d with fstate := 4, avail := 7, rate := 2 }) (rdy)).turn (.freqChangeDone ([] : List (Option (Nat × Int))))) fun s => s.inv = true ∧
      s.boot.held = false ∧ s.dmc.fstate = 4 ∧ s.dmc.working ≠ []) ∧
    (At (granted 5 0 rdy) fun s => s.inv = true ∧ s.boot.held = false ∧ (takeGrant 5 0 s).isSome = true) ∧
    (At (turnedDown 5 0 2 rdy) fun s => s.inv = true ∧ s.boot.held = false ∧ takeGrant 5 0 s = none ∧ (takeRefusal 5 0 s).isSome = true) ∧
    (At ((setDmc (fun d => { d with basinJob := some ⟨0, 2, 5, false⟩ }) (rdy)).turn (.basinCmdDone ([] : List Nat))) fun s => s.inv = true ∧
      s.boot.held = false ∧ (s.dmc.basinJob).isSome = true ∧ ((s.dmc.basinJob).getD (⟨0, 0, 0, false⟩ : BasinJob)).granted = false) ∧
    (At ((setDmc (fun d => { d with basinJob := some ⟨0, 2, 5, true⟩ }) (rdy)).turn (.basinCmdDone ([] : List Nat))) fun s => s.inv = true ∧
      s.boot.held = false ∧ (s.dmc.basinJob).isSome = true ∧ ((s.dmc.basinJob).getD (⟨0, 0, 0, false⟩ : BasinJob)).granted = true ∧
      (s.regionBanks ((s.dmc.basinJob).getD (⟨0, 0, 0, false⟩ : BasinJob)).region).isSome = true ∧
      ((s.dmc.basinJob).getD (⟨0, 0, 0, false⟩ : BasinJob)).op = 0) ∧
    (At ((setDmc (fun d => { d with basinJob := some ⟨1, 2, 5, true⟩ }) (rdy)).turn (.freqChangeRequest fw (0x200 : Word))) fun s => s.inv = true ∧
      s.takes (fw : Source) Rg.DMC_FREQ_CTL.at = true ∧ bit (0x200 : Word) 30 = false ∧ s.boot.stage = 5 ∧ s.dmc.fstate = 0 ∧
      fld (0x200 : Word) 1 0 ≠ s.dmc.rate ∧ s.dmc.avail.testBit (fld (0x200 : Word) 1 0) = true ∧ (∀ kk ∈ List.range (16), (s.ch kk).burst = false)) ∧
    (At ((setDmc (fun d => { d with basinJob := some ⟨1, 2, 5, true⟩ }) (rdy)).turn (.freqGrant)) fun s => s.inv = true) ∧
    (At ((setDmc (fun d => { d with basinJob := some ⟨1, 2, 5, true⟩ }) (rdy)).turn (.freqChangeStart)) fun s => s.inv = true) ∧
    (At ((setDmc (fun d => { d with basinJob := some ⟨1, 2, 5, true⟩ }) (rdy)).turn (.freqWindowTimeout)) fun s => s.inv = true) ∧
    (At ((setDmc (fun d => { d with basinJob := some ⟨1, 2, 5, true⟩ }) (rdy)).turn (.basinClear fw (0x200 : Word))) fun s => s.inv = true ∧
      s.takes (fw : Source) Rg.DMC_BASIN_CMD.at = true ∧ s.boot.stage = 5 ∧ s.regionInUse (fld (0x200 : Word) 10 8) = false ∧
      (s.regionBanks (fld (0x200 : Word) 10 8)).isSome = true ∧
      (0 = 0 ∨ s.fd Rg.DMC_BASIN_PAGE [] 19 0 * 65536 + ((s.regionBanks (fld (0x200 : Word) 10 8)).getD ([] : List Nat)).length * 1048576 ≤ s.capBytes) ∧
      s.dmc.basinJob.isSome = true) ∧
    (At ((setDmc (fun d => { d with basinJob := some ⟨1, 2, 5, true⟩ }) (rdy)).turn (.basinBulkGrant)) fun s => s.inv = true) ∧
    (At ((setDmc (fun d => { d with basinJob := some ⟨1, 2, 5, true⟩ }) (rdy)).turn (.freqChangeCancel fw (0x200 : Word))) fun s => s.inv = true ∧
      s.takes (fw : Source) Rg.DMC_FREQ_CTL.at = true ∧ bit (0x200 : Word) 31 = false ∧ (s.dmc.fstate = 0 ∨ 4 ≤ s.dmc.fstate)) ∧
    (At (setDmc (fun d => { d with basinJob := some ⟨1, 2, 5, true⟩ }) (rdy)) fun s => s.inv = true ∧ s.boot.held = false ∧
      takeGrant 1 0 s = none ∧ takeRefusal 1 0 s = none ∧ takeGrant 5 0 s = none ∧ takeRefusal 5 0 s = none) ∧
    (At ((setDmc (fun d => { d with basinJob := some ⟨1, 2, 5, true⟩ }) (rdy)).turn .freqChangeStart) fun s => s.inv = true ∧ s.boot.held = false ∧
      s.dmc.fstate ≠ 3) ∧
    (At ((setDmc (fun d => { d with basinJob := some ⟨1, 2, 5, true⟩ }) (rdy)).turn .freqWindowTimeout) fun s => s.inv = true ∧
      s.boot.held = false ∧ s.dmc.fstate ≠ 3) ∧
    (At ((setDmc (fun d => { d with basinJob := some ⟨1, 2, 5, true⟩ }) (rdy)).turn (.freqChangeDone ([] : List (Option (Nat × Int))))) fun s => s.inv = true ∧
      s.boot.held = false ∧ s.dmc.fstate ≠ 4) ∧
    (At ((setDmc (fun d => { d with basinJob := some ⟨1, 2, 5, true⟩ }) (rdy)).turn (.basinCmdDone ([] : List Nat))) fun s => s.inv = true ∧
      s.boot.held = false ∧ (s.dmc.basinJob).isSome = true ∧ ((s.dmc.basinJob).getD (⟨0, 0, 0, false⟩ : BasinJob)).granted = true ∧
      (s.regionBanks ((s.dmc.basinJob).getD (⟨0, 0, 0, false⟩ : BasinJob)).region).isSome = true ∧
      ((s.dmc.basinJob).getD (⟨0, 0, 0, false⟩ : BasinJob)).op ≠ 0 ∧ ((s.dmc.basinJob).getD (⟨0, 0, 0, false⟩ : BasinJob)).op = 1 ∧
      ((s.regionBanks ((s.dmc.basinJob).getD (⟨0, 0, 0, false⟩ : BasinJob)).region).getD ([] : List Nat)).Nodup ∧
      ((s.regionBanks ((s.dmc.basinJob).getD (⟨0, 0, 0, false⟩ : BasinJob)).region).getD ([] : List Nat)).contains (0 / 1048576) = false) ∧
    (At ((setDmc (fun d => { d with basinJob := some ⟨1, 2, 5, true⟩ }) (rdy)).turn (.basinLoad fw (0x200 : Word))) fun s => s.inv = true ∧
      s.takes (fw : Source) Rg.DMC_BASIN_CMD.at = true ∧ s.boot.stage = 5 ∧ s.regionInUse (fld (0x200 : Word) 10 8) = false ∧
      (s.regionBanks (fld (0x200 : Word) 10 8)).isSome = true ∧
      (1 = 0 ∨ s.fd Rg.DMC_BASIN_PAGE [] 19 0 * 65536 + ((s.regionBanks (fld (0x200 : Word) 10 8)).getD ([] : List Nat)).length * 1048576 ≤ s.capBytes) ∧
      s.dmc.basinJob.isSome = true) ∧
    (At ((setDmc (fun d => { d with basinJob := some ⟨1, 2, 5, true⟩ }) (rdy)).turn (.basinStore fw (0x200 : Word))) fun s => s.inv = true ∧
      s.takes (fw : Source) Rg.DMC_BASIN_CMD.at = true ∧ s.boot.stage = 5 ∧ s.regionInUse (fld (0x200 : Word) 10 8) = false ∧
      (s.regionBanks (fld (0x200 : Word) 10 8)).isSome = true ∧
      (2 = 0 ∨ s.fd Rg.DMC_BASIN_PAGE [] 19 0 * 65536 + ((s.regionBanks (fld (0x200 : Word) 10 8)).getD ([] : List Nat)).length * 1048576 ≤ s.capBytes) ∧
      s.dmc.basinJob.isSome = true) ∧
    (At ((setDmc (fun d => { d with basinJob := some ⟨2, 2, 5, true⟩ }) (rdy)).turn (.basinCmdDone ([] : List Nat))) fun s => s.inv = true ∧
      s.boot.held = false ∧ (s.dmc.basinJob).isSome = true ∧ ((s.dmc.basinJob).getD (⟨0, 0, 0, false⟩ : BasinJob)).granted = true ∧
      (s.regionBanks ((s.dmc.basinJob).getD (⟨0, 0, 0, false⟩ : BasinJob)).region).isSome = true ∧
      ((s.dmc.basinJob).getD (⟨0, 0, 0, false⟩ : BasinJob)).op = 2) ∧
    (At ((rdy).turn (.basinClear fw (0x300 : Word))) fun s => s.inv = true ∧ s.takes (fw : Source) Rg.DMC_BASIN_CMD.at = true ∧ s.boot.stage = 5 ∧
      s.regionInUse (fld (0x300 : Word) 10 8) = false ∧ s.regionBanks (fld (0x300 : Word) 10 8) = none) ∧
    (At ((rdy).turn (.basinLoad fw (0x300 : Word))) fun s => s.inv = true ∧ s.takes (fw : Source) Rg.DMC_BASIN_CMD.at = true ∧ s.boot.stage = 5 ∧
      s.regionInUse (fld (0x300 : Word) 10 8) = false ∧ s.regionBanks (fld (0x300 : Word) 10 8) = none) ∧
    (At ((rdy).turn (.basinStore fw (0x300 : Word))) fun s => s.inv = true ∧ s.takes (fw : Source) Rg.DMC_BASIN_CMD.at = true ∧ s.boot.stage = 5 ∧
      s.regionInUse (fld (0x300 : Word) 10 8) = false ∧ s.regionBanks (fld (0x300 : Word) 10 8) = none) ∧
    (At ((rdy.wr Rg.DMC_BASIN_PAGE [] 0x1FF1).turn (.basinLoad fw (0x200 : Word))) fun s => s.inv = true ∧
      s.takes (fw : Source) Rg.DMC_BASIN_CMD.at = true ∧ s.boot.stage = 5 ∧ s.regionInUse (fld (0x200 : Word) 10 8) = false ∧
      (s.regionBanks (fld (0x200 : Word) 10 8)).isSome = true ∧
      s.capBytes < s.fd Rg.DMC_BASIN_PAGE [] 19 0 * 65536 + ((s.regionBanks (fld (0x200 : Word) 10 8)).getD ([] : List Nat)).length * 1048576) ∧
    (At ((rdy.wr Rg.DMC_BASIN_PAGE [] 0x1FF1).turn (.basinStore fw (0x200 : Word))) fun s => s.inv = true ∧
      s.takes (fw : Source) Rg.DMC_BASIN_CMD.at = true ∧ s.boot.stage = 5 ∧ s.regionInUse (fld (0x200 : Word) 10 8) = false ∧
      (s.regionBanks (fld (0x200 : Word) 10 8)).isSome = true ∧
      s.capBytes < s.fd Rg.DMC_BASIN_PAGE [] 19 0 * 65536 + ((s.regionBanks (fld (0x200 : Word) 10 8)).getD ([] : List Nat)).length * 1048576) ∧
    (At ((setDmc (fun d => { d with fstate := 3 }) (setHead 0 { state := 4, fbNow := 0, fbDram := 0 } rdy)).turn .freqChangeStart) fun s => s.inv = true ∧
      s.boot.held = false ∧ s.dmc.fstate = 3 ∧ (∃ k ∈ s.dmc.working, s.window k changeNs = false)) ∧
    (At ((setDmc (fun d => { d with fstate := 3 }) (setHead 0 { state := 4, fbNow := 0, fbDram := 0 } rdy)).turn (.basinClear fw (0 : Word))) fun s => s.inv = true ∧
      s.takes (fw : Source) Rg.DMC_BASIN_CMD.at = true ∧ s.boot.stage = 5 ∧ s.regionInUse (fld (0 : Word) 10 8) = true) ∧
    (At ((setDmc (fun d => { d with fstate := 3 }) (setHead 0 { state := 4, fbNow := 0, fbDram := 0 } rdy)).turn (.basinLoad fw (0 : Word))) fun s => s.inv = true ∧
      s.takes (fw : Source) Rg.DMC_BASIN_CMD.at = true ∧ s.boot.stage = 5 ∧ s.regionInUse (fld (0 : Word) 10 8) = true) ∧
    (At ((setDmc (fun d => { d with fstate := 3 }) (setHead 0 { state := 4, fbNow := 0, fbDram := 0 } rdy)).turn (.basinStore fw (0 : Word))) fun s => s.inv = true ∧
      s.takes (fw : Source) Rg.DMC_BASIN_CMD.at = true ∧ s.boot.stage = 5 ∧ s.regionInUse (fld (0 : Word) 10 8) = true)
    := by and_intros <;> decide +kernel

theorem witness_NetworkTimeMessages :
    (At ((timePort { state := 0 } rdy).turn (.syncReceive (0 : Fin 2) (msg : PtpMsg))) fun s => s.boot.held = false ∧ s.inv = true ∧
      s.tim.doms.rising = true ∧ s.tim.run = true ∧ s.tim.link = true ∧ s.absent 15 = false ∧
      (s.msgDomain? 0 (msg : PtpMsg) = none ∨ (msg : PtpMsg).version ≠ 2 ∨ 1 < (msg : PtpMsg).minor ∨ ((Instr.syncReceive (0 : Fin 2) (msg : PtpMsg)) = Instr.syncReceive (0 : Fin 2) (msg : PtpMsg) ∧
      (msg : PtpMsg).twoStep = false) ∨ ((Instr.syncReceive (0 : Fin 2) (msg : PtpMsg)) = Instr.delayRespReceive (0 : Fin 2) (msg : PtpMsg) ∧
      (msg : PtpMsg).requesting ≠ s.ownPort))) ∧
    (At ((timePort { state := 0 } rdy).turn (.followUpReceive (0 : Fin 2) (msg : PtpMsg))) fun s => s.boot.held = false ∧ s.inv = true ∧
      s.tim.doms.rising = true ∧ s.tim.run = true ∧ s.tim.link = true ∧ s.absent 15 = false ∧
      (s.msgDomain? 0 (msg : PtpMsg) = none ∨ (msg : PtpMsg).version ≠ 2 ∨ 1 < (msg : PtpMsg).minor ∨ ((Instr.followUpReceive (0 : Fin 2) (msg : PtpMsg)) = Instr.syncReceive (0 : Fin 2) (msg : PtpMsg) ∧
      (msg : PtpMsg).twoStep = false) ∨ ((Instr.followUpReceive (0 : Fin 2) (msg : PtpMsg)) = Instr.delayRespReceive (0 : Fin 2) (msg : PtpMsg) ∧
      (msg : PtpMsg).requesting ≠ s.ownPort))) ∧
    (At ((timePort { state := 0 } rdy).turn (.announceReceive (0 : Fin 2) (msg : PtpMsg))) fun s => s.boot.held = false ∧ s.inv = true ∧
      s.tim.doms.rising = true ∧ s.tim.run = true ∧ s.tim.link = true ∧ s.absent 15 = false ∧
      (s.msgDomain? 0 (msg : PtpMsg) = none ∨ (msg : PtpMsg).version ≠ 2 ∨ 1 < (msg : PtpMsg).minor ∨ ((Instr.announceReceive (0 : Fin 2) (msg : PtpMsg)) = Instr.syncReceive (0 : Fin 2) (msg : PtpMsg) ∧
      (msg : PtpMsg).twoStep = false) ∨ ((Instr.announceReceive (0 : Fin 2) (msg : PtpMsg)) = Instr.delayRespReceive (0 : Fin 2) (msg : PtpMsg) ∧
      (msg : PtpMsg).requesting ≠ s.ownPort))) ∧
    (At ((timePort { state := 0 } rdy).turn (.delayRespReceive (0 : Fin 2) (msg : PtpMsg))) fun s => s.boot.held = false ∧ s.inv = true ∧
      s.tim.doms.rising = true ∧ s.tim.run = true ∧ s.tim.link = true ∧ s.absent 15 = false ∧
      (s.msgDomain? 0 (msg : PtpMsg) = none ∨ (msg : PtpMsg).version ≠ 2 ∨ 1 < (msg : PtpMsg).minor ∨ ((Instr.delayRespReceive (0 : Fin 2) (msg : PtpMsg)) = Instr.syncReceive (0 : Fin 2) (msg : PtpMsg) ∧
      (msg : PtpMsg).twoStep = false) ∨ ((Instr.delayRespReceive (0 : Fin 2) (msg : PtpMsg)) = Instr.delayRespReceive (0 : Fin 2) (msg : PtpMsg) ∧
      (msg : PtpMsg).requesting ≠ s.ownPort))) ∧
    (At ((timePort { state := 2, master := some 0x777000001, syncs := [kept], delays := [1, 2, 3, 6], pairs := 3 } rdy).turn (.followUpReceive (0 : Fin 2) (msg : PtpMsg))) fun s => s.boot.held = false ∧
      s.inv = true ∧ s.tim.doms.rising = true ∧ s.tim.run = true ∧ s.tim.link = true ∧ s.absent 15 = false ∧ (msg : PtpMsg).version = 2 ∧
      (msg : PtpMsg).minor ≤ 1 ∧ s.msgDomain? 0 (msg : PtpMsg) = some 0 ∧ (s.dom 0).master = some (msg : PtpMsg).source ∧
      (((s.dom 0).syncs.find? fun y => y.seq == (msg : PtpMsg).seq && decide (s.now ≤ y.at' + 1280000000))).isSome = true ∧ (s.dom 0).state = 2 ∧
      4 ≤ (s.dom 0).delays.length ∧ 3 ≤ (s.dom 0).pairs) ∧
    (At ((timePort { state := 3, master := some 0x777000001, syncs := [kept] } rdy).turn (.delayReqSend (0 : Fin 2))) fun s => s.boot.held = false ∧ s.inv = true ∧
      s.tim.doms.rising = true) ∧
    (At ((timePort { state := 3, master := some 0x777000001, syncs := [kept] } rdy).turn (.tsqEntryExpiry)) fun s => s.boot.held = false ∧
      s.inv = true ∧ s.tim.doms.rising = true) ∧
    (At ((timePort { state := 3, master := some 0x777000001, syncs := [kept] } rdy).turn (.announceTimeout (0 : Fin 2))) fun s => s.boot.held = false ∧
      s.inv = true ∧ s.tim.doms.rising = true ∧ (s.dom 0).state ≠ 0 ∧ s.tim.state = 1 ∧ s.tim.sel = 0 ∧ s.consistent (1 - 0) = false) ∧
    (At ((timePort { state := 3, master := some 0x777000001, syncs := [kept] } rdy).turn (.revertTimer)) fun s => s.boot.held = false ∧
      s.inv = true ∧ s.tim.doms.rising = true) ∧
    (At ((timePort { state := 3, master := some 0x777000001, syncs := [kept] } rdy).turn (.ethFrameDiscard)) fun s => s.boot.held = false ∧
      s.inv = true ∧ s.tim.doms.rising = true) ∧
    (At (timePort { state := 3, master := some 0x777000001, syncs := [kept] } rdy) fun s => s.boot.held = false ∧ s.inv = true ∧
      s.tim.doms.rising = true ∧ (s.msgDomain? 0 (msg : PtpMsg)).isSome = true ∧ 2 ≤ (s.dom 0).state ∧ s.tim.run = true ∧ s.tim.link = true ∧
      s.tim.tsq.length < 16) ∧
    (At ((timePort { state := 3, master := some 0x777000001, syncs := [kept] } rdy).turn (.syncReceive (0 : Fin 2) (msg : PtpMsg))) fun s => s.boot.held = false ∧
      s.inv = true ∧ s.tim.doms.rising = true ∧ s.tim.run = true ∧ s.tim.link = true ∧ s.absent 15 = false ∧ (msg : PtpMsg).version = 2 ∧
      (msg : PtpMsg).minor ≤ 1 ∧ s.msgDomain? 0 (msg : PtpMsg) = some 0 ∧ (msg : PtpMsg).twoStep = true ∧
      (s.dom 0).master = some (msg : PtpMsg).source) ∧
    (At ((timePort { state := 3, master := some 0x777000001, syncs := [kept] } rdy).turn (.followUpReceive (0 : Fin 2) (msg : PtpMsg))) fun s => s.boot.held = false ∧
      s.inv = true ∧ s.tim.doms.rising = true ∧ s.tim.run = true ∧ s.tim.link = true ∧ s.absent 15 = false ∧ (msg : PtpMsg).version = 2 ∧
      (msg : PtpMsg).minor ≤ 1 ∧ s.msgDomain? 0 (msg : PtpMsg) = some 0 ∧ (s.dom 0).master = some (msg : PtpMsg).source ∧
      (((s.dom 0).syncs.find? fun y => y.seq == (msg : PtpMsg).seq && decide (s.now ≤ y.at' + 1280000000))).isSome = true ∧ 3 ≤ (s.dom 0).state ∧
      s.tim.armed = false ∧ (s.dom 0).state = 3) ∧
    (At ((timePort { state := 3, master := some 0x777000001, syncs := [kept] } rdy).turn (.followUpReceive (0 : Fin 2) (msg : PtpMsg))) fun s => (rnd (({ t1 := ((msg : PtpMsg).sec * 1000000000 + (msg : PtpMsg).ns : Nat) * 65536, t2 := ((((s.dom 0).syncs.find? fun y => y.seq == (msg : PtpMsg).seq && decide (s.now ≤ y.at' + 1280000000))).getD (kept : SyncWait)).t2, cs := rnd (((((s.dom 0).syncs.find? fun y => y.seq == (msg : PtpMsg).seq && decide (s.now ≤ y.at' + 1280000000))).getD (kept : SyncWait)).corr + (msg : PtpMsg).corr) 65536 } : TimPair).t2 - ({ t1 := ((msg : PtpMsg).sec * 1000000000 + (msg : PtpMsg).ns : Nat) * 65536, t2 := ((((s.dom 0).syncs.find? fun y => y.seq == (msg : PtpMsg).seq && decide (s.now ≤ y.at' + 1280000000))).getD (kept : SyncWait)).t2, cs := rnd (((((s.dom 0).syncs.find? fun y => y.seq == (msg : PtpMsg).seq && decide (s.now ≤ y.at' + 1280000000))).getD (kept : SyncWait)).corr + (msg : PtpMsg).corr) 65536 } : TimPair).t1) 65536 - ({ t1 := ((msg : PtpMsg).sec * 1000000000 + (msg : PtpMsg).ns : Nat) * 65536, t2 := ((((s.dom 0).syncs.find? fun y => y.seq == (msg : PtpMsg).seq && decide (s.now ≤ y.at' + 1280000000))).getD (kept : SyncWait)).t2, cs := rnd (((((s.dom 0).syncs.find? fun y => y.seq == (msg : PtpMsg).seq && decide (s.now ≤ y.at' + 1280000000))).getD (kept : SyncWait)).corr + (msg : PtpMsg).corr) 65536 } : TimPair).cs - (s.dom 0).mpd - s.timAsym 0 : Int).natAbs ≤ s.stepThr ∧
      s.tim.state = 1 ∧ s.tim.sel = 0 ∧ (s.dom 0).pathN = 0) ∧
    (At ((timePort { state := 3, master := some 0x777000001, syncs := [kept] } rdy).turn (.announceReceive (0 : Fin 2) (msg : PtpMsg))) fun s => s.boot.held = false ∧
      s.inv = true ∧ s.tim.doms.rising = true ∧ s.tim.run = true ∧ s.tim.link = true ∧ s.absent 15 = false ∧ (msg : PtpMsg).version = 2 ∧
      (msg : PtpMsg).minor ≤ 1 ∧ s.msgDomain? 0 (msg : PtpMsg) = some 0 ∧ (msg : PtpMsg).source / 65536 ≠ s.ownPort / 65536 ∧
      (msg : PtpMsg).steps < 255 ∧ bestMaster s.now (noteForeign s.now (msg : PtpMsg) (s.dom 0).foreign) = none) ∧
    (At ((timePort { state := 3, master := some 0x777000001, syncs := [kept] } rdy).turn (.delayRespReceive (0 : Fin 2) (msg : PtpMsg))) fun s => s.boot.held = false ∧
      s.inv = true ∧ s.tim.doms.rising = true ∧ s.tim.run = true ∧ s.tim.link = true ∧ s.absent 15 = false ∧ (msg : PtpMsg).version = 2 ∧
      (msg : PtpMsg).minor ≤ 1 ∧ s.msgDomain? 0 (msg : PtpMsg) = some 0 ∧ (msg : PtpMsg).requesting = s.ownPort ∧
      ((s.dom 0).master ≠ some (msg : PtpMsg).source ∨ (s.tim.tsq.find? fun y => y.dom == 0 && y.seq == (msg : PtpMsg).seq) = none)) ∧
    (At ((timePort { state := 3, master := some 0x777000001, syncs := [kept] } rdy).turn (.syncPairTimeout (0 : Fin 2))) fun s => s.boot.held = false ∧
      s.inv = true ∧ s.tim.doms.rising = true ∧ (s.dom 0).state ≠ 0 ∧ s.tim.state = 1 ∧ s.tim.sel = 0 ∧ s.consistent (1 - 0) = false) ∧
    (At ((timePort { state := 3, master := some 0x777000001, syncs := [kept] } rdy).turn (.pathHoldoffExpiry (0 : Fin 2))) fun s => s.boot.held = false ∧
      s.inv = true ∧ s.tim.doms.rising = true ∧ (s.dom 0).state ≠ 5) ∧
    (At ((timePort { state := 3, master := some 0x777000001, syncs := [kept] } rdy).turn .revertTimer) fun s => s.boot.held = false ∧
      s.inv = true ∧ s.tim.doms.rising = true ∧ (s.tim.state ≠ 1 ∨ bit (s.rd Rg.TIM_CTL) 30 = false ∨ s.tim.sel = s.primaryDom ∨ s.consistent s.primaryDom = false)) ∧
    (At ((timePort { state := 3, master := some 0x777000001, syncs := [kept], mpd := 2 ^ 60 } rdy).turn (.followUpReceive (0 : Fin 2) (msg : PtpMsg))) fun s => s.boot.held = false ∧
      s.inv = true ∧ s.tim.doms.rising = true ∧ s.tim.run = true ∧ s.tim.link = true ∧ s.absent 15 = false ∧ (msg : PtpMsg).version = 2 ∧
      (msg : PtpMsg).minor ≤ 1 ∧ s.msgDomain? 0 (msg : PtpMsg) = some 0 ∧ (s.dom 0).master = some (msg : PtpMsg).source ∧
      (((s.dom 0).syncs.find? fun y => y.seq == (msg : PtpMsg).seq && decide (s.now ≤ y.at' + 1280000000))).isSome = true ∧ s.tim.armed = false ∧
      (s.dom 0).state = 3 ∧ s.stepThr < (rnd (({ t1 := ((msg : PtpMsg).sec * 1000000000 + (msg : PtpMsg).ns : Nat) * 65536, t2 := ((((s.dom 0).syncs.find? fun y => y.seq == (msg : PtpMsg).seq && decide (s.now ≤ y.at' + 1280000000))).getD (kept : SyncWait)).t2, cs := rnd (((((s.dom 0).syncs.find? fun y => y.seq == (msg : PtpMsg).seq && decide (s.now ≤ y.at' + 1280000000))).getD (kept : SyncWait)).corr + (msg : PtpMsg).corr) 65536 } : TimPair).t2 - ({ t1 := ((msg : PtpMsg).sec * 1000000000 + (msg : PtpMsg).ns : Nat) * 65536, t2 := ((((s.dom 0).syncs.find? fun y => y.seq == (msg : PtpMsg).seq && decide (s.now ≤ y.at' + 1280000000))).getD (kept : SyncWait)).t2, cs := rnd (((((s.dom 0).syncs.find? fun y => y.seq == (msg : PtpMsg).seq && decide (s.now ≤ y.at' + 1280000000))).getD (kept : SyncWait)).corr + (msg : PtpMsg).corr) 65536 } : TimPair).t1) 65536 - ({ t1 := ((msg : PtpMsg).sec * 1000000000 + (msg : PtpMsg).ns : Nat) * 65536, t2 := ((((s.dom 0).syncs.find? fun y => y.seq == (msg : PtpMsg).seq && decide (s.now ≤ y.at' + 1280000000))).getD (kept : SyncWait)).t2, cs := rnd (((((s.dom 0).syncs.find? fun y => y.seq == (msg : PtpMsg).seq && decide (s.now ≤ y.at' + 1280000000))).getD (kept : SyncWait)).corr + (msg : PtpMsg).corr) 65536 } : TimPair).cs - (s.dom 0).mpd - s.timAsym 0 : Int).natAbs) ∧
    (At ((timePort { state := 4, master := some 0x777000001, syncs := [kept] } rdy).turn (.followUpReceive (0 : Fin 2) (msg : PtpMsg))) fun s => s.boot.held = false ∧
      s.inv = true ∧ s.tim.doms.rising = true ∧ s.tim.run = true ∧ s.tim.link = true ∧ s.absent 15 = false ∧ (msg : PtpMsg).version = 2 ∧
      (msg : PtpMsg).minor ≤ 1 ∧ s.msgDomain? 0 (msg : PtpMsg) = some 0 ∧ (s.dom 0).master = some (msg : PtpMsg).source ∧
      (((s.dom 0).syncs.find? fun y => y.seq == (msg : PtpMsg).seq && decide (s.now ≤ y.at' + 1280000000))).isSome = true ∧ s.tim.armed = false ∧
      (s.dom 0).state = 4 ∧ (rnd (({ t1 := ((msg : PtpMsg).sec * 1000000000 + (msg : PtpMsg).ns : Nat) * 65536, t2 := ((((s.dom 0).syncs.find? fun y => y.seq == (msg : PtpMsg).seq && decide (s.now ≤ y.at' + 1280000000))).getD (kept : SyncWait)).t2, cs := rnd (((((s.dom 0).syncs.find? fun y => y.seq == (msg : PtpMsg).seq && decide (s.now ≤ y.at' + 1280000000))).getD (kept : SyncWait)).corr + (msg : PtpMsg).corr) 65536 } : TimPair).t2 - ({ t1 := ((msg : PtpMsg).sec * 1000000000 + (msg : PtpMsg).ns : Nat) * 65536, t2 := ((((s.dom 0).syncs.find? fun y => y.seq == (msg : PtpMsg).seq && decide (s.now ≤ y.at' + 1280000000))).getD (kept : SyncWait)).t2, cs := rnd (((((s.dom 0).syncs.find? fun y => y.seq == (msg : PtpMsg).seq && decide (s.now ≤ y.at' + 1280000000))).getD (kept : SyncWait)).corr + (msg : PtpMsg).corr) 65536 } : TimPair).t1) 65536 - ({ t1 := ((msg : PtpMsg).sec * 1000000000 + (msg : PtpMsg).ns : Nat) * 65536, t2 := ((((s.dom 0).syncs.find? fun y => y.seq == (msg : PtpMsg).seq && decide (s.now ≤ y.at' + 1280000000))).getD (kept : SyncWait)).t2, cs := rnd (((((s.dom 0).syncs.find? fun y => y.seq == (msg : PtpMsg).seq && decide (s.now ≤ y.at' + 1280000000))).getD (kept : SyncWait)).corr + (msg : PtpMsg).corr) 65536 } : TimPair).cs - (s.dom 0).mpd - s.timAsym 0 : Int).natAbs ≤ s.stepThr) ∧
    (At ((timePort { state := 4, master := some 0x777000001, syncs := [kept] } rdy).turn (.followUpReceive (0 : Fin 2) (msg : PtpMsg))) fun s => (s.dom 0).good < 3) ∧
    (At ((timePort { state := 4, master := some 0x777000001, syncs := [kept], mpd := 2 ^ 60 } rdy).turn (.followUpReceive (0 : Fin 2) (msg : PtpMsg))) fun s => s.boot.held = false ∧
      s.inv = true ∧ s.tim.doms.rising = true ∧ s.tim.run = true ∧ s.tim.link = true ∧ s.absent 15 = false ∧ (msg : PtpMsg).version = 2 ∧
      (msg : PtpMsg).minor ≤ 1 ∧ s.msgDomain? 0 (msg : PtpMsg) = some 0 ∧ (s.dom 0).master = some (msg : PtpMsg).source ∧
      (((s.dom 0).syncs.find? fun y => y.seq == (msg : PtpMsg).seq && decide (s.now ≤ y.at' + 1280000000))).isSome = true ∧ s.tim.armed = false ∧
      (s.dom 0).state = 4 ∧ s.stepThr < (rnd (({ t1 := ((msg : PtpMsg).sec * 1000000000 + (msg : PtpMsg).ns : Nat) * 65536, t2 := ((((s.dom 0).syncs.find? fun y => y.seq == (msg : PtpMsg).seq && decide (s.now ≤ y.at' + 1280000000))).getD (kept : SyncWait)).t2, cs := rnd (((((s.dom 0).syncs.find? fun y => y.seq == (msg : PtpMsg).seq && decide (s.now ≤ y.at' + 1280000000))).getD (kept : SyncWait)).corr + (msg : PtpMsg).corr) 65536 } : TimPair).t2 - ({ t1 := ((msg : PtpMsg).sec * 1000000000 + (msg : PtpMsg).ns : Nat) * 65536, t2 := ((((s.dom 0).syncs.find? fun y => y.seq == (msg : PtpMsg).seq && decide (s.now ≤ y.at' + 1280000000))).getD (kept : SyncWait)).t2, cs := rnd (((((s.dom 0).syncs.find? fun y => y.seq == (msg : PtpMsg).seq && decide (s.now ≤ y.at' + 1280000000))).getD (kept : SyncWait)).corr + (msg : PtpMsg).corr) 65536 } : TimPair).t1) 65536 - ({ t1 := ((msg : PtpMsg).sec * 1000000000 + (msg : PtpMsg).ns : Nat) * 65536, t2 := ((((s.dom 0).syncs.find? fun y => y.seq == (msg : PtpMsg).seq && decide (s.now ≤ y.at' + 1280000000))).getD (kept : SyncWait)).t2, cs := rnd (((((s.dom 0).syncs.find? fun y => y.seq == (msg : PtpMsg).seq && decide (s.now ≤ y.at' + 1280000000))).getD (kept : SyncWait)).corr + (msg : PtpMsg).corr) 65536 } : TimPair).cs - (s.dom 0).mpd - s.timAsym 0 : Int).natAbs) ∧
    (At ((timePort { state := 4, master := some 0x777000001, syncs := [kept], good := 3 } rdy).turn (.followUpReceive (0 : Fin 2) (msg : PtpMsg))) fun s => s.boot.held = false ∧
      s.inv = true ∧ s.tim.doms.rising = true ∧ s.tim.run = true ∧ s.tim.link = true ∧ s.absent 15 = false ∧ (msg : PtpMsg).version = 2 ∧
      (msg : PtpMsg).minor ≤ 1 ∧ s.msgDomain? 0 (msg : PtpMsg) = some 0 ∧ (s.dom 0).master = some (msg : PtpMsg).source ∧
      (((s.dom 0).syncs.find? fun y => y.seq == (msg : PtpMsg).seq && decide (s.now ≤ y.at' + 1280000000))).isSome = true ∧ s.tim.armed = false ∧
      (s.dom 0).state = 4 ∧ (rnd (({ t1 := ((msg : PtpMsg).sec * 1000000000 + (msg : PtpMsg).ns : Nat) * 65536, t2 := ((((s.dom 0).syncs.find? fun y => y.seq == (msg : PtpMsg).seq && decide (s.now ≤ y.at' + 1280000000))).getD (kept : SyncWait)).t2, cs := rnd (((((s.dom 0).syncs.find? fun y => y.seq == (msg : PtpMsg).seq && decide (s.now ≤ y.at' + 1280000000))).getD (kept : SyncWait)).corr + (msg : PtpMsg).corr) 65536 } : TimPair).t2 - ({ t1 := ((msg : PtpMsg).sec * 1000000000 + (msg : PtpMsg).ns : Nat) * 65536, t2 := ((((s.dom 0).syncs.find? fun y => y.seq == (msg : PtpMsg).seq && decide (s.now ≤ y.at' + 1280000000))).getD (kept : SyncWait)).t2, cs := rnd (((((s.dom 0).syncs.find? fun y => y.seq == (msg : PtpMsg).seq && decide (s.now ≤ y.at' + 1280000000))).getD (kept : SyncWait)).corr + (msg : PtpMsg).corr) 65536 } : TimPair).t1) 65536 - ({ t1 := ((msg : PtpMsg).sec * 1000000000 + (msg : PtpMsg).ns : Nat) * 65536, t2 := ((((s.dom 0).syncs.find? fun y => y.seq == (msg : PtpMsg).seq && decide (s.now ≤ y.at' + 1280000000))).getD (kept : SyncWait)).t2, cs := rnd (((((s.dom 0).syncs.find? fun y => y.seq == (msg : PtpMsg).seq && decide (s.now ≤ y.at' + 1280000000))).getD (kept : SyncWait)).corr + (msg : PtpMsg).corr) 65536 } : TimPair).cs - (s.dom 0).mpd - s.timAsym 0 : Int).natAbs ≤ s.stepThr) ∧
    (At ((timePort { state := 4, master := some 0x777000001, syncs := [kept], good := 3 } rdy).turn (.followUpReceive (0 : Fin 2) (msg : PtpMsg))) fun s => 3 ≤ (s.dom 0).good) ∧
    (At (({ timePort { state := 3, master := some 0x777000001, syncs := [kept], mpd := 2 ^ 60 } rdy with tim := { (timePort { state := 3, master := some 0x777000001, syncs := [kept], mpd := 2 ^ 60 } rdy).tim with armed := true } }).turn (.followUpReceive (0 : Fin 2) (msg : PtpMsg))) fun s => s.boot.held = false ∧
      s.inv = true ∧ s.tim.doms.rising = true ∧ s.tim.run = true ∧ s.tim.link = true ∧ s.absent 15 = false ∧ (msg : PtpMsg).version = 2 ∧
      (msg : PtpMsg).minor ≤ 1 ∧ s.msgDomain? 0 (msg : PtpMsg) = some 0 ∧ (s.dom 0).master = some (msg : PtpMsg).source ∧
      (((s.dom 0).syncs.find? fun y => y.seq == (msg : PtpMsg).seq && decide (s.now ≤ y.at' + 1280000000))).isSome = true ∧ s.tim.armed = true ∧
      s.stepDomain? = some 0 ∧ ((s.dom 0).state = 3 ∨ (s.dom 0).state = 4)) ∧
    (At (({ timePort { state := 3, master := some 0x777000001, syncs := [kept], mpd := 2 ^ 60 } rdy with tim := { (timePort { state := 3, master := some 0x777000001, syncs := [kept], mpd := 2 ^ 60 } rdy).tim with armed := true } }).turn (.followUpReceive (0 : Fin 2) (msg : PtpMsg))) fun s => s.stepThr < (rnd (({ t1 := ((msg : PtpMsg).sec * 1000000000 + (msg : PtpMsg).ns : Nat) * 65536, t2 := ((((s.dom 0).syncs.find? fun y => y.seq == (msg : PtpMsg).seq && decide (s.now ≤ y.at' + 1280000000))).getD (kept : SyncWait)).t2, cs := rnd (((((s.dom 0).syncs.find? fun y => y.seq == (msg : PtpMsg).seq && decide (s.now ≤ y.at' + 1280000000))).getD (kept : SyncWait)).corr + (msg : PtpMsg).corr) 65536 } : TimPair).t2 - ({ t1 := ((msg : PtpMsg).sec * 1000000000 + (msg : PtpMsg).ns : Nat) * 65536, t2 := ((((s.dom 0).syncs.find? fun y => y.seq == (msg : PtpMsg).seq && decide (s.now ≤ y.at' + 1280000000))).getD (kept : SyncWait)).t2, cs := rnd (((((s.dom 0).syncs.find? fun y => y.seq == (msg : PtpMsg).seq && decide (s.now ≤ y.at' + 1280000000))).getD (kept : SyncWait)).corr + (msg : PtpMsg).corr) 65536 } : TimPair).t1) 65536 - ({ t1 := ((msg : PtpMsg).sec * 1000000000 + (msg : PtpMsg).ns : Nat) * 65536, t2 := ((((s.dom 0).syncs.find? fun y => y.seq == (msg : PtpMsg).seq && decide (s.now ≤ y.at' + 1280000000))).getD (kept : SyncWait)).t2, cs := rnd (((((s.dom 0).syncs.find? fun y => y.seq == (msg : PtpMsg).seq && decide (s.now ≤ y.at' + 1280000000))).getD (kept : SyncWait)).corr + (msg : PtpMsg).corr) 65536 } : TimPair).cs - (s.dom 0).mpd - s.timAsym 0 : Int).natAbs) ∧
    (At ((timePort { state := 1 } rdy).turn (.syncReceive (0 : Fin 2) ({ msg with steps := 255 } : PtpMsg))) fun s => s.boot.held = false ∧
      s.inv = true ∧ s.tim.doms.rising = true ∧ s.tim.run = true ∧ s.tim.link = true ∧ s.absent 15 = false ∧
      ({ msg with steps := 255 } : PtpMsg).version = 2 ∧ ({ msg with steps := 255 } : PtpMsg).minor ≤ 1 ∧
      s.msgDomain? 0 ({ msg with steps := 255 } : PtpMsg) = some 0 ∧ ({ msg with steps := 255 } : PtpMsg).twoStep = true ∧
      (s.dom 0).master ≠ some ({ msg with steps := 255 } : PtpMsg).source) ∧
    (At ((timePort { state := 1 } rdy).turn (.followUpReceive (0 : Fin 2) ({ msg with steps := 255 } : PtpMsg))) fun s => s.boot.held = false ∧
      s.inv = true ∧ s.tim.doms.rising = true ∧ s.tim.run = true ∧ s.tim.link = true ∧ s.absent 15 = false ∧
      ({ msg with steps := 255 } : PtpMsg).version = 2 ∧ ({ msg with steps := 255 } : PtpMsg).minor ≤ 1 ∧
      s.msgDomain? 0 ({ msg with steps := 255 } : PtpMsg) = some 0 ∧
      ((s.dom 0).master ≠ some ({ msg with steps := 255 } : PtpMsg).source ∨ ((s.dom 0).syncs.find? fun y => y.seq == ({ msg with steps := 255 } : PtpMsg).seq && decide (s.now ≤ y.at' + 1280000000)) = none)) ∧
    (At ((timePort { state := 1 } rdy).turn (.announceReceive (0 : Fin 2) ({ msg with steps := 255 } : PtpMsg))) fun s => s.boot.held = false ∧
      s.inv = true ∧ s.tim.doms.rising = true ∧ s.tim.run = true ∧ s.tim.link = true ∧ s.absent 15 = false ∧
      ({ msg with steps := 255 } : PtpMsg).version = 2 ∧ ({ msg with steps := 255 } : PtpMsg).minor ≤ 1 ∧
      s.msgDomain? 0 ({ msg with steps := 255 } : PtpMsg) = some 0 ∧
      (({ msg with steps := 255 } : PtpMsg).source / 65536 = s.ownPort / 65536 ∨ 255 ≤ ({ msg with steps := 255 } : PtpMsg).steps)) ∧
    (At ((timePort { state := 1, foreign := [known] } rdy).turn (.announceReceive (0 : Fin 2) (msg : PtpMsg))) fun s => s.boot.held = false ∧
      s.inv = true ∧ s.tim.doms.rising = true ∧ s.tim.run = true ∧ s.tim.link = true ∧ s.absent 15 = false ∧ (msg : PtpMsg).version = 2 ∧
      (msg : PtpMsg).minor ≤ 1 ∧ s.msgDomain? 0 (msg : PtpMsg) = some 0 ∧ (msg : PtpMsg).source / 65536 ≠ s.ownPort / 65536 ∧
      (msg : PtpMsg).steps < 255 ∧ (bestMaster s.now (noteForeign s.now (msg : PtpMsg) (s.dom 0).foreign)).isSome = true ∧
      (s.dom 0).master ≠ some ((bestMaster s.now (noteForeign s.now (msg : PtpMsg) (s.dom 0).foreign)).getD (known : Foreign)).source) ∧
    (At (({ timePort { state := 2, master := some 0x777000001 } rdy with tim := { (timePort { state := 2, master := some 0x777000001 } rdy).tim with tsq := [⟨0, 5, 0, none⟩] } }).turn (.delayRespReceive (0 : Fin 2) (msg : PtpMsg))) fun s => s.boot.held = false ∧
      s.inv = true ∧ s.tim.doms.rising = true ∧ s.tim.run = true ∧ s.tim.link = true ∧ s.absent 15 = false ∧ (msg : PtpMsg).version = 2 ∧
      (msg : PtpMsg).minor ≤ 1 ∧ s.msgDomain? 0 (msg : PtpMsg) = some 0 ∧ (msg : PtpMsg).requesting = s.ownPort ∧
      (s.dom 0).master = some (msg : PtpMsg).source ∧ ((s.tim.tsq.find? fun y => y.dom == 0 && y.seq == (msg : PtpMsg).seq)).isSome = true ∧
      (((s.tim.tsq.find? fun y => y.dom == 0 && y.seq == (msg : PtpMsg).seq)).getD (⟨0, 0, 0, none⟩ : TsqEntry)).pair = none) ∧
    (At (({ timePort { state := 2, master := some 0x777000001 } rdy with tim := { (timePort { state := 2, master := some 0x777000001 } rdy).tim with tsq := [⟨0, 5, 65536, some pair⟩] } }).turn (.delayRespReceive (0 : Fin 2) (msg : PtpMsg))) fun s => s.boot.held = false ∧
      s.inv = true ∧ s.tim.doms.rising = true ∧ s.tim.run = true ∧ s.tim.link = true ∧ s.absent 15 = false ∧ (msg : PtpMsg).version = 2 ∧
      (msg : PtpMsg).minor ≤ 1 ∧ s.msgDomain? 0 (msg : PtpMsg) = some 0 ∧ (msg : PtpMsg).requesting = s.ownPort ∧
      (s.dom 0).master = some (msg : PtpMsg).source ∧ ((s.tim.tsq.find? fun y => y.dom == 0 && y.seq == (msg : PtpMsg).seq)).isSome = true ∧
      ((((s.tim.tsq.find? fun y => y.dom == 0 && y.seq == (msg : PtpMsg).seq)).getD (⟨0, 0, 0, none⟩ : TsqEntry)).pair).isSome = true ∧
      (s.dom 0).state = 2) ∧
    (At (({ timePort { state := 3, master := some 0x777000001 } rdy with tim := { (timePort { state := 3, master := some 0x777000001 } rdy).tim with tsq := [⟨0, 5, 65536, some pair⟩] } }).turn (.delayRespReceive (0 : Fin 2) (msg : PtpMsg))) fun s => s.boot.held = false ∧
      s.inv = true ∧ s.tim.doms.rising = true ∧ s.tim.run = true ∧ s.tim.link = true ∧ s.absent 15 = false ∧ (msg : PtpMsg).version = 2 ∧
      (msg : PtpMsg).minor ≤ 1 ∧ s.msgDomain? 0 (msg : PtpMsg) = some 0 ∧ (msg : PtpMsg).requesting = s.ownPort ∧
      (s.dom 0).master = some (msg : PtpMsg).source ∧ ((s.tim.tsq.find? fun y => y.dom == 0 && y.seq == (msg : PtpMsg).seq)).isSome = true ∧
      ((((s.tim.tsq.find? fun y => y.dom == 0 && y.seq == (msg : PtpMsg).seq)).getD (⟨0, 0, 0, none⟩ : TsqEntry)).pair).isSome = true ∧
      (s.dom 0).state = 3) ∧
    (At (({ timePort { state := 3, master := some 0x777000001 } rdy with tim := { (timePort { state := 3, master := some 0x777000001 } rdy).tim with tsq := [⟨0, 5, 65536, some pair⟩] } }).turn (.delayRespReceive (0 : Fin 2) (msg : PtpMsg))) fun s => s.pathThr 0 < ((rnd (((((((s.tim.tsq.find? fun y => y.dom == 0 && y.seq == (msg : PtpMsg).seq)).getD (⟨0, 0, 0, none⟩ : TsqEntry)).pair).getD (pair : TimPair)).t2 - (((((s.tim.tsq.find? fun y => y.dom == 0 && y.seq == (msg : PtpMsg).seq)).getD (⟨0, 0, 0, none⟩ : TsqEntry)).pair).getD (pair : TimPair)).t1) + ((((msg : PtpMsg).sec * 1000000000 + (msg : PtpMsg).ns : Nat) * 65536 : Int) - (((s.tim.tsq.find? fun y => y.dom == 0 && y.seq == (msg : PtpMsg).seq)).getD (⟨0, 0, 0, none⟩ : TsqEntry)).t3) - ((((((s.tim.tsq.find? fun y => y.dom == 0 && y.seq == (msg : PtpMsg).seq)).getD (⟨0, 0, 0, none⟩ : TsqEntry)).pair).getD (pair : TimPair)).cs + rnd (msg : PtpMsg).corr 65536) * 65536) 131072 : Int) - (s.dom 0).mpd).natAbs ∧
      ((if (s.dom 0).pathN ≠ 0 ∧ decide ((s.dom 0).mpd < (rnd (((((((s.tim.tsq.find? fun y => y.dom == 0 && y.seq == (msg : PtpMsg).seq)).getD (⟨0, 0, 0, none⟩ : TsqEntry)).pair).getD (pair : TimPair)).t2 - (((((s.tim.tsq.find? fun y => y.dom == 0 && y.seq == (msg : PtpMsg).seq)).getD (⟨0, 0, 0, none⟩ : TsqEntry)).pair).getD (pair : TimPair)).t1) + ((((msg : PtpMsg).sec * 1000000000 + (msg : PtpMsg).ns : Nat) * 65536 : Int) - (((s.tim.tsq.find? fun y => y.dom == 0 && y.seq == (msg : PtpMsg).seq)).getD (⟨0, 0, 0, none⟩ : TsqEntry)).t3) - ((((((s.tim.tsq.find? fun y => y.dom == 0 && y.seq == (msg : PtpMsg).seq)).getD (⟨0, 0, 0, none⟩ : TsqEntry)).pair).getD (pair : TimPair)).cs + rnd (msg : PtpMsg).corr 65536) * 65536) 131072 : Int)) = (s.dom 0).pathUp then (s.dom 0).pathN + 1 else 1) : Nat) < 8) ∧
    (At (({ timePort { state := 3, master := some 0x777000001, mpd := 2 ^ 60, pathN := 7 } rdy with tim := { (timePort { state := 3, master := some 0x777000001, mpd := 2 ^ 60, pathN := 7 } rdy).tim with tsq := [⟨0, 5, 65536, some pair⟩] } }).turn (.delayRespReceive (0 : Fin 2) (msg : PtpMsg))) fun s => s.boot.held = false ∧
      s.inv = true ∧ s.tim.doms.rising = true ∧ s.tim.run = true ∧ s.tim.link = true ∧ s.absent 15 = false ∧ (msg : PtpMsg).version = 2 ∧
      (msg : PtpMsg).minor ≤ 1 ∧ s.msgDomain? 0 (msg : PtpMsg) = some 0 ∧ (msg : PtpMsg).requesting = s.ownPort ∧
      (s.dom 0).master = some (msg : PtpMsg).source ∧ ((s.tim.tsq.find? fun y => y.dom == 0 && y.seq == (msg : PtpMsg).seq)).isSome = true ∧
      ((((s.tim.tsq.find? fun y => y.dom == 0 && y.seq == (msg : PtpMsg).seq)).getD (⟨0, 0, 0, none⟩ : TsqEntry)).pair).isSome = true ∧
      (s.dom 0).state = 3) ∧
    (At (({ timePort { state := 3, master := some 0x777000001, mpd := 2 ^ 60, pathN := 7 } rdy with tim := { (timePort { state := 3, master := some 0x777000001, mpd := 2 ^ 60, pathN := 7 } rdy).tim with tsq := [⟨0, 5, 65536, some pair⟩] } }).turn (.delayRespReceive (0 : Fin 2) (msg : PtpMsg))) fun s => s.pathThr 0 < ((rnd (((((((s.tim.tsq.find? fun y => y.dom == 0 && y.seq == (msg : PtpMsg).seq)).getD (⟨0, 0, 0, none⟩ : TsqEntry)).pair).getD (pair : TimPair)).t2 - (((((s.tim.tsq.find? fun y => y.dom == 0 && y.seq == (msg : PtpMsg).seq)).getD (⟨0, 0, 0, none⟩ : TsqEntry)).pair).getD (pair : TimPair)).t1) + ((((msg : PtpMsg).sec * 1000000000 + (msg : PtpMsg).ns : Nat) * 65536 : Int) - (((s.tim.tsq.find? fun y => y.dom == 0 && y.seq == (msg : PtpMsg).seq)).getD (⟨0, 0, 0, none⟩ : TsqEntry)).t3) - ((((((s.tim.tsq.find? fun y => y.dom == 0 && y.seq == (msg : PtpMsg).seq)).getD (⟨0, 0, 0, none⟩ : TsqEntry)).pair).getD (pair : TimPair)).cs + rnd (msg : PtpMsg).corr 65536) * 65536) 131072 : Int) - (s.dom 0).mpd).natAbs ∧
      8 ≤ ((if (s.dom 0).pathN ≠ 0 ∧ decide ((s.dom 0).mpd < (rnd (((((((s.tim.tsq.find? fun y => y.dom == 0 && y.seq == (msg : PtpMsg).seq)).getD (⟨0, 0, 0, none⟩ : TsqEntry)).pair).getD (pair : TimPair)).t2 - (((((s.tim.tsq.find? fun y => y.dom == 0 && y.seq == (msg : PtpMsg).seq)).getD (⟨0, 0, 0, none⟩ : TsqEntry)).pair).getD (pair : TimPair)).t1) + ((((msg : PtpMsg).sec * 1000000000 + (msg : PtpMsg).ns : Nat) * 65536 : Int) - (((s.tim.tsq.find? fun y => y.dom == 0 && y.seq == (msg : PtpMsg).seq)).getD (⟨0, 0, 0, none⟩ : TsqEntry)).t3) - ((((((s.tim.tsq.find? fun y => y.dom == 0 && y.seq == (msg : PtpMsg).seq)).getD (⟨0, 0, 0, none⟩ : TsqEntry)).pair).getD (pair : TimPair)).cs + rnd (msg : PtpMsg).corr 65536) * 65536) 131072 : Int)) = (s.dom 0).pathUp then (s.dom 0).pathN + 1 else 1) : Nat) ∧
      (s.tim.stepTick ≠ some s.tick ∨ s.tim.sel ≠ 0)) ∧
    (At ({ timePort { state := 2 } rdy with tim := { (timePort { state := 2 } rdy).tim with tsq := List.replicate 16 ⟨1, 5, 0, none⟩ } }) fun s => s.boot.held = false ∧
      s.inv = true ∧ s.tim.doms.rising = true ∧ 2 ≤ (s.dom 0).state ∧ s.tim.run = true ∧ s.tim.link = true ∧ 16 ≤ s.tim.tsq.length) ∧
    (At ((timePort { state := 5 } rdy).turn (.pathHoldoffExpiry (0 : Fin 2))) fun s => s.boot.held = false ∧ s.inv = true ∧
      s.tim.doms.rising = true ∧ (s.dom 0).state = 5) ∧
    (At (({ timePort { state := 3 } (rdy.wr Rg.TIM_CTL [] 0x40000000) with tim := { (timePort { state := 3 } rdy).tim with sel := 1, doms := [(0, { state := 3 }), (1, { state := 3 })] } }).turn (.announceTimeout (1 : Fin 2))) fun s => s.boot.held = false ∧
      s.inv = true ∧ s.tim.doms.rising = true ∧ (s.dom 1).state ≠ 0 ∧ s.tim.state = 1 ∧ s.tim.sel = 1 ∧ s.consistent (1 - 1) = true) ∧
    (At (({ timePort { state := 3 } (rdy.wr Rg.TIM_CTL [] 0x40000000) with tim := { (timePort { state := 3 } rdy).tim with sel := 1, doms := [(0, { state := 3 }), (1, { state := 3 })] } }).turn (.syncPairTimeout (1 : Fin 2))) fun s => s.boot.held = false ∧
      s.inv = true ∧ s.tim.doms.rising = true ∧ (s.dom 1).state ≠ 0 ∧ s.tim.state = 1 ∧ s.tim.sel = 1 ∧ s.consistent (1 - 1) = true) ∧
    (At (({ timePort { state := 3 } (rdy.wr Rg.TIM_CTL [] 0x40000000) with tim := { (timePort { state := 3 } rdy).tim with sel := 1, doms := [(0, { state := 3 }), (1, { state := 3 })] } }).turn .revertTimer) fun s => s.boot.held = false ∧
      s.inv = true ∧ s.tim.doms.rising = true ∧ s.tim.state = 1 ∧ bit (s.rd Rg.TIM_CTL) 30 = true ∧ s.tim.sel ≠ s.primaryDom ∧
      s.consistent s.primaryDom = true) ∧
    (At (({ timePort { state := 3, master := some 0x777000001, mpd := 5000000149 } rdy with tim := { (timePort { state := 3, master := some 0x777000001, mpd := 5000000149 } rdy).tim with tsq := [⟨0, 5, 65536, some pair⟩] } }).turn (.delayRespReceive (0 : Fin 2) (msg : PtpMsg))) fun s => s.boot.held = false ∧
      s.inv = true ∧ s.tim.doms.rising = true ∧ s.tim.run = true ∧ s.tim.link = true ∧ s.absent 15 = false ∧ (msg : PtpMsg).version = 2 ∧
      (msg : PtpMsg).minor ≤ 1 ∧ s.msgDomain? 0 (msg : PtpMsg) = some 0 ∧ (msg : PtpMsg).requesting = s.ownPort ∧
      (s.dom 0).master = some (msg : PtpMsg).source ∧ ((s.tim.tsq.find? fun y => y.dom == 0 && y.seq == (msg : PtpMsg).seq)).isSome = true ∧
      ((((s.tim.tsq.find? fun y => y.dom == 0 && y.seq == (msg : PtpMsg).seq)).getD (⟨0, 0, 0, none⟩ : TsqEntry)).pair).isSome = true ∧
      (s.dom 0).state = 3) ∧
    (At (({ timePort { state := 3, master := some 0x777000001, mpd := 5000000149 } rdy with tim := { (timePort { state := 3, master := some 0x777000001, mpd := 5000000149 } rdy).tim with tsq := [⟨0, 5, 65536, some pair⟩] } }).turn (.delayRespReceive (0 : Fin 2) (msg : PtpMsg))) fun s => ((rnd (((((((s.tim.tsq.find? fun y => y.dom == 0 && y.seq == (msg : PtpMsg).seq)).getD (⟨0, 0, 0, none⟩ : TsqEntry)).pair).getD (pair : TimPair)).t2 - (((((s.tim.tsq.find? fun y => y.dom == 0 && y.seq == (msg : PtpMsg).seq)).getD (⟨0, 0, 0, none⟩ : TsqEntry)).pair).getD (pair : TimPair)).t1) + ((((msg : PtpMsg).sec * 1000000000 + (msg : PtpMsg).ns : Nat) * 65536 : Int) - (((s.tim.tsq.find? fun y => y.dom == 0 && y.seq == (msg : PtpMsg).seq)).getD (⟨0, 0, 0, none⟩ : TsqEntry)).t3) - ((((((s.tim.tsq.find? fun y => y.dom == 0 && y.seq == (msg : PtpMsg).seq)).getD (⟨0, 0, 0, none⟩ : TsqEntry)).pair).getD (pair : TimPair)).cs + rnd (msg : PtpMsg).corr 65536) * 65536) 131072 : Int) - (s.dom 0).mpd).natAbs ≤ s.pathThr 0) ∧
    (At ((rdy).turn (.syncReceive (0 : Fin 2) ({ msg with frame := { msg.frame with fcs := false } } : PtpMsg))) fun s => s.boot.held = false ∧
      s.inv = true ∧ s.tim.doms.rising = true ∧ (s.tim.run = false ∨ s.tim.link = false ∨ s.absent 15 = true)) ∧
    (At ((rdy).turn (.followUpReceive (0 : Fin 2) ({ msg with frame := { msg.frame with fcs := false } } : PtpMsg))) fun s => s.boot.held = false ∧
      s.inv = true ∧ s.tim.doms.rising = true ∧ (s.tim.run = false ∨ s.tim.link = false ∨ s.absent 15 = true)) ∧
    (At ((rdy).turn (.announceReceive (0 : Fin 2) ({ msg with frame := { msg.frame with fcs := false } } : PtpMsg))) fun s => s.boot.held = false ∧
      s.inv = true ∧ s.tim.doms.rising = true ∧ (s.tim.run = false ∨ s.tim.link = false ∨ s.absent 15 = true)) ∧
    (At ((rdy).turn (.delayRespReceive (0 : Fin 2) ({ msg with frame := { msg.frame with fcs := false } } : PtpMsg))) fun s => s.boot.held = false ∧ s.inv = true ∧
      s.tim.doms.rising = true ∧ (s.tim.run = false ∨ s.tim.link = false ∨ s.absent 15 = true)) ∧
    (At (rdy) fun s => s.boot.held = false ∧ s.inv = true ∧ s.tim.doms.rising = true ∧
      (({ msg with frame := { msg.frame with fcs := false } } : PtpMsg).frame.fcs = false ∨ ({ msg with frame := { msg.frame with fcs := false } } : PtpMsg).frame.tags ≠ s.tim.vlan.toList ∨ (({ msg with frame := { msg.frame with fcs := false } } : PtpMsg).frame.etype ≠ 0x88F7 ∧
      ({ msg with frame := { msg.frame with fcs := false } } : PtpMsg).frame.etype ≠ 0x0800 ∧
      ({ msg with frame := { msg.frame with fcs := false } } : PtpMsg).frame.etype ≠ 0x86DD) ∨ (({ msg with frame := { msg.frame with fcs := false } } : PtpMsg).frame.etype = 0x88F7 ∧
      ({ msg with frame := { msg.frame with fcs := false } } : PtpMsg).frame.dest ≠ 0x011B19000000 ∧
      ({ msg with frame := { msg.frame with fcs := false } } : PtpMsg).frame.dest ≠ s.macAddr) ∨ (({ msg with frame := { msg.frame with fcs := false } } : PtpMsg).frame.etype = 0x0800 ∧
      ((({ msg with frame := { msg.frame with fcs := false } } : PtpMsg).frame.ipDest ≠ 0xE0000181 ∧
      ({ msg with frame := { msg.frame with fcs := false } } : PtpMsg).frame.ipDest ≠ (s.rd Rg.TIM_IPV4).toNat) ∨ ({ msg with frame := { msg.frame with fcs := false } } : PtpMsg).frame.ihl ≠ 5 ∨ ({ msg with frame := { msg.frame with fcs := false } } : PtpMsg).frame.frag = true ∨ (({ msg with frame := { msg.frame with fcs := false } } : PtpMsg).frame.port ≠ 319 ∧
      ({ msg with frame := { msg.frame with fcs := false } } : PtpMsg).frame.port ≠ 320))) ∨ (({ msg with frame := { msg.frame with fcs := false } } : PtpMsg).frame.etype = 0x86DD ∧
      ((({ msg with frame := { msg.frame with fcs := false } } : PtpMsg).frame.ipDest ≠ ptpLocal ∧
      ({ msg with frame := { msg.frame with fcs := false } } : PtpMsg).frame.ipDest ≠ ptpGlobal ∧
      ({ msg with frame := { msg.frame with fcs := false } } : PtpMsg).frame.ipDest ≠ s.ipv6Addr) ∨ ({ msg with frame := { msg.frame with fcs := false } } : PtpMsg).frame.ext = true ∨ (({ msg with frame := { msg.frame with fcs := false } } : PtpMsg).frame.port ≠ 319 ∧
      ({ msg with frame := { msg.frame with fcs := false } } : PtpMsg).frame.port ≠ 320)))) ∧
      ((s.dom 0).state < 2 ∨ s.tim.run = false ∨ s.tim.link = false)) ∧
    (At ((rdy).turn (.announceTimeout (0 : Fin 2))) fun s => s.boot.held = false ∧ s.inv = true ∧ s.tim.doms.rising = true ∧ (s.dom 0).state = 0) ∧
    (At ((rdy).turn (.syncPairTimeout (0 : Fin 2))) fun s => s.boot.held = false ∧ s.inv = true ∧ s.tim.doms.rising = true ∧ (s.dom 0).state = 0) ∧
    (At ((timePort { state := 3, master := some 0x777000001, syncs := [kept], pathN := 2 } rdy).turn (.followUpReceive (0 : Fin 2) (msg : PtpMsg))) fun s => s.boot.held = false ∧
      s.inv = true ∧ s.tim.doms.rising = true ∧ s.tim.run = true ∧ s.tim.link = true ∧ s.absent 15 = false ∧ (msg : PtpMsg).version = 2 ∧
      (msg : PtpMsg).minor ≤ 1 ∧ s.msgDomain? 0 (msg : PtpMsg) = some 0 ∧ (s.dom 0).master = some (msg : PtpMsg).source ∧
      (((s.dom 0).syncs.find? fun y => y.seq == (msg : PtpMsg).seq && decide (s.now ≤ y.at' + 1280000000))).isSome = true ∧ s.tim.armed = false ∧
      (s.dom 0).state = 3 ∧ (rnd (({ t1 := ((msg : PtpMsg).sec * 1000000000 + (msg : PtpMsg).ns : Nat) * 65536, t2 := ((((s.dom 0).syncs.find? fun y => y.seq == (msg : PtpMsg).seq && decide (s.now ≤ y.at' + 1280000000))).getD (kept : SyncWait)).t2, cs := rnd (((((s.dom 0).syncs.find? fun y => y.seq == (msg : PtpMsg).seq && decide (s.now ≤ y.at' + 1280000000))).getD (kept : SyncWait)).corr + (msg : PtpMsg).corr) 65536 } : TimPair).t2 - ({ t1 := ((msg : PtpMsg).sec * 1000000000 + (msg : PtpMsg).ns : Nat) * 65536, t2 := ((((s.dom 0).syncs.find? fun y => y.seq == (msg : PtpMsg).seq && decide (s.now ≤ y.at' + 1280000000))).getD (kept : SyncWait)).t2, cs := rnd (((((s.dom 0).syncs.find? fun y => y.seq == (msg : PtpMsg).seq && decide (s.now ≤ y.at' + 1280000000))).getD (kept : SyncWait)).corr + (msg : PtpMsg).corr) 65536 } : TimPair).t1) 65536 - ({ t1 := ((msg : PtpMsg).sec * 1000000000 + (msg : PtpMsg).ns : Nat) * 65536, t2 := ((((s.dom 0).syncs.find? fun y => y.seq == (msg : PtpMsg).seq && decide (s.now ≤ y.at' + 1280000000))).getD (kept : SyncWait)).t2, cs := rnd (((((s.dom 0).syncs.find? fun y => y.seq == (msg : PtpMsg).seq && decide (s.now ≤ y.at' + 1280000000))).getD (kept : SyncWait)).corr + (msg : PtpMsg).corr) 65536 } : TimPair).cs - (s.dom 0).mpd - s.timAsym 0 : Int).natAbs ≤ s.stepThr) ∧
    (At ((timePort { state := 3, master := some 0x777000001, syncs := [kept], pathN := 2 } rdy).turn (.followUpReceive (0 : Fin 2) (msg : PtpMsg))) fun s => (s.dom 0).pathN ≠ 0 ∧
      s.tim.state = 1 ∧ s.tim.sel = 0) ∧
    (At (({ timePort { state := 3, master := some 0x777000001, mpd := 2 ^ 60, pathN := 7 } rdy with tim := { (timePort { state := 3, master := some 0x777000001, mpd := 2 ^ 60, pathN := 7 } rdy).tim with tsq := [⟨0, 5, 65536, some pair⟩], stepTick := some (timePort { state := 3, master := some 0x777000001, mpd := 2 ^ 60, pathN := 7 } rdy).tick } }).turn (.delayRespReceive (0 : Fin 2) (msg : PtpMsg))) fun s => s.boot.held = false ∧
      s.inv = true ∧ s.tim.doms.rising = true ∧ s.tim.run = true ∧ s.tim.link = true ∧ s.absent 15 = false ∧ (msg : PtpMsg).version = 2 ∧
      (msg : PtpMsg).minor ≤ 1 ∧ s.msgDomain? 0 (msg : PtpMsg) = some 0 ∧ (msg : PtpMsg).requesting = s.ownPort ∧
      (s.dom 0).master = some (msg : PtpMsg).source ∧ ((s.tim.tsq.find? fun y => y.dom == 0 && y.seq == (msg : PtpMsg).seq)).isSome = true ∧
      ((((s.tim.tsq.find? fun y => y.dom == 0 && y.seq == (msg : PtpMsg).seq)).getD (⟨0, 0, 0, none⟩ : TsqEntry)).pair).isSome = true ∧
      (s.dom 0).state = 3) ∧
    (At (({ timePort { state := 3, master := some 0x777000001, mpd := 2 ^ 60, pathN := 7 } rdy with tim := { (timePort { state := 3, master := some 0x777000001, mpd := 2 ^ 60, pathN := 7 } rdy).tim with tsq := [⟨0, 5, 65536, some pair⟩], stepTick := some (timePort { state := 3, master := some 0x777000001, mpd := 2 ^ 60, pathN := 7 } rdy).tick } }).turn (.delayRespReceive (0 : Fin 2) (msg : PtpMsg))) fun s => s.pathThr 0 < ((rnd (((((((s.tim.tsq.find? fun y => y.dom == 0 && y.seq == (msg : PtpMsg).seq)).getD (⟨0, 0, 0, none⟩ : TsqEntry)).pair).getD (pair : TimPair)).t2 - (((((s.tim.tsq.find? fun y => y.dom == 0 && y.seq == (msg : PtpMsg).seq)).getD (⟨0, 0, 0, none⟩ : TsqEntry)).pair).getD (pair : TimPair)).t1) + ((((msg : PtpMsg).sec * 1000000000 + (msg : PtpMsg).ns : Nat) * 65536 : Int) - (((s.tim.tsq.find? fun y => y.dom == 0 && y.seq == (msg : PtpMsg).seq)).getD (⟨0, 0, 0, none⟩ : TsqEntry)).t3) - ((((((s.tim.tsq.find? fun y => y.dom == 0 && y.seq == (msg : PtpMsg).seq)).getD (⟨0, 0, 0, none⟩ : TsqEntry)).pair).getD (pair : TimPair)).cs + rnd (msg : PtpMsg).corr 65536) * 65536) 131072 : Int) - (s.dom 0).mpd).natAbs ∧
      8 ≤ ((if (s.dom 0).pathN ≠ 0 ∧ decide ((s.dom 0).mpd < (rnd (((((((s.tim.tsq.find? fun y => y.dom == 0 && y.seq == (msg : PtpMsg).seq)).getD (⟨0, 0, 0, none⟩ : TsqEntry)).pair).getD (pair : TimPair)).t2 - (((((s.tim.tsq.find? fun y => y.dom == 0 && y.seq == (msg : PtpMsg).seq)).getD (⟨0, 0, 0, none⟩ : TsqEntry)).pair).getD (pair : TimPair)).t1) + ((((msg : PtpMsg).sec * 1000000000 + (msg : PtpMsg).ns : Nat) * 65536 : Int) - (((s.tim.tsq.find? fun y => y.dom == 0 && y.seq == (msg : PtpMsg).seq)).getD (⟨0, 0, 0, none⟩ : TsqEntry)).t3) - ((((((s.tim.tsq.find? fun y => y.dom == 0 && y.seq == (msg : PtpMsg).seq)).getD (⟨0, 0, 0, none⟩ : TsqEntry)).pair).getD (pair : TimPair)).cs + rnd (msg : PtpMsg).corr 65536) * 65536) 131072 : Int)) = (s.dom 0).pathUp then (s.dom 0).pathN + 1 else 1) : Nat) ∧
      s.tim.stepTick = some s.tick ∧ s.tim.sel = 0)
    := by and_intros <;> decide +kernel

theorem witness_NetworkTimePorts :
    (At ((rdy).turn (.ethLinkChange (true : Bool) (true : Bool))) fun s => s.inv = true ∧ s.tim.doms.rising = true ∧ s.tim.outs.rising = true ∧
      (Instr.ethLinkChange (true : Bool) (true : Bool)) ≠ Instr.timPortEnable (fw : Source) (0 : Word)) ∧
    (At ((rdy).turn (.stepArm fw)) fun s => s.inv = true ∧ s.tim.doms.rising = true ∧ s.tim.outs.rising = true ∧
      (Instr.stepArm (fw : Source)) ≠ Instr.timPortEnable (fw : Source) (0 : Word) ∧ s.takes (fw : Source) Rg.TIM_STEP_PERMIT.at = true) ∧
    (At ((rdy).turn (.stepDisarm fw)) fun s => s.inv = true ∧ s.tim.doms.rising = true ∧ s.tim.outs.rising = true ∧
      (Instr.stepDisarm (fw : Source)) ≠ Instr.timPortEnable (fw : Source) (0 : Word) ∧ s.takes (fw : Source) Rg.TIM_STEP_PERMIT.at = true) ∧
    (At ((rdy).turn (.domainEnable fw (0 : Fin 2) (0 : Word))) fun s => s.inv = true ∧ s.tim.doms.rising = true ∧ s.tim.outs.rising = true ∧
      (Instr.domainEnable (fw : Source) (0 : Fin 2) (0 : Word)) ≠ Instr.timPortEnable (fw : Source) (0 : Word) ∧
      s.takes (fw : Source) (Rg.TIM_D_CTL.at [0]) = true ∧ (s.dom 0).state = 0) ∧
    (At ((rdy).turn (.domainDisable fw (0 : Fin 2) (0 : Word))) fun s => s.inv = true ∧ s.tim.doms.rising = true ∧ s.tim.outs.rising = true ∧
      (Instr.domainDisable (fw : Source) (0 : Fin 2) (0 : Word)) ≠ Instr.timPortEnable (fw : Source) (0 : Word) ∧
      s.takes (fw : Source) (Rg.TIM_D_CTL.at [0]) = true ∧ (s.dom 0).state = 0) ∧
    (At ((rdy).turn (.pulseOutputEnable fw (3 : Fin 8) (0 : Word))) fun s => s.inv = true ∧ s.tim.doms.rising = true ∧ s.tim.outs.rising = true ∧
      (Instr.pulseOutputEnable (fw : Source) (3 : Fin 8) (0 : Word)) ≠ Instr.timPortEnable (fw : Source) (0 : Word) ∧
      s.takes (fw : Source) (Rg.TIM_P_CTL.at [3]) = true ∧ (s.out 3).on = false ∧
      s.clkTick ≤ (((clkSec s.clkTick / 2 ^ 32 * 2 ^ 32 + (s.rd Rg.TIM_P_SEC [3]).toNat) * secUnit + s.fd Rg.TIM_P_NS [3] 29 0 * 2 ^ 32 : Nat) : Int)) ∧
    (At ((rdy).turn (.pulseOutputFire (3 : Fin 8))) fun s => s.inv = true ∧ s.tim.doms.rising = true ∧ s.tim.outs.rising = true ∧
      (Instr.pulseOutputFire (3 : Fin 8)) ≠ Instr.timPortEnable (fw : Source) (0 : Word) ∧ s.boot.held = false ∧
      ((s.out 3).on = false ∨ (s.out 3).next = none ∨ (∃ g, (s.out 3).next = some g ∧ s.clkTick < g))) ∧
    (At ((rdy).turn (.pulseWidthEnd (3 : Fin 8))) fun s => s.inv = true ∧ s.tim.doms.rising = true ∧ s.tim.outs.rising = true ∧
      (Instr.pulseWidthEnd (3 : Fin 8)) ≠ Instr.timPortEnable (fw : Source) (0 : Word) ∧ s.boot.held = false) ∧
    (At ((rdy).turn (.timPortEnable fw (0 : Word))) fun s => s.inv = true ∧ s.tim.doms.rising = true ∧ s.tim.outs.rising = true ∧
      s.takes (fw : Source) Rg.TIM_CTL.at = true ∧ s.tim.run = false) ∧
    (At (rdy) fun s => s.inv = true ∧ s.tim.doms.rising = true ∧ s.tim.outs.rising = true ∧ s.boot.held = false ∧ s.tim.run = false) ∧
    (At (timePort {} rdy) fun s => s.inv = true ∧ s.tim.doms.rising = true ∧ s.tim.outs.rising = true ∧ s.boot.held = false ∧ s.tim.run = true ∧
      (true : Bool) = true ∧ (false : Bool) = false ∧ s.tim.eth = 0) ∧
    (At ((timePort {} rdy).turn (.pulseOutputEnable fw (3 : Fin 8) (0 : Word))) fun s => s.inv = true ∧ s.tim.doms.rising = true ∧
      s.tim.outs.rising = true ∧ s.takes (fw : Source) (Rg.TIM_P_CTL.at [3]) = true ∧ (s.out 3).on = false ∧
      (((clkSec s.clkTick / 2 ^ 32 * 2 ^ 32 + (s.rd Rg.TIM_P_SEC [3]).toNat) * secUnit + s.fd Rg.TIM_P_NS [3] 29 0 * 2 ^ 32 : Nat) : Int) < s.clkTick ∧
      ((if (s.rd Rg.TIM_P_PERIOD [3]).toNat = 0 then 0 else max 100 (s.rd Rg.TIM_P_PERIOD [3]).toNat) : Nat) = 0) ∧
    (At (({ timePort { state := 3 } (rdy) with tim := { (timePort { state := 3 } rdy).tim with outs := [(3, { on := true, next := some 5 })] } }).turn (.timPortEnable fw (0 : Word))) fun s => s.inv = true ∧
      s.tim.doms.rising = true ∧ s.tim.outs.rising = true ∧ s.takes (fw : Source) Rg.TIM_CTL.at = true ∧ s.tim.run = true) ∧
    (At ({ timePort { state := 3 } (rdy) with tim := { (timePort { state := 3 } rdy).tim with outs := [(3, { on := true, next := some 5 })] } }) fun s => s.inv = true ∧
      s.tim.doms.rising = true ∧ s.tim.outs.rising = true ∧ s.boot.held = false ∧ s.tim.run = true ∧
      ((true : Bool) = false ∨ (true : Bool) = true ∨ s.tim.eth ≠ 0)) ∧
    (At (({ timePort { state := 3 } (rdy) with tim := { (timePort { state := 3 } rdy).tim with outs := [(3, { on := true, next := some 5 })] } }).turn (.domainEnable fw (0 : Fin 2) (0 : Word))) fun s => s.inv = true ∧
      s.tim.doms.rising = true ∧ s.tim.outs.rising = true ∧ s.takes (fw : Source) (Rg.TIM_D_CTL.at [0]) = true ∧ (s.dom 0).state ≠ 0) ∧
    (At (({ timePort { state := 3 } (rdy) with tim := { (timePort { state := 3 } rdy).tim with outs := [(3, { on := true, next := some 5 })] } }).turn (.domainDisable fw (0 : Fin 2) (0 : Word))) fun s => s.inv = true ∧
      s.tim.doms.rising = true ∧ s.tim.outs.rising = true ∧ s.takes (fw : Source) (Rg.TIM_D_CTL.at [0]) = true ∧ (s.dom 0).state ≠ 0 ∧
      s.tim.state = 1 ∧ s.tim.sel = 0 ∧ s.consistent (1 - 0) = false) ∧
    (At (({ timePort { state := 3 } (rdy) with tim := { (timePort { state := 3 } rdy).tim with outs := [(3, { on := true, next := some 5 })] } }).turn (.pulseOutputEnable fw (3 : Fin 8) (0 : Word))) fun s => s.inv = true ∧
      s.tim.doms.rising = true ∧ s.tim.outs.rising = true ∧ s.takes (fw : Source) (Rg.TIM_P_CTL.at [3]) = true ∧ (s.out 3).on = true) ∧
    (At (({ timePort { state := 3 } (rdy) with tim := { (timePort { state := 3 } rdy).tim with outs := [(3, { on := true, next := some 5 })] } }).turn (.pulseOutputFire (3 : Fin 8))) fun s => s.inv = true ∧
      s.tim.doms.rising = true ∧ s.tim.outs.rising = true ∧ s.boot.held = false ∧ (s.out 3).on = true ∧ ((s.out 3).next).isSome = true ∧
      (((s.out 3).next).getD (0 : Int)) ≤ s.clkTick) ∧
    (At (({ timePort { state := 3 } (rdy.wr Rg.TIM_P_PERIOD [3] 2000) with tim := { (timePort { state := 3 } rdy).tim with outs := [(3, {  })] } }).turn (.pulseOutputEnable fw (3 : Fin 8) (0 : Word))) fun s => s.inv = true ∧
      s.tim.doms.rising = true ∧ s.tim.outs.rising = true ∧ s.takes (fw : Source) (Rg.TIM_P_CTL.at [3]) = true ∧ (s.out 3).on = false ∧
      (((clkSec s.clkTick / 2 ^ 32 * 2 ^ 32 + (s.rd Rg.TIM_P_SEC [3]).toNat) * secUnit + s.fd Rg.TIM_P_NS [3] 29 0 * 2 ^ 32 : Nat) : Int) < s.clkTick ∧
      ((if (s.rd Rg.TIM_P_PERIOD [3]).toNat = 0 then 0 else max 100 (s.rd Rg.TIM_P_PERIOD [3]).toNat) : Nat) ≠ 0)
    := by and_intros <;> decide +kernel

theorem witness_TrimCalibration :
    (At ((setCalGroup 0 { state := 0 } rdy).turn (.calGo fw (0 : Fin 12))) fun s => s.inv = true ∧
      s.takes (fw : Source) (Rg.CAL_G_CMD.at [0]) = true ∧ (s.calGroup 0).state = 0) ∧
    (At ((setCalGroup 0 { state := 0 } rdy).turn (.calTempRead (0 : Fin 12))) fun s => s.inv = true) ∧
    (At ((setCalGroup 0 { state := 0 } rdy).turn (.calPeriodExpiry (0 : Fin 12))) fun s => s.inv = true) ∧
    (At ((setCalGroup 0 { state := 0 } rdy).turn (.calApplyTimeout (0 : Fin 12))) fun s => s.inv = true) ∧
    (At ((setCalGroup 0 { state := 0 } rdy).turn (.dynTrimWrite fw (0 : Fin 96) (0 : Word))) fun s => s.inv = true ∧
      s.takes (fw : Source) (Rg.CAL_L_DYN.at [0]) = true ∧ (s.boot.stage = 4 ∨ s.boot.stage = 5 ∨ s.boot.stage = 7) ∧ s.assigned 0 = true ∧
      (5, sext 6 (fld (0 : Word) 13 8)) ∈ ([(5, sext 6 (fld (0 : Word) 13 8)), (6, sext 5 (fld (0 : Word) 20 16)), (7, sext 5 (fld (0 : Word) 28 24))]) ∧
      (if 5 = 5 then (s.lane 0).eyeBusy else carriesFor (s.lane 0) 5) = false ∧
      (6, sext 5 (fld (0 : Word) 20 16)) ∈ ([(5, sext 6 (fld (0 : Word) 13 8)), (6, sext 5 (fld (0 : Word) 20 16)), (7, sext 5 (fld (0 : Word) 28 24))]) ∧
      (if 6 = 5 then (s.lane 0).eyeBusy else carriesFor (s.lane 0) 6) = true) ∧
    (At ((setCalGroup 0 { state := 0 } rdy).turn (.calStop fw (0 : Fin 12))) fun s => s.inv = true ∧
      s.takes (fw : Source) (Rg.CAL_G_CMD.at [0]) = true ∧ (s.calGroup 0).state < 2) ∧
    (At (setCalGroup 0 { state := 0 } rdy) fun s => s.inv = true ∧ s.boot.held = false ∧
      (s.fd Rg.CAL_CTL [] 31 16 = 0 ∨ (s.calGroup 0).state = 0) ∧
      ((s.calGroup 0).calTemp = none ∨ bit (s.rd Rg.CAL_CTL) 1 = false ∨ ((s.calGroup 0).calTemp = some (0 : Int) ∧
      ((countedTemp s.tHot (s.thermal.temps.getD 0 (0, true)) : Int) - (0 : Int)).natAbs < max 1 (s.fd Rg.CAL_CTL [] 15 8))) ∧
      (s.calGroup 0).state ≠ 3) ∧
    (At ((setCalGroup 0 { state := 0 } rdy).turn (.calSubwindowEnd (0 : Fin 96) (⟨5000, false⟩ : SubWindow))) fun s => s.inv = true ∧
      s.boot.held = false ∧ ((s.calLane 0).taking = false ∨ (s.calGroup (0 / 8)).state ≠ 2 ∨ 3 ≤ (s.calLane 0).runNow.length)) ∧
    (At ((setCalGroup 0 { state := 0 } rdy).turn (.calTrimApply (0 : Fin 24))) fun s => s.inv = true ∧ s.boot.held = false ∧
      (s.cfg.port? 0).isSome = true) ∧
    (At ((setCalGroup 0 { state := 0 } rdy).turn (.trimRampStep (0 : Fin 96) (0 : Fin 8))) fun s => s.inv = true ∧ s.boot.held = false ∧
      (s.calLane 0).ramping.contains 0 = false) ∧
    (At ((setCalGroup 0 { state := 0 } rdy).turn (.staticTrimWrite fw (0 : Fin 96) (0 : Word))) fun s => s.inv = true ∧
      s.takes (fw : Source) (Rg.CAL_L_STATIC.at [0]) = true ∧ (s.boot.stage = 4 ∨ s.boot.stage = 5 ∨ s.boot.stage = 7) ∧ s.assigned 0 = true ∧
      (1, (fld (0 : Word) 4 0 : Int)) ∈ ([(1, (fld (0 : Word) 4 0 : Int)), (2, (fld (0 : Word) 12 8 : Int)), (3, sext 5 (fld (0 : Word) 20 16))]) ∧
      (if 1 = 5 then (s.lane 0).eyeBusy else carriesFor (s.lane 0) 1) = true) ∧
    (At ((setCalGroup 0 { state := 3, calTemp := some 100 } rdy).turn (.calGo fw (0 : Fin 12))) fun s => s.inv = true ∧
      ((s.takes (fw : Source) (Rg.CAL_G_CMD.at [0]) = true) ∨ (s.boot.held = false ∧ s.fd Rg.CAL_CTL [] 31 16 ≠ 0)) ∧
      ((s.calGroup 0).state = 2 ∨ (s.calGroup 0).state = 3)) ∧
    (At ((setCalGroup 0 { state := 3, calTemp := some 100 } rdy).turn (.calStop fw (0 : Fin 12))) fun s => s.inv = true ∧
      s.takes (fw : Source) (Rg.CAL_G_CMD.at [0]) = true ∧ ((s.calGroup 0).state = 2 ∨ (s.calGroup 0).state = 3) ∧ 0 ∈ s.groupLanes 0) ∧
    (At (setCalGroup 0 { state := 3, calTemp := some 100 } rdy) fun s => s.inv = true ∧ s.boot.held = false ∧
      ((s.calGroup 0).calTemp).isSome = true ∧ bit (s.rd Rg.CAL_CTL) 1 = true ∧
      max 1 (s.fd Rg.CAL_CTL [] 15 8) ≤ ((countedTemp s.tHot (s.thermal.temps.getD 0 (0, true)) : Int) - (((s.calGroup 0).calTemp).getD (0 : Int))).natAbs ∧
      ((s.calGroup 0).state = 2 ∨ (s.calGroup 0).state = 3) ∧ (s.calGroup 0).state = 3 ∧ (s.calGroup 0).pending = false) ∧
    (At ((setCalGroup 0 { state := 1, calTemp := some 400 } (setLane 0 { state := 5, eyeBusy := true } (rdy.wr Rg.CAL_CTL [] 0x50202))).turn (.calGo fw (0 : Fin 12))) fun s => s.inv = true ∧
      ((s.takes (fw : Source) (Rg.CAL_G_CMD.at [0]) = true) ∨ (s.boot.held = false ∧ s.fd Rg.CAL_CTL [] 31 16 ≠ 0)) ∧ (s.calGroup 0).state = 1 ∧
      (∃ kk, kk ∈ s.groupLanes 0 ∧ (s.lane kk).state = 5 ∧ (s.lane kk).eyeBusy = false) ∧ 0 ∈ s.groupLanes 0 ∧ (s.lane 0).state = 5 ∧
      (s.lane 0).eyeBusy = true) ∧
    (At (setCalGroup 0 { state := 1, calTemp := some 400 } (setLane 0 { state := 5, eyeBusy := true } (rdy.wr Rg.CAL_CTL [] 0x50202))) fun s => s.inv = true ∧
      s.boot.held = false ∧ ((s.calGroup 0).calTemp).isSome = true ∧ bit (s.rd Rg.CAL_CTL) 1 = true ∧
      max 1 (s.fd Rg.CAL_CTL [] 15 8) ≤ ((countedTemp s.tHot (s.thermal.temps.getD 0 (0, true)) : Int) - (((s.calGroup 0).calTemp).getD (0 : Int))).natAbs ∧
      (s.calGroup 0).state = 1 ∧ (∃ kk, kk ∈ s.groupLanes 0 ∧ (s.lane kk).state = 5 ∧ (s.lane kk).eyeBusy = false)) ∧
    (At ((setCalGroup 0 { state := 1 } (setLane 0 { state := 4 } (setLane 1 { state := 4 } (setLane 2 { state := 4 } (setLane 3 { state := 4 } (rdy.wr Rg.CAL_CTL [] 0x50202)))))).turn (.calGo fw (0 : Fin 12))) fun s => s.inv = true ∧
      ((s.takes (fw : Source) (Rg.CAL_G_CMD.at [0]) = true) ∨ (s.boot.held = false ∧ s.fd Rg.CAL_CTL [] 31 16 ≠ 0)) ∧ (s.calGroup 0).state = 1 ∧
      (∀ kk, kk ∈ s.groupLanes 0 → (s.lane kk).state ≠ 5)) ∧
    (At ((setCalGroup 0 { state := 1 } (setLane 0 { state := 4 } (setLane 1 { state := 4 } (setLane 2 { state := 4 } (setLane 3 { state := 4 } (rdy.wr Rg.CAL_CTL [] 0x50202)))))).turn (.staticTrimWrite fw (0 : Fin 96) (0 : Word))) fun s => s.inv = true ∧
      s.takes (fw : Source) (Rg.CAL_L_STATIC.at [0]) = true ∧ (s.boot.stage = 4 ∨ s.boot.stage = 5 ∨ s.boot.stage = 7) ∧ s.assigned 0 = true ∧
      (1, (fld (0 : Word) 4 0 : Int)) ∈ ([(1, (fld (0 : Word) 4 0 : Int)), (2, (fld (0 : Word) 12 8 : Int)), (3, sext 5 (fld (0 : Word) 20 16))]) ∧
      (if 1 = 5 then (s.lane 0).eyeBusy else carriesFor (s.lane 0) 1) = false) ∧
    (At ((setCalLane 0 { taking := true, runNow := [], runA := [] } (setCalGroup 0 { state := 2 } rdy)).turn (.calSubwindowEnd (0 : Fin 96) (⟨5000, false⟩ : SubWindow))) fun s => s.inv = true ∧
      s.boot.held = false ∧ (s.calLane 0).taking = true ∧ (s.calGroup (0 / 8)).state = 2 ∧ (s.calLane 0).runNow.length < 3 ∧ s.assigned 0 = true ∧
      (⟨5000, false⟩ : SubWindow).low = false ∧ (s.calLane 0).runNow.length < 2) ∧
    (At ((setCalLane 0 { taking := true, runNow := [], runA := [] } (setCalGroup 0 { state := 2 } rdy)).turn (.calSubwindowEnd (0 : Fin 96) (⟨0, true⟩ : SubWindow))) fun s => s.inv = true ∧
      s.boot.held = false ∧ (s.calLane 0).taking = true ∧ (s.calGroup (0 / 8)).state = 2 ∧ (s.calLane 0).runNow.length < 3 ∧ s.assigned 0 = true ∧
      (⟨0, true⟩ : SubWindow).low = true ∧ (s.calGroup (0 / 8)).pending = false) ∧
    (At ((setCalLane 0 { taking := true, runNow := [1, -1], runA := [1, 0, 1] } (setCalGroup 0 { state := 2 } rdy)).turn (.calSubwindowEnd (0 : Fin 96) (⟨5000, false⟩ : SubWindow))) fun s => s.inv = true ∧
      s.boot.held = false ∧ (s.calLane 0).taking = true ∧ (s.calGroup (0 / 8)).state = 2 ∧ (s.calLane 0).runNow.length < 3 ∧ s.assigned 0 = true ∧
      (⟨5000, false⟩ : SubWindow).low = false ∧ (s.calLane 0).runNow.length = 2 ∧
      (s.groupLanes (0 / 8)).all (fun kk => kk == 0 || !(s.calLane kk).taking) = true ∧ (s.calGroup (0 / 8)).runB = false) ∧
    (At ((setCalLane 0 { taking := true, runNow := [1, -1], runA := [0, 1, 0] } (setCalGroup 0 { state := 2, runB := true } rdy)).turn (.calSubwindowEnd (0 : Fin 96) (⟨5000, false⟩ : SubWindow))) fun s => s.inv = true ∧
      s.boot.held = false ∧ (s.calLane 0).taking = true ∧ (s.calGroup (0 / 8)).state = 2 ∧ (s.calLane 0).runNow.length < 3 ∧ s.assigned 0 = true ∧
      (⟨5000, false⟩ : SubWindow).low = false ∧ (s.calLane 0).runNow.length = 2 ∧
      (s.groupLanes (0 / 8)).all (fun kk => kk == 0 || !(s.calLane kk).taking) = true ∧ (s.calGroup (0 / 8)).runB = true ∧
      (s.calGroup (0 / 8)).pending = false ∧ (∀ b ∈ List.range (3), (s.calLane 0).runA.getD b 0 = 0 ∨ (s.calLane 0).runA.getD b 0 ≠ ((s.calLane 0).runNow ++ [((if max 1 (s.fd Rg.CAL_RUN_CTL [] 15 8) * (64 * 2 ^ s.fd Rg.CAL_RUN_CTL [] 4 0) < (⟨5000, false⟩ : SubWindow).d * 4096 then 1 else if max 1 (s.fd Rg.CAL_RUN_CTL [] 15 8) * (64 * 2 ^ s.fd Rg.CAL_RUN_CTL [] 4 0) < -(⟨5000, false⟩ : SubWindow).d * 4096 then -1 else 0) : Int)]).getD b 0)) ∧
    (At ((setStage 6 rdy).turn (.calTrimApply (23 : Fin 24))) fun s => s.inv = true ∧ s.boot.held = false ∧ s.cfg.port? 23 = none) ∧
    (At ((setStage 6 rdy).turn (.dynTrimWrite fw (0 : Fin 96) (0 : Word))) fun s => s.inv = true ∧
      s.takes (fw : Source) (Rg.CAL_L_DYN.at [0]) = true ∧ s.boot.stage ≠ 4 ∧ s.boot.stage ≠ 5 ∧ s.boot.stage ≠ 7) ∧
    (At ((setStage 6 rdy).turn (.staticTrimWrite fw (0 : Fin 96) (0 : Word))) fun s => s.inv = true ∧
      s.takes (fw : Source) (Rg.CAL_L_STATIC.at [0]) = true ∧ s.boot.stage ≠ 4 ∧ s.boot.stage ≠ 5 ∧ s.boot.stage ≠ 7) ∧
    (At ((rdy).turn (.dynTrimWrite fw (5 : Fin 96) (0 : Word))) fun s => s.inv = true ∧ s.takes (fw : Source) (Rg.CAL_L_DYN.at [5]) = true ∧
      (s.boot.stage = 4 ∨ s.boot.stage = 5 ∨ s.boot.stage = 7) ∧ s.assigned 5 = false) ∧
    (At ((rdy).turn (.staticTrimWrite fw (5 : Fin 96) (0 : Word))) fun s => s.inv = true ∧ s.takes (fw : Source) (Rg.CAL_L_STATIC.at [5]) = true ∧
      (s.boot.stage = 4 ∨ s.boot.stage = 5 ∨ s.boot.stage = 7) ∧ s.assigned 5 = false) ∧
    (At ((setCalLane 0 { ramping := [1, 6] } (setCalGroup 0 { state := 1 } rdy)).turn (.trimRampStep (0 : Fin 96) (1 : Fin 8))) fun s => s.inv = true ∧
      s.boot.held = false ∧ (s.calLane 0).ramping.contains 1 = true) ∧
    (At ((setCalGroup 0 { state := 1 } (setLane 0 { state := 5, eyeBusy := true } (setLane 1 { state := 4 } (setLane 2 { state := 4 } (setLane 3 { state := 5, eyeBusy := true } (rdy.wr Rg.CAL_CTL [] 0x50202)))))).turn (.calGo fw (0 : Fin 12))) fun s => s.inv = true ∧
      ((s.takes (fw : Source) (Rg.CAL_G_CMD.at [0]) = true) ∨ (s.boot.held = false ∧ s.fd Rg.CAL_CTL [] 31 16 ≠ 0)) ∧ (s.calGroup 0).state = 1 ∧
      (s.calGroup 0).pending = false ∧ (∃ kk, kk ∈ s.groupLanes 0 ∧ (s.lane kk).state = 5) ∧
      (∀ kk, kk ∈ s.groupLanes 0 → (s.lane kk).state = 5 → (s.lane kk).eyeBusy = true) ∧ 0 ∈ s.groupLanes 0 ∧ (s.lane 0).state = 5)
    := by and_intros <;> decide +kernel

theorem witness_GrantsAndThermal :
    (At ((held).turn (.thermalSample ([] : List (Int × Bool)))) fun s => s.inv = true ∧ s.thermal.tripped = false ∧
      ((maxTemp s.tHot ((List.range 16).map (fun i => ([] : List (Int × Bool)).getD i (s.thermal.temps.getD i (0, true))) : List (Int × Bool))).1 : Int) < (s.tTrip : Int) ∧
      s.boot.held = true) ∧
    (At ((rdy).turn (.grantDecision)) fun s => s.inv = true) ∧
    (At ((rdy).turn (.standingRampDone)) fun s => s.inv = true) ∧
    (At ((rdy).turn .grantDecision) fun s => s.inv = true ∧ s.boot.held = false ∧ s.pwg.queue = []) ∧
    (At ((rdy).turn (.grantDeadline (0 : Fin 8) (0 : Nat))) fun s => s.inv = true ∧ s.boot.held = false ∧
      (∀ h, h ∈ s.pwg.queue → h.isFor 0 0 = true → s.now < h.at' + h.dlUs * 1280)) ∧
    (At (rdy) fun s => s.inv = true ∧ s.boot.held = false ∧ (s.pwg.ramp = none ∨ (s.pwg.ramp = some (⟨0, 0, 0, 0, 0⟩ : GrantReq) ∧
      s.now < (⟨0, 0, 0, 0, 0⟩ : GrantReq).at' + tGrant (⟨0, 0, 0, 0, 0⟩ : GrantReq).cls))) ∧
    (At ((rdy).turn (.budgetWrite .firmware (true : Bool) (0 : Word))) fun s => s.inv = true ∧
      s.takes .firmware (((if (true : Bool) then Rg.PWG_BASE else Rg.PWG_BUDGET) : Reg).at []) = true ∧
      (s.pwg.queue.map fun h => (h.cls, h.unit)).Nodup) ∧
    (At ((rdy).turn (.thermalSample ([(500, true)] : List (Int × Bool)))) fun s => s.inv = true ∧ s.thermal.tripped = false ∧
      (s.tTrip : Int) ≤ ((maxTemp s.tHot ((List.range 16).map (fun i => ([(500, true)] : List (Int × Bool)).getD i (s.thermal.temps.getD i (0, true))) : List (Int × Bool))).1 : Int)) ∧
    (At ((rdy).turn (.thermalSample ([(100, false)] : List (Int × Bool)))) fun s => s.inv = true ∧ s.thermal.tripped = false ∧
      s.boot.held = false ∧ ((maxTemp s.tHot ((List.range 16).map (fun i => ([(100, false)] : List (Int × Bool)).getD i (s.thermal.temps.getD i (0, true))) : List (Int × Bool))).1 : Int) < (s.tTrip : Int) ∧
      (∃ i ∈ List.range (16), (s.thermal.temps.getD i (0, true)).2 = true ∧
      (((List.range 16).map (fun i => ([(100, false)] : List (Int × Bool)).getD i (s.thermal.temps.getD i (0, true))) : List (Int × Bool)).getD i (0, true)).2 = false)) ∧
    (At (({ rdy with thermal := { tripped := true, tHot := 380, cool := 5 } }).turn (.thermalSample ([] : List (Int × Bool)))) fun s => s.inv = true ∧
      s.thermal.tripped = true) ∧
    (At ((setPwg (fun p => { p with queue := [⟨2, 1, 1000, 10, 0⟩] }) (rdy.wr Rg.PWG_BUDGET [] 0xEA60)).turn .grantDecision) fun s => s.inv = true ∧ s.boot.held = false ∧
      s.pwg.queue = ([] : List GrantReq) ++ (⟨2, 1, 1000, 10, 0⟩ : GrantReq) :: ([] : List GrantReq) ∧
      (∀ h, h ∈ ([] : List GrantReq) → (⟨2, 1, 1000, 10, 0⟩ : GrantReq).cls < h.cls) ∧
      (∀ h, h ∈ ([] : List GrantReq) → (⟨2, 1, 1000, 10, 0⟩ : GrantReq).cls ≤ h.cls) ∧
      ((s.loadT + (⟨2, 1, 1000, 10, 0⟩ : GrantReq).alloc : Nat) : Int) ≤ s.limitE ∧
      (isStanding (⟨2, 1, 1000, 10, 0⟩ : GrantReq).cls = true → ((s.loadS + (⟨2, 1, 1000, 10, 0⟩ : GrantReq).alloc : Nat) : Int) ≤ s.limitE - s.reserveMw ∧
      s.pwg.ramp = none)) ∧
    (At (({ (setPwg (fun p => { p with queue := [⟨4, 0, 5, 10, 0⟩, ⟨2, 1, 1000, 10, 0⟩], ramp := some ⟨4, 3, 5, 5, 0⟩ }) (rdy.wr Rg.PWG_BUDGET [] 0x1388)) with now := 3000000000 }).turn .grantDecision) fun s => s.inv = true ∧
      s.boot.held = false ∧ s.pwg.queue = ([⟨4, 0, 5, 10, 0⟩] : List GrantReq) ++ (⟨2, 1, 1000, 10, 0⟩ : GrantReq) :: ([] : List GrantReq) ∧
      (∀ h, h ∈ ([⟨4, 0, 5, 10, 0⟩] : List GrantReq) → (⟨2, 1, 1000, 10, 0⟩ : GrantReq).cls < h.cls) ∧
      (∀ h, h ∈ ([] : List GrantReq) → (⟨2, 1, 1000, 10, 0⟩ : GrantReq).cls ≤ h.cls) ∧
      (s.limitE < ((s.loadT + (⟨2, 1, 1000, 10, 0⟩ : GrantReq).alloc : Nat) : Int) ∨ (isStanding (⟨2, 1, 1000, 10, 0⟩ : GrantReq).cls = true ∧
      (s.limitE - s.reserveMw < ((s.loadS + (⟨2, 1, 1000, 10, 0⟩ : GrantReq).alloc : Nat) : Int) ∨ s.pwg.ramp.isSome = true)))) ∧
    (At (({ (setPwg (fun p => { p with queue := [⟨4, 0, 5, 10, 0⟩, ⟨2, 1, 1000, 10, 0⟩], ramp := some ⟨4, 3, 5, 5, 0⟩ }) (rdy.wr Rg.PWG_BUDGET [] 0x1388)) with now := 3000000000 }).turn (.grantDeadline (4 : Fin 8) (0 : Nat))) fun s => s.inv = true ∧
      s.boot.held = false ∧ (s.pwg.queue.find? (GrantReq.isFor 4 (0 : Nat))).isSome = true ∧
      ((s.pwg.queue.find? (GrantReq.isFor 4 (0 : Nat))).getD (⟨0, 0, 0, 0, 0⟩ : GrantReq)).at' + ((s.pwg.queue.find? (GrantReq.isFor 4 (0 : Nat))).getD (⟨0, 0, 0, 0, 0⟩ : GrantReq)).dlUs * 1280 ≤ s.now) ∧
    (At ({ (setPwg (fun p => { p with queue := [⟨4, 0, 5, 10, 0⟩, ⟨2, 1, 1000, 10, 0⟩], ramp := some ⟨4, 3, 5, 5, 0⟩ }) (rdy.wr Rg.PWG_BUDGET [] 0x1388)) with now := 3000000000 }) fun s => s.inv = true ∧
      s.boot.held = false ∧ (s.pwg.ramp).isSome = true ∧ ((s.pwg.ramp).getD (⟨0, 0, 0, 0, 0⟩ : GrantReq)).at' + tGrant ((s.pwg.ramp).getD (⟨0, 0, 0, 0, 0⟩ : GrantReq)).cls ≤ s.now)
    := by and_intros <;> decide +kernel

theorem witness_EventRing :
    (At ((collector { fresh := [shown] }).turn .batchAccept) fun s => s.inv = true ∧ s.boot.held = false ∧ s.mgt.waiting = [] ∧
      s.mgt.places.1 ≠ [] ∧ s.now % 2 = 0 ∧ s.recd.state ≠ 5 ∧ (((if s.mgt.waiting = [] ∧
      s.mgt.places.1 ≠ [] then (if s.now % 2 = 0 then tick s else tick (tick s)) else s) : State).mgt.waiting).length = 1 ∧
      ((((if s.mgt.waiting = [] ∧ s.mgt.places.1 ≠ [] then (if s.now % 2 = 0 then tick s else tick (tick s)) else s) : State).mgt.waiting).headD []) ≠ []) ∧
    (At (collector { fresh := [shown] }) fun s => s.inv = true ∧ s.boot.held = false ∧ (s.mgt.writer = [] ∨ s.mgt.ringEn = false)) ∧
    (At ((collector { fresh := [shown] }).turn (.eventRingEnable fw (0x41 : Word))) fun s => s.inv = true ∧
      s.takes (fw : Source) Rg.MGT_EVT_CTL.at = true ∧ s.boot.stage = 5 ∧ s.mgt.ringEn = false ∧
      s.inReserved (s.fd Rg.MGT_EVT_BASE [] 19 0 * 65536) (32 * 2 ^ ((if 4 ≤ fld (0x41 : Word) 7 4 ∧
      fld (0x41 : Word) 7 4 ≤ 12 then fld (0x41 : Word) 7 4 else s.fd Rg.MGT_EVT_CTL [] 7 4) : Nat)) = false) ∧
    (At ((collector { fresh := [shown] }).turn (.eventRingDisable fw (0x41 : Word))) fun s => s.inv = true ∧
      s.takes (fw : Source) Rg.MGT_EVT_CTL.at = true ∧ s.mgt.ringEn = false) ∧
    (At ((collector { fresh := [shown] }).turn (.eventRingConsume fw (0x41 : Word))) fun s => s.inv = true ∧
      s.takes (fw : Source) Rg.MGT_EVT_RD.at = true ∧ (s.mgt.wr + 8192 - s.mgt.rd) % 8192 < (fld (0x41 : Word) 12 0 + 8192 - s.mgt.rd) % 8192) ∧
    (At ((collector { waiting := [[shown]] }).turn .batchAccept) fun s => s.inv = true ∧ s.boot.held = false ∧ s.mgt.waiting ≠ [] ∧
      s.mgt.queue.length + ((s.mgt.waiting).headD []).length + (if s.mgt.dropped = 0 then 0 else 1) ≤ 512 ∧ s.mgt.dropped = 0) ∧
    (At ((collector { waiting := [[shown]], dropped := 5 }).turn .batchAccept) fun s => s.inv = true ∧ s.boot.held = false ∧ s.mgt.waiting ≠ [] ∧
      s.mgt.queue.length + ((s.mgt.waiting).headD []).length + (if s.mgt.dropped = 0 then 0 else 1) ≤ 512 ∧ s.mgt.dropped ≠ 0) ∧
    (At ((collector { waiting := [[shown]], queue := List.replicate 512 evt }).turn .batchAccept) fun s => s.inv = true ∧ s.boot.held = false ∧
      s.mgt.waiting ≠ [] ∧ 512 < s.mgt.queue.length + ((s.mgt.waiting).headD []).length + (if s.mgt.dropped = 0 then 0 else 1)) ∧
    (At ((collector { queue := [evt], ringEn := true, ringSize := 4 }).turn .collectorDrain) fun s => s.inv = true ∧ s.boot.held = false ∧
      s.mgt.queue ≠ [] ∧ s.mgt.ringEn = true ∧ s.mgt.full = false ∧ s.mgt.writer.length < 2 ∧ (∀ n, s.mgt.drained = some n → n + 4 ≤ s.stamp)) ∧
    (At ((collector { ringEn := true, ringSize := 4, writer := [evt], full := true }).turn (.collectorDrain)) fun s => s.inv = true) ∧
    (At ((collector { ringEn := true, ringSize := 4, writer := [evt], full := true }).turn (.ringWrite)) fun s => s.inv = true) ∧
    (At ((collector { ringEn := true, ringSize := 4, writer := [evt], full := true }).turn .batchAccept) fun s => s.inv = true ∧
      s.boot.held = false ∧ ((if s.mgt.waiting = [] ∧ s.mgt.places.1 ≠ [] then (if s.now % 2 = 0 then tick s else tick (tick s)) else s) : State).mgt.waiting = []) ∧
    (At ((collector { ringEn := true, ringSize := 4, writer := [evt], full := true }).turn .collectorDrain) fun s => s.inv = true ∧
      s.boot.held = false ∧ (s.mgt.queue = [] ∨ s.mgt.ringEn = false ∨ s.mgt.full = true ∨ 2 ≤ s.mgt.writer.length ∨ (∃ n, s.mgt.drained = some n ∧
      s.stamp < n + 4))) ∧
    (At (collector { ringEn := true, ringSize := 4, writer := [evt], full := true }) fun s => s.inv = true ∧ s.boot.held = false ∧
      s.mgt.writer ≠ [] ∧ s.mgt.ringEn = true ∧ s.mgt.slotFree = true ∧ s.dmc.formed = true ∧
      (s.mgt.ringPage * 65536 + s.mgt.wr % 2 ^ s.mgt.ringSize * 32 : Nat) + 32 * (((s.mgt.writer).headD evt) :: (if s.mgt.wr % 2 = 0 ∧
      s.mgt.used + 2 ≤ 2 ^ s.mgt.ringSize then ((s.mgt.writer).drop 1).take 1 else []) : List EvRec).length ≤ s.capBytes ∧
      0 < 32 * (((s.mgt.writer).headD evt) :: (if s.mgt.wr % 2 = 0 ∧
      s.mgt.used + 2 ≤ 2 ^ s.mgt.ringSize then ((s.mgt.writer).drop 1).take 1 else []) : List EvRec).length ∧
      (0xFFFFF < (s.mgt.ringPage * 65536 + s.mgt.wr % 2 ^ s.mgt.ringSize * 32 : Nat) ∨ (s.mgt.ringPage * 65536 + s.mgt.wr % 2 ^ s.mgt.ringSize * 32 : Nat) + 32 * (((s.mgt.writer).headD evt) :: (if s.mgt.wr % 2 = 0 ∧
      s.mgt.used + 2 ≤ 2 ^ s.mgt.ringSize then ((s.mgt.writer).drop 1).take 1 else []) : List EvRec).length ≤ 0xFFFFF)) ∧
    (At ((collector { ringEn := true, ringSize := 4, writer := [evt], full := true }).turn (.eventRingEnable fw (0 : Word))) fun s => s.inv = true ∧ s.takes (fw : Source) Rg.MGT_EVT_CTL.at = true ∧
      s.boot.stage = 5 ∧ s.mgt.ringEn = true) ∧
    (At ((collector { ringEn := true, ringSize := 4, writer := [evt], full := true }).turn (.eventRingDisable fw (0 : Word))) fun s => s.inv = true ∧ s.takes (fw : Source) Rg.MGT_EVT_CTL.at = true ∧
      s.mgt.ringEn = true) ∧
    (At ((collector { ringEn := true, ringSize := 4, writer := [evt], full := true }).turn (.eventRingConsume fw (0 : Word))) fun s => s.inv = true ∧ s.takes (fw : Source) Rg.MGT_EVT_RD.at = true ∧
      (fld (0 : Word) 12 0 + 8192 - s.mgt.rd) % 8192 ≤ (s.mgt.wr + 8192 - s.mgt.rd) % 8192) ∧
    (At ((collector { ringEn := true, ringSize := 4, writer := [evt], full := true }).turn (.eventPop fw (0 : Word))) fun s => s.inv = true ∧
      s.takes (fw : Source) Rg.MGT_EVT_POP.at = true) ∧
    (At (collector { ringEn := true, ringSize := 4, ringPage := 16, wr := 16, rd := 0, writer := [evt, evt] }) fun s => s.inv = true ∧
      s.boot.held = false ∧ s.mgt.writer ≠ [] ∧ s.mgt.ringEn = true ∧ s.mgt.slotFree = false) ∧
    (At ((rdy.wr Rg.MGT_EVT_BASE [] 16).turn (.eventRingEnable fw (0x41 : Word))) fun s => s.inv = true ∧
      s.takes (fw : Source) Rg.MGT_EVT_CTL.at = true ∧ s.boot.stage = 5 ∧ s.mgt.ringEn = false ∧
      s.inReserved (s.fd Rg.MGT_EVT_BASE [] 19 0 * 65536) (32 * 2 ^ ((if 4 ≤ fld (0x41 : Word) 7 4 ∧
      fld (0x41 : Word) 7 4 ≤ 12 then fld (0x41 : Word) 7 4 else s.fd Rg.MGT_EVT_CTL [] 7 4) : Nat)) = true)
    := by and_intros <;> decide +kernel

theorem witness_Recorder :
    (At ((roomy (recorder 0x43 { state := 1, ctl := 0x05000043, sinceCkpt := 4, sizeMib := 64, items := [item 1 64, item 5 128] })).turn (.recStop fw)) fun s => s.inv = true ∧
      s.takes (fw : Source) Rg.MGT_REC_CMD.at = true ∧ s.boot.stage = 5 ∧ (s.recd.state = 0 ∨ s.recd.state = 1)) ∧
    (At ((roomy (recorder 0x43 { state := 1, ctl := 0x05000043, sinceCkpt := 4, sizeMib := 64, items := [item 1 64, item 5 128] })).turn .checkpointEnd) fun s => s.inv = true ∧
      s.boot.held = false ∧ s.recd.state = 1 ∧ s.recd.ckptWait = 0 ∧ bit s.recd.ctl 6 = true) ∧
    (At ((roomy (recorder 0x43 { state := 2, ctl := 0x05000043, sinceCkpt := 5, postLeft := 2, sizeMib := 64, replayAt := [item 5 128] })).turn (.recStop fw)) fun s => s.inv = true ∧
      s.takes (fw : Source) Rg.MGT_REC_CMD.at = true ∧ s.boot.stage = 5 ∧ (s.recd.state = 2 ∨ s.recd.state = 3)) ∧
    (At ((roomy (recorder 0x43 { state := 2, ctl := 0x05000043, sinceCkpt := 5, postLeft := 2, sizeMib := 64, replayAt := [item 5 128] })).turn (.recMark fw (0 : Word))) fun s => s.inv = true ∧
      s.takes (fw : Source) Rg.MGT_REC_MARK.at = true ∧ (s.recd.state = 2 ∨ s.recd.state = 3) ∧ bit s.recd.ctl 6 = true) ∧
    (At ((roomy (recorder 0x43 { state := 2, ctl := 0x05000043, sinceCkpt := 5, postLeft := 2, sizeMib := 64, replayAt := [item 5 128] })).turn .checkpointPeriodic) fun s => s.inv = true ∧
      s.boot.held = false ∧ s.recd.state = 2 ∧ fld s.recd.ctl 31 24 ≠ 0 ∧ fld s.recd.ctl 31 24 ≤ s.recd.sinceCkpt) ∧
    (At (roomy (recorder 0x43 { state := 2, ctl := 0x05000043, sinceCkpt := 5, postLeft := 2, sizeMib := 64, replayAt := [item 5 128] })) fun s => s.inv = true ∧
      s.boot.held = false ∧ (1 : Nat) ≠ 0 ∧ 1 ≤ s.recd.state ∧ s.recd.state ≤ 3 ∧ bit s.recd.ctl 6 = true) ∧
    (At ((roomy (recorder 0x43 { state := 2, ctl := 0x05000043, sinceCkpt := 5, postLeft := 2, sizeMib := 64, replayAt := [item 5 128] })).turn .replayEnd) fun s => s.inv = true ∧
      s.boot.held = false ∧ s.recd.state ≠ 5) ∧
    (At ((roomy (recorder 0x43 { state := 3, ctl := 0x05000043, sinceCkpt := 4, sizeMib := 64, items := [item 1 64, item 5 128] })).turn .postFramesEnd) fun s => s.inv = true ∧
      s.boot.held = false ∧ s.recd.state = 3 ∧ s.recd.postLeft = 0) ∧
    (At ((roomy (recorder 0x43 { state := 4, ctl := 0x05000043, sinceCkpt := 4, sizeMib := 64, items := [item 1 64, item 5 128] })).turn (.recRecord fw)) fun s => s.inv = true ∧
      s.takes (fw : Source) Rg.MGT_REC_CMD.at = true ∧ s.boot.stage = 5 ∧ (s.recd.state = 0 ∨ s.recd.state = 4) ∧
      s.inReserved (s.fd Rg.MGT_REC_BASE [] 19 0 * 65536) (s.fd Rg.MGT_REC_SIZE [] 6 0 * 64 * 1048576) = true ∧
      (∀ h ∈ List.range (4), bit (s.rd Rg.MGT_REC_CTL) h = true → (s.hd h).state ≠ 4)) ∧
    (At ((roomy (recorder 0x43 { state := 4, ctl := 0x05000043, sinceCkpt := 4, sizeMib := 64, items := [item 1 64, item 5 128] })).turn (.recStop fw)) fun s => s.inv = true ∧
      s.takes (fw : Source) Rg.MGT_REC_CMD.at = true ∧ s.boot.stage = 5 ∧ s.recd.state = 4) ∧
    (At ((roomy (recorder 0x43 { state := 4, ctl := 0x05000043, sinceCkpt := 4, sizeMib := 64, items := [item 1 64, item 5 128] })).turn (.recReplay fw)) fun s => s.inv = true ∧
      s.takes (fw : Source) Rg.MGT_REC_CMD.at = true ∧ s.boot.stage = 5 ∧ s.recd.state = 4 ∧
      (s.recd.items.find? (fun y => y.kind == 1 && y.offset % s.recd.cap / 64 == s.fd Rg.MGT_REC_FROM [] 25 0)).isSome = true ∧
      digestVals (s.ckpts.get {} ((s.recd.items.find? (fun y => y.kind == 1 && y.offset % s.recd.cap / 64 == s.fd Rg.MGT_REC_FROM [] 25 0)).getD (⟨0, 1, 0, 0, 1, [], 64⟩ : RecItem)).offset).digest = digestVals s.sec.digest ∧
      (∃ h ∈ List.range (4), bit (s.rd Rg.MGT_REC_CTL) h = true ∧ ((s.hd h).state ≠ 1 ∨ (s.mirror h = true ∧ s.lsc.eng ≠ 2)))) ∧
    (At ((roomy (recorder 0x43 { state := 5, ctl := 0x05000043, sinceCkpt := 4, sizeMib := 64, items := [item 1 64, item 5 128] })).turn (.recRecord fw)) fun s => s.inv = true ∧
      s.takes (fw : Source) Rg.MGT_REC_CMD.at = true ∧ s.boot.stage = 5 ∧ (s.recd.state ≠ 0 ∧ s.recd.state ≠ 4)) ∧
    (At ((roomy (recorder 0x43 { state := 5, ctl := 0x05000043, sinceCkpt := 4, sizeMib := 64, items := [item 1 64, item 5 128] })).turn (.checkpointEnd)) fun s => s.inv = true) ∧
    (At ((roomy (recorder 0x43 { state := 5, ctl := 0x05000043, sinceCkpt := 4, sizeMib := 64, items := [item 1 64, item 5 128] })).turn (.checkpointPeriodic)) fun s => s.inv = true) ∧
    (At ((roomy (recorder 0x43 { state := 5, ctl := 0x05000043, sinceCkpt := 4, sizeMib := 64, items := [item 1 64, item 5 128] })).turn (.postFramesEnd)) fun s => s.inv = true) ∧
    (At ((roomy (recorder 0x43 { state := 5, ctl := 0x05000043, sinceCkpt := 4, sizeMib := 64, items := [item 1 64, item 5 128] })).turn (.gapItemWrite (1 : Nat))) fun s => s.inv = true) ∧
    (At ((roomy (recorder 0x43 { state := 5, ctl := 0x05000043, sinceCkpt := 4, sizeMib := 64, items := [item 1 64, item 5 128] })).turn (.recStop fw)) fun s => s.inv = true ∧
      s.takes (fw : Source) Rg.MGT_REC_CMD.at = true ∧ s.boot.stage = 5 ∧ s.recd.state = 5 ∧ bit s.recd.ctl 0 = true ∧ bit s.recd.ctl 2 = false) ∧
    (At ((roomy (recorder 0x43 { state := 5, ctl := 0x05000043, sinceCkpt := 4, sizeMib := 64, items := [item 1 64, item 5 128] })).turn (.replayEnd)) fun s => s.inv = true) ∧
    (At ((roomy (recorder 0x43 { state := 5, ctl := 0x05000043, sinceCkpt := 4, sizeMib := 64, items := [item 1 64, item 5 128] })).turn (.recReplay fw)) fun s => s.inv = true ∧
      s.takes (fw : Source) Rg.MGT_REC_CMD.at = true ∧ s.boot.stage = 5 ∧ s.recd.state ≠ 4) ∧
    (At ((roomy (recorder 0x43 { state := 5, ctl := 0x05000043, sinceCkpt := 4, sizeMib := 64, items := [item 1 64, item 5 128] })).turn (.recMark fw (0 : Word))) fun s => s.inv = true ∧
      s.takes (fw : Source) Rg.MGT_REC_MARK.at = true ∧ s.recd.state ≠ 2 ∧ s.recd.state ≠ 3) ∧
    (At ((roomy (recorder 0x43 { state := 5, ctl := 0x05000043, sinceCkpt := 4, sizeMib := 64, items := [item 1 64, item 5 128] })).turn .checkpointEnd) fun s => s.inv = true ∧
      s.boot.held = false ∧ (s.recd.state ≠ 1 ∨ s.recd.ckptWait ≠ 0)) ∧
    (At ((roomy (recorder 0x43 { state := 5, ctl := 0x05000043, sinceCkpt := 4, sizeMib := 64, items := [item 1 64, item 5 128] })).turn .checkpointPeriodic) fun s => s.inv = true ∧
      s.boot.held = false ∧ (s.recd.state ≠ 2 ∨ fld s.recd.ctl 31 24 = 0 ∨ s.recd.sinceCkpt < fld s.recd.ctl 31 24)) ∧
    (At ((roomy (recorder 0x43 { state := 5, ctl := 0x05000043, sinceCkpt := 4, sizeMib := 64, items := [item 1 64, item 5 128] })).turn .postFramesEnd) fun s => s.inv = true ∧
      s.boot.held = false ∧ (s.recd.state ≠ 3 ∨ s.recd.postLeft ≠ 0)) ∧
    (At (roomy (recorder 0x43 { state := 5, ctl := 0x05000043, sinceCkpt := 4, sizeMib := 64, items := [item 1 64, item 5 128] })) fun s => s.inv = true ∧
      s.boot.held = false ∧ ((1 : Nat) = 0 ∨ s.recd.state = 0 ∨ 4 ≤ s.recd.state)) ∧
    (At ((roomy (recorder 0x43 { state := 5, ctl := 0x05000043, sinceCkpt := 4, sizeMib := 64, items := [item 1 64, item 5 128] })).turn .replayEnd) fun s => s.inv = true ∧
      s.boot.held = false ∧ s.recd.state = 5 ∧ ((if s.recd.diffSeen = true ∧
      bit s.recd.ctl 8 = true then 9 else if s.recd.replayAt = [] then 1 else if s.recd.replayAt.head?.map (·.kind) = some 0x41 then 8 else 0) : Nat) ≠ 0 ∧
      bit s.recd.ctl 0 = true) ∧
    (At ((roomy (recorder 0x43 { state := 5, ctl := 0x05000043, sinceCkpt := 5, postLeft := 2, sizeMib := 64, replayAt := [item 5 128] })).turn .replayEnd) fun s => s.inv = true ∧
      s.boot.held = false ∧ s.recd.state = 5 ∧ ((if s.recd.diffSeen = true ∧
      bit s.recd.ctl 8 = true then 9 else if s.recd.replayAt = [] then 1 else if s.recd.replayAt.head?.map (·.kind) = some 0x41 then 8 else 0) : Nat) = 0) ∧
    (At ((setHead 1 { state := 4 } (roomy (recorder 0x43 { state := 4 }))).turn (.recRecord fw)) fun s => s.inv = true ∧
      s.takes (fw : Source) Rg.MGT_REC_CMD.at = true ∧ s.boot.stage = 5 ∧ (s.recd.state = 0 ∨ s.recd.state = 4) ∧
      s.inReserved (s.fd Rg.MGT_REC_BASE [] 19 0 * 65536) (s.fd Rg.MGT_REC_SIZE [] 6 0 * 64 * 1048576) = true ∧
      (∃ h ∈ List.range (4), bit (s.rd Rg.MGT_REC_CTL) h = true ∧ (s.hd h).state = 4)) ∧
    (At ((setHead 1 { state := 4 } (roomy (recorder 0x43 { state := 4 }))).turn (.recReplay fw)) fun s => s.inv = true ∧
      s.takes (fw : Source) Rg.MGT_REC_CMD.at = true ∧ s.boot.stage = 5 ∧ s.recd.state = 4 ∧
      s.recd.items.find? (fun y => y.kind == 1 && y.offset % s.recd.cap / 64 == s.fd Rg.MGT_REC_FROM [] 25 0) = none) ∧
    (At ((setHead 0 { state := 1 } (setHead 1 { state := 1 } (roomy (recorder 0x42 { state := 4, sizeMib := 64, items := [item 1 64, item 5 128] })))).turn (.recReplay fw)) fun s => s.inv = true ∧
      s.takes (fw : Source) Rg.MGT_REC_CMD.at = true ∧ s.boot.stage = 5 ∧ s.recd.state = 4 ∧
      (s.recd.items.find? (fun y => y.kind == 1 && y.offset % s.recd.cap / 64 == s.fd Rg.MGT_REC_FROM [] 25 0)).isSome = true ∧
      digestVals (s.ckpts.get {} ((s.recd.items.find? (fun y => y.kind == 1 && y.offset % s.recd.cap / 64 == s.fd Rg.MGT_REC_FROM [] 25 0)).getD (⟨0, 1, 0, 0, 1, [], 64⟩ : RecItem)).offset).digest = digestVals s.sec.digest ∧
      (∀ h ∈ List.range (4), bit (s.rd Rg.MGT_REC_CTL) h = true → (s.hd h).state = 1 ∧ (s.mirror h = true → s.lsc.eng = 2))) ∧
    (At (({ roomy (recorder 0x43 { state := 4, sizeMib := 64, items := [item 1 64, item 5 128] }) with sec := { digest := [1, 2] } }).turn (.recReplay fw)) fun s => s.inv = true ∧
      s.takes (fw : Source) Rg.MGT_REC_CMD.at = true ∧ s.boot.stage = 5 ∧ s.recd.state = 4 ∧
      (s.recd.items.find? (fun y => y.kind == 1 && y.offset % s.recd.cap / 64 == s.fd Rg.MGT_REC_FROM [] 25 0)).isSome = true ∧
      digestVals (s.ckpts.get {} ((s.recd.items.find? (fun y => y.kind == 1 && y.offset % s.recd.cap / 64 == s.fd Rg.MGT_REC_FROM [] 25 0)).getD (⟨0, 1, 0, 0, 1, [], 64⟩ : RecItem)).offset).digest ≠ digestVals s.sec.digest) ∧
    (At (({ roomy (recorder 0x43 { state := 2, ctl := 0x43 }) with mgt := { waiting := [[shown]] } }).turn .batchAccept) fun s => s.inv = true ∧
      s.boot.held = false ∧ s.recd.state = 2 ∧ bit s.recd.ctl 6 = true ∧ s.mgt.waiting = [(shown : Presented)] :: ([] : List (List Presented)) ∧
      s.mgt.dropped = 0 ∧ s.mgt.queue.length < 512 ∧ bit (s.rd Rg.MGT_REC_TRIG) 31 = true ∧
      s.fd Rg.MGT_REC_TRIG [] 27 24 = (shown : Presented).sub ∧
      (s.fd Rg.MGT_REC_TRIG [] 23 16 = 0 ∨ s.fd Rg.MGT_REC_TRIG [] 23 16 = (shown : Presented).kind) ∧
      (s.fd Rg.MGT_REC_TRIG [] 15 0 = 0xFFFF ∨ s.fd Rg.MGT_REC_TRIG [] 15 0 = (shown : Presented).unit)) ∧
    (At (((roomy (recorder 0x43 {})).wr Rg.MGT_REC_BASE [] 1).turn (.recRecord fw)) fun s => s.inv = true ∧
      s.takes (fw : Source) Rg.MGT_REC_CMD.at = true ∧ s.boot.stage = 5 ∧ (s.recd.state = 0 ∨ s.recd.state = 4) ∧
      s.inReserved (s.fd Rg.MGT_REC_BASE [] 19 0 * 65536) (s.fd Rg.MGT_REC_SIZE [] 6 0 * 64 * 1048576) = false) ∧
    (At (roomy (recorder 0x43 { state := 1, ckptWait := 2 })) fun s => s.inv = true ∧ s.boot.held = false ∧ s.recd.state = 1 ∧
      s.recd.ckptWait = 2 ∧ s.now % 2 = 0)
    := by and_intros <;> decide +kernel

theorem witness_HeldUntilReady :
    (At ((setStage 6 rdy).turn (.headEnable fw (0 : Fin 4) (0 : Word))) fun s => s.inv = true ∧ s.boot.stage ≠ 5 ∧
      s.takes (fw : Source) (Rg.TGN_H_CTL.at [0]) = true) ∧
    (At ((setStage 6 rdy).turn (.engineStart fw)) fun s => s.inv = true ∧ s.boot.stage ≠ 5 ∧ s.takes (fw : Source) (Rg.LSC_CTL.at) = true) ∧
    (At ((setStage 6 rdy).turn (.basinClear fw (0 : Word))) fun s => s.inv = true ∧ s.boot.stage ≠ 5 ∧
      s.takes (fw : Source) (Rg.DMC_BASIN_CMD.at) = true) ∧
    (At ((setStage 6 rdy).turn (.basinLoad fw (0 : Word))) fun s => s.inv = true ∧ s.boot.stage ≠ 5 ∧
      s.takes (fw : Source) (Rg.DMC_BASIN_CMD.at) = true) ∧
    (At ((setStage 6 rdy).turn (.basinStore fw (0 : Word))) fun s => s.inv = true ∧ s.boot.stage ≠ 5 ∧
      s.takes (fw : Source) (Rg.DMC_BASIN_CMD.at) = true) ∧
    (At ((setStage 6 rdy).turn (.eventRingEnable fw (0 : Word))) fun s => s.inv = true ∧ s.boot.stage ≠ 5 ∧
      s.takes (fw : Source) (Rg.MGT_EVT_CTL.at) = true) ∧
    (At ((setStage 6 rdy).turn (.recRecord fw)) fun s => s.inv = true ∧ s.boot.stage ≠ 5 ∧ s.takes (fw : Source) (Rg.MGT_REC_CMD.at) = true) ∧
    (At ((setStage 6 rdy).turn (.recStop fw)) fun s => s.inv = true ∧ s.boot.stage ≠ 5 ∧ s.takes (fw : Source) (Rg.MGT_REC_CMD.at) = true) ∧
    (At ((setStage 6 rdy).turn (.recReplay fw)) fun s => s.inv = true ∧ s.boot.stage ≠ 5 ∧ s.takes (fw : Source) (Rg.MGT_REC_CMD.at) = true) ∧
    (At ((setStage 6 rdy).turn (.registerWrite fw 0xF (Rg.TGN_H_CTL.at [0]) (setBit (0 : Word) 0 true))) fun s => s.inv = true ∧ s.boot.stage ≠ 5 ∧
      s.takes (fw : Source) (Rg.TGN_H_CTL.at [0]) = true ∧ s.instLives (Rg.TGN_H_CTL.at [0]) = true) ∧
    (At ((setStage 6 rdy).turn (.registerWrite fw 0xF (Rg.LSC_CTL.at) (1))) fun s => s.inv = true ∧ s.boot.stage ≠ 5 ∧
      s.takes (fw : Source) (Rg.LSC_CTL.at) = true ∧ s.instLives (Rg.LSC_CTL.at) = true) ∧
    (At ((setStage 6 rdy).turn (.registerWrite fw 0xF (Rg.DMC_BASIN_CMD.at) (basinWord 0 (0 : Word)))) fun s => s.inv = true ∧ s.boot.stage ≠ 5 ∧
      s.takes (fw : Source) (Rg.DMC_BASIN_CMD.at) = true ∧ s.instLives (Rg.DMC_BASIN_CMD.at) = true) ∧
    (At ((setStage 6 rdy).turn (.registerWrite fw 0xF (Rg.DMC_BASIN_CMD.at) (basinWord 1 (0 : Word)))) fun s => s.inv = true ∧ s.boot.stage ≠ 5 ∧
      s.takes (fw : Source) (Rg.DMC_BASIN_CMD.at) = true ∧ s.instLives (Rg.DMC_BASIN_CMD.at) = true) ∧
    (At ((setStage 6 rdy).turn (.registerWrite fw 0xF (Rg.DMC_BASIN_CMD.at) (basinWord 2 (0 : Word)))) fun s => s.inv = true ∧ s.boot.stage ≠ 5 ∧
      s.takes (fw : Source) (Rg.DMC_BASIN_CMD.at) = true ∧ s.instLives (Rg.DMC_BASIN_CMD.at) = true) ∧
    (At ((setStage 6 rdy).turn (.registerWrite fw 0xF (Rg.MGT_EVT_CTL.at) (setBit (0 : Word) 0 true))) fun s => s.inv = true ∧ s.boot.stage ≠ 5 ∧
      s.takes (fw : Source) (Rg.MGT_EVT_CTL.at) = true ∧ s.instLives (Rg.MGT_EVT_CTL.at) = true) ∧
    (At ((setStage 6 rdy).turn (.registerWrite fw 0xF (Rg.MGT_REC_CMD.at) (1))) fun s => s.inv = true ∧ s.boot.stage ≠ 5 ∧
      s.takes (fw : Source) (Rg.MGT_REC_CMD.at) = true ∧ s.instLives (Rg.MGT_REC_CMD.at) = true) ∧
    (At ((setStage 6 rdy).turn (.registerWrite fw 0xF (Rg.MGT_REC_CMD.at) (2))) fun s => s.inv = true ∧ s.boot.stage ≠ 5 ∧
      s.takes (fw : Source) (Rg.MGT_REC_CMD.at) = true ∧ s.instLives (Rg.MGT_REC_CMD.at) = true) ∧
    (At ((setStage 6 rdy).turn (.registerWrite fw 0xF (Rg.MGT_REC_CMD.at) (3))) fun s => s.inv = true ∧ s.boot.stage ≠ 5 ∧
      s.takes (fw : Source) (Rg.MGT_REC_CMD.at) = true ∧ s.instLives (Rg.MGT_REC_CMD.at) = true) ∧
    (At ((setStage 6 rdy).turn (.freqChangeRequest fw (0 : Word))) fun s => s.inv = true ∧ s.boot.stage ≠ 5 ∧
      s.takes (fw : Source) Rg.DMC_FREQ_CTL.at = true ∧ bit (0 : Word) 30 = false) ∧
    (At ((setStage 6 rdy).turn (.groupGo fw (0 : Fin 12) (0 : Word))) fun s => s.inv = true ∧ (s.boot.stage < 4 ∨ s.boot.stage = 6) ∧
      s.takes (fw : Source) (Rg.LNE_G_CTL.at [0]) = true ∧ bit (0 : Word) 30 = false) ∧
    (At ((setStage 6 rdy).turn (.dynTrimWrite fw (0 : Fin 96) (0 : Word))) fun s => s.inv = true ∧ (s.boot.stage < 4 ∨ s.boot.stage = 6) ∧
      s.takes (fw : Source) (Rg.CAL_L_DYN.at [0]) = true) ∧
    (At ((setStage 6 rdy).turn (.staticTrimWrite fw (0 : Fin 96) (0 : Word))) fun s => s.inv = true ∧ (s.boot.stage < 4 ∨ s.boot.stage = 6) ∧
      s.takes (fw : Source) (Rg.CAL_L_STATIC.at [0]) = true) ∧
    (At ((setGroup 0 { state := 1 } rdy).turn (.groupGo fw (0 : Fin 12) (0 : Word))) fun s => s.inv = true ∧
      (s.boot.stage = 4 ∨ s.boot.stage = 5 ∨ s.boot.stage = 7) ∧ s.takes (fw : Source) (Rg.LNE_G_CTL.at [0]) = true ∧ bit (0 : Word) 30 = false ∧
      (s.group 0).state = 1) ∧
    (At ((setGroup 0 { state := 1 } rdy).turn (.dynTrimWrite fw (0 : Fin 96) (0 : Word))) fun s => s.inv = true ∧
      (s.boot.stage = 4 ∨ s.boot.stage = 5 ∨ s.boot.stage = 7) ∧ s.takes (fw : Source) (Rg.CAL_L_DYN.at [0]) = true ∧ s.assigned 0 = true) ∧
    (At ((setGroup 0 { state := 1 } rdy).turn (.staticTrimWrite fw (0 : Fin 96) (0 : Word))) fun s => s.inv = true ∧
      (s.boot.stage = 4 ∨ s.boot.stage = 5 ∨ s.boot.stage = 7) ∧ s.takes (fw : Source) (Rg.CAL_L_STATIC.at [0]) = true ∧ s.assigned 0 = true)
    := by and_intros <;> decide +kernel

theorem witness_TrackerOwnsOffset :
    (At ((setLane 0 { state := 1 } rdy).turn (.dynTrimWrite fw (0 : Fin 96) (0 : Word))) fun s => s.inv = true ∧
      s.takes (fw : Source) (Rg.CAL_L_DYN.at [0]) = true ∧ (s.boot.stage = 4 ∨ s.boot.stage = 5 ∨ s.boot.stage = 7) ∧ s.assigned 0 = true ∧
      ((s.lane 0).state = 1 ∨ (s.lane 0).state = 2 ∨ (s.lane 0).state = 8)) ∧
    (At ((setCalLane 0 { ofsPend := true } rdy).turn (.dynTrimWrite fw (0 : Fin 96) (0 : Word))) fun s => s.inv = true ∧
      s.takes (fw : Source) (Rg.CAL_L_DYN.at [0]) = true ∧ (s.boot.stage = 4 ∨ s.boot.stage = 5 ∨ s.boot.stage = 7) ∧ s.assigned 0 = true ∧
      (s.lane 0).state ≠ 1 ∧ (s.lane 0).state ≠ 2 ∧ (s.lane 0).state ≠ 8) ∧
    (At ((setCalLane 0 { ofsPend := true } rdy).turn (.laneStop fw (0 : Fin 96) (0 : Word))) fun s => s.inv = true ∧
      s.takes (fw : Source) (Rg.LNE_L_CTL.at [0]) = true ∧ s.assigned 0 = true ∧ bit (0 : Word) 31 = false ∧ bit (0 : Word) 1 = false ∧
      bit (0 : Word) 0 = false ∧ fld (0 : Word) 6 4 = 0 ∧ s.fd Rg.LNE_L_CTL [0] 6 4 = 0 ∧ 2 ≤ (s.lane 0).state ∧ (s.lane 0).state ≤ 6 ∧
      (s.calLane 0).ofsPend = true) ∧
    (At ((setCalLane 0 { ofsPend := true } rdy).turn (.calGo fw (0 : Fin 12))) fun s => s.inv = true ∧ (s.lane 0).state ≠ 1 ∧
      (s.lane 0).state ≠ 2 ∧ (s.lane 0).state ≠ 8) ∧
    (At ((setCalLane 0 { ofsPend := true } rdy).turn (.calStop fw (0 : Fin 12))) fun s => s.inv = true ∧ (s.lane 0).state ≠ 1 ∧
      (s.lane 0).state ≠ 2 ∧ (s.lane 0).state ≠ 8) ∧
    (At ((setCalLane 0 { ofsPend := true } rdy).turn (.calTempRead (0 : Fin 12))) fun s => s.inv = true ∧ (s.lane 0).state ≠ 1 ∧
      (s.lane 0).state ≠ 2 ∧ (s.lane 0).state ≠ 8) ∧
    (At ((setCalLane 0 { ofsPend := true } rdy).turn (.calPeriodExpiry (0 : Fin 12))) fun s => s.inv = true ∧ (s.lane 0).state ≠ 1 ∧
      (s.lane 0).state ≠ 2 ∧ (s.lane 0).state ≠ 8) ∧
    (At ((setCalLane 0 { ofsPend := true } rdy).turn (.calApplyTimeout (0 : Fin 12))) fun s => s.inv = true ∧ (s.lane 0).state ≠ 1 ∧
      (s.lane 0).state ≠ 2 ∧ (s.lane 0).state ≠ 8) ∧
    (At ((setCalLane 0 { ofsPend := true } rdy).turn (.calSubwindowEnd (0 : Fin 96) (⟨5000, false⟩ : SubWindow))) fun s => s.inv = true ∧
      (s.lane 0).state ≠ 1 ∧ (s.lane 0).state ≠ 2 ∧ (s.lane 0).state ≠ 8) ∧
    (At ((setCalLane 0 { ofsPend := true } rdy).turn (.calTrimApply (0 : Fin 24))) fun s => s.inv = true ∧ (s.lane 0).state ≠ 1 ∧
      (s.lane 0).state ≠ 2 ∧ (s.lane 0).state ≠ 8) ∧
    (At ((setCalLane 0 { ofsPend := true } rdy).turn (.trimRampStep (0 : Fin 96) (0 : Fin 8))) fun s => s.inv = true ∧ (s.lane 0).state ≠ 1 ∧
      (s.lane 0).state ≠ 2 ∧ (s.lane 0).state ≠ 8) ∧
    (At ((setCalLane 0 { ofsPend := true } rdy).turn (.trackerWindowEnd (0 : Fin 96))) fun s => s.inv = true)
    := by and_intros <;> decide +kernel

end Sys2Proof.Tests
end

section
/-!
PROOFS. O60, the slicer offset belongs to the tracker (R328). The key idea: of all that an operation of CAL does, what one lane
shows of R328 (`Ofs`: its state, its offset trim, the value staged, whether that value waits) either stays or settles, where
settling loads the waiting value in OFF, DETECT and FAILED and is idempotent. So the relation `OfsSettles` is transitive, each
operation of CAL lies in it, and the clauses are read off `Ofs.settle`.
-/
namespace Sys2Proof.Machine

/-! ### What a lane shows of R328 -/

/-- A lane's state, its offset trim, the value staged for it, and whether that value waits (ofs_pend). -/
structure Ofs where
  state : Nat
  trim  : Int
  rxOfs : Int
  pend  : Bool

/-- What lane k shows of R328. -/
def State.ofs (s : State) (k : Nat) : Ofs :=
  { state := (s.lane k).state, trim := (s.lane k).trim, rxOfs := (s.calLane k).staged.rxOfs, pend := (s.calLane k).ofsPend }

/-- The lane is in OFF, DETECT or FAILED. -/
def Ofs.loads (o : Ofs) : Bool := o.state == 1 || o.state == 2 || o.state == 8

/-- A waiting value loads the trim where the lane's state lets it (R328). -/
def Ofs.settle (o : Ofs) : Ofs := if o.pend && o.loads then { o with trim := o.rxOfs, pend := false } else o

theorem Ofs.settle_settle (o : Ofs) : o.settle.settle = o.settle := by
  unfold Ofs.settle
  by_cases h : (o.pend && o.loads) = true
  · simp only [if_pos h, Bool.false_and, Bool.false_eq_true, if_false]
  · simp only [if_neg h]

theorem Ofs.settle_rxOfs (o : Ofs) : o.settle.rxOfs = o.rxOfs := by
  unfold Ofs.settle
  split <;> rfl

theorem Ofs.settle_of_not_loads {o : Ofs} (h : o.loads = false) : o.settle = o := by simp [Ofs.settle, h]

theorem Ofs.settle_of_loads {o : Ofs} (hp : o.pend = true) (h : o.loads = true) :
    o.settle = { o with trim := o.rxOfs, pend := false } := by simp [Ofs.settle, hp, h]

theorem ofs_congr {s t : State} (hl : t.lanes = s.lanes) (hc : t.calLanes = s.calLanes) (k : Nat) : t.ofs k = s.ofs k := by
  simp only [State.ofs, State.lane, State.calLane, hl, hc]

theorem ofs_modLane {s : State} {n k : Nat} {f : Lane → Lane} (hr : s.lanes.rising = true) :
    (s.modLane n f).ofs k =
      if k = n then { s.ofs n with state := (f (s.lane n)).state, trim := (f (s.lane n)).trim } else s.ofs k := by
  have hc : (s.modLane n f).calLane k = s.calLane k := rfl
  simp only [State.ofs, hc]
  rw [State.modLane, lane_setLane hr]
  split
  · next h => rw [h]
  · rfl

theorem ofs_modCalLane {s : State} {n k : Nat} {f : CalLane → CalLane} (hr : s.calLanes.rising = true) :
    (s.modCalLane n f).ofs k =
      if k = n then { s.ofs n with rxOfs := (f (s.calLane n)).staged.rxOfs, pend := (f (s.calLane n)).ofsPend } else s.ofs k := by
  have hl : (s.modCalLane n f).lane k = s.lane k := rfl
  simp only [State.ofs, hl, calLane_modCalLane hr]
  split
  · next h => rw [h]
  · rfl

/-! ### The relation: every lane's offset stays or settles -/

/-- From s to t the stores of the lanes keep their form, and what each lane shows of R328 stays or settles. -/
structure OfsSettles (s t : State) : Prop where
  lanes    : Rises s.lanes t.lanes
  calLanes : Rises s.calLanes t.calLanes
  ofs      : s.lanes.rising = true → s.calLanes.rising = true → ∀ k, t.ofs k = s.ofs k ∨ t.ofs k = (s.ofs k).settle

theorem OfsSettles.of_eq {s t : State} (hl : t.lanes = s.lanes) (hc : t.calLanes = s.calLanes) : OfsSettles s t where
  lanes := by rw [hl]; exact Rises.refl _
  calLanes := by rw [hc]; exact Rises.refl _
  ofs _ _ k := .inl (ofs_congr hl hc k)

theorem OfsSettles.refl (s : State) : OfsSettles s s := .of_eq rfl rfl

theorem OfsSettles.trans {s t u : State} (h : OfsSettles s t) (h' : OfsSettles t u) : OfsSettles s u where
  lanes := h'.lanes ∘ h.lanes
  calLanes := h'.calLanes ∘ h.calLanes
  ofs hl hc k := by
    rcases h.ofs hl hc k with e | e <;> rcases h'.ofs (h.lanes hl) (h.calLanes hc) k with e' | e' <;> rw [e', e]
    · exact .inl rfl
    · exact .inr rfl
    · exact .inr rfl
    · exact .inr (Ofs.settle_settle _)

/-- The same, with the last part first. -/
theorem OfsSettles.after {s t u : State} (h' : OfsSettles t u) (h : OfsSettles s t) : OfsSettles s u := h.trans h'

theorem OfsSettles.foldl {β : Type} {f : State → β → State} {l : List β} {s : State} (hf : ∀ u x, OfsSettles u (f u x)) :
    OfsSettles s (l.foldl f s) := by
  induction l generalizing s with
  | nil => exact .refl s
  | cons x l ih => exact (hf s x).trans ih

theorem OfsSettles.foldl_snd {β γ : Type} {f : γ × State → β → γ × State} {l : List β} {p : γ × State}
    (hf : ∀ p x, OfsSettles p.2 (f p x).2) : OfsSettles p.2 (l.foldl f p).2 := by
  induction l generalizing p with
  | nil => exact .refl _
  | cons x l ih => exact (hf p x).trans ih

theorem OfsSettles.ite {s t u : State} {c : Prop} [Decidable c] (ht : OfsSettles s t) (hu : OfsSettles s u) :
    OfsSettles s (if c then t else u) := by
  split
  · exact ht
  · exact hu

/-- The lane's trim and ofs_pend stay in every state but OFF, DETECT and FAILED, and what is staged stays in any (R328). -/
theorem OfsSettles.keeps {s t : State} (h : OfsSettles s t) (hl : s.lanes.rising = true) (hc : s.calLanes.rising = true) (k : Nat) :
    (t.calLane k).staged.rxOfs = (s.calLane k).staged.rxOfs ∧
      ((s.lane k).state ≠ 1 → (s.lane k).state ≠ 2 → (s.lane k).state ≠ 8 →
        (t.lane k).trim = (s.lane k).trim ∧ (t.calLane k).ofsPend = (s.calLane k).ofsPend) := by
  have hk := h.ofs hl hc k
  constructor
  · have e : (t.ofs k).rxOfs = (s.ofs k).rxOfs := by
      rcases hk with e | e <;> rw [e]
      exact Ofs.settle_rxOfs _
    exact e
  · intro h1 h2 h8
    have hs : (s.ofs k).settle = s.ofs k := Ofs.settle_of_not_loads (by simp [Ofs.loads, State.ofs, h1, h2, h8])
    have e : t.ofs k = s.ofs k := by rw [hs, or_self] at hk; exact hk
    exact ⟨congrArg Ofs.trim e, congrArg Ofs.pend e⟩

/-- A lane that has settled stays settled. -/
theorem OfsSettles.ofs_of_settled {s t : State} (h : OfsSettles s t) (hl : s.lanes.rising = true) (hc : s.calLanes.rising = true)
    {k : Nat} {o : Ofs} (hs : s.ofs k = o.settle) : t.ofs k = o.settle := by
  rcases h.ofs hl hc k with e | e <;> rw [e, hs]
  exact Ofs.settle_settle o

/-- Settling a state that has itself settled since is settling once. -/
theorem OfsSettles.settle_eq {s t : State} (h : OfsSettles s t) (hl : s.lanes.rising = true) (hc : s.calLanes.rising = true) (k : Nat) :
    (t.ofs k).settle = (s.ofs k).settle := by
  rcases h.ofs hl hc k with e | e <;> rw [e]
  exact Ofs.settle_settle _

/-! ### The shared operations -/

theorem wr_settles {r : Reg} {ix : List Nat} {w : Word} {s : State} : OfsSettles s (s.wr r ix w) :=
  .of_eq (State.wr_lanes ..) (State.wr_calLanes ..)

theorem raise_calLanes {p k u reg x y : Nat} {s : State} : (raise p k u reg x y s).calLanes = s.calLanes := by rw [raise_frame]

theorem raise_settles {p k u reg x y : Nat} {s : State} : OfsSettles s (raise p k u reg x y s) :=
  .of_eq (by rw [raise_frame]) raise_calLanes

theorem count_settles {r : Reg} {ix : List Nat} {n : Nat} {s : State} : OfsSettles s (count r ix n s) :=
  .of_eq (by rw [count_frame]) (by rw [count_frame])

theorem recReg_lanes {src : Source} {a : Nat} {v : Word} {s : State} : (recReg src a v s).lanes = s.lanes := by rw [recReg_frame]
theorem recReg_calLanes {src : Source} {a : Nat} {v : Word} {s : State} : (recReg src a v s).calLanes = s.calLanes := by
  rw [recReg_frame]
theorem recReg_stage {src : Source} {a : Nat} {v : Word} {s : State} : (recReg src a v s).boot.stage = s.boot.stage := by
  rw [recReg_frame]
theorem recReg_assigned {src : Source} {a n : Nat} {v : Word} {s : State} : (recReg src a v s).assigned n = s.assigned n := by
  rw [recReg_frame]; rfl
theorem recReg_fd {src : Source} {a hi lo : Nat} {v : Word} {r : Reg} {ix : List Nat} {s : State} :
    (recReg src a v s).fd r ix hi lo = s.fd r ix hi lo := by
  rw [recReg_frame]; rfl

theorem recReg_settles {src : Source} {a : Nat} {v : Word} {s : State} : OfsSettles s (recReg src a v s) :=
  .of_eq recReg_lanes recReg_calLanes

theorem absentWrite_settles {a : Nat} {s : State} : OfsSettles s (absentWrite a s) :=
  .ite (.refl s) (.of_eq (by simp) (by simp))

theorem gatedWrite_settles {src : Source} {a : Nat} {v : Word} {eff : State → State} (he : ∀ u, OfsSettles u (eff u)) (s : State) :
    OfsSettles s (gatedWrite src a v eff s) := by
  unfold gatedWrite
  refine .ite (.refl s) (.ite absentWrite_settles ?_)
  split
  · exact .ite (.of_eq rfl rfl) (recReg_settles.trans (he _))
  · exact he s

theorem modCalGroup_settles {s : State} {g : Nat} {f : CalGroup → CalGroup} : OfsSettles s (s.modCalGroup g f) := .of_eq rfl rfl

theorem modLane_rises {s : State} {n : Nat} {f : Lane → Lane} : Rises s.lanes (s.modLane n f).lanes := Rises.put _ _ _ _

theorem modCalLane_rises {s : State} {n : Nat} {f : CalLane → CalLane} : Rises s.calLanes (s.modCalLane n f).calLanes :=
  Rises.upd _ _ _ _

theorem modCalLane_settles {s : State} {n : Nat} {f : CalLane → CalLane}
    (hf : ∀ c, (f c).staged.rxOfs = c.staged.rxOfs ∧ (f c).ofsPend = c.ofsPend) : OfsSettles s (s.modCalLane n f) where
  lanes := Rises.refl _
  calLanes := modCalLane_rises
  ofs _ hc k := by
    rw [ofs_modCalLane hc, (hf _).1, (hf _).2]
    split
    · next h => rw [h]; exact .inl rfl
    · exact .inl rfl

theorem modLane_settles {s : State} {n : Nat} {f : Lane → Lane} (hf : ∀ l, (f l).state = l.state ∧ (f l).trim = l.trim) :
    OfsSettles s (s.modLane n f) where
  lanes := modLane_rises
  calLanes := Rises.refl _
  ofs hl _ k := by
    rw [ofs_modLane hl, (hf _).1, (hf _).2]
    split
    · next h => rw [h]; exact .inl rfl
    · exact .inl rfl

/-! ### Trims that take effect (R327, R328) -/

/-- Writing any trim but RX_OFS leaves RX_OFS. -/
theorem Trims.put_rxOfs {t : Trims} {k : Nat} {v : Int} (hk : k ≠ 4) : (t.put k v).rxOfs = t.rxOfs := by
  unfold Trims.put
  split
  case h_4 => exact absurd rfl hk
  all_goals rfl

theorem forceTrim_settles {n k : Nat} {s : State} : OfsSettles s (forceTrim n k s) := modCalLane_settles fun _ => ⟨rfl, rfl⟩

/-- settleOfs settles its lane and leaves the others. -/
theorem ofs_settleOfs {s : State} {n k : Nat} (hl : s.lanes.rising = true) (hc : s.calLanes.rising = true) :
    (settleOfs n s).ofs k = if k = n then (s.ofs n).settle else s.ofs k := by
  unfold settleOfs
  by_cases h : ((s.calLane n).ofsPend && ((s.lane n).state == 1 || (s.lane n).state == 2 || (s.lane n).state == 8)) = true
  · have hs : (s.ofs n).settle = ⟨(s.lane n).state, (s.ofs n).rxOfs, (s.ofs n).rxOfs, false⟩ := if_pos h
    simp only [if_pos h, hs]
    rw [ofs_modCalLane (s := s.modLane n _) hc, ofs_modLane hl, ofs_modLane hl, if_pos rfl]
    split <;> rfl
  · have hs : (s.ofs n).settle = s.ofs n := if_neg h
    simp only [if_neg h, hs]
    split
    · next e => rw [e]
    · rfl

theorem settleOfs_settles {n : Nat} {s : State} : OfsSettles s (settleOfs n s) where
  lanes h := by
    unfold settleOfs
    dsimp only
    split
    · rw [State.modCalLane_lanes]; exact modLane_rises h
    · exact h
  calLanes h := by
    unfold settleOfs
    dsimp only
    split
    · exact modCalLane_rises (s := s.modLane n _) h
    · exact h
  ofs hl hc k := by
    rw [ofs_settleOfs hl hc]
    split
    · next e => rw [e]; exact .inr rfl
    · exact .inl rfl

/-- The state of settleTrims before it settles the offset. -/
theorem settleTrims_eq (n : Nat) (s : State) : ∃ u, OfsSettles s u ∧ settleTrims n s = settleOfs n u :=
  ⟨_, .foldl (fun _ _ => .ite forceTrim_settles (.refl _)), rfl⟩

theorem settleTrims_settles {n : Nat} {s : State} : OfsSettles s (settleTrims n s) := by
  obtain ⟨u, hu, e⟩ := settleTrims_eq n s
  rw [e]
  exact hu.trans settleOfs_settles

/-- settleTrims settles its lane. -/
theorem ofs_settleTrims {s : State} {n : Nat} (hl : s.lanes.rising = true) (hc : s.calLanes.rising = true) :
    (settleTrims n s).ofs n = (s.ofs n).settle := by
  obtain ⟨u, hu, e⟩ := settleTrims_eq n s
  rw [e, ofs_settleOfs (hu.lanes hl) (hu.calLanes hc), if_pos rfl]
  exact hu.settle_eq hl hc n

/-! ### Calibration (R322 to R326) -/

theorem calBegin_settles {g : Nat} {s : State} : OfsSettles s (calBegin g s) :=
  .ite (.after modCalGroup_settles <| .foldl (fun _ _ => modCalLane_settles fun _ => ⟨rfl, rfl⟩))
    (.after modCalGroup_settles <| .foldl (fun _ _ => modCalLane_settles fun _ => ⟨rfl, rfl⟩))

theorem calEvent_settles {g : Nat} {s : State} : OfsSettles s (calEvent g s) := raise_settles

theorem calFinish_settles {g r : Nat} {s : State} : OfsSettles s (calFinish g r s) :=
  .after calEvent_settles <| .after (.ite count_settles (.refl _)) <|
    .after (.foldl (fun _ _ => modCalLane_settles fun _ => ⟨rfl, rfl⟩)) modCalGroup_settles

theorem calTrigger_settles {g : Nat} {s : State} : OfsSettles s (calTrigger g s) := by
  unfold calTrigger
  split
  · exact .after (.ite calEvent_settles (.ite calFinish_settles (.refl _))) calBegin_settles
  · exact modCalGroup_settles
  · exact modCalGroup_settles
  · exact .refl s

theorem calEnd_settles {g r : Nat} {s : State} : OfsSettles s (calEnd g r s) :=
  .after (.ite (.after calTrigger_settles modCalGroup_settles) (.refl _)) calFinish_settles

theorem calCheckApply_settles {g : Nat} {s : State} : OfsSettles s (calCheckApply g s) :=
  .ite (.ite calEnd_settles <| .after (.ite calEnd_settles (.refl _)) <|
    .after (.foldl (fun _ _ => modCalLane_settles fun _ => ⟨rfl, rfl⟩)) modCalGroup_settles) (.refl s)

theorem calDecide_settles {n i : Nat} {s : State} : OfsSettles s (calDecide n i s).2 := by
  unfold calDecide
  dsimp only
  split
  · exact count_settles (n := 1)
  · split
    · exact .refl s
    · split
      · exact .refl s
      · exact modCalLane_settles fun c => ⟨Trims.put_rxOfs (by omega), rfl⟩

theorem calDecideAll_settles {ns : List Nat} {s : State} : OfsSettles s (calDecideAll ns s).2 :=
  OfsSettles.foldl_snd (p := (false, s)) fun _ _ => .foldl_snd fun _ _ => calDecide_settles

theorem calProgress_settles {g : Nat} {s : State} : OfsSettles s (calProgress g s) := by
  unfold calProgress
  dsimp only
  split
  · exact .refl s
  · split
    · exact calEnd_settles
    · split
      · exact .after (.foldl fun _ _ => modCalLane_settles fun _ => ⟨rfl, rfl⟩) modCalGroup_settles
      · refine .after (.ite calEnd_settles ?_) calDecideAll_settles
        exact .after calCheckApply_settles <| .after (.foldl fun _ _ => settleTrims_settles) modCalGroup_settles

theorem calLeave_settles {n r : Nat} {s : State} : OfsSettles s (calLeave n r s) :=
  .ite (.after calProgress_settles <| modCalLane_settles fun _ => ⟨rfl, rfl⟩) (.refl s)

theorem calSubwindowOp_settles {n : Nat} {x : SubWindow} {s : State} : OfsSettles s (calSubwindowOp n x s) :=
  .ite (.refl s) <| .ite (.after calProgress_settles <| modCalLane_settles fun _ => ⟨rfl, rfl⟩)
    (.after calProgress_settles <| modCalLane_settles fun _ => ⟨rfl, rfl⟩)

/-! ### The commands of CAL (R325 to R327) -/

theorem calGoOp_settles {g : Nat} {s : State} : OfsSettles s (calGoOp g s) := .ite raise_settles calTrigger_settles

theorem calStopOp_settles {g : Nat} {s : State} : OfsSettles s (calStopOp g s) :=
  .after (.ite calEnd_settles (.refl _)) modCalGroup_settles

theorem calTempOp_settles {g : Nat} {s : State} : OfsSettles s (calTempOp g s) := by
  unfold calTempOp
  dsimp only
  split
  · exact modCalGroup_settles
  · exact .after (.ite calTrigger_settles (.refl _)) modCalGroup_settles

theorem trimStep_settles {n k : Nat} {s : State} : OfsSettles s (trimStep n k s) :=
  .after calCheckApply_settles <| modCalLane_settles fun _ => ⟨rfl, rfl⟩

theorem calTrimApplyOp_settles {p : Nat} {s : State} : OfsSettles s (calTrimApplyOp p s) := by
  unfold calTrimApplyOp
  split
  · exact .refl s
  · exact .foldl fun _ _ => .foldl fun _ _ => .ite trimStep_settles (.refl _)

/-- What a command does while the device is not held settles offsets, where its effect does. -/
theorem live_settles {f : State → State} {s : State} (hf : OfsSettles s (f s)) : ∃ t, live f s = .next t ∧ OfsSettles s t :=
  ⟨_, live_answers, .ite (.refl s) hf⟩

/-! ### A lane that leaves its state (R243, R328) -/

theorem eyeHalt_settles {n : Nat} {s : State} : OfsSettles s (eyeHalt n s) :=
  .ite (.after raise_settles <| .after wr_settles <| modLane_settles fun _ => ⟨rfl, rfl⟩) (.refl s)

theorem unitOut_settles {n u : Nat} {s : State} : OfsSettles s (unitOut n u s) :=
  .ite (.refl s) <| .after raise_settles <| .after (.ite (.refl _) (.of_eq rfl rfl)) (.of_eq rfl rfl)

theorem modPort_settles {s : State} {p : Nat} {f : Port → Port} : OfsSettles s (s.modPort p f) := .of_eq rfl rfl

theorem portFlag_settles {p b : Nat} {s : State} : OfsSettles s (portFlag p b s) := wr_settles

theorem portTo_settles {p st cause : Nat} {s : State} : OfsSettles s (portTo p st cause s) :=
  .after raise_settles <| .after modPort_settles <| .ite (.of_eq rfl rfl) (.refl s)

theorem portFail_settles {p cause : Nat} {s : State} : OfsSettles s (portFail p cause s) :=
  .after unitOut_settles <| .after count_settles <| .after modPort_settles <| .after modPort_settles <|
    .after portTo_settles portFlag_settles

theorem portTryBond_settles {p : Nat} {s : State} : OfsSettles s (portTryBond p s) := by
  unfold portTryBond
  split
  · exact .refl s
  · exact .ite (.after portTo_settles modPort_settles) (.refl s)

theorem portTryRebond_settles {p : Nat} {s : State} : OfsSettles s (portTryRebond p s) := by
  unfold portTryRebond
  split
  · exact .refl s
  · exact .ite portFail_settles (.refl s)

theorem portRebond_settles {p : Nat} {s : State} : OfsSettles s (portRebond p s) :=
  .after portTryRebond_settles <| .after portTo_settles <| .after portFlag_settles modPort_settles

theorem lnkLaneDown_settles {n : Nat} {s : State} : OfsSettles s (lnkLaneDown n s) := by
  unfold lnkLaneDown
  split
  · exact .refl s
  · exact .ite portRebond_settles <| .ite portTryBond_settles <| .ite (.after portTryRebond_settles modPort_settles) (.refl s)

/-- The trims of a lane that can now take effect do, and a calibration in APPLY goes on: the lane's offset settles. -/
theorem ofs_settleTrims_calCheckApply {n g : Nat} {s : State} (hl : s.lanes.rising = true) (hc : s.calLanes.rising = true) :
    (calCheckApply g (settleTrims n s)).ofs n = (s.ofs n).settle :=
  calCheckApply_settles.ofs_of_settled (settleTrims_settles.lanes hl) (settleTrims_settles.calLanes hc) (ofs_settleTrims hl hc)

/-- A change of a lane's state ends its eye scan and its part in a calibration, puts trims in force, and tells LNK. -/
theorem laneLeft_parts (n was : Nat) (s : State) :
    ∃ u, OfsSettles s u ∧ OfsSettles (calCheckApply (n / 8) (settleTrims n u)) (laneLeft n was s) :=
  ⟨_, .ite (.after calLeave_settles eyeHalt_settles) (.refl s), .ite lnkLaneDown_settles (.refl _)⟩

theorem laneLeft_settles {n was : Nat} {s : State} : OfsSettles s (laneLeft n was s) := by
  obtain ⟨u, hu, ht⟩ := laneLeft_parts n was s
  exact .after ht <| .after calCheckApply_settles <| .after settleTrims_settles hu

/-- A change of a lane's state settles its offset in the state it enters. -/
theorem ofs_laneLeft {n was : Nat} {s : State} (hl : s.lanes.rising = true) (hc : s.calLanes.rising = true) :
    (laneLeft n was s).ofs n = (s.ofs n).settle := by
  obtain ⟨u, hu, ht⟩ := laneLeft_parts n was s
  have hv : OfsSettles s (calCheckApply (n / 8) (settleTrims n u)) := .after calCheckApply_settles <| .after settleTrims_settles hu
  refine ht.ofs_of_settled (hv.lanes hl) (hv.calLanes hc) ?_
  rw [ofs_settleTrims_calCheckApply (hu.lanes hl) (hu.calLanes hc)]
  exact hu.settle_eq hl hc n

theorem laneTo_rises {n st : Nat} {s : State} : Rises s.lanes (laneTo n st s).lanes ∧ Rises s.calLanes (laneTo n st s).calLanes :=
  ⟨fun h => laneLeft_settles.lanes (s := s.modLane n _) (modLane_rises h),
    fun h => laneLeft_settles.calLanes (s := s.modLane n _) h⟩

/-- A lane's offset settles in the state that the lane enters. -/
theorem ofs_laneTo {n st : Nat} {s : State} (hl : s.lanes.rising = true) (hc : s.calLanes.rising = true) :
    (laneTo n st s).ofs n = { s.ofs n with state := st }.settle := by
  unfold laneTo
  rw [ofs_laneLeft (modLane_rises hl) hc, ofs_modLane hl, if_pos rfl]
  rfl

/-- A stop takes a lane to OFF, where its offset settles. -/
theorem ofs_laneStopOp {n : Nat} {s : State} (hl : s.lanes.rising = true) (hc : s.calLanes.rising = true)
    (hs : 2 ≤ (s.lane n).state ∧ (s.lane n).state ≤ 7) : (laneStopOp n s).ofs n = { s.ofs n with state := 1 }.settle := by
  unfold laneStopOp
  dsimp only
  rw [if_pos hs]
  refine OfsSettles.ofs_of_settled (s := laneTo n 1 s) ?_ (laneTo_rises.1 hl) (laneTo_rises.2 hc) (ofs_laneTo hl hc)
  exact modLane_settles fun _ => ⟨rfl, rfl⟩

/-! ### The write that stops a lane (R257) -/

theorem setBit_stop_toNat {v : Word} : (setBit v 30 true).toNat = v.toNat - v.toNat / 2 ^ 30 % 2 * 2 ^ 30 + 2 ^ 30 := by
  have hv := v.isLt
  simp only [setBit, setFld, fld, bitsOf, Nat.shiftRight_eq_div_pow, BitVec.toNat_ofNat, if_true]
  omega

theorem bit_setBit_stop {v : Word} : bit (setBit v 30 true) 30 = true := by
  have hv := v.isLt
  simp only [bit, fld, bitsOf, Nat.shiftRight_eq_div_pow, setBit_stop_toNat, beq_iff_eq]
  omega

/-- The fields of LNE_L_CTL beside the stop bit are as written: retry, eye_stop, eye_go and test. -/
theorem fld_setBit_stop {v : Word} :
    fld (setBit v 30 true) 31 31 = fld v 31 31 ∧ fld (setBit v 30 true) 1 1 = fld v 1 1 ∧
      fld (setBit v 30 true) 0 0 = fld v 0 0 ∧ fld (setBit v 30 true) 6 4 = fld v 6 4 := by
  have hv := v.isLt
  simp only [fld, bitsOf, Nat.shiftRight_eq_div_pow, setBit_stop_toNat]
  refine ⟨?_, ?_, ?_, ?_⟩ <;> omega

/-- A write of stop alone to an assigned lane that is not in TEST stops it. -/
theorem laneCtlOp_stop {n : Nat} {v : Word} {s : State} (ha : s.assigned n = true) (h31 : bit v 31 = false) (h1 : bit v 1 = false)
    (h0 : bit v 0 = false) (hv : fld v 6 4 = 0) (ht : s.fd Rg.LNE_L_CTL [n] 6 4 = 0) (hs : (s.lane n).state ≠ 7) :
    laneCtlOp n (setBit v 30 true) s = laneStopOp n s := by
  obtain ⟨e31, e1, e0, e6⟩ := fld_setBit_stop (v := v)
  have b31 : bit (setBit v 30 true) 31 = false := by rw [← h31, bit, e31]; rfl
  have b1 : bit (setBit v 30 true) 1 = false := by rw [← h1, bit, e1]; rfl
  have b0 : bit (setBit v 30 true) 0 = false := by rw [← h0, bit, e0]; rfl
  simp [laneCtlOp, onBits, ha, bit_setBit_stop, b31, b1, b0, e6, hv, ht, hs]

/-! ### DYN_TRIM_WRITE, LANE_STOP, the commands of CAL, and the tracker -/

/-- A write of CAL_L_DYN stages its offset, which then settles. -/
theorem ofs_dynTrimOp {n : Nat} {v : Word} {s : State} (hl : s.lanes.rising = true) (hc : s.calLanes.rising = true)
    (ha : s.assigned n = true) :
    (dynTrimOp n v s).ofs n = { s.ofs n with rxOfs := sext 6 (fld v 5 0), pend := true }.settle := by
  have hp : ¬ (s.cfg.portOfLane? n).isNone = true := by
    rw [State.assigned] at ha
    simp [Option.isNone_iff_eq_none, ← Option.isSome_iff_ne_none, ha]
  unfold dynTrimOp
  dsimp only
  rw [if_neg hp, ofs_settleTrims_calCheckApply]
  · rw [ofs_modCalLane (modCalLane_rises hc), if_pos rfl, ofs_modCalLane hc, if_pos rfl, calLane_modCalLane hc, if_pos rfl]
  · exact hl
  · exact modCalLane_rises (modCalLane_rises hc)

/-- The stores of the lanes are in form in a good state. -/
theorem lanes_rising_of_inv {s : State} (h : s.inv = true) : s.lanes.rising = true ∧ s.calLanes.rising = true := by
  have hs := ((inv_iff s).1 h).1
  simp only [State.storesOk, Bool.and_eq_true] at hs
  exact ⟨by simp only [hs], by simp only [hs]⟩

/-- DYN_TRIM_WRITE stages the written offset, which then settles. -/
theorem dynTrimWrite_settles {src : Source} {n : Fin 96} {v : Word} {s s0 : State} (hi : s.inv = true)
    (ht : s.takes src (Rg.CAL_L_DYN.at [n.val]) = true) (hb : s.boot.stage = 4 ∨ s.boot.stage = 5 ∨ s.boot.stage = 7)
    (ha : s.assigned n.val = true) (h0 : s0.turn (.dynTrimWrite src n v) = s) :
    ∃ t, exec (.dynTrimWrite src n v) s0 = .next t ∧
      t.ofs n.val = { s.ofs n.val with rxOfs := sext 6 (fld v 5 0), pend := true }.settle := by
  obtain ⟨hl, hc⟩ := lanes_rising_of_inv hi
  refine ⟨_, rfl, ?_⟩
  rw [h0, gatedWrite_takes ht, fromBringup, recReg_stage, if_pos hb,
    ofs_dynTrimOp (recReg_settles.lanes hl) (recReg_settles.calLanes hc) (recReg_assigned.trans ha), ofs_congr recReg_lanes recReg_calLanes]

/-- LANE_STOP takes a lane from DETECT to RECOVER into OFF, where its offset settles. -/
theorem laneStop_settles {src : Source} {n : Fin 96} {v : Word} {s s0 : State} (hi : s.inv = true)
    (ht : s.takes src (Rg.LNE_L_CTL.at [n.val]) = true) (ha : s.assigned n.val = true) (h31 : bit v 31 = false) (h1 : bit v 1 = false)
    (hb0 : bit v 0 = false) (hv : fld v 6 4 = 0) (hf : s.fd Rg.LNE_L_CTL [n.val] 6 4 = 0) (h2 : 2 ≤ (s.lane n.val).state)
    (h6 : (s.lane n.val).state ≤ 6) (h0 : s0.turn (.laneStop src n v) = s) :
    ∃ t, exec (.laneStop src n v) s0 = .next t ∧ t.ofs n.val = { s.ofs n.val with state := 1 }.settle := by
  obtain ⟨hl, hc⟩ := lanes_rising_of_inv hi
  refine ⟨_, rfl, ?_⟩
  have hs : ∀ {a w}, ((recReg src a w s).lane n.val).state = (s.lane n.val).state := by
    intro a w
    rw [State.lane, recReg_lanes]
    rfl
  rw [h0, gatedWrite_takes ht,
    laneCtlOp_stop (recReg_assigned.trans ha) h31 h1 hb0 hv (recReg_fd.trans hf) (by rw [hs]; omega),
    ofs_laneStopOp (recReg_settles.lanes hl) (recReg_settles.calLanes hc) (by rw [hs]; omega), ofs_congr recReg_lanes recReg_calLanes]

/-- A command without a place in the order of a clock is evaluated at once. -/
theorem turn_of_no_turns {s : State} {c : Instr} (h : s.turns c = []) : s.turn c = s := by
  unfold State.turn State.atTurn
  rw [h]
  exact ite_self s

/-- Every command of CAL that measures, applies or steers lets offsets stay or settle. -/
theorem calCommand_settles {src : Source} {g : Fin 12} {n : Fin 96} {p : Fin 24} {kind : Fin 8} {w : SubWindow} {i : Instr}
    (hi : i ∈ [Instr.calGo src g, .calStop src g, .calTempRead g, .calPeriodExpiry g, .calApplyTimeout g, .calSubwindowEnd n w,
      .calTrimApply p, .trimRampStep n kind]) (s0 : State) : ∃ t, exec i s0 = .next t ∧ OfsSettles (s0.turn i) t := by
  simp only [List.mem_cons, List.not_mem_nil, or_false] at hi
  rcases hi with rfl | rfl | rfl | rfl | rfl | rfl | rfl | rfl
  · exact ⟨_, rfl, gatedWrite_settles (fun _ => calGoOp_settles) _⟩
  · exact ⟨_, rfl, gatedWrite_settles (fun _ => calStopOp_settles) _⟩
  · rw [turn_of_no_turns (c := .calTempRead g) rfl]
    exact live_settles calTempOp_settles
  · rw [turn_of_no_turns (c := .calPeriodExpiry g) rfl]
    exact live_settles (f := fun s => if s.fd Rg.CAL_CTL [] 31 16 = 0 then s else calTrigger g.val s) (.ite (.refl _) calTrigger_settles)
  · rw [turn_of_no_turns (c := .calApplyTimeout g) rfl]
    exact live_settles (.ite calEnd_settles (.refl _))
  · exact live_settles calSubwindowOp_settles
  · exact live_settles calTrimApplyOp_settles
  · exact live_settles (.ite trimStep_settles (.refl _))

/-- The tracker's window leaves CAL's lanes alone. -/
theorem trackerWindowOp_calLanes {n : Nat} {s : State} : (trackerWindowOp n s).calLanes = s.calLanes := by
  unfold trackerWindowOp
  dsimp only
  split
  · rfl
  · split
    · rw [laneFlagEvent, raiseFlag, raise_calLanes, laneFlag, State.wr_calLanes, State.setLane_calLanes]
    · exact State.setLane_calLanes ..

/-- Settles O60: what a lane shows of R328 stays or settles under every command of CAL. -/
theorem trackerOwnsOffset : Obligations.TrackerOwnsOffset := by
  unfold Obligations.TrackerOwnsOffset
  intro src g n p kind w v s hi
  obtain ⟨hl, hc⟩ := lanes_rising_of_inv hi
  refine ⟨fun ht hb ha => ⟨fun hst s0 h0 => ?_, fun h1 h2 h8 s0 h0 => ?_⟩,
    fun ht ha h31 h1 hb0 hv hf h2 h6 hp s0 h0 => ?_, fun i hm s0 h0 => ?_, fun s0 h0 => ?_⟩
  · obtain ⟨t, he, ho⟩ := dynTrimWrite_settles hi ht hb ha h0
    rw [Ofs.settle_of_loads rfl (by simpa [Ofs.loads, State.ofs, or_assoc] using hst)] at ho
    exact ⟨t, he, congrArg Ofs.trim ho, congrArg Ofs.pend ho⟩
  · obtain ⟨t, he, ho⟩ := dynTrimWrite_settles hi ht hb ha h0
    rw [Ofs.settle_of_not_loads (by simp [Ofs.loads, State.ofs, h1, h2, h8])] at ho
    exact ⟨t, he, congrArg Ofs.trim ho, congrArg Ofs.pend ho, congrArg Ofs.rxOfs ho⟩
  · obtain ⟨t, he, ho⟩ := laneStop_settles hi ht ha h31 h1 hb0 hv hf h2 h6 h0
    rw [Ofs.settle_of_loads hp rfl] at ho
    exact ⟨t, he, congrArg Ofs.trim ho, congrArg Ofs.pend ho⟩
  · obtain ⟨t, he, ht⟩ := calCommand_settles hm s0
    rw [h0] at ht
    exact ⟨t, he, ht.keeps hl hc⟩
  · refine ⟨_, rfl, ?_⟩
    rw [h0]
    split
    · rfl
    · exact trackerWindowOp_calLanes

end Sys2Proof.Machine
end
